-- ==== Sys2Proof/Word.lean ====
section
/-! DEFINITION. The word and byte types and their plainest arithmetic. -/

namespace Sys2Proof

/-- A register of the aperture: 32 bits (R8). -/
abbrev Word := BitVec 32

/-- A byte. -/
abbrev Byte := BitVec 8

/-- The bit of a flag. -/
def bit (b : Bool) : Nat := if b then 1 else 0

/-- A word from a number, modulo 2^32. -/
def word (n : Nat) : Word := BitVec.ofNat 32 n

/-- A byte from a number, modulo 256. -/
def byte (n : Nat) : Byte := BitVec.ofNat 8 n

/-- `n` cut to at most `m`: a count that saturates. -/
def satAt (m n : Nat) : Nat := if n ≤ m then n else m

end Sys2Proof
end

