-- ==== Sys2Proof/Syntax.lean ====
section
/-! DEFINITION. The commands of the block: one constructor of `Instr` for each row of the spec's table of operations and
events, with the row's operands. -/

namespace Sys2Proof

/-- A configuration register of a context record (R31). -/
inductive CtxConfigReg where
  /-- CTX_STREAM_ID -/
  | streamId
  /-- CTX_BIND -/
  | bind
  /-- CTX_CUT_OPTIONS -/
  | cutOptions
  /-- CTX_ECC_PROFILE -/
  | eccProfile
  /-- CTX_RING_BASE_LO -/
  | ringBaseLo
  /-- CTX_RING_BASE_HI -/
  | ringBaseHi
  /-- CTX_RING_CTRL -/
  | ringCtrl
  deriving DecidableEq, Repr, Inhabited

/-- How an engine finishes a block (R94, R95). -/
inductive CodedOutcome where
  /-- the decode-verify pass reproduces the input (R94) -/
  | good
  /-- the decode-verify pass differs from the input (R94) -/
  | mismatch
  /-- a parity error in the Cutter history (R95) -/
  | parity
  deriving DecidableEq, Repr, Inhabited

/-- A trigger source of a trace buffer other than a software write (R258). -/
inductive TraceSource where
  /-- the node crosses LEVEL, upwards or downwards (R258) -/
  | level (up : Bool)
  /-- DBG_TRIG_IN (R258) -/
  | pin
  /-- deck event 64d + n (R258) -/
  | event (n : Fin 64)
  /-- the trigger of another buffer of the deck (R258) -/
  | buffer (c : Fin 4)
  deriving DecidableEq, Repr, Inhabited

/-- How a sample of a loop fares in time (R234, R235). -/
inductive SampleTiming where
  /-- its command leaves within the bound of Table 11-2 -/
  | onTime
  /-- its command leaves beyond the bound (R235) -/
  | late
  /-- the next sample arrives while it is pending and replaces it: it is never used (R234) -/
  | replaced
  deriving DecidableEq, Repr, Inhabited

/-- What a checker reports of a read (R278, R280). -/
inductive MemError where
  /-- no error -/
  | none
  /-- corrected by a STRONG checker (R278) -/
  | corrected
  /-- uncorrectable (R280) -/
  | uncorrectable
  deriving DecidableEq, Repr, Inhabited

/-- A word of buffer memory or of an on-die macro group (R265, R276). -/
inductive MemWord where
  /-- word `word` of HBM chip `chip` -/
  | hbm (chip : BitVec 20) (word : BitVec 11)
  /-- word at `addr` of SRAM macro group `group` -/
  | sram (group : Fin 12) (addr : BitVec 31)
  deriving DecidableEq, Repr, Inhabited

/-- What the training of a UCIe port yields (R326). -/
structure PortTraining where
  /-- 0 8, 1 16, 2 24, 3 32 GT/s -/
  rate : BitVec 2
  /-- receive data lanes repaired -/
  rxRepaired : Fin 5
  /-- transmit data lanes repaired -/
  txRepaired : Fin 5
  deriving DecidableEq, Repr, Inhabited

/-- A wake source (GLB_POWER.WAKE). -/
inductive WakeSource where
  /-- an accepted task (R57) -/
  | task
  /-- SB_WAKE (R340) -/
  | sbWake
  /-- mainband link training by the processor die (R358) -/
  | mainband
  deriving DecidableEq, Repr, Inhabited

/-- The strap pins at the rising edge of PORST_N (R411). -/
structure Straps where
  /-- BOOT_SEL[2:0] -/
  bootSel : BitVec 3
  /-- STRAP_ID[3:0] -/
  strapId : BitVec 4
  /-- TESTMODE -/
  testMode : Bool
  /-- SCAN_EN -/
  scanEn : Bool
  deriving DecidableEq, Repr, Inhabited

/-- What the silicon and the stacks show during a start-up (R261, R277, R363, R418, R420). -/
structure BootInput where
  /-- both stacks are 12-high, else 8-high (R260) -/
  tall : Bool
  /-- data rate: 0 3.2, 1 4.8, 2 6.4 Gbit/s per pin (R260) -/
  rate : BitVec 2
  /-- stacks whose training passes (R261) -/
  trained : BitVec 2
  /-- macro groups whose checker fails its self-test (R277) -/
  groupFail : BitVec 12
  /-- HBM ports whose checker fails its self-test (R277) -/
  hbmFail : BitVec 2
  /-- ms from reset release to SETTINGS_READY (GLB_BOOT_STATUS.BOOT_MS) -/
  bootMs : BitVec 16
  /-- PFAIL_N is low, or a rail beyond a threshold, when start-up completes (R420) -/
  supplyLow : Bool
  /-- DECK_PRESENT_N of each deck low, debounced (Table 14-8) -/
  present : BitVec 4
  deriving DecidableEq, Repr, Inhabited

/-- The commands, in the order of the spec's table. -/
inductive Instr where
  /-- REGISTER_WRITE (R8): A host write to a register that has no row of its own sets its fields according to their access codes. -/
  | registerWrite (addr : Nat) (words : List Word) (tag : BitVec 16)
  /-- UNASSIGNED_ACCESS (R11): A read or write at an aperture offset that names no register, or that breaks the access rules, returns an error completion and raises event 265. -/
  | unassignedAccess (write : Bool) (addr len : Nat) (tag : BitVec 16)
  /-- HANDSHAKE_STALL (R18): An island's watchdog interval expires on a stalled handshake, and the device raises the island fault. -/
  | handshakeStall (island : Fin 25) (channel : Word)
  /-- SLACK_MEASUREMENT (R24): The slack monitor measures the replica paths and updates GLB_SLACK_STATUS.SUSTAIN and CAP at least once per millisecond. -/
  | slackMeasurement (measured : Nat)
  /-- AVS_EVALUATION (R27): At most once per millisecond the device evaluates the VDD_CORE rule and sends an AVSBus voltage write of one 5 mV step when required. -/
  | avsEvaluation (ackGood : Bool)
  /-- AVS_READBACK (R421): Every 10 ms the device reads the VDD_CORE voltage and current over AVSBus into GLB_AVS_STATUS. -/
  | avsReadback (reply : Option (BitVec 10 × BitVec 12))
  /-- TASK_RECORD_WRITE (R35): A write to TSK_RECORD_k stores a word of the task record, or is discarded with event 338 while STATE is PENDING. -/
  | taskRecordWrite (n : Fin 4096) (k : Fin 16) (v : Word)
  /-- DOORBELL (R34): A write to TSK_DOORBELL copies the record area, sets STATE to PENDING and, within 2 µs, to ACCEPTED, REFUSED_QUOTA or REFUSED_FULL. -/
  | doorbell (n : Fin 4096) (v : Word)
  /-- ABORT_REQUEST (R52): A write to TSK_ABORT_TAG looks up the oldest in-flight task with that tag and decides NOT_FOUND, CAUGHT or TOO_LATE at one instant within 2 µs. -/
  | abortRequest (n : Fin 4096) (tag : Word)
  /-- CTX_CONFIG_WRITE (R31): A write to a context configuration register is applied only while the context is disabled and idle, and is otherwise discarded with event 338. -/
  | ctxConfigWrite (n : Fin 4096) (reg : CtxConfigReg) (v : Word)
  /-- CTX_RESET (R32): Setting CTX_CONTROL.RESET stops the context accepting tasks and completes every in-flight task that has not begun execution ABORTED. -/
  | ctxReset (n : Fin 4096)
  /-- CTX_RESET_COMPLETE (R32): After the context's last completion is written, every CTX-class field returns to its reset value, the pending deferred error is discarded and RESET clears. -/
  | ctxResetComplete (n : Fin 4096)
  /-- WRITE (R66): A WRITE task fetches its records by DMA and yields sealed-block items for packing, completing GOOD_BUFFERED or GOOD. -/
  | write (n : Fin 4096)
  /-- MARK (R66): A MARK task closes the open block and yields a mark item with its count. -/
  | mark (n : Fin 4096)
  /-- FLUSH (R66): A FLUSH task closes the open block and yields a flush item that ends a fixed seat's turn. -/
  | flush (n : Fin 4096)
  /-- SYNC (R75): A SYNC task yields a sync item that closes the open trick, hand and round and completes when they are on tape and released. -/
  | sync (n : Fin 4096)
  /-- READ (R208): A READ task delivers records of the context's stream from the Shoe or from tape, opening and decompressing each block. -/
  | read (n : Fin 4096)
  /-- LOCATE (R215): A LOCATE task moves the context's position to a logical object number or to the first object of a logical trick. -/
  | locate (n : Fin 4096)
  /-- SPACE (R216): A SPACE task moves the position forward or back by records, by marks, or to end-of-data. -/
  | space (n : Fin 4096)
  /-- POSITION (R175): A POSITION task reports the logical object number, logical trick number, wrap and tape position counter. -/
  | position (n : Fin 4096)
  /-- PASS (R70): A PASS task yields a pass item that ends the seat's turn for COUNT tricks in fixed seating. -/
  | pass (n : Fin 4096)
  /-- BARRIER (R47): A BARRIER task completes once every earlier task of its context, or of every context when GLOBAL is set, has completed. -/
  | barrier (n : Fin 4096)
  /-- CUT (R97): A CUT host job cuts its source into compressed blocks staged in the Shoe. -/
  | cut (n : Fin 4096)
  /-- UNCUT (R98): An UNCUT host job walks and decodes source blocks into staged output. -/
  | uncut (n : Fin 4096)
  /-- HOST_JOB_COPY (R99): When a CUT or UNCUT job's whole output exists, the device copies it to DST_ADDR in one pass and completes the job. -/
  | hostJobCopy (n : Fin 4096)
  /-- METER_READ (R402): A METER_READ task writes one meter entry of the named context to RESULT_ADDR. -/
  | meterRead (n : Fin 4096)
  /-- LOAD (R173): A LOAD task threads the cartridge and reads the medium lead. -/
  | load (n : Fin 4096)
  /-- UNLOAD (R173): An UNLOAD task moves the tape to BOT and unthreads the cartridge. -/
  | unload (n : Fin 4096)
  /-- REWIND (R173): A REWIND task moves the tape to BOT. -/
  | rewind (n : Fin 4096)
  /-- PART_CREATE (R173): A PART_CREATE task takes wraps at the next free wrap, writes run-in, lead and end-of-data, and marks the partition PRESENT. -/
  | partCreate (n : Fin 4096)
  /-- PART_DELETE (R55): A PART_DELETE task marks the last partition absent in the medium lead, needing a presence window if it holds data. -/
  | partDelete (n : Fin 4096)
  /-- MEDIUM_FORMAT (R173): A MEDIUM_FORMAT task writes the medium lead with a new label and no partitions. -/
  | mediumFormat (n : Fin 4096)
  /-- SEAT (R63): A SEAT task closes the table's round as SYNC does and installs a new seating mode and plan from the next round. -/
  | seat (n : Fin 4096)
  /-- POWER (R357): A POWER task moves the device to RUN, IDLE, DOZE or SLEEP through the entry steps of its state. -/
  | power (n : Fin 4096)
  /-- STORE (R382): A STORE task snapshots the settings shadow and writes it to the next sector of the other settings copy. -/
  | store (n : Fin 4096)
  /-- IMAGE_ACTIVATE (R294): An IMAGE_ACTIVATE task reads and checks an approved slot and applies its sections in epochs. -/
  | imageActivate (n : Fin 4096)
  /-- COMPLETION_WRITE (R41): When ring space exists, the device writes a task's 32-byte completion entry with its PHASE and advances CTX_RING_TAIL. -/
  | completionWrite (n : Fin 4096)
  /-- DEFERRED_ERROR_DELIVERY (R50): The chosen task does not execute and completes DEFERRED_ERROR carrying the pending error, which clears the deferred state. -/
  | deferredErrorDelivery (n : Fin 4096)
  /-- PACK_ITEM (R69): The Dealer takes the next available item of a table and places it in the open trick as fragments or a mark entry. -/
  | packItem (d : Fin 4) (p : Fin 64)
  /-- FIXED_SEAT_TURN (R70): In fixed seating the Dealer packs the awaited seat's next item within its quota once that item arrives. -/
  | fixedSeatTurn (d : Fin 4) (p : Fin 64)
  /-- SEAT_ALERT (R70): A fixed-seating wait reaching DLR_SEAT_ALERT.ALERT_MS raises event 340 once per wait. -/
  | seatAlert (d : Fin 4) (p : Fin 64)
  /-- POOL_WAIT_RESUME (R73): A requester waiting on an empty Shoe pool resumes its allocation when a chip of that pool is freed. -/
  | poolWaitResume (pool : Fin 64)
  /-- FETCH_RESUME (R72): Fetching of a context's record data resumes when packing frees chips below CTX_CHIP_QUOTA.MAX_CHIPS. -/
  | fetchResume (n : Fin 4096)
  /-- BLOCK_CLOSE (R81): The Cutter closes the stream's open block when a non-data item arrives or the next record does not fit, and queues it for an engine. -/
  | blockClose (n : Fin 4096)
  /-- ENGINE_DISPATCH (R101): A free Cutter engine takes the next block from the write, restore or host-job queue by weighted round robin. -/
  | engineDispatch (e : Fin 64)
  /-- BLOCK_CODED (R94): An engine finishes compressing a block, decode-verifies it, and releases it compressed or raw. -/
  | blockCoded (e : Fin 64) (outcome : CodedOutcome)
  /-- BLOCK_DECODE (R96): An engine decompresses a block under the checks of Table 04-4, raising event 291 on the first failure. -/
  | blockDecode (e : Fin 64) (historyParityError : Bool)
  /-- ENGINE_OFF_WRITE (R100): A write to CUT_ENGINE_OFF takes engines out of service after their present block, or returns them and restarts their mismatch counts. -/
  | engineOffWrite (hi : Bool) (v : Word)
  /-- SEAL (R104): A cipher lane finishes sealing a block with AES-256-GCM and passes it to the Dealer in stream order. -/
  | seal (n : Fin 4096) (lane : Fin 32)
  /-- BLOCK_OPEN (R118): A cipher lane finishes opening a block and checks its tag, zero-filling the task and completing AUTH_FAILURE on failure. -/
  | blockOpen (n : Fin 4096) (lane : Fin 32)
  /-- KEY_LOAD (R114): KEY_COMMAND.OP = 1 copies the staging registers into the selected slot and clears the staging registers. -/
  | keyLoad
  /-- KEY_ZEROISE (R116): KEY_COMMAND.OP = 2 zeroises the selected slot and fails the blocks latched to it. -/
  | keyZeroise
  /-- KEY_CLEAR_ALL (R115): KEY_COMMAND.OP = 3 zeroises every slot and every lane's latched copy. -/
  | keyClearAll
  /-- KEY_COMMAND_DONE (R114): A key command completes and KEY_STATUS.BUSY clears. -/
  | keyCommandDone
  /-- ROUND_WRITE_START (R74): The deck encoder begins writing a closed round once the previous round has been written. -/
  | roundWriteStart (d : Fin 4)
  /-- TRICK_BEGIN (R178): The deck encoder begins writing a trick and thereby fixes the content of the trick that follows it. -/
  | trickBegin (d : Fin 4) (tpc : Word) (left : Nat) (leftInWrap : Nat)
  /-- END_OF_DATA_WRITE (R168): When every closed round is written and released and none waits, the device writes end-of-data, directory tricks and repeats, then stops the tape. -/
  | endOfDataWrite (d : Fin 4)
  /-- FACET_GRADE (R179): The Loupe grades a read-behind facet CLEAN, MARGIN, MARGINAL or FAILED within 8 µs of its passing the read element. -/
  | facetGrade (d : Fin 4) (track : Fin 1024)
  /-- WRAP_TURN (R192): Once every facet of the wrap's last trick is graded, the tape turns, the wrap summary is written and every track returns to GOOD. -/
  | wrapTurn (d : Fin 4)
  /-- FACET_DECODE (R201): The restore decoder decodes a read facet by C1 with erasures and applies C2 to its tile. -/
  | facetDecode (d : Fin 4) (track : Fin 1024)
  /-- TRICK_MISSING (R202): A trick number is declared missing after 1,024 further positions or at the end-of-data trick. -/
  | trickMissing (d : Fin 4) (trick : BitVec 40)
  /-- RETRY_PASS (R206): For an unrecovered hand the device repositions and rereads its round under the next retry settings, raising event 64d + 34. -/
  | retryPass (d : Fin 4)
  /-- REPOSITION_COMPLETE (R436): PACE completes a move to a target position and leaves POSITION for IDLE or START. -/
  | repositionComplete (d : Fin 4)
  /-- PACE_SAMPLE (R244): On every 32nd SUPPLY sample PACE computes the fill, rate and fill error and a new speed set-point. -/
  | paceSample (d : Fin 4) (timing : SampleTiming)
  /-- SERVO_RECORD (R233): A SERVO record from the front-end starts a LATERAL sample whose command is sent as a LATERAL record. -/
  | servoRecord (d : Fin 4) (counter : Byte) (posErr : BitVec 24) (tpc : Word) (qual : Byte) (locked towardsEot : Bool) (timing : SampleTiming)
  /-- LATERAL_LOCK (R253): LATERAL becomes locked when its error has stayed within LOCK_TOL for 64 consecutive samples. -/
  | lateralLock (d : Fin 4)
  /-- REEL_RECORD (R233): A REEL record starts a SUPPLY or TAKEUP sample, including the PACE slew evaluation, whose command is sent as REEL_CMD. -/
  | reelRecord (d : Fin 4) (counter : Byte) (takeup : Bool) (count : Word) (tension current : BitVec 16) (timing : SampleTiming)
  /-- TELEMETRY_DISCARD_LIMIT (R255): Eight consecutive discards on one channel raise event 64d + 48 and deassert MOTOR_EN. -/
  | telemetryDiscardLimit (d : Fin 4)
  /-- REVERSAL_TENSION_MET (R249): Tension within the window for 16 consecutive reel samples ends REVERSE_WAIT and the reel loops exchange roles. -/
  | reversalTensionMet (d : Fin 4)
  /-- REVERSAL_TIMEOUT (R250): The tension window not met within WAIT_MS raises event 64d + 53 and starts a controlled stop. -/
  | reversalTimeout (d : Fin 4)
  /-- COEF_COMMIT (R240): A write to JAS_Dd_COEF_SHIFT commits the staged mantissa and shift atomically, to the shadow bank under HOLD, or refuses it with event 64d + 58. -/
  | coefCommit (d : Fin 4) (v : Word)
  /-- HOLD_WRITE (R241): Clearing a loop's JAS_Dd_CONTROL.HOLD bit makes its shadow bank active between two samples. -/
  | holdWrite (d : Fin 4) (hold : BitVec 4)
  /-- JAS_STOP_REQUEST (R256): Setting JAS_Dd_CONTROL.STOP starts a controlled stop of the deck. -/
  | jasStopRequest (d : Fin 4)
  /-- STOP_COMPLETE (R437): At rest both reels enter HOLD and event 64d + 50 is raised with the cause mask. -/
  | stopComplete (d : Fin 4)
  /-- DECK_ESTOP (R257): DECK_ESTOP_N low for 1 µs or longer starts a controlled stop within 100 µs and raises event 64d + 51. -/
  | deckEstop (d : Fin 4)
  /-- TRACE_ARM (R258): Setting JAS_Dd_TRc_CTRL.ARM empties the trace buffer, sets CURSOR to 0 and starts recording. -/
  | traceArm (d c : Fin 4)
  /-- TRACE_FIRE (R258): Setting JAS_Dd_TRc_TRIG.FIRE triggers the trace buffer from software. -/
  | traceFire (d c : Fin 4)
  /-- TRACE_TRIGGER (R258): A level crossing, DBG_TRIG_IN, a deck event or another buffer's trigger triggers the buffer, pulsing DBG_TRIG_OUT, latching STAMP and raising event 64d + 57. -/
  | traceTrigger (d c : Fin 4) (source : TraceSource) (stamp : BitVec 64)
  /-- TRACE_DONE (R258): After 8,192 − PRE entries following the trigger the buffer sets DONE and stops recording. -/
  | traceDone (d c : Fin 4)
  /-- TRACE_READ (R258): A read of JAS_Dd_TRc_DATA returns the entry at CURSOR and advances CURSOR by one. -/
  | traceRead (d c : Fin 4)
  /-- HBM_CATTRIP (R262): HBMs_CATTRIP active for 1 µs stops commands to the stack, raises event 378 and acts as an island 4 or 5 fault. -/
  | hbmCattrip (s : Fin 2)
  /-- HBM_ECC_POLL (R263): Once per second the device reads each stack's error report and temperature, updating ECC and HOT with events 376 and 381. -/
  | hbmEccPoll (s : Fin 2) (corrected : Nat) (temp : Byte)
  /-- REGION_CFG_WRITE (R266): A write to MIC_REGION_CFG is applied, resetting the stack's word states, or discarded with event 356. -/
  | regionCfgWrite (v : Word)
  /-- MIC_FILL (R268): Setting MIC_FILL_COUNT.GO starts filling the chip range with the pattern, or sets ERROR if refused. -/
  | micFill (v : Word)
  /-- MIC_FILL_COMPLETE (R268): The fill finishes, clears GO and raises event 380. -/
  | micFillComplete
  /-- POOL_CFG_WRITE (R269): A write to SHO_POOL_CFG enables a valid pool and starts building its free ring, or clears or refuses ENABLE with event 356. -/
  | poolCfgWrite (v : Word)
  /-- POOL_READY (R269): The pool's free ring is built, READY is set and event 357 is raised. -/
  | poolReady (pool : Fin 64)
  /-- HOST_CHIP_ALLOCATE (R274): SHO_HOST_CMD.OP = 1 allocates a chip of class 6 from the selected host pool. -/
  | hostChipAllocate
  /-- HOST_CHIP_FREE (R272): SHO_HOST_CMD.OP = 2 frees the named chip. -/
  | hostChipFree (index : BitVec 20)
  /-- SHOE_WINDOW_ACCESS (R274): An access through SHO_WIN reads or writes a class 6 chip page, or returns an error completion. -/
  | shoeWindowAccess (off : BitVec 10) (write : Option Word) (err : MemError)
  /-- POLISHER_ACCESS (R281): The Polisher reads the next STRONG word in an idle cycle and records the lap length at the end of a lap. -/
  | polisherAccess (word : MemWord) (err : MemError) (lapEnd : Option Nat)
  /-- WRITE_SLOT (R289): CFG_COMMAND.OP = 1 under presence reads, checks, erases, programs and approves the selected image slot. -/
  | writeSlot
  /-- SLOT_WRITE_DONE (R289): The slot write finishes its margin verify and leaves the slot APPROVED with event 438, or BAD with event 439. -/
  | slotWriteDone (marginOk : Bool)
  /-- VERIFY (R290): CFG_COMMAND.OP = 2 checks the selected slot against Table 13-4 and its approval entry and reports in CFG_RESULT. -/
  | verify
  /-- REVOKE (R290): CFG_COMMAND.OP = 3 removes the selected slot's approval entry and raises event 441. -/
  | revoke
  /-- FORMAT_EPOCH (R294): A pending format, fabric and legacy epoch takes effect on a deck at the first round packed after the present round closes, raising event 433. -/
  | formatEpoch (d : Fin 4)
  /-- CUTTER_EPOCH (R294): A pending Cutter epoch takes effect on a context at its next block boundary, incrementing CTX_EPOCH and raising event 434. -/
  | cutterEpoch (n : Fin 4096)
  /-- LINK_TRAINING (R318): FE_RESET_N going high starts training on all 17 lanes with event 64d + 0. -/
  | linkTraining (d : Fin 4)
  /-- TRAINING_STEP_TIMEOUT (R318): A training step not done within its limit restarts training, and after the third attempt enters FAULT with event 64d + 2. -/
  | trainingStepTimeout (d : Fin 4)
  /-- FRAME_RECEIVE (R303): A frame arrives on a receive lane, is descrambled and CRC-checked, and delivers its slot units or records if good. -/
  | frameReceive (d : Fin 4) (lane : Fin 17) (bits : BitVec 1200)
  /-- LANE_FRAME_LOCK (R319): Four consecutive good frames at one position frame-lock a receive lane. -/
  | laneFrameLock (d : Fin 4) (lane : Fin 17)
  /-- LANE_LOCK_LOSS (R319): Eight consecutive bad frames lose a lane's lock and raise event 64d + 3. -/
  | laneLockLoss (d : Fin 4) (lane : Fin 17)
  /-- COLUMN_SEND (R309): The device sends the next column with its COLUMN record when its index precedes the front-end's LIMIT. -/
  | columnSend (d : Fin 4)
  /-- CREDIT (R309): A CREDIT record from the front-end updates LIMIT and CONSUMED of the write stream. -/
  | credit (d : Fin 4) (limit consumed : Word)
  /-- COLUMN (R312): An upstream COLUMN record with its read column delivers the column's channel bits and ERASURE flags to the Loupe or decoder. -/
  | column (d : Fin 4) (seq : Byte) (index : Word)
  /-- SQ (R314): An SQ record updates the signal-quality figures of eight tracks. -/
  | sq (d : Fin 4) (first : BitVec 16) (figures : List Byte)
  /-- HEAD (R314): A HEAD record delivers head and front-end temperatures. -/
  | head (d : Fin 4) (headT feT : BitVec 16)
  /-- STATUS (R314): A STATUS record reports the front-end state, cartridge, wraps, errors and FIFO fill. -/
  | status (d : Fin 4) (state : Byte) (cartridge threaded fault rxLockLost : Bool) (wraps crcErr underrun fifo : BitVec 16)
  /-- REG_RESP (R317): A REG_RESP record answers an earlier REG_RD or REG_WR with its result and data. -/
  | regResp (d : Fin 4) (tag result : Byte) (addr : BitVec 16) (data : Word)
  /-- UNKNOWN_RECORD (R313): A control-lane record of unknown TYPE is ignored, counted and raises event 64d + 8. -/
  | unknownRecord (d : Fin 4) (type : Byte)
  /-- LANE_LOCK_TIMEOUT (R320): A receive lane out of lock for 10 µs while ACTIVE causes a link fault. -/
  | laneLockTimeout (d : Fin 4) (lane : Fin 17)
  /-- LINK_ALERT (R320): LINK_ALERT_N low for 10 µs while ACTIVE causes a link fault. -/
  | linkAlert (d : Fin 4)
  /-- CREDIT_TIMEOUT (R320): No CREDIT record for 10 µs while a write stream is open causes a link fault. -/
  | creditTimeout (d : Fin 4)
  /-- STATUS_TIMEOUT (R320): No STATUS record for 1 ms causes a link fault. -/
  | statusTimeout (d : Fin 4)
  /-- REG_RESP_TIMEOUT (R320): A front-end register access unanswered for 10 µs raises event 64d + 9 and is retried, and a second miss causes a link fault. -/
  | regRespTimeout (d : Fin 4)
  /-- DECK_PRESENCE_CHANGE (R322): DECK_PRESENT_N low for 10 ms makes the deck present, and high makes it absent with a link fault, raising event 64d + 6. -/
  | deckPresenceChange (d : Fin 4) (present : Bool)
  /-- DECK_FAULT (R322): DECK_FAULT_N low raises event 64d + 5 and starts a controlled stop while the link is ACTIVE. -/
  | deckFault (d : Fin 4)
  /-- LINK_ENABLE_WRITE (R318): A write to DKd_LNK_CTRL.ENABLE disables the link after a controlled stop, or enables and trains it. -/
  | linkEnableWrite (d : Fin 4) (enable : Bool)
  /-- LINK_RETRAIN (R318): Setting DKd_LNK_CTRL.RETRAIN trains the link again, after a controlled stop if the deck is not idle. -/
  | linkRetrain (d : Fin 4)
  /-- FE_REGISTER_READ (R317): DKd_LNK_FE_CMD.OP = 1 sends a REG_RD to the front-end. -/
  | feRegisterRead (d : Fin 4)
  /-- FE_REGISTER_WRITE (R317): DKd_LNK_FE_CMD.OP = 2 sends a REG_WR to the front-end while PACE is IDLE. -/
  | feRegisterWrite (d : Fin 4)
  /-- FLIT_RECEIVE (R330): A UCIe flit is CRC-checked and accepted in sequence or discarded with a NAK, and its ACK and credits are used. -/
  | flitReceive (p : Fin 2) (flit : List Byte)
  /-- REPLAY_TIMEOUT (R330): Two µs with flits unacknowledged and no progress replays from the oldest unacknowledged flit. -/
  | replayTimeout (p : Fin 2)
  /-- ACK_DUE (R330): Within 64 flit times of accepting a flit the receiver sends an acknowledgement, in a null flit if needed. -/
  | ackDue (p : Fin 2)
  /-- DMA_COMPLETION_RECEIVE (R335): A completion of a device read delivers host data, or fails the read on error or overrun, or is discarded as stray with event 264. -/
  | dmaCompletionReceive (tag : BitVec 16) (status : BitVec 16) (payload : List Byte)
  /-- DMA_READ_TIMEOUT (R335): A read not completed within 100 µs fails its task with TIMEOUT and raises event 262. -/
  | dmaReadTimeout (tag : BitVec 16)
  /-- CREDIT_WAIT_ALERT (R332): A wait for UCIe credits lasting 1 ms raises event 268. -/
  | creditWaitAlert (p : Fin 2) (cls : Fin 4)
  /-- PORT_ACTIVE (R326): A UCIe port completes training at its rate and becomes Active with event 256, or stays DOWN with event 257. -/
  | portActive (p : Fin 2) (trained : Option PortTraining)
  /-- PORT_RETRAIN (R337): Setting LNK_CTRL.RETRAIN bit p retrains port p. -/
  | portRetrain (p : Fin 2)
  /-- PORT_ENABLE_WRITE (R339): A write to LNK_CTRL.PORT_EN holds a disabled port in Reset, and clearing both bits is discarded. -/
  | portEnableWrite (en : BitVec 2)
  /-- LINK_LOSS (R337): A port not Active within 100 ms or three retrainings, or both ports down for 1 ms, raises event 261 and takes a WARM reset. -/
  | linkLoss
  /-- SB_RESET (R340): A sideband write of 0x0000_C01D to SB_RESET requests a COLD reset with event 267. -/
  | sbReset (v : Word)
  /-- SB_WAKE (R340): A sideband write of 1 to SB_WAKE requests exit from SLEEP or DOZE. -/
  | sbWake (v : Word)
  /-- PRESENCE_ACTION (R342): With the jumper fitted, the button held 200 ms past its debounce opens or restarts the presence window, or acknowledges a tamper. -/
  | presenceAction
  /-- BUTTON_STUCK (R345): SVC_BTN_N low for more than 10 s is treated as stuck and raises event 426. -/
  | buttonStuck
  /-- JUMPER_REMOVED (R343): SVC_JMP_N high for 20 ms closes the presence window with event 417. -/
  | jumperRemoved
  /-- PRESENCE_WINDOW_EXPIRY (R343): The window closes after WINDOW_S seconds and raises event 417. -/
  | presenceWindowExpiry
  /-- CLOSE_WINDOW (R343): A write of 1 to SEC_CONTROL.CLOSE_WINDOW closes the presence window. -/
  | closeWindow
  /-- ENTER_SERVICE (R351): A write of 1 to SEC_CONTROL.ENTER_SERVICE in SEALED with a window open enters SERVICE. -/
  | enterService
  /-- LEAVE_SERVICE (R351): A write of 1 to SEC_CONTROL.LEAVE_SERVICE returns SERVICE to SEALED. -/
  | leaveService
  /-- OPEN_ARM (R352): A write of 1 to OPEN_ARM with CONFIRM 0x5EC0 and a window open sets OPEN_PENDING with event 427. -/
  | openArm (confirm : BitVec 16)
  /-- OPEN_DISARM (R352): A write of 1 to OPEN_DISARM clears OPEN_PENDING. -/
  | openDisarm
  /-- DEBUG_LEVEL_WRITE (R354): A write to SEC_DEBUG.LEVEL raises or lowers the debug level subject to window, state and deck conditions. -/
  | debugLevelWrite (level : BitVec 2)
  /-- SEAL_ENABLE_WRITE (R347): A write of 0 to SEC_SEAL.ENABLE stops seal checking in OPEN, and is refused in any other state. -/
  | sealEnableWrite (enable : Bool)
  /-- SEAL_BIT (R346): At each seal bit period the device drives the next LFSR bit and compares both samples of SEAL_IN, counting a mismatch with event 419. -/
  | sealBit (sample1 sample2 : Bool)
  /-- TAMPERED_ENTRY (R348): Three consecutive mismatches, or an island 23 fault, enter TAMPERED: window closed, D0, clear-all, FAULT_N and event 420. -/
  | tamperedEntry
  /-- SEAL_RESTORED (R349): After 1,000 consecutive matching bits the device sets SEC_STATE.RESTORED. -/
  | sealRestored
  /-- DOZE_EXIT (R357): An accepted task or SB_WAKE restores the VDD_CORE request, leaves self-refresh and returns to RUN within 2 ms. -/
  | dozeExit (src : WakeSource)
  /-- SLEEP_EXIT (R358): SB_WAKE or mainband training in SLEEP runs the COLD sequence from the checker self-test once every rail is in range. -/
  | sleepExit (src : WakeSource) (boot : BootInput)
  /-- SLEEP_EXIT_RAIL_TIMEOUT (R358): A rail still out of range 100 ms after a wake request raises event 469 and the device stays in SLEEP. -/
  | sleepExitRailTimeout
  /-- POWER_FAIL (R361): PFAIL_N low for 1 µs, or an island 24 fault, raises event 467, clears GATE, stops every deck and starts the emergency writes. -/
  | powerFail
  /-- PFAIL_MOTOR_TIMEOUT (R361): MOTOR_EN is deasserted on every deck 4 ms after PFAIL_N fell, whether or not the tape is at rest. -/
  | pfailMotorTimeout
  /-- SUPPLY_MONITOR_TRIP (R420): A rail beyond a monitor threshold for 2 µs raises event 471 and acts as PFAIL_N. -/
  | supplyMonitorTrip (rail : Fin 7)
  /-- POR (R363): Supplies coming into range or PORST_N low resets the device, samples the straps, runs self-test, trains the stacks, boots the image and restores settings. -/
  | por (pin : Bool) (straps : Straps) (seed : BitVec 16) (boot : BootInput)
  /-- COLD_RESET (R363): COLDRST_N low or SB_RESET runs the COLD sequence of self-test, HBM training, image boot and settings restore. -/
  | coldReset (sideband : Bool) (boot : BootInput)
  /-- WARM_RESET (R364): GLB_RESET.WARM stops every deck, discards every task in flight, resets WARM, DECK and CTX fields and rebuilds the pools. -/
  | warmReset
  /-- DECK_RESET (R365): A GLB_RESET.DECK bit stops the deck, gives its contexts deferred errors, resets its DECK fields, frees its chips and retrains its link. -/
  | deckReset (d : Fin 4)
  /-- NVM_PROGRAM (R375): NVM_CMD.OP = 1 programs the addressed page from NVM_PAGE, or is refused with event 406. -/
  | nvmProgram
  /-- NVM_ERASE (R380): NVM_CMD.OP = 2 erases the addressed sector under the erase journal. -/
  | nvmErase
  /-- NVM_SUSPEND (R376): NVM_CMD.OP = 3 suspends the bank's running erase within 50 µs. -/
  | nvmSuspend
  /-- NVM_RESUME (R376): NVM_CMD.OP = 4 resumes the bank's suspended erase. -/
  | nvmResume
  /-- NVM_MARGIN_PV (R375): NVM_CMD.OP = 5 reads the page at the program-verify level and reports FAIL_BITS. -/
  | nvmMarginPv
  /-- NVM_MARGIN_EV (R375): NVM_CMD.OP = 6 reads the sector at the erase-verify level and reports FAIL_BITS. -/
  | nvmMarginEv
  /-- NVM_OPERATION_COMPLETE (R375): A flash program, erase or margin read finishes, the bank stops being busy and event 407 is raised. -/
  | nvmOperationComplete (bank : Fin 2) (failBits : Nat)
  /-- PARK_REQUEST (R377): Setting NVM_PARK.REQUEST makes the steward finish its bank A operations and move to RAM. -/
  | parkRequest
  /-- STEWARD_PARKED (R377): The steward sets PARKED within 50 ms and raises event 409. -/
  | stewardParked
  /-- PARK_RELEASE (R377): Setting NVM_PARK.RELEASE ends parking and the steward makes its held writes. -/
  | parkRelease
  /-- PARK_TIMEOUT (R377): Parking ends 60 s after the last host command on bank A when no host erase runs or is suspended. -/
  | parkTimeout
  /-- RD_DELAY_WRITE (R373): A host write to NVM_RD_DELAY takes effect at once and raises event 411 when below Table 17-3. -/
  | rdDelayWrite (delay : BitVec 4)
  /-- WP_SET (R378): A write to NVM_WP_SET_k sets the matching protection bits. -/
  | wpSet (k : Fin 8) (v : Word)
  /-- WP_CLR (R378): A write to NVM_WP_CLR_k clears the matching protection bits while a presence window is open. -/
  | wpClr (k : Fin 8) (v : Word)
  /-- NVM_WIN_READ (R374): A read of NVM_WIN returns corrected flash bytes, or a bus fault with event 405 while the bank is busy. -/
  | nvmWinRead (off : BitVec 10) (bitErrors : Nat)
  /-- NVM_CAL_READ (R374): A read of NVM_CAL returns the calibration row, or a bus fault while bank A is busy. -/
  | nvmCalRead (off : BitVec 10)
  /-- SCOREPAD_PERSIST (R393): Within 1 s of a PERSIST record the steward writes waiting records to a lower page of the persistence sectors. -/
  | scorepadPersist
  /-- FREEZE_WRITE (R392): A write to EVT_SP_CTRL.FREEZE freezes the Scorepad into a hold queue, or releases the held records. -/
  | freezeWrite (freeze : Bool)
  /-- FREEZE_TIMEOUT (R392): FREEZE clears itself 2 s after being set and raises event 450. -/
  | freezeTimeout
  /-- SCOREPAD_CLEAR (R392): A write of 1 to EVT_SP_CTRL.CLEAR under presence removes every record and raises event 456. -/
  | scorepadClear
  /-- NOTICE_POP (R398): A read of EVT_NTC_POP returns the next word of the packet in service, starting the highest-priority complete packet if none is in service. -/
  | noticePop
  /-- WALL_WRITE (R395): A write to EVT_WALL sets the wall-clock annotation and raises event 451 with old and new values. -/
  | wallWrite (v : Word)
  /-- HOURS_TICK (R394): Each second of island 20 advances operating hours and pulses TSYNC_OUT. -/
  | hoursTick
  /-- HOURS_CHECKPOINT (R394): At each multiple of 60 s the steward programs an hours checkpoint, raising event 457 if it fails. -/
  | hoursCheckpoint (programOk : Bool)
  /-- METER_SNAPSHOT (R402): At each multiple of 60 s the device writes a meter snapshot of every active context, or misses it with event 452. -/
  | meterSnapshot
  /-- ACTIVE_SECOND_TICK (R400): Each second of island 25 adds 1 to ACTIVE_S of every context with a task in flight. -/
  | activeSecondTick
  /-- TAP_RESET (R404): TRST_N low puts the TAP in Test-Logic-Reset with IDCODE selected. -/
  | tapReset
  /-- TAP_UPDATE_IR (R407): At Update-IR the TAP puts the new instruction in effect, or substitutes BYPASS with event 425. -/
  | tapUpdateIr
  /-- TAP_UPDATE_DR (R409): At Update-DR the shifted data register takes effect, driving pins under a pin-driving instruction. -/
  | tapUpdateDr
  /-- THERMAL_WARNING (R423): TJ reaching GLB_THERMAL.WARN drives THERM_N low with event 472, released below WARN − 5 °C. -/
  | thermalWarning (tj : BitVec 8)
  /-- THERMAL_SHUTDOWN (R423): TJ of 115 °C or above stops every deck, asserts FAULT_N and raises event 473. -/
  | thermalShutdown (tj : BitVec 8)
  /-- XTAL_START_TIMEOUT (R424): No 32.768 kHz oscillation 1.5 s after POR release raises an island 20 fault. -/
  | xtalStartTimeout
  /-- BUTTON_PRESSED (R342): SVC_BTN_N falls and starts the 20 ms debounce and the following 200 ms interval of a presence action. -/
  | buttonPressed
  /-- BUTTON_RELEASED (R345): SVC_BTN_N high for 20 ms re-arms presence actions and ends the stuck-button state. -/
  | buttonReleased
  /-- JUMPER_FITTED (R342): SVC_JMP_N goes low, SEC_STATE.JUMPER reads fitted, and the 20 ms jumper interval that a presence action requires begins. -/
  | jumperFitted
  /-- DECK_ESTOP_RELEASED (R257): DECK_ESTOP_N returns high, the deck's JAS_STATUS.ESTOP bit clears, and the bar on START lifts, leaving only the wait for a DECK reset. -/
  | deckEstopReleased (d : Fin 4)
  /-- CLOCK_DATA_LOCK (R318): During training, every receive lane reaches clock-data lock, which is step 2 of Table 14-7, before frame lock can follow. -/
  | clockDataLock (d : Fin 4)
  /-- TCK_EDGE (R404): A TCK edge moves the TAP controller under TMS and performs Capture-IR, Capture-DR, Shift and Test-Logic-Reset by TMS, apart from the Update states. -/
  | tckEdge (rising tms tdi : Bool) (pins : BitVec 382)
  /-- DMA_TAG_RELEASE (R335): One ms after a device read fails, its tag becomes free for reuse and late completions for it stop counting as discarded for that read. -/
  | dmaTagRelease (tag : BitVec 16)
  /-- TJ_BAND_CHANGE (R373): Junction temperature crosses a band edge of Table 17-3, with 5 °C hysteresis, and the steward raises or lowers NVM_RD_DELAY. -/
  | tjBandChange (tj : BitVec 8)
  /-- SERVICE_CONSOLE_INPUT (R353): A character or command arrives on SVC_RXD at the service console, which at D1 serves the read-only event log and at D2 runs console commands. -/
  | serviceConsoleInput (ch : Byte)
  /-- IMAGE_DEFINED_CONDITION (R385): A condition that the event-map section defines, including a GPIO input given a function, is met and raises one of events 496 to 511. -/
  | imageDefinedCondition (k : Fin 16)
  deriving DecidableEq, Repr, Inhabited

end Sys2Proof
end

