-- ==== Sys2Proof/Machine/RegMap.lean ====
section
/-! DEFINITION. The register aperture (R8, R430, Table 21-2): where every register lies, its fields, their access codes
(Table 00-3), reset values and reset classes (Table 00-4), each from the register table of its chapter. -/

namespace Sys2Proof.Machine

/-- A field's place in its register: bits hi down to lo (R6). -/
structure Fld where
  /-- highest bit -/
  hi : Nat
  /-- lowest bit -/
  lo : Nat
  deriving DecidableEq, Repr, Inhabited

/-- The access codes of Table 00-3 but RSV. -/
inductive Acc where
  /-- RW -/
  | rw
  /-- RO -/
  | ro
  /-- WO -/
  | wo
  /-- W1C -/
  | w1c
  /-- W1S -/
  | w1s
  /-- RWP -/
  | rwp
  deriving DecidableEq, Repr, Inhabited

/-- The reset classes of Table 00-4; `none` where the register tables give no class. -/
inductive Cls where
  /-- POR -/
  | por
  /-- COLD -/
  | cold
  /-- WARM -/
  | warm
  /-- DECK -/
  | deck
  /-- CTX -/
  | ctx
  /-- STICKY -/
  | sticky
  /-- NV -/
  | nv
  /-- no class -/
  | none
  deriving DecidableEq, Repr, Inhabited

/-- A field of a register table. -/
structure FieldSpec where
  /-- highest bit -/
  hi : Nat
  /-- lowest bit -/
  lo : Nat
  /-- access code -/
  acc : Acc
  /-- reset value -/
  reset : Nat
  /-- reset class -/
  cls : Cls
  deriving DecidableEq, Repr, Inhabited

/-- Whose register the first index names. -/
inductive Owner where
  /-- the device's -/
  | all
  /-- a deck's -/
  | deck
  /-- a context's -/
  | ctx
  deriving DecidableEq, Repr, Inhabited

/-- A register of Table 21-2: one at base + s1 × i + s2 × j for each i below n1 and j below n2. -/
structure RegSpec where
  /-- offset of the first -/
  base : Nat
  /-- stride of the first index -/
  s1 : Nat
  /-- values of the first index -/
  n1 : Nat
  /-- stride of the second index -/
  s2 : Nat
  /-- values of the second index -/
  n2 : Nat
  /-- whose the first index names -/
  owner : Owner
  /-- the fields that are not reserved -/
  fields : List FieldSpec
  deriving DecidableEq, Repr, Inhabited

/-- GLB_SLACK_STATUS. -/
def Reg.glbSlackStatus : Nat := 0x40
/-- GLB_PACE_TARGET. -/
def Reg.glbPaceTarget : Nat := 0x44
/-- GLB_ISLAND_FAULT. -/
def Reg.glbIslandFault : Nat := 0x48
/-- CTX_STATE of context i. -/
def Reg.ctxState (i : Nat) : Nat := 0x100000 + 0x100 * i
/-- CTX_CONTROL of context i. -/
def Reg.ctxControl (i : Nat) : Nat := 0x100004 + 0x100 * i
/-- CTX_BIND of context i. -/
def Reg.ctxBind (i : Nat) : Nat := 0x10000c + 0x100 * i
/-- CTX_QUOTA of context i. -/
def Reg.ctxQuota (i : Nat) : Nat := 0x10001c + 0x100 * i
/-- CTX_RING_CTRL of context i. -/
def Reg.ctxRingCtrl (i : Nat) : Nat := 0x100030 + 0x100 * i
/-- CTX_DEFERRED_STATUS of context i. -/
def Reg.ctxDeferredStatus (i : Nat) : Nat := 0x100040 + 0x100 * i
/-- TSK_RECORD_k of context i, index j. -/
def Reg.tskRecord (i j : Nat) : Nat := 0x200000 + 0x200 * i + 0x4 * j
/-- TSK_DOORBELL of context i. -/
def Reg.tskDoorbell (i : Nat) : Nat := 0x200040 + 0x200 * i
/-- TSK_STATUS of context i. -/
def Reg.tskStatus (i : Nat) : Nat := 0x200044 + 0x200 * i
/-- TSK_ABORT_TAG of context i. -/
def Reg.tskAbortTag (i : Nat) : Nat := 0x200048 + 0x200 * i
/-- TSK_ABORT_RESULT of context i. -/
def Reg.tskAbortResult (i : Nat) : Nat := 0x20004c + 0x200 * i
/-- DLR_TABLE_SEL. -/
def Reg.dlrTableSel : Nat := 0xf0000
/-- DLR_TABLE_STATE. -/
def Reg.dlrTableState : Nat := 0xf0004
/-- DLR_TABLE_WAIT. -/
def Reg.dlrTableWait : Nat := 0xf0008
/-- DLR_TABLE_WAIT_MS. -/
def Reg.dlrTableWaitMs : Nat := 0xf000c
/-- DLR_TABLE_TRICK_LO. -/
def Reg.dlrTableTrickLo : Nat := 0xf0010
/-- DLR_TABLE_TRICK_HI. -/
def Reg.dlrTableTrickHi : Nat := 0xf0014
/-- DLR_TABLE_POS. -/
def Reg.dlrTablePos : Nat := 0xf0018
/-- DLR_TABLE_CUTS. -/
def Reg.dlrTableCuts : Nat := 0xf001c
/-- DLR_SEAT_ALERT. -/
def Reg.dlrSeatAlert : Nat := 0xf0020
/-- DLR_DECK_BUF_d of deck i. -/
def Reg.dlrDeckBuf (i : Nat) : Nat := 0xf0040 + 0x4 * i
/-- CTX_CUT_OPTIONS of context i. -/
def Reg.ctxCutOptions (i : Nat) : Nat := 0x100014 + 0x100 * i
/-- CUT_STATUS. -/
def Reg.cutStatus : Nat := 0xd0000
/-- CUT_ARB. -/
def Reg.cutArb : Nat := 0xd0004
/-- CUT_STAGE. -/
def Reg.cutStage : Nat := 0xd0008
/-- CUT_VERIFY_COUNT. -/
def Reg.cutVerifyCount : Nat := 0xd000c
/-- CUT_ENGINE_OFF_LO. -/
def Reg.cutEngineOffLo : Nat := 0xd0010
/-- CUT_ENGINE_OFF_HI. -/
def Reg.cutEngineOffHi : Nat := 0xd0014
/-- CUT_LAST_VERIFY. -/
def Reg.cutLastVerify : Nat := 0xd0018
/-- CUT_LIMIT. -/
def Reg.cutLimit : Nat := 0xd001c
/-- KEY_SEL. -/
def Reg.keySel : Nat := 0xe0000
/-- KEY_DATA_k. -/
def Reg.keyData (i : Nat) : Nat := 0xe0004 + 0x4 * i
/-- KEY_SALT. -/
def Reg.keySalt : Nat := 0xe0024
/-- KEY_LABEL_LO. -/
def Reg.keyLabelLo : Nat := 0xe0028
/-- KEY_LABEL_HI. -/
def Reg.keyLabelHi : Nat := 0xe002c
/-- KEY_BASE_LO. -/
def Reg.keyBaseLo : Nat := 0xe0030
/-- KEY_BASE_HI. -/
def Reg.keyBaseHi : Nat := 0xe0034
/-- KEY_COMMAND. -/
def Reg.keyCommand : Nat := 0xe0038
/-- KEY_STATUS. -/
def Reg.keyStatus : Nat := 0xe003c
/-- KEY_SLOT_STATE. -/
def Reg.keySlotState : Nat := 0xe0040
/-- KEY_SLOT_LABEL_LO. -/
def Reg.keySlotLabelLo : Nat := 0xe0044
/-- KEY_SLOT_LABEL_HI. -/
def Reg.keySlotLabelHi : Nat := 0xe0048
/-- KEY_SLOT_SALT. -/
def Reg.keySlotSalt : Nat := 0xe004c
/-- KEY_SLOT_NEXT_LO. -/
def Reg.keySlotNextLo : Nat := 0xe0050
/-- KEY_SLOT_NEXT_HI. -/
def Reg.keySlotNextHi : Nat := 0xe0054
/-- DKd_LOUPE_CTRL of deck i. -/
def Reg.dkLoupeCtrl (i : Nat) : Nat := 0x84000 + 0x10000 * i
/-- DKd_LOUPE_HEALTH of deck i. -/
def Reg.dkLoupeHealth (i : Nat) : Nat := 0x84004 + 0x10000 * i
/-- DKd_LOUPE_STATUS of deck i. -/
def Reg.dkLoupeStatus (i : Nat) : Nat := 0x84008 + 0x10000 * i
/-- DKd_LOUPE_RETIRED_k of deck i, index j. -/
def Reg.dkLoupeRetired (i j : Nat) : Nat := 0x84010 + 0x10000 * i + 0x4 * j
/-- DKd_LOUPE_TRACK_SEL of deck i. -/
def Reg.dkLoupeTrackSel (i : Nat) : Nat := 0x84030 + 0x10000 * i
/-- DKd_LOUPE_TRACK_STATE of deck i. -/
def Reg.dkLoupeTrackState (i : Nat) : Nat := 0x84034 + 0x10000 * i
/-- DKd_LOUPE_TRACK_CNT_g of deck i, index j. -/
def Reg.dkLoupeTrackCnt (i j : Nat) : Nat := 0x84038 + 0x10000 * i + 0x4 * j
/-- DKd_LOUPE_WRAP_x of deck i, index j. -/
def Reg.dkLoupeWrap (i j : Nat) : Nat := 0x84050 + 0x10000 * i + 0x4 * j
/-- DKd_LOUPE_RETAIN of deck i. -/
def Reg.dkLoupeRetain (i : Nat) : Nat := 0x84060 + 0x10000 * i
/-- DKd_RESTORE_CTRL of deck i. -/
def Reg.dkRestoreCtrl (i : Nat) : Nat := 0x86000 + 0x10000 * i
/-- DKd_RESTORE_STATUS of deck i. -/
def Reg.dkRestoreStatus (i : Nat) : Nat := 0x86004 + 0x10000 * i
/-- DKd_RESTORE_CNT_x of deck i, index j. -/
def Reg.dkRestoreCnt (i j : Nat) : Nat := 0x86010 + 0x10000 * i + 0x4 * j
/-- DKd_RESTORE_FAIL_LO of deck i. -/
def Reg.dkRestoreFailLo (i : Nat) : Nat := 0x86030 + 0x10000 * i
/-- DKd_RESTORE_FAIL_HI of deck i. -/
def Reg.dkRestoreFailHi (i : Nat) : Nat := 0x86034 + 0x10000 * i
/-- DKd_RESTORE_ANCHORS of deck i. -/
def Reg.dkRestoreAnchors (i : Nat) : Nat := 0x86038 + 0x10000 * i
/-- DLR_TABLE_GUARANTEE. -/
def Reg.dlrTableGuarantee : Nat := 0xf0024
/-- JAS_STATUS. -/
def Reg.jasStatus : Nat := 0xc0000
/-- JAS_GANG. -/
def Reg.jasGang : Nat := 0xc0004
/-- JAS_Dd_STATE of deck i. -/
def Reg.jasState (i : Nat) : Nat := 0xc1000 + 0x1000 * i
/-- JAS_Dd_CONTROL of deck i. -/
def Reg.jasControl (i : Nat) : Nat := 0xc1004 + 0x1000 * i
/-- JAS_Dd_PACE_REF of deck i. -/
def Reg.jasPaceRef (i : Nat) : Nat := 0xc1008 + 0x1000 * i
/-- JAS_Dd_SPEED_LIMITS of deck i. -/
def Reg.jasSpeedLimits (i : Nat) : Nat := 0xc100c + 0x1000 * i
/-- JAS_Dd_SLEW of deck i. -/
def Reg.jasSlew (i : Nat) : Nat := 0xc1010 + 0x1000 * i
/-- JAS_Dd_TENSION_WIN of deck i. -/
def Reg.jasTensionWin (i : Nat) : Nat := 0xc1014 + 0x1000 * i
/-- JAS_Dd_SPEED of deck i. -/
def Reg.jasSpeed (i : Nat) : Nat := 0xc1018 + 0x1000 * i
/-- JAS_Dd_FILL of deck i. -/
def Reg.jasFill (i : Nat) : Nat := 0xc101c + 0x1000 * i
/-- JAS_Dd_HANDOVER_l of deck i, index j. -/
def Reg.jasHandover (i j : Nat) : Nat := 0xc1020 + 0x1000 * i + 0x4 * j
/-- JAS_Dd_COEF_SEL of deck i. -/
def Reg.jasCoefSel (i : Nat) : Nat := 0xc1030 + 0x1000 * i
/-- JAS_Dd_COEF_MANT of deck i. -/
def Reg.jasCoefMant (i : Nat) : Nat := 0xc1034 + 0x1000 * i
/-- JAS_Dd_COEF_SHIFT of deck i. -/
def Reg.jasCoefShift (i : Nat) : Nat := 0xc1038 + 0x1000 * i
/-- JAS_Dd_STAGE_INFO of deck i. -/
def Reg.jasStageInfo (i : Nat) : Nat := 0xc103c + 0x1000 * i
/-- JAS_Dd_TLM_DISCARD of deck i. -/
def Reg.jasTlmDiscard (i : Nat) : Nat := 0xc1040 + 0x1000 * i
/-- JAS_Dd_TIMING of deck i. -/
def Reg.jasTiming (i : Nat) : Nat := 0xc1044 + 0x1000 * i
/-- JAS_Dd_TRc_CTRL of deck i, index j. -/
def Reg.jasTrCtrl (i j : Nat) : Nat := 0xc1100 + 0x1000 * i + 0x20 * j
/-- JAS_Dd_TRc_SRC of deck i, index j. -/
def Reg.jasTrSrc (i j : Nat) : Nat := 0xc1104 + 0x1000 * i + 0x20 * j
/-- JAS_Dd_TRc_TRIG of deck i, index j. -/
def Reg.jasTrTrig (i j : Nat) : Nat := 0xc1108 + 0x1000 * i + 0x20 * j
/-- JAS_Dd_TRc_LEVEL of deck i, index j. -/
def Reg.jasTrLevel (i j : Nat) : Nat := 0xc110c + 0x1000 * i + 0x20 * j
/-- JAS_Dd_TRc_STATUS of deck i, index j. -/
def Reg.jasTrStatus (i j : Nat) : Nat := 0xc1110 + 0x1000 * i + 0x20 * j
/-- JAS_Dd_TRc_STAMP_LO of deck i, index j. -/
def Reg.jasTrStampLo (i j : Nat) : Nat := 0xc1114 + 0x1000 * i + 0x20 * j
/-- JAS_Dd_TRc_STAMP_HI of deck i, index j. -/
def Reg.jasTrStampHi (i j : Nat) : Nat := 0xc1118 + 0x1000 * i + 0x20 * j
/-- JAS_Dd_TRc_DATA of deck i, index j. -/
def Reg.jasTrData (i j : Nat) : Nat := 0xc111c + 0x1000 * i + 0x20 * j
/-- SHO_POOL_SEL. -/
def Reg.shoPoolSel : Nat := 0x50000
/-- SHO_POOL_CFG. -/
def Reg.shoPoolCfg : Nat := 0x50004
/-- SHO_POOL_FIRST. -/
def Reg.shoPoolFirst : Nat := 0x50008
/-- SHO_POOL_COUNT. -/
def Reg.shoPoolCount : Nat := 0x5000c
/-- SHO_POOL_STATUS. -/
def Reg.shoPoolStatus : Nat := 0x50010
/-- SHO_POOL_ERRS. -/
def Reg.shoPoolErrs : Nat := 0x50014
/-- SHO_DECK_POOLS_d of deck i. -/
def Reg.shoDeckPools (i : Nat) : Nat := 0x50040 + 0x4 * i
/-- SHO_HOST_CMD. -/
def Reg.shoHostCmd : Nat := 0x50080
/-- SHO_HOST_RESULT. -/
def Reg.shoHostResult : Nat := 0x50084
/-- SHO_WIN_SEL. -/
def Reg.shoWinSel : Nat := 0x50088
/-- SHO_LAST_REFUSED. -/
def Reg.shoLastRefused : Nat := 0x5008c
/-- SHO_WIN. -/
def Reg.shoWin (i : Nat) : Nat := 0x51000 + 0x4 * i
/-- MIC_REGION_SEL. -/
def Reg.micRegionSel : Nat := 0x60000
/-- MIC_REGION_CFG. -/
def Reg.micRegionCfg : Nat := 0x60004
/-- MIC_REGION_CHIPS. -/
def Reg.micRegionChips : Nat := 0x60008
/-- MIC_HBM_STATUS_s. -/
def Reg.micHbmStatus (i : Nat) : Nat := 0x60010 + 0x4 * i
/-- MIC_FILL_FIRST. -/
def Reg.micFillFirst : Nat := 0x60020
/-- MIC_FILL_COUNT. -/
def Reg.micFillCount : Nat := 0x60024
/-- MIC_FILL_PATTERN. -/
def Reg.micFillPattern : Nat := 0x60028
/-- MIC_REMAP. -/
def Reg.micRemap : Nat := 0x60030
/-- MIC_SELFTEST. -/
def Reg.micSelftest : Nat := 0x60034
/-- MIC_ERR_CNT_x. -/
def Reg.micErrCnt (i : Nat) : Nat := 0x60040 + 0x4 * i
/-- MIC_LAST_ERR_LO. -/
def Reg.micLastErrLo : Nat := 0x60050
/-- MIC_LAST_ERR_HI. -/
def Reg.micLastErrHi : Nat := 0x60054
/-- MIC_POLISH_CTRL. -/
def Reg.micPolishCtrl : Nat := 0x60060
/-- MIC_POLISH_STATUS. -/
def Reg.micPolishStatus : Nat := 0x60064
/-- CFG_STATUS. -/
def Reg.cfgStatus : Nat := 0x40000
/-- CFG_BOOT. -/
def Reg.cfgBoot : Nat := 0x40004
/-- CFG_SLOT_SEL. -/
def Reg.cfgSlotSel : Nat := 0x40008
/-- CFG_SLOT_STATE. -/
def Reg.cfgSlotState : Nat := 0x4000c
/-- CFG_SLOT_ID. -/
def Reg.cfgSlotId : Nat := 0x40010
/-- CFG_SRC_LO. -/
def Reg.cfgSrcLo : Nat := 0x40014
/-- CFG_SRC_HI. -/
def Reg.cfgSrcHi : Nat := 0x40018
/-- CFG_SRC_LEN. -/
def Reg.cfgSrcLen : Nat := 0x4001c
/-- CFG_COMMAND. -/
def Reg.cfgCommand : Nat := 0x40020
/-- CFG_RESULT. -/
def Reg.cfgResult : Nat := 0x40024
/-- CFG_ACTIVE_ID. -/
def Reg.cfgActiveId : Nat := 0x40028
/-- CFG_ACTIVE_CHECK. -/
def Reg.cfgActiveCheck : Nat := 0x4002c
/-- CFG_ACT_COUNT. -/
def Reg.cfgActCount : Nat := 0x40030
/-- CFG_PENDING. -/
def Reg.cfgPending : Nat := 0x40034
/-- CFG_DECK_EPOCH_d of deck i. -/
def Reg.cfgDeckEpoch (i : Nat) : Nat := 0x40040 + 0x4 * i
/-- CTX_EPOCH of context i. -/
def Reg.ctxEpoch (i : Nat) : Nat := 0x100058 + 0x100 * i
/-- DKd_LNK_CTRL of deck i. -/
def Reg.dkLnkCtrl (i : Nat) : Nat := 0x80000 + 0x10000 * i
/-- DKd_LNK_STATE of deck i. -/
def Reg.dkLnkState (i : Nat) : Nat := 0x80004 + 0x10000 * i
/-- DKd_LNK_LOCK of deck i. -/
def Reg.dkLnkLock (i : Nat) : Nat := 0x80008 + 0x10000 * i
/-- DKd_LNK_ERRS of deck i. -/
def Reg.dkLnkErrs (i : Nat) : Nat := 0x8000c + 0x10000 * i
/-- DKd_LNK_CREDIT of deck i. -/
def Reg.dkLnkCredit (i : Nat) : Nat := 0x80010 + 0x10000 * i
/-- DKd_LNK_FE_INFO of deck i. -/
def Reg.dkLnkFeInfo (i : Nat) : Nat := 0x80014 + 0x10000 * i
/-- DKd_LNK_FE_ADDR of deck i. -/
def Reg.dkLnkFeAddr (i : Nat) : Nat := 0x80018 + 0x10000 * i
/-- DKd_LNK_FE_DATA of deck i. -/
def Reg.dkLnkFeData (i : Nat) : Nat := 0x8001c + 0x10000 * i
/-- DKd_LNK_FE_CMD of deck i. -/
def Reg.dkLnkFeCmd (i : Nat) : Nat := 0x80020 + 0x10000 * i
/-- LNK_PORT_STATUS_p. -/
def Reg.lnkPortStatus (i : Nat) : Nat := 0x70000 + 0x4 * i
/-- LNK_CTRL. -/
def Reg.lnkCtrl : Nat := 0x70008
/-- LNK_ERR_p. -/
def Reg.lnkErr (i : Nat) : Nat := 0x70010 + 0x4 * i
/-- LNK_DMA_ERR_LO. -/
def Reg.lnkDmaErrLo : Nat := 0x70018
/-- LNK_DMA_ERR_HI. -/
def Reg.lnkDmaErrHi : Nat := 0x7001c
/-- LNK_DOORBELL_LO. -/
def Reg.lnkDoorbellLo : Nat := 0x70020
/-- LNK_DOORBELL_HI. -/
def Reg.lnkDoorbellHi : Nat := 0x70024
/-- LNK_MMIO_ERR. -/
def Reg.lnkMmioErr : Nat := 0x70028
/-- GLB_BOOT_STATUS. -/
def Reg.glbBootStatus : Nat := 0x4
/-- GLB_RESET. -/
def Reg.glbReset : Nat := 0x8
/-- GLB_RESET_CAUSE. -/
def Reg.glbResetCause : Nat := 0xc
/-- GLB_POWER. -/
def Reg.glbPower : Nat := 0x10
/-- GLB_PFAIL. -/
def Reg.glbPfail : Nat := 0x14
/-- SEC_STATE. -/
def Reg.secState : Nat := 0x10000
/-- SEC_PRESENCE_CFG. -/
def Reg.secPresenceCfg : Nat := 0x10004
/-- SEC_CONTROL. -/
def Reg.secControl : Nat := 0x10008
/-- SEC_DEBUG. -/
def Reg.secDebug : Nat := 0x1000c
/-- SEC_SEAL. -/
def Reg.secSeal : Nat := 0x10010
/-- SEC_REFUSED. -/
def Reg.secRefused : Nat := 0x10014
/-- SEC_REFUSED_ADDR. -/
def Reg.secRefusedAddr : Nat := 0x10018
/-- NVM_STATUS. -/
def Reg.nvmStatus : Nat := 0x30000
/-- NVM_PARK. -/
def Reg.nvmPark : Nat := 0x30004
/-- NVM_RD_DELAY. -/
def Reg.nvmRdDelay : Nat := 0x30008
/-- NVM_ADDR. -/
def Reg.nvmAddr : Nat := 0x3000c
/-- NVM_CMD. -/
def Reg.nvmCmd : Nat := 0x30010
/-- NVM_RESULT. -/
def Reg.nvmResult : Nat := 0x30014
/-- NVM_WP_k. -/
def Reg.nvmWp (i : Nat) : Nat := 0x30020 + 0x4 * i
/-- NVM_WP_SET_k. -/
def Reg.nvmWpSet (i : Nat) : Nat := 0x30040 + 0x4 * i
/-- NVM_WP_CLR_k. -/
def Reg.nvmWpClr (i : Nat) : Nat := 0x30060 + 0x4 * i
/-- NVM_WP_POLICY_k. -/
def Reg.nvmWpPolicy (i : Nat) : Nat := 0x30080 + 0x4 * i
/-- NVM_STORE_SEQ. -/
def Reg.nvmStoreSeq : Nat := 0x300a0
/-- NVM_WIN_SEL. -/
def Reg.nvmWinSel : Nat := 0x300a4
/-- NVM_PAGE. -/
def Reg.nvmPage (i : Nat) : Nat := 0x30200 + 0x4 * i
/-- NVM_WIN. -/
def Reg.nvmWin (i : Nat) : Nat := 0x31000 + 0x4 * i
/-- NVM_CAL. -/
def Reg.nvmCal (i : Nat) : Nat := 0x32000 + 0x4 * i
/-- EVT_SP_STATUS. -/
def Reg.evtSpStatus : Nat := 0x20000
/-- EVT_SP_CTRL. -/
def Reg.evtSpCtrl : Nat := 0x20004
/-- EVT_SP_CURSOR. -/
def Reg.evtSpCursor : Nat := 0x20008
/-- EVT_SP_DROPPED. -/
def Reg.evtSpDropped : Nat := 0x2000c
/-- EVT_SP_WIN_k. -/
def Reg.evtSpWin (i : Nat) : Nat := 0x20040 + 0x4 * i
/-- EVT_SRC_SEL. -/
def Reg.evtSrcSel : Nat := 0x20100
/-- EVT_SRC_CFG. -/
def Reg.evtSrcCfg : Nat := 0x20104
/-- EVT_SRC_SNAP_k. -/
def Reg.evtSrcSnap (i : Nat) : Nat := 0x20108 + 0x4 * i
/-- EVT_NTC_STATUS. -/
def Reg.evtNtcStatus : Nat := 0x20200
/-- EVT_NTC_POP. -/
def Reg.evtNtcPop : Nat := 0x20204
/-- EVT_NTC_LOST_c. -/
def Reg.evtNtcLost (i : Nat) : Nat := 0x20210 + 0x4 * i
/-- EVT_WALL. -/
def Reg.evtWall : Nat := 0x20300
/-- EVT_HOURS. -/
def Reg.evtHours : Nat := 0x20304
/-- EVT_CYCLES. -/
def Reg.evtCycles : Nat := 0x20308
/-- EVT_MTR_BASE_LO. -/
def Reg.evtMtrBaseLo : Nat := 0x20400
/-- EVT_MTR_BASE_HI. -/
def Reg.evtMtrBaseHi : Nat := 0x20404
/-- EVT_MTR_CTRL. -/
def Reg.evtMtrCtrl : Nat := 0x20408
/-- EVT_MTR_HEAD. -/
def Reg.evtMtrHead : Nat := 0x2040c
/-- EVT_MTR_TAIL. -/
def Reg.evtMtrTail : Nat := 0x20410
/-- EVT_MTR_MISSED. -/
def Reg.evtMtrMissed : Nat := 0x20414
/-- GLB_STRAPS. -/
def Reg.glbStraps : Nat := 0x18
/-- GLB_AVS_CFG. -/
def Reg.glbAvsCfg : Nat := 0x50
/-- GLB_AVS_STATUS. -/
def Reg.glbAvsStatus : Nat := 0x54
/-- GLB_THERMAL. -/
def Reg.glbThermal : Nat := 0x58
/-- GLB_IDCODE. -/
def Reg.glbIdcode : Nat := 0x0
/-- CTX_STREAM_ID of context i. -/
def Reg.ctxStreamId (i : Nat) : Nat := 0x100008 + 0x100 * i
/-- CTX_KEY of context i. -/
def Reg.ctxKey (i : Nat) : Nat := 0x100010 + 0x100 * i
/-- CTX_ECC_PROFILE of context i. -/
def Reg.ctxEccProfile (i : Nat) : Nat := 0x100018 + 0x100 * i
/-- CTX_CHIP_QUOTA of context i. -/
def Reg.ctxChipQuota (i : Nat) : Nat := 0x100020 + 0x100 * i
/-- CTX_SEAT of context i. -/
def Reg.ctxSeat (i : Nat) : Nat := 0x100024 + 0x100 * i
/-- CTX_RING_BASE_LO of context i. -/
def Reg.ctxRingBaseLo (i : Nat) : Nat := 0x100028 + 0x100 * i
/-- CTX_RING_BASE_HI of context i. -/
def Reg.ctxRingBaseHi (i : Nat) : Nat := 0x10002c + 0x100 * i
/-- CTX_RING_HEAD of context i. -/
def Reg.ctxRingHead (i : Nat) : Nat := 0x100034 + 0x100 * i
/-- CTX_RING_TAIL of context i. -/
def Reg.ctxRingTail (i : Nat) : Nat := 0x100038 + 0x100 * i
/-- CTX_DEFERRED_FIRST_LO of context i. -/
def Reg.ctxDeferredFirstLo (i : Nat) : Nat := 0x100044 + 0x100 * i
/-- CTX_DEFERRED_FIRST_HI of context i. -/
def Reg.ctxDeferredFirstHi (i : Nat) : Nat := 0x100048 + 0x100 * i
/-- CTX_DEFERRED_COUNT of context i. -/
def Reg.ctxDeferredCount (i : Nat) : Nat := 0x10004c + 0x100 * i
/-- CTX_POSITION_LO of context i. -/
def Reg.ctxPositionLo (i : Nat) : Nat := 0x100050 + 0x100 * i
/-- CTX_POSITION_HI of context i. -/
def Reg.ctxPositionHi (i : Nat) : Nat := 0x100054 + 0x100 * i
/-- CTX_MTR of context i, index j. -/
def Reg.ctxMtr (i j : Nat) : Nat := 0x100080 + 0x100 * i + 0x4 * j

/-- GLB_SLACK_STATUS.CAPPING -/
def Fld.glbSlackStatusCapping : Fld := ⟨31, 31⟩
/-- GLB_SLACK_STATUS.CAP -/
def Fld.glbSlackStatusCap : Fld := ⟨24, 16⟩
/-- GLB_SLACK_STATUS.SUSTAIN -/
def Fld.glbSlackStatusSustain : Fld := ⟨8, 0⟩
/-- GLB_PACE_TARGET.VDD_REQ_MV -/
def Fld.glbPaceTargetVddReqMv : Fld := ⟨25, 16⟩
/-- GLB_PACE_TARGET.TARGET -/
def Fld.glbPaceTargetTarget : Fld := ⟨8, 0⟩
/-- GLB_ISLAND_FAULT.FAULT -/
def Fld.glbIslandFaultFault : Fld := ⟨24, 0⟩
/-- CTX_STATE.ENABLED -/
def Fld.ctxStateEnabled : Fld := ⟨31, 31⟩
/-- CTX_STATE.DEFERRED -/
def Fld.ctxStateDeferred : Fld := ⟨30, 30⟩
/-- CTX_STATE.RING_STALL -/
def Fld.ctxStateRingStall : Fld := ⟨29, 29⟩
/-- CTX_STATE.INFLIGHT -/
def Fld.ctxStateInflight : Fld := ⟨15, 0⟩
/-- CTX_CONTROL.RESET -/
def Fld.ctxControlReset : Fld := ⟨1, 1⟩
/-- CTX_CONTROL.ENABLE -/
def Fld.ctxControlEnable : Fld := ⟨0, 0⟩
/-- CTX_BIND.BOUND -/
def Fld.ctxBindBound : Fld := ⟨31, 31⟩
/-- CTX_BIND.DECK -/
def Fld.ctxBindDeck : Fld := ⟨9, 8⟩
/-- CTX_BIND.PARTITION -/
def Fld.ctxBindPartition : Fld := ⟨5, 0⟩
/-- CTX_QUOTA.MAX_TASKS -/
def Fld.ctxQuotaMaxTasks : Fld := ⟨15, 0⟩
/-- CTX_RING_CTRL.NOTIFY_ALL -/
def Fld.ctxRingCtrlNotifyAll : Fld := ⟨8, 8⟩
/-- CTX_RING_CTRL.SIZE_LOG2 -/
def Fld.ctxRingCtrlSizeLog2 : Fld := ⟨4, 0⟩
/-- CTX_DEFERRED_STATUS.PENDING -/
def Fld.ctxDeferredStatusPending : Fld := ⟨31, 31⟩
/-- CTX_DEFERRED_STATUS.MERGED -/
def Fld.ctxDeferredStatusMerged : Fld := ⟨30, 30⟩
/-- CTX_DEFERRED_STATUS.CAUSE -/
def Fld.ctxDeferredStatusCause : Fld := ⟨7, 0⟩
/-- TSK_RECORD_k.DATA -/
def Fld.tskRecordData : Fld := ⟨31, 0⟩
/-- TSK_DOORBELL.RING -/
def Fld.tskDoorbellRing : Fld := ⟨31, 0⟩
/-- TSK_STATUS.INFLIGHT -/
def Fld.tskStatusInflight : Fld := ⟨31, 16⟩
/-- TSK_STATUS.SEQ -/
def Fld.tskStatusSeq : Fld := ⟨15, 8⟩
/-- TSK_STATUS.STATE -/
def Fld.tskStatusState : Fld := ⟨2, 0⟩
/-- TSK_ABORT_TAG.TAG -/
def Fld.tskAbortTagTag : Fld := ⟨31, 0⟩
/-- TSK_ABORT_RESULT.SEQ -/
def Fld.tskAbortResultSeq : Fld := ⟨15, 8⟩
/-- TSK_ABORT_RESULT.STATE -/
def Fld.tskAbortResultState : Fld := ⟨2, 0⟩
/-- DLR_TABLE_SEL.DECK -/
def Fld.dlrTableSelDeck : Fld := ⟨9, 8⟩
/-- DLR_TABLE_SEL.PARTITION -/
def Fld.dlrTableSelPartition : Fld := ⟨5, 0⟩
/-- DLR_TABLE_STATE.MODE -/
def Fld.dlrTableStateMode : Fld := ⟨31, 30⟩
/-- DLR_TABLE_STATE.ACTIVE -/
def Fld.dlrTableStateActive : Fld := ⟨29, 29⟩
/-- DLR_TABLE_STATE.WAITING -/
def Fld.dlrTableStateWaiting : Fld := ⟨28, 28⟩
/-- DLR_TABLE_STATE.SEAT_COUNT -/
def Fld.dlrTableStateSeatCount : Fld := ⟨24, 16⟩
/-- DLR_TABLE_STATE.HOLDER_VALID -/
def Fld.dlrTableStateHolderValid : Fld := ⟨12, 12⟩
/-- DLR_TABLE_STATE.HOLDER -/
def Fld.dlrTableStateHolder : Fld := ⟨11, 0⟩
/-- DLR_TABLE_WAIT.SEAT -/
def Fld.dlrTableWaitSeat : Fld := ⟨23, 16⟩
/-- DLR_TABLE_WAIT.CONTEXT -/
def Fld.dlrTableWaitContext : Fld := ⟨11, 0⟩
/-- DLR_TABLE_WAIT_MS.MS -/
def Fld.dlrTableWaitMsMs : Fld := ⟨31, 0⟩
/-- DLR_TABLE_TRICK_LO.TRICK -/
def Fld.dlrTableTrickLoTrick : Fld := ⟨31, 0⟩
/-- DLR_TABLE_TRICK_HI.TRICK -/
def Fld.dlrTableTrickHiTrick : Fld := ⟨7, 0⟩
/-- DLR_TABLE_POS.HAND -/
def Fld.dlrTablePosHand : Fld := ⟨20, 16⟩
/-- DLR_TABLE_POS.ENTRIES -/
def Fld.dlrTablePosEntries : Fld := ⟨15, 8⟩
/-- DLR_TABLE_POS.TRICK -/
def Fld.dlrTablePosTrick : Fld := ⟨6, 0⟩
/-- DLR_TABLE_CUTS.COUNT -/
def Fld.dlrTableCutsCount : Fld := ⟨31, 0⟩
/-- DLR_SEAT_ALERT.ALERT_MS -/
def Fld.dlrSeatAlertAlertMs : Fld := ⟨15, 0⟩
/-- DLR_DECK_BUF_d.ROUNDS -/
def Fld.dlrDeckBufRounds : Fld := ⟨31, 30⟩
/-- DLR_DECK_BUF_d.STALLED -/
def Fld.dlrDeckBufStalled : Fld := ⟨29, 29⟩
/-- DLR_DECK_BUF_d.CHIPS -/
def Fld.dlrDeckBufChips : Fld := ⟨19, 0⟩
/-- CTX_CUT_OPTIONS.BLOCK_SIZE -/
def Fld.ctxCutOptionsBlockSize : Fld := ⟨11, 8⟩
/-- CTX_CUT_OPTIONS.PRED_OFF -/
def Fld.ctxCutOptionsPredOff : Fld := ⟨7, 4⟩
/-- CTX_CUT_OPTIONS.SPAN -/
def Fld.ctxCutOptionsSpan : Fld := ⟨1, 1⟩
/-- CTX_CUT_OPTIONS.RAW_ONLY -/
def Fld.ctxCutOptionsRawOnly : Fld := ⟨0, 0⟩
/-- CUT_STATUS.BUSY -/
def Fld.cutStatusBusy : Fld := ⟨22, 16⟩
/-- CUT_STATUS.IN_SERVICE -/
def Fld.cutStatusInService : Fld := ⟨6, 0⟩
/-- CUT_ARB.JOB_W -/
def Fld.cutArbJobW : Fld := ⟨11, 8⟩
/-- CUT_ARB.RESTORE_W -/
def Fld.cutArbRestoreW : Fld := ⟨7, 4⟩
/-- CUT_ARB.WRITE_W -/
def Fld.cutArbWriteW : Fld := ⟨3, 0⟩
/-- CUT_STAGE.POOL -/
def Fld.cutStagePool : Fld := ⟨5, 0⟩
/-- CUT_VERIFY_COUNT.COUNT -/
def Fld.cutVerifyCountCount : Fld := ⟨31, 0⟩
/-- CUT_ENGINE_OFF_LO.OFF -/
def Fld.cutEngineOffLoOff : Fld := ⟨31, 0⟩
/-- CUT_ENGINE_OFF_HI.OFF -/
def Fld.cutEngineOffHiOff : Fld := ⟨31, 0⟩
/-- CUT_LAST_VERIFY.CONTEXT -/
def Fld.cutLastVerifyContext : Fld := ⟨27, 16⟩
/-- CUT_LAST_VERIFY.ENGINE -/
def Fld.cutLastVerifyEngine : Fld := ⟨5, 0⟩
/-- CUT_LIMIT.LIMIT -/
def Fld.cutLimitLimit : Fld := ⟨18, 0⟩
/-- KEY_SEL.SLOT -/
def Fld.keySelSlot : Fld := ⟨11, 0⟩
/-- KEY_DATA_k.DATA -/
def Fld.keyDataData : Fld := ⟨31, 0⟩
/-- KEY_SALT.SALT -/
def Fld.keySaltSalt : Fld := ⟨31, 0⟩
/-- KEY_LABEL_LO.LABEL -/
def Fld.keyLabelLoLabel : Fld := ⟨31, 0⟩
/-- KEY_LABEL_HI.LABEL -/
def Fld.keyLabelHiLabel : Fld := ⟨31, 0⟩
/-- KEY_BASE_LO.BASE -/
def Fld.keyBaseLoBase : Fld := ⟨31, 0⟩
/-- KEY_BASE_HI.BASE -/
def Fld.keyBaseHiBase : Fld := ⟨31, 0⟩
/-- KEY_COMMAND.OP -/
def Fld.keyCommandOp : Fld := ⟨1, 0⟩
/-- KEY_STATUS.BUSY -/
def Fld.keyStatusBusy : Fld := ⟨31, 31⟩
/-- KEY_STATUS.SEQ_RESULT -/
def Fld.keyStatusSeqResult : Fld := ⟨7, 0⟩
/-- KEY_SLOT_STATE.STATE -/
def Fld.keySlotStateState : Fld := ⟨1, 0⟩
/-- KEY_SLOT_LABEL_LO.LABEL -/
def Fld.keySlotLabelLoLabel : Fld := ⟨31, 0⟩
/-- KEY_SLOT_LABEL_HI.LABEL -/
def Fld.keySlotLabelHiLabel : Fld := ⟨31, 0⟩
/-- KEY_SLOT_SALT.SALT -/
def Fld.keySlotSaltSalt : Fld := ⟨31, 0⟩
/-- KEY_SLOT_NEXT_LO.NEXT -/
def Fld.keySlotNextLoNext : Fld := ⟨31, 0⟩
/-- KEY_SLOT_NEXT_HI.NEXT -/
def Fld.keySlotNextHiNext : Fld := ⟨31, 0⟩
/-- DKd_LOUPE_CTRL.RETIRE_EN -/
def Fld.dkLoupeCtrlRetireEn : Fld := ⟨24, 24⟩
/-- DKd_LOUPE_CTRL.REPEAT_MAX -/
def Fld.dkLoupeCtrlRepeatMax : Fld := ⟨17, 16⟩
/-- DKd_LOUPE_CTRL.SQ_DOWN -/
def Fld.dkLoupeCtrlSqDown : Fld := ⟨15, 8⟩
/-- DKd_LOUPE_CTRL.MAX_REWRITES -/
def Fld.dkLoupeCtrlMaxRewrites : Fld := ⟨5, 4⟩
/-- DKd_LOUPE_CTRL.T_OK -/
def Fld.dkLoupeCtrlTOk : Fld := ⟨2, 0⟩
/-- DKd_LOUPE_HEALTH.SQ_WATCH -/
def Fld.dkLoupeHealthSqWatch : Fld := ⟨31, 24⟩
/-- DKd_LOUPE_HEALTH.SQ_RUN -/
def Fld.dkLoupeHealthSqRun : Fld := ⟨23, 16⟩
/-- DKd_LOUPE_HEALTH.RETIRE_N -/
def Fld.dkLoupeHealthRetireN : Fld := ⟨12, 8⟩
/-- DKd_LOUPE_HEALTH.WATCH_N -/
def Fld.dkLoupeHealthWatchN : Fld := ⟨4, 0⟩
/-- DKd_LOUPE_STATUS.STOPPED -/
def Fld.dkLoupeStatusStopped : Fld := ⟨31, 31⟩
/-- DKd_LOUPE_STATUS.RETIRED -/
def Fld.dkLoupeStatusRetired : Fld := ⟨27, 24⟩
/-- DKd_LOUPE_STATUS.BACKLOG -/
def Fld.dkLoupeStatusBacklog : Fld := ⟨23, 0⟩
/-- DKd_LOUPE_RETIRED_k.VALID -/
def Fld.dkLoupeRetiredValid : Fld := ⟨31, 31⟩
/-- DKd_LOUPE_RETIRED_k.TRACK -/
def Fld.dkLoupeRetiredTrack : Fld := ⟨9, 0⟩
/-- DKd_LOUPE_TRACK_SEL.TRACK -/
def Fld.dkLoupeTrackSelTrack : Fld := ⟨9, 0⟩
/-- DKd_LOUPE_TRACK_STATE.WINDOW_BAD -/
def Fld.dkLoupeTrackStateWindowBad : Fld := ⟨20, 16⟩
/-- DKd_LOUPE_TRACK_STATE.SQ -/
def Fld.dkLoupeTrackStateSq : Fld := ⟨15, 8⟩
/-- DKd_LOUPE_TRACK_STATE.STATE -/
def Fld.dkLoupeTrackStateState : Fld := ⟨1, 0⟩
/-- DKd_LOUPE_TRACK_CNT_g.COUNT -/
def Fld.dkLoupeTrackCntCount : Fld := ⟨31, 0⟩
/-- DKd_LOUPE_WRAP_x.COUNT -/
def Fld.dkLoupeWrapCount : Fld := ⟨31, 0⟩
/-- DKd_LOUPE_RETAIN.OLDEST_MS -/
def Fld.dkLoupeRetainOldestMs : Fld := ⟨31, 16⟩
/-- DKd_LOUPE_RETAIN.TRICKS -/
def Fld.dkLoupeRetainTricks : Fld := ⟨11, 0⟩
/-- DKd_RESTORE_CTRL.POOL -/
def Fld.dkRestoreCtrlPool : Fld := ⟨21, 16⟩
/-- DKd_RESTORE_CTRL.RETRIES -/
def Fld.dkRestoreCtrlRetries : Fld := ⟨3, 0⟩
/-- DKd_RESTORE_STATUS.MODE -/
def Fld.dkRestoreStatusMode : Fld := ⟨31, 29⟩
/-- DKd_RESTORE_STATUS.RETRY -/
def Fld.dkRestoreStatusRetry : Fld := ⟨27, 24⟩
/-- DKd_RESTORE_STATUS.BUFFERED -/
def Fld.dkRestoreStatusBuffered : Fld := ⟨23, 0⟩
/-- DKd_RESTORE_CNT_x.COUNT -/
def Fld.dkRestoreCntCount : Fld := ⟨31, 0⟩
/-- DKd_RESTORE_FAIL_LO.TRICK -/
def Fld.dkRestoreFailLoTrick : Fld := ⟨31, 0⟩
/-- DKd_RESTORE_FAIL_HI.VALID -/
def Fld.dkRestoreFailHiValid : Fld := ⟨31, 31⟩
/-- DKd_RESTORE_FAIL_HI.TRICK -/
def Fld.dkRestoreFailHiTrick : Fld := ⟨7, 0⟩
/-- DKd_RESTORE_ANCHORS.FULL -/
def Fld.dkRestoreAnchorsFull : Fld := ⟨31, 31⟩
/-- DKd_RESTORE_ANCHORS.COUNT -/
def Fld.dkRestoreAnchorsCount : Fld := ⟨20, 0⟩
/-- DLR_TABLE_GUARANTEE.RAW_RECODE -/
def Fld.dlrTableGuaranteeRawRecode : Fld := ⟨6, 6⟩
/-- DLR_TABLE_GUARANTEE.EPOCH -/
def Fld.dlrTableGuaranteeEpoch : Fld := ⟨5, 5⟩
/-- DLR_TABLE_GUARANTEE.TRUNC -/
def Fld.dlrTableGuaranteeTrunc : Fld := ⟨4, 4⟩
/-- DLR_TABLE_GUARANTEE.KEY_MID -/
def Fld.dlrTableGuaranteeKeyMid : Fld := ⟨3, 3⟩
/-- DLR_TABLE_GUARANTEE.SHARED_SLOT -/
def Fld.dlrTableGuaranteeSharedSlot : Fld := ⟨2, 2⟩
/-- DLR_TABLE_GUARANTEE.SEAT_RESET -/
def Fld.dlrTableGuaranteeSeatReset : Fld := ⟨1, 1⟩
/-- DLR_TABLE_GUARANTEE.OPEN -/
def Fld.dlrTableGuaranteeOpen : Fld := ⟨0, 0⟩
/-- JAS_STATUS.ESTOP -/
def Fld.jasStatusEstop : Fld := ⟨11, 8⟩
/-- JAS_STATUS.STOPPED -/
def Fld.jasStatusStopped : Fld := ⟨7, 4⟩
/-- JAS_STATUS.FAULT -/
def Fld.jasStatusFault : Fld := ⟨3, 0⟩
/-- JAS_GANG.GANGED -/
def Fld.jasGangGanged : Fld := ⟨0, 0⟩
/-- JAS_Dd_STATE.FAULT -/
def Fld.jasStateFault : Fld := ⟨31, 31⟩
/-- JAS_Dd_STATE.HANDOVER -/
def Fld.jasStateHandover : Fld := ⟨20, 20⟩
/-- JAS_Dd_STATE.HOLD -/
def Fld.jasStateHold : Fld := ⟨19, 16⟩
/-- JAS_Dd_STATE.GATE_OFF -/
def Fld.jasStateGateOff : Fld := ⟨15, 15⟩
/-- JAS_Dd_STATE.CAPPED -/
def Fld.jasStateCapped : Fld := ⟨14, 14⟩
/-- JAS_Dd_STATE.LOCKED -/
def Fld.jasStateLocked : Fld := ⟨13, 13⟩
/-- JAS_Dd_STATE.LAT_MODE -/
def Fld.jasStateLatMode : Fld := ⟨12, 12⟩
/-- JAS_Dd_STATE.TAKEUP_MODE -/
def Fld.jasStateTakeupMode : Fld := ⟨10, 8⟩
/-- JAS_Dd_STATE.SUPPLY_MODE -/
def Fld.jasStateSupplyMode : Fld := ⟨6, 4⟩
/-- JAS_Dd_STATE.PACE -/
def Fld.jasStatePace : Fld := ⟨2, 0⟩
/-- JAS_Dd_CONTROL.STOP -/
def Fld.jasControlStop : Fld := ⟨8, 8⟩
/-- JAS_Dd_CONTROL.HOLD -/
def Fld.jasControlHold : Fld := ⟨3, 0⟩
/-- JAS_Dd_PACE_REF.B_REF -/
def Fld.jasPaceRefBRef : Fld := ⟨31, 16⟩
/-- JAS_Dd_PACE_REF.S_REF -/
def Fld.jasPaceRefSRef : Fld := ⟨15, 0⟩
/-- JAS_Dd_SPEED_LIMITS.VMAX -/
def Fld.jasSpeedLimitsVmax : Fld := ⟨31, 16⟩
/-- JAS_Dd_SPEED_LIMITS.VMIN -/
def Fld.jasSpeedLimitsVmin : Fld := ⟨15, 0⟩
/-- JAS_Dd_SLEW.J_MAX -/
def Fld.jasSlewJMax : Fld := ⟨31, 16⟩
/-- JAS_Dd_SLEW.A_MAX -/
def Fld.jasSlewAMax : Fld := ⟨15, 0⟩
/-- JAS_Dd_TENSION_WIN.STOP_DECEL -/
def Fld.jasTensionWinStopDecel : Fld := ⟨31, 24⟩
/-- JAS_Dd_TENSION_WIN.WAIT_MS -/
def Fld.jasTensionWinWaitMs : Fld := ⟨23, 16⟩
/-- JAS_Dd_TENSION_WIN.HI -/
def Fld.jasTensionWinHi : Fld := ⟨15, 8⟩
/-- JAS_Dd_TENSION_WIN.LO -/
def Fld.jasTensionWinLo : Fld := ⟨7, 0⟩
/-- JAS_Dd_SPEED.ACTUAL -/
def Fld.jasSpeedActual : Fld := ⟨31, 16⟩
/-- JAS_Dd_SPEED.SETPOINT -/
def Fld.jasSpeedSetpoint : Fld := ⟨15, 0⟩
/-- JAS_Dd_FILL.READ -/
def Fld.jasFillRead : Fld := ⟨31, 31⟩
/-- JAS_Dd_FILL.FILL -/
def Fld.jasFillFill : Fld := ⟨23, 0⟩
/-- JAS_Dd_HANDOVER_l.TIME -/
def Fld.jasHandoverTime : Fld := ⟨27, 16⟩
/-- JAS_Dd_HANDOVER_l.TOL -/
def Fld.jasHandoverTol : Fld := ⟨11, 0⟩
/-- JAS_Dd_COEF_SEL.LOOP -/
def Fld.jasCoefSelLoop : Fld := ⟨25, 24⟩
/-- JAS_Dd_COEF_SEL.STAGE -/
def Fld.jasCoefSelStage : Fld := ⟨20, 16⟩
/-- JAS_Dd_COEF_SEL.INDEX -/
def Fld.jasCoefSelIndex : Fld := ⟨2, 0⟩
/-- JAS_Dd_COEF_MANT.MANT -/
def Fld.jasCoefMantMant : Fld := ⟨31, 0⟩
/-- JAS_Dd_COEF_SHIFT.RESULT -/
def Fld.jasCoefShiftResult : Fld := ⟨31, 30⟩
/-- JAS_Dd_COEF_SHIFT.SHIFT -/
def Fld.jasCoefShiftShift : Fld := ⟨4, 0⟩
/-- JAS_Dd_STAGE_INFO.STAGES -/
def Fld.jasStageInfoStages : Fld := ⟨13, 8⟩
/-- JAS_Dd_STAGE_INFO.TYPE -/
def Fld.jasStageInfoType : Fld := ⟨3, 0⟩
/-- JAS_Dd_TLM_DISCARD.RUN -/
def Fld.jasTlmDiscardRun : Fld := ⟨31, 24⟩
/-- JAS_Dd_TLM_DISCARD.CHANNEL -/
def Fld.jasTlmDiscardChannel : Fld := ⟨23, 16⟩
/-- JAS_Dd_TLM_DISCARD.COUNT -/
def Fld.jasTlmDiscardCount : Fld := ⟨15, 0⟩
/-- JAS_Dd_TIMING.LATE -/
def Fld.jasTimingLate : Fld := ⟨31, 16⟩
/-- JAS_Dd_TIMING.OVERRUN -/
def Fld.jasTimingOverrun : Fld := ⟨15, 0⟩
/-- JAS_Dd_TRc_CTRL.PRE -/
def Fld.jasTrCtrlPre : Fld := ⟨28, 16⟩
/-- JAS_Dd_TRc_CTRL.DECIM -/
def Fld.jasTrCtrlDecim : Fld := ⟨11, 8⟩
/-- JAS_Dd_TRc_CTRL.RING -/
def Fld.jasTrCtrlRing : Fld := ⟨2, 2⟩
/-- JAS_Dd_TRc_CTRL.ARM -/
def Fld.jasTrCtrlArm : Fld := ⟨1, 1⟩
/-- JAS_Dd_TRc_CTRL.ENABLE -/
def Fld.jasTrCtrlEnable : Fld := ⟨0, 0⟩
/-- JAS_Dd_TRc_SRC.LOOP -/
def Fld.jasTrSrcLoop : Fld := ⟨25, 24⟩
/-- JAS_Dd_TRc_SRC.STAGE -/
def Fld.jasTrSrcStage : Fld := ⟨20, 16⟩
/-- JAS_Dd_TRc_SRC.NODE -/
def Fld.jasTrSrcNode : Fld := ⟨2, 0⟩
/-- JAS_Dd_TRc_TRIG.FIRE -/
def Fld.jasTrTrigFire : Fld := ⟨31, 31⟩
/-- JAS_Dd_TRc_TRIG.OTHER -/
def Fld.jasTrTrigOther : Fld := ⟨25, 24⟩
/-- JAS_Dd_TRc_TRIG.EVENT -/
def Fld.jasTrTrigEvent : Fld := ⟨21, 16⟩
/-- JAS_Dd_TRc_TRIG.SOURCE -/
def Fld.jasTrTrigSource : Fld := ⟨2, 0⟩
/-- JAS_Dd_TRc_LEVEL.LEVEL -/
def Fld.jasTrLevelLevel : Fld := ⟨31, 0⟩
/-- JAS_Dd_TRc_STATUS.TRIGGERED -/
def Fld.jasTrStatusTriggered : Fld := ⟨31, 31⟩
/-- JAS_Dd_TRc_STATUS.DONE -/
def Fld.jasTrStatusDone : Fld := ⟨30, 30⟩
/-- JAS_Dd_TRc_STATUS.CURSOR -/
def Fld.jasTrStatusCursor : Fld := ⟨28, 16⟩
/-- JAS_Dd_TRc_STATUS.COUNT -/
def Fld.jasTrStatusCount : Fld := ⟨13, 0⟩
/-- JAS_Dd_TRc_STAMP_LO.STAMP -/
def Fld.jasTrStampLoStamp : Fld := ⟨31, 0⟩
/-- JAS_Dd_TRc_STAMP_HI.STAMP -/
def Fld.jasTrStampHiStamp : Fld := ⟨31, 0⟩
/-- JAS_Dd_TRc_DATA.ENTRY -/
def Fld.jasTrDataEntry : Fld := ⟨31, 0⟩
/-- SHO_POOL_SEL.POOL -/
def Fld.shoPoolSelPool : Fld := ⟨5, 0⟩
/-- SHO_POOL_CFG.ENABLE -/
def Fld.shoPoolCfgEnable : Fld := ⟨31, 31⟩
/-- SHO_POOL_CFG.HOST -/
def Fld.shoPoolCfgHost : Fld := ⟨30, 30⟩
/-- SHO_POOL_CFG.LOW -/
def Fld.shoPoolCfgLow : Fld := ⟨19, 0⟩
/-- SHO_POOL_FIRST.INDEX -/
def Fld.shoPoolFirstIndex : Fld := ⟨19, 0⟩
/-- SHO_POOL_COUNT.COUNT -/
def Fld.shoPoolCountCount : Fld := ⟨19, 0⟩
/-- SHO_POOL_STATUS.READY -/
def Fld.shoPoolStatusReady : Fld := ⟨31, 31⟩
/-- SHO_POOL_STATUS.EMPTY -/
def Fld.shoPoolStatusEmpty : Fld := ⟨30, 30⟩
/-- SHO_POOL_STATUS.FREE -/
def Fld.shoPoolStatusFree : Fld := ⟨19, 0⟩
/-- SHO_POOL_ERRS.FOREIGN -/
def Fld.shoPoolErrsForeign : Fld := ⟨31, 24⟩
/-- SHO_POOL_ERRS.DOUBLE -/
def Fld.shoPoolErrsDouble : Fld := ⟨23, 16⟩
/-- SHO_POOL_ERRS.LOST -/
def Fld.shoPoolErrsLost : Fld := ⟨15, 8⟩
/-- SHO_POOL_ERRS.EMPTY -/
def Fld.shoPoolErrsEmpty : Fld := ⟨7, 0⟩
/-- SHO_DECK_POOLS_d.SEALED -/
def Fld.shoDeckPoolsSealed : Fld := ⟨13, 8⟩
/-- SHO_DECK_POOLS_d.TRICK -/
def Fld.shoDeckPoolsTrick : Fld := ⟨5, 0⟩
/-- SHO_HOST_CMD.OP -/
def Fld.shoHostCmdOp : Fld := ⟨31, 30⟩
/-- SHO_HOST_CMD.INDEX -/
def Fld.shoHostCmdIndex : Fld := ⟨19, 0⟩
/-- SHO_HOST_RESULT.RESULT -/
def Fld.shoHostResultResult : Fld := ⟨31, 28⟩
/-- SHO_HOST_RESULT.INDEX -/
def Fld.shoHostResultIndex : Fld := ⟨19, 0⟩
/-- SHO_WIN_SEL.PAGE -/
def Fld.shoWinSelPage : Fld := ⟨27, 24⟩
/-- SHO_WIN_SEL.INDEX -/
def Fld.shoWinSelIndex : Fld := ⟨19, 0⟩
/-- SHO_LAST_REFUSED.KIND -/
def Fld.shoLastRefusedKind : Fld := ⟨31, 30⟩
/-- SHO_LAST_REFUSED.CLASS -/
def Fld.shoLastRefusedClass : Fld := ⟨29, 26⟩
/-- SHO_LAST_REFUSED.POOL -/
def Fld.shoLastRefusedPool : Fld := ⟨25, 20⟩
/-- SHO_LAST_REFUSED.INDEX -/
def Fld.shoLastRefusedIndex : Fld := ⟨19, 0⟩
/-- SHO_WIN.DATA -/
def Fld.shoWinData : Fld := ⟨31, 0⟩
/-- MIC_REGION_SEL.STACK -/
def Fld.micRegionSelStack : Fld := ⟨4, 4⟩
/-- MIC_REGION_SEL.REGION -/
def Fld.micRegionSelRegion : Fld := ⟨3, 0⟩
/-- MIC_REGION_CFG.ENABLE -/
def Fld.micRegionCfgEnable : Fld := ⟨31, 31⟩
/-- MIC_REGION_CFG.CODE -/
def Fld.micRegionCfgCode : Fld := ⟨30, 30⟩
/-- MIC_REGION_CFG.SIZE -/
def Fld.micRegionCfgSize : Fld := ⟨8, 0⟩
/-- MIC_REGION_CHIPS.CHIPS -/
def Fld.micRegionChipsChips : Fld := ⟨18, 0⟩
/-- MIC_HBM_STATUS_s.ECC -/
def Fld.micHbmStatusEcc : Fld := ⟨31, 16⟩
/-- MIC_HBM_STATUS_s.TEMP -/
def Fld.micHbmStatusTemp : Fld := ⟨15, 8⟩
/-- MIC_HBM_STATUS_s.HOT -/
def Fld.micHbmStatusHot : Fld := ⟨6, 6⟩
/-- MIC_HBM_STATUS_s.RATE -/
def Fld.micHbmStatusRate : Fld := ⟨5, 4⟩
/-- MIC_HBM_STATUS_s.HEIGHT -/
def Fld.micHbmStatusHeight : Fld := ⟨3, 3⟩
/-- MIC_HBM_STATUS_s.CATTRIP -/
def Fld.micHbmStatusCattrip : Fld := ⟨2, 2⟩
/-- MIC_HBM_STATUS_s.INIT_DONE -/
def Fld.micHbmStatusInitDone : Fld := ⟨1, 1⟩
/-- MIC_HBM_STATUS_s.TRAINED -/
def Fld.micHbmStatusTrained : Fld := ⟨0, 0⟩
/-- MIC_FILL_FIRST.INDEX -/
def Fld.micFillFirstIndex : Fld := ⟨19, 0⟩
/-- MIC_FILL_COUNT.GO -/
def Fld.micFillCountGo : Fld := ⟨31, 31⟩
/-- MIC_FILL_COUNT.ERROR -/
def Fld.micFillCountError : Fld := ⟨30, 30⟩
/-- MIC_FILL_COUNT.COUNT -/
def Fld.micFillCountCount : Fld := ⟨19, 0⟩
/-- MIC_FILL_PATTERN.PATTERN -/
def Fld.micFillPatternPattern : Fld := ⟨31, 0⟩
/-- MIC_REMAP.HBM1_USED -/
def Fld.micRemapHbm1Used : Fld := ⟨29, 24⟩
/-- MIC_REMAP.HBM0_USED -/
def Fld.micRemapHbm0Used : Fld := ⟨21, 16⟩
/-- MIC_REMAP.SRAM_FULL -/
def Fld.micRemapSramFull : Fld := ⟨11, 0⟩
/-- MIC_SELFTEST.DONE -/
def Fld.micSelftestDone : Fld := ⟨31, 31⟩
/-- MIC_SELFTEST.HBM_FAIL -/
def Fld.micSelftestHbmFail : Fld := ⟨13, 12⟩
/-- MIC_SELFTEST.GROUP_FAIL -/
def Fld.micSelftestGroupFail : Fld := ⟨11, 0⟩
/-- MIC_ERR_CNT_x.CORR -/
def Fld.micErrCntCorr : Fld := ⟨31, 16⟩
/-- MIC_ERR_CNT_x.UNCORR -/
def Fld.micErrCntUncorr : Fld := ⟨15, 0⟩
/-- MIC_LAST_ERR_LO.INDEX -/
def Fld.micLastErrLoIndex : Fld := ⟨30, 11⟩
/-- MIC_LAST_ERR_LO.WORD -/
def Fld.micLastErrLoWord : Fld := ⟨10, 0⟩
/-- MIC_LAST_ERR_HI.VALID -/
def Fld.micLastErrHiValid : Fld := ⟨31, 31⟩
/-- MIC_LAST_ERR_HI.NEVER -/
def Fld.micLastErrHiNever : Fld := ⟨30, 30⟩
/-- MIC_LAST_ERR_HI.SRAM -/
def Fld.micLastErrHiSram : Fld := ⟨29, 29⟩
/-- MIC_LAST_ERR_HI.GROUP -/
def Fld.micLastErrHiGroup : Fld := ⟨23, 20⟩
/-- MIC_LAST_ERR_HI.ADDR_HI -/
def Fld.micLastErrHiAddrHi : Fld := ⟨19, 0⟩
/-- MIC_POLISH_CTRL.ENABLE -/
def Fld.micPolishCtrlEnable : Fld := ⟨31, 31⟩
/-- MIC_POLISH_CTRL.ALERT_S -/
def Fld.micPolishCtrlAlertS : Fld := ⟨15, 0⟩
/-- MIC_POLISH_STATUS.LAST_MS -/
def Fld.micPolishStatusLastMs : Fld := ⟨31, 8⟩
/-- MIC_POLISH_STATUS.PERCENT -/
def Fld.micPolishStatusPercent : Fld := ⟨6, 0⟩
/-- CFG_STATUS.BUSY -/
def Fld.cfgStatusBusy : Fld := ⟨31, 31⟩
/-- CFG_STATUS.NO_IMAGE -/
def Fld.cfgStatusNoImage : Fld := ⟨30, 30⟩
/-- CFG_STATUS.FALLBACK_USED -/
def Fld.cfgStatusFallbackUsed : Fld := ⟨29, 29⟩
/-- CFG_STATUS.SLOT -/
def Fld.cfgStatusSlot : Fld := ⟨1, 0⟩
/-- CFG_BOOT.FALLBACK -/
def Fld.cfgBootFallback : Fld := ⟨8, 8⟩
/-- CFG_BOOT.SLOT -/
def Fld.cfgBootSlot : Fld := ⟨1, 0⟩
/-- CFG_SLOT_SEL.SLOT -/
def Fld.cfgSlotSelSlot : Fld := ⟨1, 0⟩
/-- CFG_SLOT_STATE.STATE -/
def Fld.cfgSlotStateState : Fld := ⟨31, 30⟩
/-- CFG_SLOT_STATE.LENGTH -/
def Fld.cfgSlotStateLength : Fld := ⟨21, 0⟩
/-- CFG_SLOT_ID.ID -/
def Fld.cfgSlotIdId : Fld := ⟨31, 0⟩
/-- CFG_SRC_LO.ADDR -/
def Fld.cfgSrcLoAddr : Fld := ⟨31, 0⟩
/-- CFG_SRC_HI.ADDR -/
def Fld.cfgSrcHiAddr : Fld := ⟨19, 0⟩
/-- CFG_SRC_LEN.LEN -/
def Fld.cfgSrcLenLen : Fld := ⟨21, 0⟩
/-- CFG_COMMAND.OP -/
def Fld.cfgCommandOp : Fld := ⟨1, 0⟩
/-- CFG_RESULT.SEQ -/
def Fld.cfgResultSeq : Fld := ⟨31, 28⟩
/-- CFG_RESULT.RESULT -/
def Fld.cfgResultResult : Fld := ⟨27, 24⟩
/-- CFG_RESULT.MISMATCH -/
def Fld.cfgResultMismatch : Fld := ⟨20, 20⟩
/-- CFG_RESULT.CHECK -/
def Fld.cfgResultCheck : Fld := ⟨19, 16⟩
/-- CFG_RESULT.OFFSET -/
def Fld.cfgResultOffset : Fld := ⟨15, 0⟩
/-- CFG_ACTIVE_ID.ID -/
def Fld.cfgActiveIdId : Fld := ⟨31, 0⟩
/-- CFG_ACTIVE_CHECK.CHECK -/
def Fld.cfgActiveCheckCheck : Fld := ⟨31, 0⟩
/-- CFG_ACT_COUNT.COUNT -/
def Fld.cfgActCountCount : Fld := ⟨31, 0⟩
/-- CFG_PENDING.DECKS -/
def Fld.cfgPendingDecks : Fld := ⟨19, 16⟩
/-- CFG_PENDING.CONTEXTS -/
def Fld.cfgPendingContexts : Fld := ⟨12, 0⟩
/-- CFG_DECK_EPOCH_d.COUNT -/
def Fld.cfgDeckEpochCount : Fld := ⟨31, 0⟩
/-- CTX_EPOCH.COUNT -/
def Fld.ctxEpochCount : Fld := ⟨31, 0⟩
/-- DKd_LNK_CTRL.RETRAIN -/
def Fld.dkLnkCtrlRetrain : Fld := ⟨1, 1⟩
/-- DKd_LNK_CTRL.ENABLE -/
def Fld.dkLnkCtrlEnable : Fld := ⟨0, 0⟩
/-- DKd_LNK_STATE.PRESENT -/
def Fld.dkLnkStatePresent : Fld := ⟨31, 31⟩
/-- DKd_LNK_STATE.CARTRIDGE -/
def Fld.dkLnkStateCartridge : Fld := ⟨30, 30⟩
/-- DKd_LNK_STATE.CAUSE -/
def Fld.dkLnkStateCause : Fld := ⟨23, 20⟩
/-- DKd_LNK_STATE.ATTEMPT -/
def Fld.dkLnkStateAttempt : Fld := ⟨17, 16⟩
/-- DKd_LNK_STATE.STATE -/
def Fld.dkLnkStateState : Fld := ⟨2, 0⟩
/-- DKd_LNK_LOCK.LOCKED -/
def Fld.dkLnkLockLocked : Fld := ⟨16, 0⟩
/-- DKd_LNK_ERRS.RX_BAD -/
def Fld.dkLnkErrsRxBad : Fld := ⟨31, 16⟩
/-- DKd_LNK_ERRS.TX_BAD -/
def Fld.dkLnkErrsTxBad : Fld := ⟨15, 0⟩
/-- DKd_LNK_CREDIT.AHEAD -/
def Fld.dkLnkCreditAhead : Fld := ⟨31, 16⟩
/-- DKd_LNK_CREDIT.UNDERRUN -/
def Fld.dkLnkCreditUnderrun : Fld := ⟨15, 0⟩
/-- DKd_LNK_FE_INFO.WRAPS -/
def Fld.dkLnkFeInfoWraps : Fld := ⟨31, 16⟩
/-- DKd_LNK_FE_INFO.FE_ID -/
def Fld.dkLnkFeInfoFeId : Fld := ⟨15, 0⟩
/-- DKd_LNK_FE_ADDR.ADDR -/
def Fld.dkLnkFeAddrAddr : Fld := ⟨15, 0⟩
/-- DKd_LNK_FE_DATA.DATA -/
def Fld.dkLnkFeDataData : Fld := ⟨31, 0⟩
/-- DKd_LNK_FE_CMD.BUSY -/
def Fld.dkLnkFeCmdBusy : Fld := ⟨31, 31⟩
/-- DKd_LNK_FE_CMD.RESULT -/
def Fld.dkLnkFeCmdResult : Fld := ⟨7, 4⟩
/-- DKd_LNK_FE_CMD.OP -/
def Fld.dkLnkFeCmdOp : Fld := ⟨1, 0⟩
/-- LNK_PORT_STATUS_p.RX_REPAIRED -/
def Fld.lnkPortStatusRxRepaired : Fld := ⟨14, 12⟩
/-- LNK_PORT_STATUS_p.TX_REPAIRED -/
def Fld.lnkPortStatusTxRepaired : Fld := ⟨10, 8⟩
/-- LNK_PORT_STATUS_p.RATE -/
def Fld.lnkPortStatusRate : Fld := ⟨5, 4⟩
/-- LNK_PORT_STATUS_p.STATE -/
def Fld.lnkPortStatusState : Fld := ⟨3, 0⟩
/-- LNK_CTRL.RETRAIN -/
def Fld.lnkCtrlRetrain : Fld := ⟨5, 4⟩
/-- LNK_CTRL.MAX_RATE -/
def Fld.lnkCtrlMaxRate : Fld := ⟨3, 2⟩
/-- LNK_CTRL.PORT_EN -/
def Fld.lnkCtrlPortEn : Fld := ⟨1, 0⟩
/-- LNK_ERR_p.MALFORMED -/
def Fld.lnkErrMalformed : Fld := ⟨31, 24⟩
/-- LNK_ERR_p.RETRAINS -/
def Fld.lnkErrRetrains : Fld := ⟨23, 16⟩
/-- LNK_ERR_p.CRC -/
def Fld.lnkErrCrc : Fld := ⟨15, 0⟩
/-- LNK_DMA_ERR_LO.ADDR -/
def Fld.lnkDmaErrLoAddr : Fld := ⟨31, 0⟩
/-- LNK_DMA_ERR_HI.KIND -/
def Fld.lnkDmaErrHiKind : Fld := ⟨31, 30⟩
/-- LNK_DMA_ERR_HI.STRAY -/
def Fld.lnkDmaErrHiStray : Fld := ⟨27, 20⟩
/-- LNK_DMA_ERR_HI.ADDR -/
def Fld.lnkDmaErrHiAddr : Fld := ⟨19, 0⟩
/-- LNK_DOORBELL_LO.ADDR -/
def Fld.lnkDoorbellLoAddr : Fld := ⟨31, 3⟩
/-- LNK_DOORBELL_LO.ENABLE -/
def Fld.lnkDoorbellLoEnable : Fld := ⟨0, 0⟩
/-- LNK_DOORBELL_HI.ADDR -/
def Fld.lnkDoorbellHiAddr : Fld := ⟨19, 0⟩
/-- LNK_MMIO_ERR.COUNT -/
def Fld.lnkMmioErrCount : Fld := ⟨31, 26⟩
/-- LNK_MMIO_ERR.OFFSET -/
def Fld.lnkMmioErrOffset : Fld := ⟨25, 0⟩
/-- GLB_BOOT_STATUS.SETTINGS_READY -/
def Fld.glbBootStatusSettingsReady : Fld := ⟨31, 31⟩
/-- GLB_BOOT_STATUS.HBM_READY -/
def Fld.glbBootStatusHbmReady : Fld := ⟨30, 30⟩
/-- GLB_BOOT_STATUS.BOOT_MS -/
def Fld.glbBootStatusBootMs : Fld := ⟨15, 0⟩
/-- GLB_RESET.WARM -/
def Fld.glbResetWarm : Fld := ⟨4, 4⟩
/-- GLB_RESET.DECK -/
def Fld.glbResetDeck : Fld := ⟨3, 0⟩
/-- GLB_RESET_CAUSE.CLASS -/
def Fld.glbResetCauseClass : Fld := ⟨31, 28⟩
/-- GLB_RESET_CAUSE.SOURCE -/
def Fld.glbResetCauseSource : Fld := ⟨23, 16⟩
/-- GLB_RESET_CAUSE.ISLAND -/
def Fld.glbResetCauseIsland : Fld := ⟨4, 0⟩
/-- GLB_POWER.WAKE -/
def Fld.glbPowerWake : Fld := ⟨9, 8⟩
/-- GLB_POWER.TRANSITION -/
def Fld.glbPowerTransition : Fld := ⟨3, 3⟩
/-- GLB_POWER.STATE -/
def Fld.glbPowerState : Fld := ⟨2, 0⟩
/-- GLB_PFAIL.SEEN -/
def Fld.glbPfailSeen : Fld := ⟨31, 31⟩
/-- GLB_PFAIL.WRITES_DONE -/
def Fld.glbPfailWritesDone : Fld := ⟨30, 30⟩
/-- SEC_STATE.OPEN_PENDING -/
def Fld.secStateOpenPending : Fld := ⟨28, 28⟩
/-- SEC_STATE.RESTORED -/
def Fld.secStateRestored : Fld := ⟨27, 27⟩
/-- SEC_STATE.JUMPER -/
def Fld.secStateJumper : Fld := ⟨26, 26⟩
/-- SEC_STATE.WINDOW -/
def Fld.secStateWindow : Fld := ⟨25, 25⟩
/-- SEC_STATE.REMAIN_S -/
def Fld.secStateRemainS : Fld := ⟨24, 16⟩
/-- SEC_STATE.DEBUG -/
def Fld.secStateDebug : Fld := ⟨9, 8⟩
/-- SEC_STATE.STATE -/
def Fld.secStateState : Fld := ⟨2, 0⟩
/-- SEC_PRESENCE_CFG.WINDOW_S -/
def Fld.secPresenceCfgWindowS : Fld := ⟨8, 0⟩
/-- SEC_CONTROL.CONFIRM -/
def Fld.secControlConfirm : Fld := ⟨31, 16⟩
/-- SEC_CONTROL.CLOSE_WINDOW -/
def Fld.secControlCloseWindow : Fld := ⟨4, 4⟩
/-- SEC_CONTROL.OPEN_DISARM -/
def Fld.secControlOpenDisarm : Fld := ⟨3, 3⟩
/-- SEC_CONTROL.OPEN_ARM -/
def Fld.secControlOpenArm : Fld := ⟨2, 2⟩
/-- SEC_CONTROL.LEAVE_SERVICE -/
def Fld.secControlLeaveService : Fld := ⟨1, 1⟩
/-- SEC_CONTROL.ENTER_SERVICE -/
def Fld.secControlEnterService : Fld := ⟨0, 0⟩
/-- SEC_DEBUG.LEVEL -/
def Fld.secDebugLevel : Fld := ⟨1, 0⟩
/-- SEC_SEAL.ENABLE -/
def Fld.secSealEnable : Fld := ⟨31, 31⟩
/-- SEC_SEAL.TAMPERS -/
def Fld.secSealTampers : Fld := ⟨23, 16⟩
/-- SEC_SEAL.MISMATCH -/
def Fld.secSealMismatch : Fld := ⟨1, 0⟩
/-- SEC_REFUSED.WRITES -/
def Fld.secRefusedWrites : Fld := ⟨31, 16⟩
/-- SEC_REFUSED.TASKS -/
def Fld.secRefusedTasks : Fld := ⟨15, 8⟩
/-- SEC_REFUSED.TAP -/
def Fld.secRefusedTap : Fld := ⟨7, 0⟩
/-- SEC_REFUSED_ADDR.OFFSET -/
def Fld.secRefusedAddrOffset : Fld := ⟨25, 0⟩
/-- NVM_STATUS.BANK_LOCKED -/
def Fld.nvmStatusBankLocked : Fld := ⟨31, 31⟩
/-- NVM_STATUS.NO_SETTINGS -/
def Fld.nvmStatusNoSettings : Fld := ⟨30, 30⟩
/-- NVM_STATUS.COPY -/
def Fld.nvmStatusCopy : Fld := ⟨29, 29⟩
/-- NVM_STATUS.BUSY_B -/
def Fld.nvmStatusBusyB : Fld := ⟨23, 23⟩
/-- NVM_STATUS.SUSP_B -/
def Fld.nvmStatusSuspB : Fld := ⟨22, 22⟩
/-- NVM_STATUS.BUSY_A -/
def Fld.nvmStatusBusyA : Fld := ⟨21, 21⟩
/-- NVM_STATUS.SUSP_A -/
def Fld.nvmStatusSuspA : Fld := ⟨20, 20⟩
/-- NVM_STATUS.UNCORR -/
def Fld.nvmStatusUncorr : Fld := ⟨15, 0⟩
/-- NVM_PARK.PARKED -/
def Fld.nvmParkParked : Fld := ⟨31, 31⟩
/-- NVM_PARK.RELEASE -/
def Fld.nvmParkRelease : Fld := ⟨1, 1⟩
/-- NVM_PARK.REQUEST -/
def Fld.nvmParkRequest : Fld := ⟨0, 0⟩
/-- NVM_RD_DELAY.DELAY -/
def Fld.nvmRdDelayDelay : Fld := ⟨3, 0⟩
/-- NVM_ADDR.BANK -/
def Fld.nvmAddrBank : Fld := ⟨16, 16⟩
/-- NVM_ADDR.SECTOR -/
def Fld.nvmAddrSector : Fld := ⟨14, 8⟩
/-- NVM_ADDR.PAGE -/
def Fld.nvmAddrPage : Fld := ⟨6, 0⟩
/-- NVM_CMD.OP -/
def Fld.nvmCmdOp : Fld := ⟨2, 0⟩
/-- NVM_RESULT.SEQ -/
def Fld.nvmResultSeq : Fld := ⟨31, 28⟩
/-- NVM_RESULT.RESULT -/
def Fld.nvmResultResult : Fld := ⟨27, 24⟩
/-- NVM_RESULT.FAIL_BITS -/
def Fld.nvmResultFailBits : Fld := ⟨19, 0⟩
/-- NVM_WP_k.PROT -/
def Fld.nvmWpProt : Fld := ⟨31, 0⟩
/-- NVM_WP_SET_k.SET -/
def Fld.nvmWpSetSet : Fld := ⟨31, 0⟩
/-- NVM_WP_CLR_k.CLR -/
def Fld.nvmWpClrClr : Fld := ⟨31, 0⟩
/-- NVM_WP_POLICY_k.POLICY -/
def Fld.nvmWpPolicyPolicy : Fld := ⟨31, 0⟩
/-- NVM_STORE_SEQ.SEQ -/
def Fld.nvmStoreSeqSeq : Fld := ⟨31, 0⟩
/-- NVM_WIN_SEL.BANK -/
def Fld.nvmWinSelBank : Fld := ⟨16, 16⟩
/-- NVM_WIN_SEL.SECTOR -/
def Fld.nvmWinSelSector : Fld := ⟨14, 8⟩
/-- NVM_WIN_SEL.PART -/
def Fld.nvmWinSelPart : Fld := ⟨3, 0⟩
/-- NVM_PAGE.DATA -/
def Fld.nvmPageData : Fld := ⟨31, 0⟩
/-- NVM_WIN.DATA -/
def Fld.nvmWinData : Fld := ⟨31, 0⟩
/-- NVM_CAL.DATA -/
def Fld.nvmCalData : Fld := ⟨31, 0⟩
/-- EVT_SP_STATUS.FROZEN -/
def Fld.evtSpStatusFrozen : Fld := ⟨31, 31⟩
/-- EVT_SP_STATUS.HELD -/
def Fld.evtSpStatusHeld : Fld := ⟨19, 13⟩
/-- EVT_SP_STATUS.COUNT -/
def Fld.evtSpStatusCount : Fld := ⟨12, 0⟩
/-- EVT_SP_CTRL.CLEAR -/
def Fld.evtSpCtrlClear : Fld := ⟨1, 1⟩
/-- EVT_SP_CTRL.FREEZE -/
def Fld.evtSpCtrlFreeze : Fld := ⟨0, 0⟩
/-- EVT_SP_CURSOR.CURSOR -/
def Fld.evtSpCursorCursor : Fld := ⟨11, 0⟩
/-- EVT_SP_DROPPED.COUNT -/
def Fld.evtSpDroppedCount : Fld := ⟨31, 0⟩
/-- EVT_SP_WIN_k.DATA -/
def Fld.evtSpWinData : Fld := ⟨31, 0⟩
/-- EVT_SRC_SEL.EVENT -/
def Fld.evtSrcSelEvent : Fld := ⟨8, 0⟩
/-- EVT_SRC_CFG.RECORD -/
def Fld.evtSrcCfgRecord : Fld := ⟨31, 31⟩
/-- EVT_SRC_CFG.NOTIFY -/
def Fld.evtSrcCfgNotify : Fld := ⟨30, 30⟩
/-- EVT_SRC_CFG.PERSIST -/
def Fld.evtSrcCfgPersist : Fld := ⟨29, 29⟩
/-- EVT_SRC_CFG.CHAIN -/
def Fld.evtSrcCfgChain : Fld := ⟨27, 26⟩
/-- EVT_SRC_CFG.SNAPS -/
def Fld.evtSrcCfgSnaps : Fld := ⟨19, 16⟩
/-- EVT_SRC_CFG.SEVERITY -/
def Fld.evtSrcCfgSeverity : Fld := ⟨10, 9⟩
/-- EVT_SRC_SNAP_k.OFFSET -/
def Fld.evtSrcSnapOffset : Fld := ⟨25, 2⟩
/-- EVT_NTC_STATUS.IN_SERVICE -/
def Fld.evtNtcStatusInService : Fld := ⟨31, 31⟩
/-- EVT_NTC_STATUS.READY -/
def Fld.evtNtcStatusReady : Fld := ⟨3, 0⟩
/-- EVT_NTC_POP.WORD -/
def Fld.evtNtcPopWord : Fld := ⟨31, 0⟩
/-- EVT_NTC_LOST_c.COUNT -/
def Fld.evtNtcLostCount : Fld := ⟨31, 0⟩
/-- EVT_WALL.WALL -/
def Fld.evtWallWall : Fld := ⟨31, 0⟩
/-- EVT_HOURS.SECONDS -/
def Fld.evtHoursSeconds : Fld := ⟨31, 0⟩
/-- EVT_CYCLES.COUNT -/
def Fld.evtCyclesCount : Fld := ⟨31, 0⟩
/-- EVT_MTR_BASE_LO.ADDR -/
def Fld.evtMtrBaseLoAddr : Fld := ⟨31, 12⟩
/-- EVT_MTR_BASE_HI.ADDR -/
def Fld.evtMtrBaseHiAddr : Fld := ⟨19, 0⟩
/-- EVT_MTR_CTRL.ENABLE -/
def Fld.evtMtrCtrlEnable : Fld := ⟨31, 31⟩
/-- EVT_MTR_CTRL.SIZE_LOG2 -/
def Fld.evtMtrCtrlSizeLog2 : Fld := ⟨4, 0⟩
/-- EVT_MTR_HEAD.HEAD -/
def Fld.evtMtrHeadHead : Fld := ⟨31, 0⟩
/-- EVT_MTR_TAIL.TAIL -/
def Fld.evtMtrTailTail : Fld := ⟨31, 0⟩
/-- EVT_MTR_MISSED.COUNT -/
def Fld.evtMtrMissedCount : Fld := ⟨31, 0⟩
/-- GLB_STRAPS.SCAN_EN -/
def Fld.glbStrapsScanEn : Fld := ⟨9, 9⟩
/-- GLB_STRAPS.TESTMODE -/
def Fld.glbStrapsTestmode : Fld := ⟨8, 8⟩
/-- GLB_STRAPS.STRAP_ID -/
def Fld.glbStrapsStrapId : Fld := ⟨7, 4⟩
/-- GLB_STRAPS.BOOT_SEL -/
def Fld.glbStrapsBootSel : Fld := ⟨2, 0⟩
/-- GLB_AVS_CFG.MAX_MV -/
def Fld.glbAvsCfgMaxMv : Fld := ⟨25, 16⟩
/-- GLB_AVS_CFG.MIN_MV -/
def Fld.glbAvsCfgMinMv : Fld := ⟨9, 0⟩
/-- GLB_AVS_STATUS.FAULT -/
def Fld.glbAvsStatusFault : Fld := ⟨31, 31⟩
/-- GLB_AVS_STATUS.CURRENT -/
def Fld.glbAvsStatusCurrent : Fld := ⟨27, 16⟩
/-- GLB_AVS_STATUS.VOUT_MV -/
def Fld.glbAvsStatusVoutMv : Fld := ⟨9, 0⟩
/-- GLB_THERMAL.TJ -/
def Fld.glbThermalTj : Fld := ⟨31, 24⟩
/-- GLB_THERMAL.WARN -/
def Fld.glbThermalWarn : Fld := ⟨23, 16⟩
/-- GLB_THERMAL.SHUTDOWN -/
def Fld.glbThermalShutdown : Fld := ⟨1, 1⟩
/-- GLB_THERMAL.THERM -/
def Fld.glbThermalTherm : Fld := ⟨0, 0⟩
/-- GLB_IDCODE.IDCODE -/
def Fld.glbIdcodeIdcode : Fld := ⟨31, 0⟩
/-- CTX_STREAM_ID.STREAM_ID -/
def Fld.ctxStreamIdStreamId : Fld := ⟨31, 0⟩
/-- CTX_KEY.KEY_SLOT -/
def Fld.ctxKeyKeySlot : Fld := ⟨11, 0⟩
/-- CTX_ECC_PROFILE.PROFILE -/
def Fld.ctxEccProfileProfile : Fld := ⟨3, 0⟩
/-- CTX_CHIP_QUOTA.MAX_CHIPS -/
def Fld.ctxChipQuotaMaxChips : Fld := ⟨19, 0⟩
/-- CTX_SEAT.SEATED -/
def Fld.ctxSeatSeated : Fld := ⟨31, 31⟩
/-- CTX_SEAT.SEAT -/
def Fld.ctxSeatSeat : Fld := ⟨7, 0⟩
/-- CTX_RING_BASE_LO.ADDR -/
def Fld.ctxRingBaseLoAddr : Fld := ⟨31, 12⟩
/-- CTX_RING_BASE_HI.ADDR -/
def Fld.ctxRingBaseHiAddr : Fld := ⟨19, 0⟩
/-- CTX_RING_HEAD.HEAD -/
def Fld.ctxRingHeadHead : Fld := ⟨31, 0⟩
/-- CTX_RING_TAIL.TAIL -/
def Fld.ctxRingTailTail : Fld := ⟨31, 0⟩
/-- CTX_DEFERRED_FIRST_LO.FIRST -/
def Fld.ctxDeferredFirstLoFirst : Fld := ⟨31, 0⟩
/-- CTX_DEFERRED_FIRST_HI.FIRST -/
def Fld.ctxDeferredFirstHiFirst : Fld := ⟨31, 0⟩
/-- CTX_DEFERRED_COUNT.COUNT -/
def Fld.ctxDeferredCountCount : Fld := ⟨31, 0⟩
/-- CTX_POSITION_LO.OBJECT -/
def Fld.ctxPositionLoObject : Fld := ⟨31, 0⟩
/-- CTX_POSITION_HI.OBJECT -/
def Fld.ctxPositionHiObject : Fld := ⟨31, 0⟩
/-- CTX_MTR.COUNT -/
def Fld.ctxMtrCount : Fld := ⟨31, 0⟩

/-- Table 21-2 with the register tables of the chapters, part 1. -/
def regTable1 : List RegSpec := [
  ⟨0x40, 0x0, 1, 0x0, 1, .all, [⟨31, 31, .ro, 0, .warm⟩, ⟨24, 16, .ro, 0x100, .warm⟩, ⟨8, 0, .ro, 0x100, .warm⟩]⟩,
  ⟨0x44, 0x0, 1, 0x0, 1, .all, [⟨25, 16, .ro, 0x2d0, .cold⟩, ⟨8, 0, .rw, 0x100, .cold⟩]⟩,
  ⟨0x48, 0x0, 1, 0x0, 1, .all, [⟨24, 0, .w1c, 0, .sticky⟩]⟩,
  ⟨0x100000, 0x100, 4096, 0x0, 1, .ctx, [⟨31, 31, .ro, 0, .ctx⟩, ⟨30, 30, .ro, 0, .ctx⟩, ⟨29, 29, .ro, 0, .ctx⟩, ⟨15, 0, .ro, 0, .ctx⟩]⟩,
  ⟨0x100004, 0x100, 4096, 0x0, 1, .ctx, [⟨1, 1, .w1s, 0, .ctx⟩, ⟨0, 0, .rw, 0, .ctx⟩]⟩,
  ⟨0x10000c, 0x100, 4096, 0x0, 1, .ctx, [⟨31, 31, .rw, 0, .ctx⟩, ⟨9, 8, .rw, 0, .ctx⟩, ⟨5, 0, .rw, 0, .ctx⟩]⟩,
  ⟨0x10001c, 0x100, 4096, 0x0, 1, .ctx, [⟨15, 0, .rw, 0, .ctx⟩]⟩,
  ⟨0x100030, 0x100, 4096, 0x0, 1, .ctx, [⟨8, 8, .rw, 0, .ctx⟩, ⟨4, 0, .rw, 4, .ctx⟩]⟩,
  ⟨0x100040, 0x100, 4096, 0x0, 1, .ctx, [⟨31, 31, .ro, 0, .ctx⟩, ⟨30, 30, .ro, 0, .ctx⟩, ⟨7, 0, .ro, 0, .ctx⟩]⟩,
  ⟨0x200000, 0x200, 4096, 0x4, 16, .ctx, [⟨31, 0, .wo, 0, .ctx⟩]⟩,
  ⟨0x200040, 0x200, 4096, 0x0, 1, .ctx, [⟨31, 0, .wo, 0, .none⟩]⟩,
  ⟨0x200044, 0x200, 4096, 0x0, 1, .ctx, [⟨31, 16, .ro, 0, .ctx⟩, ⟨15, 8, .ro, 0, .ctx⟩, ⟨2, 0, .ro, 0, .ctx⟩]⟩,
  ⟨0x200048, 0x200, 4096, 0x0, 1, .ctx, [⟨31, 0, .wo, 0, .none⟩]⟩,
  ⟨0x20004c, 0x200, 4096, 0x0, 1, .ctx, [⟨15, 8, .ro, 0, .ctx⟩, ⟨2, 0, .ro, 0, .ctx⟩]⟩,
  ⟨0xf0000, 0x0, 1, 0x0, 1, .all, [⟨9, 8, .rw, 0, .warm⟩, ⟨5, 0, .rw, 0, .warm⟩]⟩,
  ⟨0xf0004, 0x0, 1, 0x0, 1, .all, [⟨31, 30, .ro, 0, .warm⟩, ⟨29, 29, .ro, 0, .deck⟩, ⟨28, 28, .ro, 0, .deck⟩, ⟨24, 16, .ro, 0, .warm⟩, ⟨12, 12, .ro, 0, .deck⟩, ⟨11, 0, .ro, 0, .deck⟩]⟩,
  ⟨0xf0008, 0x0, 1, 0x0, 1, .all, [⟨23, 16, .ro, 0, .deck⟩, ⟨11, 0, .ro, 0, .deck⟩]⟩,
  ⟨0xf000c, 0x0, 1, 0x0, 1, .all, [⟨31, 0, .ro, 0, .deck⟩]⟩,
  ⟨0xf0010, 0x0, 1, 0x0, 1, .all, [⟨31, 0, .ro, 0, .deck⟩]⟩,
  ⟨0xf0014, 0x0, 1, 0x0, 1, .all, [⟨7, 0, .ro, 0, .deck⟩]⟩,
  ⟨0xf0018, 0x0, 1, 0x0, 1, .all, [⟨20, 16, .ro, 0, .deck⟩, ⟨15, 8, .ro, 0, .deck⟩, ⟨6, 0, .ro, 0, .deck⟩]⟩,
  ⟨0xf001c, 0x0, 1, 0x0, 1, .all, [⟨31, 0, .ro, 0, .deck⟩]⟩,
  ⟨0xf0020, 0x0, 1, 0x0, 1, .all, [⟨15, 0, .rw, 0x3e8, .cold⟩]⟩,
  ⟨0xf0040, 0x4, 4, 0x0, 1, .deck, [⟨31, 30, .ro, 0, .deck⟩, ⟨29, 29, .ro, 0, .deck⟩, ⟨19, 0, .ro, 0, .deck⟩]⟩,
  ⟨0x100014, 0x100, 4096, 0x0, 1, .ctx, [⟨11, 8, .rw, 0, .ctx⟩, ⟨7, 4, .rw, 0, .ctx⟩, ⟨1, 1, .rw, 0, .ctx⟩, ⟨0, 0, .rw, 0, .ctx⟩]⟩,
  ⟨0xd0000, 0x0, 1, 0x0, 1, .all, [⟨22, 16, .ro, 0, .warm⟩, ⟨6, 0, .ro, 0x40, .warm⟩]⟩,
  ⟨0xd0004, 0x0, 1, 0x0, 1, .all, [⟨11, 8, .rw, 1, .cold⟩, ⟨7, 4, .rw, 4, .cold⟩, ⟨3, 0, .rw, 4, .cold⟩]⟩,
  ⟨0xd0008, 0x0, 1, 0x0, 1, .all, [⟨5, 0, .rw, 0, .cold⟩]⟩,
  ⟨0xd000c, 0x0, 1, 0x0, 1, .all, [⟨31, 0, .ro, 0, .sticky⟩]⟩,
  ⟨0xd0010, 0x0, 1, 0x0, 1, .all, [⟨31, 0, .rw, 0, .cold⟩]⟩,
  ⟨0xd0014, 0x0, 1, 0x0, 1, .all, [⟨31, 0, .rw, 0, .cold⟩]⟩,
  ⟨0xd0018, 0x0, 1, 0x0, 1, .all, [⟨27, 16, .ro, 0, .sticky⟩, ⟨5, 0, .ro, 0, .sticky⟩]⟩,
  ⟨0xd001c, 0x0, 1, 0x0, 1, .all, [⟨18, 0, .ro, 0x40000, .warm⟩]⟩,
  ⟨0xe0000, 0x0, 1, 0x0, 1, .all, [⟨11, 0, .rw, 0, .warm⟩]⟩,
  ⟨0xe0004, 0x4, 8, 0x0, 1, .all, [⟨31, 0, .wo, 0, .warm⟩]⟩,
  ⟨0xe0024, 0x0, 1, 0x0, 1, .all, [⟨31, 0, .wo, 0, .warm⟩]⟩,
  ⟨0xe0028, 0x0, 1, 0x0, 1, .all, [⟨31, 0, .wo, 0, .warm⟩]⟩,
  ⟨0xe002c, 0x0, 1, 0x0, 1, .all, [⟨31, 0, .wo, 0, .warm⟩]⟩,
  ⟨0xe0030, 0x0, 1, 0x0, 1, .all, [⟨31, 0, .wo, 0, .warm⟩]⟩,
  ⟨0xe0034, 0x0, 1, 0x0, 1, .all, [⟨31, 0, .wo, 0, .warm⟩]⟩]

/-- Table 21-2 with the register tables of the chapters, part 2. -/
def regTable2 : List RegSpec := [
  ⟨0xe0038, 0x0, 1, 0x0, 1, .all, [⟨1, 0, .wo, 0, .none⟩]⟩,
  ⟨0xe003c, 0x0, 1, 0x0, 1, .all, [⟨31, 31, .ro, 0, .warm⟩, ⟨7, 0, .ro, 0, .warm⟩]⟩,
  ⟨0xe0040, 0x0, 1, 0x0, 1, .all, [⟨1, 0, .ro, 0, .cold⟩]⟩,
  ⟨0xe0044, 0x0, 1, 0x0, 1, .all, [⟨31, 0, .ro, 0, .cold⟩]⟩,
  ⟨0xe0048, 0x0, 1, 0x0, 1, .all, [⟨31, 0, .ro, 0, .cold⟩]⟩,
  ⟨0xe004c, 0x0, 1, 0x0, 1, .all, [⟨31, 0, .ro, 0, .cold⟩]⟩,
  ⟨0xe0050, 0x0, 1, 0x0, 1, .all, [⟨31, 0, .ro, 0, .cold⟩]⟩,
  ⟨0xe0054, 0x0, 1, 0x0, 1, .all, [⟨31, 0, .ro, 0, .cold⟩]⟩,
  ⟨0x84000, 0x10000, 4, 0x0, 1, .deck, [⟨24, 24, .rw, 1, .cold⟩, ⟨17, 16, .rw, 2, .cold⟩, ⟨15, 8, .rw, 0x20, .cold⟩, ⟨5, 4, .rw, 3, .cold⟩, ⟨2, 0, .rw, 3, .cold⟩]⟩,
  ⟨0x84004, 0x10000, 4, 0x0, 1, .deck, [⟨31, 24, .rw, 0x30, .cold⟩, ⟨23, 16, .rw, 0x10, .cold⟩, ⟨12, 8, .rw, 0xc, .cold⟩, ⟨4, 0, .rw, 4, .cold⟩]⟩,
  ⟨0x84008, 0x10000, 4, 0x0, 1, .deck, [⟨31, 31, .ro, 0, .deck⟩, ⟨27, 24, .ro, 0, .deck⟩, ⟨23, 0, .ro, 0, .deck⟩]⟩,
  ⟨0x84010, 0x10000, 4, 0x4, 8, .deck, [⟨31, 31, .ro, 0, .deck⟩, ⟨9, 0, .ro, 0, .deck⟩]⟩,
  ⟨0x84030, 0x10000, 4, 0x0, 1, .deck, [⟨9, 0, .rw, 0, .warm⟩]⟩,
  ⟨0x84034, 0x10000, 4, 0x0, 1, .deck, [⟨20, 16, .ro, 0, .deck⟩, ⟨15, 8, .ro, 0, .deck⟩, ⟨1, 0, .ro, 0, .deck⟩]⟩,
  ⟨0x84038, 0x10000, 4, 0x4, 4, .deck, [⟨31, 0, .ro, 0, .deck⟩]⟩,
  ⟨0x84050, 0x10000, 4, 0x4, 4, .deck, [⟨31, 0, .ro, 0, .deck⟩]⟩,
  ⟨0x84060, 0x10000, 4, 0x0, 1, .deck, [⟨31, 16, .ro, 0, .deck⟩, ⟨11, 0, .ro, 0, .deck⟩]⟩,
  ⟨0x86000, 0x10000, 4, 0x0, 1, .deck, [⟨21, 16, .rw, 0, .cold⟩, ⟨3, 0, .rw, 8, .cold⟩]⟩,
  ⟨0x86004, 0x10000, 4, 0x0, 1, .deck, [⟨31, 29, .ro, 0, .deck⟩, ⟨27, 24, .ro, 0, .deck⟩, ⟨23, 0, .ro, 0, .deck⟩]⟩,
  ⟨0x86010, 0x10000, 4, 0x4, 8, .deck, [⟨31, 0, .ro, 0, .deck⟩]⟩,
  ⟨0x86030, 0x10000, 4, 0x0, 1, .deck, [⟨31, 0, .ro, 0, .deck⟩]⟩,
  ⟨0x86034, 0x10000, 4, 0x0, 1, .deck, [⟨31, 31, .ro, 0, .deck⟩, ⟨7, 0, .ro, 0, .deck⟩]⟩,
  ⟨0x86038, 0x10000, 4, 0x0, 1, .deck, [⟨31, 31, .ro, 0, .deck⟩, ⟨20, 0, .ro, 0, .deck⟩]⟩,
  ⟨0xf0024, 0x0, 1, 0x0, 1, .all, [⟨6, 6, .w1c, 0, .sticky⟩, ⟨5, 5, .w1c, 0, .sticky⟩, ⟨4, 4, .w1c, 0, .sticky⟩, ⟨3, 3, .w1c, 0, .sticky⟩, ⟨2, 2, .w1c, 0, .sticky⟩, ⟨1, 1, .w1c, 0, .sticky⟩, ⟨0, 0, .w1c, 0, .sticky⟩]⟩,
  ⟨0xc0000, 0x0, 1, 0x0, 1, .all, [⟨11, 8, .ro, 0, .deck⟩, ⟨7, 4, .ro, 0, .deck⟩, ⟨3, 0, .ro, 0, .deck⟩]⟩,
  ⟨0xc0004, 0x0, 1, 0x0, 1, .all, [⟨0, 0, .ro, 0, .warm⟩]⟩,
  ⟨0xc1000, 0x1000, 4, 0x0, 1, .deck, [⟨31, 31, .ro, 0, .deck⟩, ⟨20, 20, .ro, 0, .deck⟩, ⟨19, 16, .ro, 0, .deck⟩, ⟨15, 15, .ro, 0, .deck⟩, ⟨14, 14, .ro, 0, .deck⟩, ⟨13, 13, .ro, 0, .deck⟩, ⟨12, 12, .ro, 0, .deck⟩, ⟨10, 8, .ro, 2, .deck⟩, ⟨6, 4, .ro, 2, .deck⟩, ⟨2, 0, .ro, 0, .deck⟩]⟩,
  ⟨0xc1004, 0x1000, 4, 0x0, 1, .deck, [⟨8, 8, .w1s, 0, .deck⟩, ⟨3, 0, .rw, 0, .deck⟩]⟩,
  ⟨0xc1008, 0x1000, 4, 0x0, 1, .deck, [⟨31, 16, .rw, 0x400, .cold⟩, ⟨15, 0, .rw, 0x600, .cold⟩]⟩,
  ⟨0xc100c, 0x1000, 4, 0x0, 1, .deck, [⟨31, 16, .rw, 0x2710, .cold⟩, ⟨15, 0, .rw, 0x3e8, .cold⟩]⟩,
  ⟨0xc1010, 0x1000, 4, 0x0, 1, .deck, [⟨31, 16, .rw, 0x3e8, .cold⟩, ⟨15, 0, .rw, 0xc8, .cold⟩]⟩,
  ⟨0xc1014, 0x1000, 4, 0x0, 1, .deck, [⟨31, 24, .rw, 0x28, .cold⟩, ⟨23, 16, .rw, 0xc8, .cold⟩, ⟨15, 8, .rw, 0x78, .cold⟩, ⟨7, 0, .rw, 0x50, .cold⟩]⟩,
  ⟨0xc1018, 0x1000, 4, 0x0, 1, .deck, [⟨31, 16, .ro, 0, .deck⟩, ⟨15, 0, .ro, 0, .deck⟩]⟩,
  ⟨0xc101c, 0x1000, 4, 0x0, 1, .deck, [⟨31, 31, .ro, 0, .deck⟩, ⟨23, 0, .ro, 0, .deck⟩]⟩,
  ⟨0xc1024, 0x1000, 4, 0x4, 3, .deck, [⟨27, 16, .rw, 0xa0, .cold⟩, ⟨11, 0, .rw, 0x10, .cold⟩]⟩,
  ⟨0xc1030, 0x1000, 4, 0x0, 1, .deck, [⟨25, 24, .rw, 0, .warm⟩, ⟨20, 16, .rw, 0, .warm⟩, ⟨2, 0, .rw, 0, .warm⟩]⟩,
  ⟨0xc1034, 0x1000, 4, 0x0, 1, .deck, [⟨31, 0, .rw, 0, .warm⟩]⟩,
  ⟨0xc1038, 0x1000, 4, 0x0, 1, .deck, [⟨31, 30, .ro, 0, .warm⟩, ⟨4, 0, .rw, 0, .warm⟩]⟩,
  ⟨0xc103c, 0x1000, 4, 0x0, 1, .deck, [⟨13, 8, .ro, 0, .warm⟩, ⟨3, 0, .ro, 0, .warm⟩]⟩,
  ⟨0xc1040, 0x1000, 4, 0x0, 1, .deck, [⟨31, 24, .ro, 0, .deck⟩, ⟨23, 16, .ro, 0, .deck⟩, ⟨15, 0, .ro, 0, .deck⟩]⟩]

/-- Table 21-2 with the register tables of the chapters, part 3. -/
def regTable3 : List RegSpec := [
  ⟨0xc1044, 0x1000, 4, 0x0, 1, .deck, [⟨31, 16, .ro, 0, .deck⟩, ⟨15, 0, .ro, 0, .deck⟩]⟩,
  ⟨0xc1100, 0x1000, 4, 0x20, 4, .deck, [⟨28, 16, .rw, 0, .warm⟩, ⟨11, 8, .rw, 0, .warm⟩, ⟨2, 2, .rw, 0, .warm⟩, ⟨1, 1, .w1s, 0, .warm⟩, ⟨0, 0, .rw, 0, .warm⟩]⟩,
  ⟨0xc1104, 0x1000, 4, 0x20, 4, .deck, [⟨25, 24, .rw, 0, .warm⟩, ⟨20, 16, .rw, 0, .warm⟩, ⟨2, 0, .rw, 0, .warm⟩]⟩,
  ⟨0xc1108, 0x1000, 4, 0x20, 4, .deck, [⟨31, 31, .w1s, 0, .warm⟩, ⟨25, 24, .rw, 0, .warm⟩, ⟨21, 16, .rw, 0, .warm⟩, ⟨2, 0, .rw, 0, .warm⟩]⟩,
  ⟨0xc110c, 0x1000, 4, 0x20, 4, .deck, [⟨31, 0, .rw, 0, .warm⟩]⟩,
  ⟨0xc1110, 0x1000, 4, 0x20, 4, .deck, [⟨31, 31, .ro, 0, .warm⟩, ⟨30, 30, .ro, 0, .warm⟩, ⟨28, 16, .rw, 0, .warm⟩, ⟨13, 0, .ro, 0, .warm⟩]⟩,
  ⟨0xc1114, 0x1000, 4, 0x20, 4, .deck, [⟨31, 0, .ro, 0, .warm⟩]⟩,
  ⟨0xc1118, 0x1000, 4, 0x20, 4, .deck, [⟨31, 0, .ro, 0, .warm⟩]⟩,
  ⟨0xc111c, 0x1000, 4, 0x20, 4, .deck, [⟨31, 0, .ro, 0, .warm⟩]⟩,
  ⟨0x50000, 0x0, 1, 0x0, 1, .all, [⟨5, 0, .rw, 0, .warm⟩]⟩,
  ⟨0x50004, 0x0, 1, 0x0, 1, .all, [⟨31, 31, .rw, 0, .nv⟩, ⟨30, 30, .rw, 0, .nv⟩, ⟨19, 0, .rw, 0, .nv⟩]⟩,
  ⟨0x50008, 0x0, 1, 0x0, 1, .all, [⟨19, 0, .rw, 0, .nv⟩]⟩,
  ⟨0x5000c, 0x0, 1, 0x0, 1, .all, [⟨19, 0, .rw, 0, .nv⟩]⟩,
  ⟨0x50010, 0x0, 1, 0x0, 1, .all, [⟨31, 31, .ro, 0, .warm⟩, ⟨30, 30, .ro, 0, .warm⟩, ⟨19, 0, .ro, 0, .warm⟩]⟩,
  ⟨0x50014, 0x0, 1, 0x0, 1, .all, [⟨31, 24, .ro, 0, .warm⟩, ⟨23, 16, .ro, 0, .warm⟩, ⟨15, 8, .ro, 0, .warm⟩, ⟨7, 0, .ro, 0, .warm⟩]⟩,
  ⟨0x50040, 0x4, 4, 0x0, 1, .deck, [⟨13, 8, .rw, 0, .nv⟩, ⟨5, 0, .rw, 0, .nv⟩]⟩,
  ⟨0x50080, 0x0, 1, 0x0, 1, .all, [⟨31, 30, .wo, 0, .none⟩, ⟨19, 0, .wo, 0, .none⟩]⟩,
  ⟨0x50084, 0x0, 1, 0x0, 1, .all, [⟨31, 28, .ro, 0, .warm⟩, ⟨19, 0, .ro, 0, .warm⟩]⟩,
  ⟨0x50088, 0x0, 1, 0x0, 1, .all, [⟨27, 24, .rw, 0, .warm⟩, ⟨19, 0, .rw, 0, .warm⟩]⟩,
  ⟨0x5008c, 0x0, 1, 0x0, 1, .all, [⟨31, 30, .ro, 0, .sticky⟩, ⟨29, 26, .ro, 0, .sticky⟩, ⟨25, 20, .ro, 0, .sticky⟩, ⟨19, 0, .ro, 0, .sticky⟩]⟩,
  ⟨0x51000, 0x4, 1024, 0x0, 1, .all, [⟨31, 0, .rw, 0, .none⟩]⟩,
  ⟨0x60000, 0x0, 1, 0x0, 1, .all, [⟨4, 4, .rw, 0, .warm⟩, ⟨3, 0, .rw, 0, .warm⟩]⟩,
  ⟨0x60004, 0x0, 1, 0x0, 1, .all, [⟨31, 31, .rw, 0, .nv⟩, ⟨30, 30, .rw, 0, .nv⟩, ⟨8, 0, .rw, 0, .nv⟩]⟩,
  ⟨0x60008, 0x0, 1, 0x0, 1, .all, [⟨18, 0, .ro, 0, .warm⟩]⟩,
  ⟨0x60010, 0x4, 2, 0x0, 1, .all, [⟨31, 16, .ro, 0, .cold⟩, ⟨15, 8, .ro, 0, .cold⟩, ⟨6, 6, .ro, 0, .cold⟩, ⟨5, 4, .ro, 0, .cold⟩, ⟨3, 3, .ro, 0, .cold⟩, ⟨2, 2, .ro, 0, .cold⟩, ⟨1, 1, .ro, 0, .cold⟩, ⟨0, 0, .ro, 0, .cold⟩]⟩,
  ⟨0x60020, 0x0, 1, 0x0, 1, .all, [⟨19, 0, .rw, 0, .warm⟩]⟩,
  ⟨0x60024, 0x0, 1, 0x0, 1, .all, [⟨31, 31, .w1s, 0, .warm⟩, ⟨30, 30, .ro, 0, .warm⟩, ⟨19, 0, .rw, 0, .warm⟩]⟩,
  ⟨0x60028, 0x0, 1, 0x0, 1, .all, [⟨31, 0, .rw, 0, .warm⟩]⟩,
  ⟨0x60030, 0x0, 1, 0x0, 1, .all, [⟨29, 24, .ro, 0, .cold⟩, ⟨21, 16, .ro, 0, .cold⟩, ⟨11, 0, .ro, 0, .cold⟩]⟩,
  ⟨0x60034, 0x0, 1, 0x0, 1, .all, [⟨31, 31, .ro, 0, .cold⟩, ⟨13, 12, .ro, 0, .cold⟩, ⟨11, 0, .ro, 0, .cold⟩]⟩,
  ⟨0x60040, 0x4, 4, 0x0, 1, .all, [⟨31, 16, .ro, 0, .cold⟩, ⟨15, 0, .ro, 0, .cold⟩]⟩,
  ⟨0x60050, 0x0, 1, 0x0, 1, .all, [⟨30, 11, .ro, 0, .sticky⟩, ⟨10, 0, .ro, 0, .sticky⟩]⟩,
  ⟨0x60054, 0x0, 1, 0x0, 1, .all, [⟨31, 31, .ro, 0, .sticky⟩, ⟨30, 30, .ro, 0, .sticky⟩, ⟨29, 29, .ro, 0, .sticky⟩, ⟨23, 20, .ro, 0, .sticky⟩, ⟨19, 0, .ro, 0, .sticky⟩]⟩,
  ⟨0x60060, 0x0, 1, 0x0, 1, .all, [⟨31, 31, .rw, 1, .cold⟩, ⟨15, 0, .rw, 0x3840, .cold⟩]⟩,
  ⟨0x60064, 0x0, 1, 0x0, 1, .all, [⟨31, 8, .ro, 0, .cold⟩, ⟨6, 0, .ro, 0, .cold⟩]⟩,
  ⟨0x40000, 0x0, 1, 0x0, 1, .all, [⟨31, 31, .ro, 0, .warm⟩, ⟨30, 30, .ro, 0, .cold⟩, ⟨29, 29, .ro, 0, .cold⟩, ⟨1, 0, .ro, 0, .cold⟩]⟩,
  ⟨0x40004, 0x0, 1, 0x0, 1, .all, [⟨8, 8, .rwp, 1, .nv⟩, ⟨1, 0, .rwp, 0, .nv⟩]⟩,
  ⟨0x40008, 0x0, 1, 0x0, 1, .all, [⟨1, 0, .rw, 0, .warm⟩]⟩,
  ⟨0x4000c, 0x0, 1, 0x0, 1, .all, [⟨31, 30, .ro, 0, .cold⟩, ⟨21, 0, .ro, 0, .cold⟩]⟩,
  ⟨0x40010, 0x0, 1, 0x0, 1, .all, [⟨31, 0, .ro, 0, .cold⟩]⟩]

/-- Table 21-2 with the register tables of the chapters, part 4. -/
def regTable4 : List RegSpec := [
  ⟨0x40014, 0x0, 1, 0x0, 1, .all, [⟨31, 0, .rw, 0, .warm⟩]⟩,
  ⟨0x40018, 0x0, 1, 0x0, 1, .all, [⟨19, 0, .rw, 0, .warm⟩]⟩,
  ⟨0x4001c, 0x0, 1, 0x0, 1, .all, [⟨21, 0, .rw, 0, .warm⟩]⟩,
  ⟨0x40020, 0x0, 1, 0x0, 1, .all, [⟨1, 0, .wo, 0, .none⟩]⟩,
  ⟨0x40024, 0x0, 1, 0x0, 1, .all, [⟨31, 28, .ro, 0, .warm⟩, ⟨27, 24, .ro, 0, .warm⟩, ⟨20, 20, .ro, 0, .warm⟩, ⟨19, 16, .ro, 0, .warm⟩, ⟨15, 0, .ro, 0, .warm⟩]⟩,
  ⟨0x40028, 0x0, 1, 0x0, 1, .all, [⟨31, 0, .ro, 0, .cold⟩]⟩,
  ⟨0x4002c, 0x0, 1, 0x0, 1, .all, [⟨31, 0, .ro, 0, .cold⟩]⟩,
  ⟨0x40030, 0x0, 1, 0x0, 1, .all, [⟨31, 0, .ro, 0, .cold⟩]⟩,
  ⟨0x40034, 0x0, 1, 0x0, 1, .all, [⟨19, 16, .ro, 0, .warm⟩, ⟨12, 0, .ro, 0, .warm⟩]⟩,
  ⟨0x40040, 0x4, 4, 0x0, 1, .deck, [⟨31, 0, .ro, 0, .cold⟩]⟩,
  ⟨0x100058, 0x100, 4096, 0x0, 1, .ctx, [⟨31, 0, .ro, 0, .ctx⟩]⟩,
  ⟨0x80000, 0x10000, 4, 0x0, 1, .deck, [⟨1, 1, .w1s, 0, .deck⟩, ⟨0, 0, .rw, 1, .cold⟩]⟩,
  ⟨0x80004, 0x10000, 4, 0x0, 1, .deck, [⟨31, 31, .ro, 0, .deck⟩, ⟨30, 30, .ro, 0, .deck⟩, ⟨23, 20, .ro, 0, .deck⟩, ⟨17, 16, .ro, 0, .deck⟩, ⟨2, 0, .ro, 0, .deck⟩]⟩,
  ⟨0x80008, 0x10000, 4, 0x0, 1, .deck, [⟨16, 0, .ro, 0, .deck⟩]⟩,
  ⟨0x8000c, 0x10000, 4, 0x0, 1, .deck, [⟨31, 16, .ro, 0, .deck⟩, ⟨15, 0, .ro, 0, .deck⟩]⟩,
  ⟨0x80010, 0x10000, 4, 0x0, 1, .deck, [⟨31, 16, .ro, 0, .deck⟩, ⟨15, 0, .ro, 0, .deck⟩]⟩,
  ⟨0x80014, 0x10000, 4, 0x0, 1, .deck, [⟨31, 16, .ro, 0, .deck⟩, ⟨15, 0, .ro, 0, .deck⟩]⟩,
  ⟨0x80018, 0x10000, 4, 0x0, 1, .deck, [⟨15, 0, .rw, 0, .warm⟩]⟩,
  ⟨0x8001c, 0x10000, 4, 0x0, 1, .deck, [⟨31, 0, .rw, 0, .warm⟩]⟩,
  ⟨0x80020, 0x10000, 4, 0x0, 1, .deck, [⟨31, 31, .ro, 0, .warm⟩, ⟨7, 4, .ro, 0, .warm⟩, ⟨1, 0, .wo, 0, .none⟩]⟩,
  ⟨0x70000, 0x4, 2, 0x0, 1, .all, [⟨14, 12, .ro, 0, .warm⟩, ⟨10, 8, .ro, 0, .warm⟩, ⟨5, 4, .ro, 0, .warm⟩, ⟨3, 0, .ro, 0, .warm⟩]⟩,
  ⟨0x70008, 0x0, 1, 0x0, 1, .all, [⟨5, 4, .w1s, 0, .warm⟩, ⟨3, 2, .rw, 3, .nv⟩, ⟨1, 0, .rw, 3, .nv⟩]⟩,
  ⟨0x70010, 0x4, 2, 0x0, 1, .all, [⟨31, 24, .ro, 0, .warm⟩, ⟨23, 16, .ro, 0, .warm⟩, ⟨15, 0, .ro, 0, .warm⟩]⟩,
  ⟨0x70018, 0x0, 1, 0x0, 1, .all, [⟨31, 0, .ro, 0, .sticky⟩]⟩,
  ⟨0x7001c, 0x0, 1, 0x0, 1, .all, [⟨31, 30, .ro, 0, .sticky⟩, ⟨27, 20, .ro, 0, .warm⟩, ⟨19, 0, .ro, 0, .sticky⟩]⟩,
  ⟨0x70020, 0x0, 1, 0x0, 1, .all, [⟨31, 3, .rw, 0, .cold⟩, ⟨0, 0, .rw, 0, .cold⟩]⟩,
  ⟨0x70024, 0x0, 1, 0x0, 1, .all, [⟨19, 0, .rw, 0, .cold⟩]⟩,
  ⟨0x70028, 0x0, 1, 0x0, 1, .all, [⟨31, 26, .ro, 0, .warm⟩, ⟨25, 0, .ro, 0, .warm⟩]⟩,
  ⟨0x4, 0x0, 1, 0x0, 1, .all, [⟨31, 31, .ro, 0, .cold⟩, ⟨30, 30, .ro, 0, .cold⟩, ⟨15, 0, .ro, 0, .cold⟩]⟩,
  ⟨0x8, 0x0, 1, 0x0, 1, .all, [⟨4, 4, .w1s, 0, .warm⟩, ⟨3, 0, .w1s, 0, .warm⟩]⟩,
  ⟨0xc, 0x0, 1, 0x0, 1, .all, [⟨31, 28, .ro, 1, .sticky⟩, ⟨23, 16, .ro, 1, .sticky⟩, ⟨4, 0, .ro, 0, .sticky⟩]⟩,
  ⟨0x10, 0x0, 1, 0x0, 1, .all, [⟨9, 8, .ro, 0, .cold⟩, ⟨3, 3, .ro, 0, .cold⟩, ⟨2, 0, .ro, 0, .cold⟩]⟩,
  ⟨0x14, 0x0, 1, 0x0, 1, .all, [⟨31, 31, .ro, 0, .cold⟩, ⟨30, 30, .ro, 0, .cold⟩]⟩,
  ⟨0x10000, 0x0, 1, 0x0, 1, .all, [⟨28, 28, .ro, 0, .sticky⟩, ⟨27, 27, .ro, 0, .sticky⟩, ⟨26, 26, .ro, 0, .por⟩, ⟨25, 25, .ro, 0, .cold⟩, ⟨24, 16, .ro, 0, .cold⟩, ⟨9, 8, .ro, 0, .cold⟩, ⟨2, 0, .ro, 0, .sticky⟩]⟩,
  ⟨0x10004, 0x0, 1, 0x0, 1, .all, [⟨8, 0, .rwp, 0x3c, .nv⟩]⟩,
  ⟨0x10008, 0x0, 1, 0x0, 1, .all, [⟨31, 16, .wo, 0, .none⟩, ⟨4, 4, .w1s, 0, .none⟩, ⟨3, 3, .w1s, 0, .none⟩, ⟨2, 2, .rwp, 0, .none⟩, ⟨1, 1, .w1s, 0, .none⟩, ⟨0, 0, .rwp, 0, .none⟩]⟩,
  ⟨0x1000c, 0x0, 1, 0x0, 1, .all, [⟨1, 0, .rw, 0, .cold⟩]⟩,
  ⟨0x10010, 0x0, 1, 0x0, 1, .all, [⟨31, 31, .rwp, 1, .por⟩, ⟨23, 16, .ro, 0, .sticky⟩, ⟨1, 0, .ro, 0, .por⟩]⟩,
  ⟨0x10014, 0x0, 1, 0x0, 1, .all, [⟨31, 16, .ro, 0, .warm⟩, ⟨15, 8, .ro, 0, .warm⟩, ⟨7, 0, .ro, 0, .warm⟩]⟩,
  ⟨0x10018, 0x0, 1, 0x0, 1, .all, [⟨25, 0, .ro, 0, .warm⟩]⟩]

/-- Table 21-2 with the register tables of the chapters, part 5. -/
def regTable5 : List RegSpec := [
  ⟨0x30000, 0x0, 1, 0x0, 1, .all, [⟨31, 31, .ro, 0, .warm⟩, ⟨30, 30, .ro, 0, .cold⟩, ⟨29, 29, .ro, 0, .cold⟩, ⟨23, 23, .ro, 0, .cold⟩, ⟨22, 22, .ro, 0, .cold⟩, ⟨21, 21, .ro, 0, .cold⟩, ⟨20, 20, .ro, 0, .cold⟩, ⟨15, 0, .ro, 0, .warm⟩]⟩,
  ⟨0x30004, 0x0, 1, 0x0, 1, .all, [⟨31, 31, .ro, 0, .cold⟩, ⟨1, 1, .w1s, 0, .cold⟩, ⟨0, 0, .w1s, 0, .cold⟩]⟩,
  ⟨0x30008, 0x0, 1, 0x0, 1, .all, [⟨3, 0, .rw, 0xf, .cold⟩]⟩,
  ⟨0x3000c, 0x0, 1, 0x0, 1, .all, [⟨16, 16, .rw, 0, .warm⟩, ⟨14, 8, .rw, 0, .warm⟩, ⟨6, 0, .rw, 0, .warm⟩]⟩,
  ⟨0x30010, 0x0, 1, 0x0, 1, .all, [⟨2, 0, .wo, 0, .none⟩]⟩,
  ⟨0x30014, 0x0, 1, 0x0, 1, .all, [⟨31, 28, .ro, 0, .warm⟩, ⟨27, 24, .ro, 0, .warm⟩, ⟨19, 0, .ro, 0, .warm⟩]⟩,
  ⟨0x30020, 0x4, 8, 0x0, 1, .all, [⟨31, 0, .ro, 0xffffffff, .por⟩]⟩,
  ⟨0x30040, 0x4, 8, 0x0, 1, .all, [⟨31, 0, .wo, 0, .none⟩]⟩,
  ⟨0x30060, 0x4, 8, 0x0, 1, .all, [⟨31, 0, .rwp, 0, .none⟩]⟩,
  ⟨0x30080, 0x4, 6, 0x0, 1, .all, [⟨31, 0, .rwp, 0xffffffff, .nv⟩]⟩,
  ⟨0x30098, 0x4, 1, 0x0, 1, .all, [⟨31, 0, .rwp, 0xffffff, .nv⟩]⟩,
  ⟨0x3009c, 0x4, 1, 0x0, 1, .all, [⟨31, 0, .rwp, 0, .nv⟩]⟩,
  ⟨0x300a0, 0x0, 1, 0x0, 1, .all, [⟨31, 0, .ro, 0, .cold⟩]⟩,
  ⟨0x300a4, 0x0, 1, 0x0, 1, .all, [⟨16, 16, .rw, 0, .warm⟩, ⟨14, 8, .rw, 0, .warm⟩, ⟨3, 0, .rw, 0, .warm⟩]⟩,
  ⟨0x30200, 0x4, 128, 0x0, 1, .all, [⟨31, 0, .rw, 0xffffffff, .warm⟩]⟩,
  ⟨0x31000, 0x4, 1024, 0x0, 1, .all, [⟨31, 0, .ro, 0, .none⟩]⟩,
  ⟨0x32000, 0x4, 1024, 0x0, 1, .all, [⟨31, 0, .ro, 0, .none⟩]⟩,
  ⟨0x20000, 0x0, 1, 0x0, 1, .all, [⟨31, 31, .ro, 0, .cold⟩, ⟨19, 13, .ro, 0, .cold⟩, ⟨12, 0, .ro, 0, .cold⟩]⟩,
  ⟨0x20004, 0x0, 1, 0x0, 1, .all, [⟨1, 1, .rwp, 0, .none⟩, ⟨0, 0, .rw, 0, .cold⟩]⟩,
  ⟨0x20008, 0x0, 1, 0x0, 1, .all, [⟨11, 0, .rw, 0, .cold⟩]⟩,
  ⟨0x2000c, 0x0, 1, 0x0, 1, .all, [⟨31, 0, .ro, 0, .cold⟩]⟩,
  ⟨0x20040, 0x4, 16, 0x0, 1, .all, [⟨31, 0, .ro, 0, .none⟩]⟩,
  ⟨0x20100, 0x0, 1, 0x0, 1, .all, [⟨8, 0, .rw, 0, .warm⟩]⟩,
  ⟨0x20104, 0x0, 1, 0x0, 1, .all, [⟨31, 31, .rw, 0, .nv⟩, ⟨30, 30, .rw, 0, .nv⟩, ⟨29, 29, .rw, 0, .nv⟩, ⟨27, 26, .rw, 0, .nv⟩, ⟨19, 16, .rw, 0, .nv⟩, ⟨10, 9, .ro, 0, .none⟩]⟩,
  ⟨0x20108, 0x4, 8, 0x0, 1, .all, [⟨25, 2, .rw, 0, .nv⟩]⟩,
  ⟨0x20200, 0x0, 1, 0x0, 1, .all, [⟨31, 31, .ro, 0, .warm⟩, ⟨3, 0, .ro, 0, .warm⟩]⟩,
  ⟨0x20204, 0x0, 1, 0x0, 1, .all, [⟨31, 0, .ro, 0, .warm⟩]⟩,
  ⟨0x20210, 0x4, 4, 0x0, 1, .all, [⟨31, 0, .ro, 0, .warm⟩]⟩,
  ⟨0x20300, 0x0, 1, 0x0, 1, .all, [⟨31, 0, .rw, 0, .por⟩]⟩,
  ⟨0x20304, 0x0, 1, 0x0, 1, .all, [⟨31, 0, .ro, 0, .none⟩]⟩,
  ⟨0x20308, 0x0, 1, 0x0, 1, .all, [⟨31, 0, .ro, 0, .none⟩]⟩,
  ⟨0x20400, 0x0, 1, 0x0, 1, .all, [⟨31, 12, .rw, 0, .cold⟩]⟩,
  ⟨0x20404, 0x0, 1, 0x0, 1, .all, [⟨19, 0, .rw, 0, .cold⟩]⟩,
  ⟨0x20408, 0x0, 1, 0x0, 1, .all, [⟨31, 31, .rw, 0, .cold⟩, ⟨4, 0, .rw, 0xc, .cold⟩]⟩,
  ⟨0x2040c, 0x0, 1, 0x0, 1, .all, [⟨31, 0, .rw, 0, .cold⟩]⟩,
  ⟨0x20410, 0x0, 1, 0x0, 1, .all, [⟨31, 0, .ro, 0, .cold⟩]⟩,
  ⟨0x20414, 0x0, 1, 0x0, 1, .all, [⟨31, 0, .ro, 0, .cold⟩]⟩,
  ⟨0x18, 0x0, 1, 0x0, 1, .all, [⟨9, 9, .ro, 0, .por⟩, ⟨8, 8, .ro, 0, .por⟩, ⟨7, 4, .ro, 0, .por⟩, ⟨2, 0, .ro, 0, .por⟩]⟩,
  ⟨0x50, 0x0, 1, 0x0, 1, .all, [⟨25, 16, .rw, 0x352, .nv⟩, ⟨9, 0, .rw, 0x258, .nv⟩]⟩,
  ⟨0x54, 0x0, 1, 0x0, 1, .all, [⟨31, 31, .ro, 0, .warm⟩, ⟨27, 16, .ro, 0, .warm⟩, ⟨9, 0, .ro, 0, .warm⟩]⟩]

/-- Table 21-2 with the register tables of the chapters, part 6. -/
def regTable6 : List RegSpec := [
  ⟨0x58, 0x0, 1, 0x0, 1, .all, [⟨31, 24, .ro, 0, .warm⟩, ⟨23, 16, .rw, 0x64, .nv⟩, ⟨1, 1, .ro, 0, .cold⟩, ⟨0, 0, .ro, 0, .warm⟩]⟩,
  ⟨0x0, 0x0, 1, 0x0, 1, .all, [⟨31, 0, .ro, 0x1c3209ab, .por⟩]⟩,
  ⟨0x100008, 0x100, 4096, 0x0, 1, .ctx, [⟨31, 0, .rw, 0, .ctx⟩]⟩,
  ⟨0x100010, 0x100, 4096, 0x0, 1, .ctx, [⟨11, 0, .rw, 0, .ctx⟩]⟩,
  ⟨0x100018, 0x100, 4096, 0x0, 1, .ctx, [⟨3, 0, .rw, 0, .ctx⟩]⟩,
  ⟨0x100020, 0x100, 4096, 0x0, 1, .ctx, [⟨19, 0, .rw, 0, .ctx⟩]⟩,
  ⟨0x100024, 0x100, 4096, 0x0, 1, .ctx, [⟨31, 31, .ro, 0, .ctx⟩, ⟨7, 0, .ro, 0, .ctx⟩]⟩,
  ⟨0x100028, 0x100, 4096, 0x0, 1, .ctx, [⟨31, 12, .rw, 0, .ctx⟩]⟩,
  ⟨0x10002c, 0x100, 4096, 0x0, 1, .ctx, [⟨19, 0, .rw, 0, .ctx⟩]⟩,
  ⟨0x100034, 0x100, 4096, 0x0, 1, .ctx, [⟨31, 0, .rw, 0, .ctx⟩]⟩,
  ⟨0x100038, 0x100, 4096, 0x0, 1, .ctx, [⟨31, 0, .ro, 0, .ctx⟩]⟩,
  ⟨0x100044, 0x100, 4096, 0x0, 1, .ctx, [⟨31, 0, .ro, 0, .ctx⟩]⟩,
  ⟨0x100048, 0x100, 4096, 0x0, 1, .ctx, [⟨31, 0, .ro, 0, .ctx⟩]⟩,
  ⟨0x10004c, 0x100, 4096, 0x0, 1, .ctx, [⟨31, 0, .ro, 0, .ctx⟩]⟩,
  ⟨0x100050, 0x100, 4096, 0x0, 1, .ctx, [⟨31, 0, .ro, 0, .ctx⟩]⟩,
  ⟨0x100054, 0x100, 4096, 0x0, 1, .ctx, [⟨31, 0, .ro, 0, .ctx⟩]⟩,
  ⟨0x100080, 0x100, 4096, 0x4, 10, .ctx, [⟨31, 0, .ro, 0, .cold⟩]⟩]

/-- Every register of the aperture (R430). -/
def regTable : List RegSpec :=
  regTable1 ++ regTable2 ++ regTable3 ++ regTable4 ++ regTable5 ++ regTable6

/-- First index of the register of `r` at offset `off`, taken as one of its registers. -/
def RegSpec.index1 (r : RegSpec) (off : Nat) : Nat := if r.n1 = 1 then 0 else (off - r.base) / r.s1

/-- Second index of the register of `r` at offset `off`. -/
def RegSpec.index2 (r : RegSpec) (off : Nat) : Nat :=
  if r.n2 = 1 then 0 else (off - r.base - r.s1 * r.index1 off) / r.s2

/-- `off` is the offset of one of the registers of `r` (R430). -/
def RegSpec.holds (r : RegSpec) (off : Nat) : Bool :=
  decide (r.base ≤ off) && decide (r.index1 off < r.n1) && decide (r.index2 off < r.n2)
    && decide (off = r.base + r.s1 * r.index1 off + r.s2 * r.index2 off)

/-- The register table of offset `off`; none where the offset names no register (R11, R430). -/
def findReg (off : Nat) : Option RegSpec := regTable.find? (fun r => r.holds off)

end Sys2Proof.Machine
end

