-- ==== Sys2Proof/Machine/Bits.lean ====
section
/-! DEFINITION. Bit fields, byte orders (R6, R7) and the list helpers that the rules use. -/

namespace Sys2Proof.Machine

/-- The width of a field (R6). -/
def Fld.width (f : Fld) : Nat := f.hi - f.lo + 1

/-- The value of field `f` of `w` (R6). -/
def getBits (w : Word) (f : Fld) : Nat := (w.toNat >>> f.lo) % 2 ^ f.width

/-- `w` with `v` (cut to the field's width) in field `f` (R6). -/
def putBits (w : Word) (f : Fld) (v : Nat) : Word :=
  word ((w.toNat % 2 ^ f.lo) + ((v % 2 ^ f.width) <<< f.lo) + ((w.toNat >>> (f.hi + 1)) <<< (f.hi + 1)))

/-- Bit `k` of a number. -/
def bitAt (v k : Nat) : Bool := v.testBit k

/-- The number with exactly the bits listed. -/
def bitsOf (l : List Nat) : Nat := l.foldl (fun a k => a ||| (1 <<< k)) 0

/-- `n` bytes of `v`, least significant first: the order of registers and host structures (R7). -/
def le : Nat → Nat → List Byte
  | 0, _ => []
  | n + 1, v => byte v :: le n (v / 256)

/-- `n` bytes of `v`, most significant first: the order of fields on tape (R7). -/
def be (n v : Nat) : List Byte := (le n v).reverse

/-- The number whose bytes, least significant first, are given (R7). -/
def leVal : List Byte → Nat
  | [] => 0
  | b :: l => b.toNat + 256 * leVal l

/-- The number whose bytes, most significant first, are given (R7). -/
def beVal (l : List Byte) : Nat := leVal l.reverse

/-- `n` elements of `l` from place `a`. -/
def slice {α : Type} (l : List α) (a n : Nat) : List α := (l.drop a).take n

/-- The little-endian number in the `n` bytes from place `a` (R7). -/
def leAt (l : List Byte) (a n : Nat) : Nat := leVal (slice l a n)

/-- The big-endian number in the `n` bytes from place `a` (R7). -/
def beAt (l : List Byte) (a n : Nat) : Nat := beVal (slice l a n)

/-- `n` zero bytes. -/
def zeros (n : Nat) : List Byte := List.replicate n 0

/-- `l` cut or filled with zero bytes to `n` bytes. -/
def padTo (n : Nat) (l : List Byte) : List Byte := (l ++ zeros (n - l.length)).take n

/-- The 32-bit words of a list of bytes, little-endian. -/
def wordsOf : List Byte → List Word
  | a :: b :: c :: d :: l => word (leVal [a, b, c, d]) :: wordsOf l
  | [] => []
  | l => [word (leVal l)]

/-- The bytes of a list of words, little-endian. -/
def bytesOf (ws : List Word) : List Byte := ws.flatMap (fun w => le 4 w.toNat)

/-- `v` as a two's-complement number of `n` bits. -/
def signed (n v : Nat) : Int := if v % 2 ^ n < 2 ^ (n - 1) then (v % 2 ^ n : Nat) else (v % 2 ^ n : Nat) - (2 ^ n : Nat)

/-- The `n`-bit two's-complement code of `i`. -/
def unsigned (n : Nat) (i : Int) : Nat := (i % (2 ^ n : Nat)).toNat

/-- `l` cut into pieces of `n`, the last one perhaps shorter; `fuel` bounds their number. -/
def chunksN {α : Type} : Nat → Nat → List α → List (List α)
  | 0, _, _ => []
  | fuel + 1, n, l => if l.isEmpty then [] else l.take n :: chunksN fuel n (l.drop n)

/-- `l` cut into pieces of `n`. -/
def chunks {α : Type} (n : Nat) (l : List α) : List (List α) := chunksN l.length n l

/-- `l` with place `i` set to `v`; unchanged where there is no such place. -/
def setAt {α : Type} (l : List α) (i : Nat) (v : α) : List α := l.set i v

/-- The least number of a list, 0 for the empty list. -/
def leastOf (l : List Nat) : Nat := l.foldl Nat.min (l.headD 0)

/-- The greatest number of a list, 0 for the empty list. -/
def greatestOf (l : List Nat) : Nat := l.foldl Nat.max 0

end Sys2Proof.Machine
end

