-- ==== Sys2Proof/Machine/Aes.lean ====
section
/-! DEFINITION. AES-256 (FIPS 197) and GCM (SP 800-38D), by which the spec defines sealing and opening (R104). -/

namespace Sys2Proof.Machine

/-- The substitution table, part 1. -/
def aesSbox0 : List Nat :=
  [0x63, 0x7c, 0x77, 0x7b, 0xf2, 0x6b, 0x6f, 0xc5, 0x30, 0x1, 0x67, 0x2b, 0xfe, 0xd7, 0xab, 0x76,
   0xca, 0x82, 0xc9, 0x7d, 0xfa, 0x59, 0x47, 0xf0, 0xad, 0xd4, 0xa2, 0xaf, 0x9c, 0xa4, 0x72, 0xc0,
   0xb7, 0xfd, 0x93, 0x26, 0x36, 0x3f, 0xf7, 0xcc, 0x34, 0xa5, 0xe5, 0xf1, 0x71, 0xd8, 0x31, 0x15,
   0x4, 0xc7, 0x23, 0xc3, 0x18, 0x96, 0x5, 0x9a, 0x7, 0x12, 0x80, 0xe2, 0xeb, 0x27, 0xb2, 0x75]

/-- The substitution table, part 2. -/
def aesSbox1 : List Nat :=
  [0x9, 0x83, 0x2c, 0x1a, 0x1b, 0x6e, 0x5a, 0xa0, 0x52, 0x3b, 0xd6, 0xb3, 0x29, 0xe3, 0x2f, 0x84,
   0x53, 0xd1, 0x0, 0xed, 0x20, 0xfc, 0xb1, 0x5b, 0x6a, 0xcb, 0xbe, 0x39, 0x4a, 0x4c, 0x58, 0xcf,
   0xd0, 0xef, 0xaa, 0xfb, 0x43, 0x4d, 0x33, 0x85, 0x45, 0xf9, 0x2, 0x7f, 0x50, 0x3c, 0x9f, 0xa8,
   0x51, 0xa3, 0x40, 0x8f, 0x92, 0x9d, 0x38, 0xf5, 0xbc, 0xb6, 0xda, 0x21, 0x10, 0xff, 0xf3, 0xd2]

/-- The substitution table, part 3. -/
def aesSbox2 : List Nat :=
  [0xcd, 0xc, 0x13, 0xec, 0x5f, 0x97, 0x44, 0x17, 0xc4, 0xa7, 0x7e, 0x3d, 0x64, 0x5d, 0x19, 0x73,
   0x60, 0x81, 0x4f, 0xdc, 0x22, 0x2a, 0x90, 0x88, 0x46, 0xee, 0xb8, 0x14, 0xde, 0x5e, 0xb, 0xdb,
   0xe0, 0x32, 0x3a, 0xa, 0x49, 0x6, 0x24, 0x5c, 0xc2, 0xd3, 0xac, 0x62, 0x91, 0x95, 0xe4, 0x79,
   0xe7, 0xc8, 0x37, 0x6d, 0x8d, 0xd5, 0x4e, 0xa9, 0x6c, 0x56, 0xf4, 0xea, 0x65, 0x7a, 0xae, 0x8]

/-- The substitution table, part 4. -/
def aesSbox3 : List Nat :=
  [0xba, 0x78, 0x25, 0x2e, 0x1c, 0xa6, 0xb4, 0xc6, 0xe8, 0xdd, 0x74, 0x1f, 0x4b, 0xbd, 0x8b, 0x8a,
   0x70, 0x3e, 0xb5, 0x66, 0x48, 0x3, 0xf6, 0xe, 0x61, 0x35, 0x57, 0xb9, 0x86, 0xc1, 0x1d, 0x9e,
   0xe1, 0xf8, 0x98, 0x11, 0x69, 0xd9, 0x8e, 0x94, 0x9b, 0x1e, 0x87, 0xe9, 0xce, 0x55, 0x28, 0xdf,
   0x8c, 0xa1, 0x89, 0xd, 0xbf, 0xe6, 0x42, 0x68, 0x41, 0x99, 0x2d, 0xf, 0xb0, 0x54, 0xbb, 0x16]

/-- The substitution of a byte. -/
def aesSub (b : Byte) : Byte := byte ((aesSbox0 ++ aesSbox1 ++ aesSbox2 ++ aesSbox3).getD b.toNat 0)

/-- Multiplication by x in GF(2^8) with the polynomial 0x11B. -/
def aesXtime (b : Byte) : Byte :=
  byte (if b.toNat < 128 then 2 * b.toNat else (2 * b.toNat) ^^^ 0x11B)

/-- The exclusive-or of two lists of bytes. -/
def xorBytes (a b : List Byte) : List Byte := List.zipWith (fun x y => x ^^^ y) a b

/-- The key schedule extended by `n` words from word `i`; `w` holds the words so far, latest first. -/
def aesExpand : Nat → Nat → Byte → List (List Byte) → List (List Byte)
  | 0, _, _, w => w
  | n + 1, i, rc, w =>
    let prev := w.getD 0 []
    let old := w.getD 7 []
    if i % 8 = 0 then
      aesExpand n (i + 1) (aesXtime rc)
        (xorBytes old (xorBytes ((prev.tail ++ prev.take 1).map aesSub) [rc, 0, 0, 0]) :: w)
    else if i % 8 = 4 then aesExpand n (i + 1) rc (xorBytes old (prev.map aesSub) :: w)
    else aesExpand n (i + 1) rc (xorBytes old prev :: w)

/-- The fifteen round keys of a 32-byte key. -/
def aesRoundKeys (key : List Byte) : List (List Byte) :=
  chunks 16 (((aesExpand 52 8 1 (chunks 4 key).reverse).reverse).flatten)

/-- Row shift of a block held in column order. -/
def aesShiftRows (b : List Byte) : List Byte :=
  (List.range 16).map (fun i => b.getD ((i + 4 * (i % 4)) % 16) 0)

/-- Column mixing of one column. -/
def aesMixColumn (c : List Byte) : List Byte :=
  let all := c.foldl (fun a b => a ^^^ b) 0
  (List.range 4).map (fun i =>
    c.getD i 0 ^^^ all ^^^ aesXtime (c.getD i 0 ^^^ c.getD ((i + 1) % 4) 0))

/-- One inner round. -/
def aesRound (b rk : List Byte) : List Byte :=
  xorBytes ((chunks 4 (aesShiftRows (b.map aesSub))).flatMap aesMixColumn) rk

/-- AES-256 of one 16-byte block under the round keys. -/
def aesBlock (rks : List (List Byte)) (b : List Byte) : List Byte :=
  let b0 := xorBytes b (rks.getD 0 [])
  let b13 := ((rks.drop 1).take 13).foldl aesRound b0
  xorBytes (aesShiftRows (b13.map aesSub)) (rks.getD 14 [])

/-- Multiplication in the field of GCM. -/
def ghashMul (x y : Nat) : Nat :=
  ((List.range 128).foldl (fun (zv : Nat × Nat) i =>
    (if bitAt x (127 - i) then zv.1 ^^^ zv.2 else zv.1,
     if zv.2 % 2 = 1 then (zv.2 / 2) ^^^ (0xE1 <<< 120) else zv.2 / 2)) (0, y)).1

/-- The blocks of a string filled with zero bytes to a multiple of 16. -/
def gcmBlocks (l : List Byte) : List Nat := (chunks 16 l).map (fun c => beVal (padTo 16 c))

/-- GHASH of the additional data and the ciphertext. -/
def ghash (h : Nat) (aad c : List Byte) : Nat :=
  (gcmBlocks aad ++ gcmBlocks c ++ [(8 * aad.length) <<< 64 ||| (8 * c.length)]).foldl (fun y b => ghashMul (y ^^^ b) h) 0

/-- The counter-mode transform of the text under a 96-bit initialisation vector, from counter 2. -/
def gcmCrypt (rks : List (List Byte)) (iv txt : List Byte) : List Byte :=
  ((List.zip (List.range (chunks 16 txt).length) (chunks 16 txt)).flatMap
    (fun e => xorBytes e.2 (aesBlock rks (iv ++ be 4 (e.1 + 2)))))

/-- The 16-byte tag over the additional data and the ciphertext. -/
def gcmTag (rks : List (List Byte)) (iv aad c : List Byte) : List Byte :=
  xorBytes (be 16 (ghash (beVal (aesBlock rks (zeros 16))) aad c)) (aesBlock rks (iv ++ be 4 1))

/-- AES-256-GCM encryption: ciphertext and tag (R104). -/
def gcmSeal (key iv aad txt : List Byte) : List Byte × List Byte :=
  let rks := aesRoundKeys key
  let c := gcmCrypt rks iv txt
  (c, gcmTag rks iv aad c)

/-- AES-256-GCM decryption: the text where the tag is right (R104, R118). -/
def gcmOpen (key iv aad c tag : List Byte) : Option (List Byte) :=
  let rks := aesRoundKeys key
  if gcmTag rks iv aad c = tag then some (gcmCrypt rks iv c) else none

end Sys2Proof.Machine
end

