-- ==== Sys2Proof/Machine/Sparse.lean ====
section
/-! DEFINITION. Sparse tables: a value for every natural number, listed only where it differs from the value that an
unlisted number has. The canonical form has its keys strictly rising and no listed value equal to the unlisted one, so
equal tables are equal data. -/

namespace Sys2Proof.Machine

/-- A table by number: the listed (number, value) pairs. -/
abbrev Sparse (α : Type) := List (Nat × α)

/-- The listed value of `k`. -/
def Sparse.find {α : Type} : Sparse α → Nat → Option α
  | [], _ => none
  | (i, v) :: m, k => if i = k then some v else Sparse.find m k

/-- The value of `k`, where an unlisted number has the value `d`. -/
def Sparse.get {α : Type} (d : α) (m : Sparse α) (k : Nat) : α := (Sparse.find m k).getD d

/-- The table without an entry for `k`. -/
def Sparse.erase {α : Type} : Sparse α → Nat → Sparse α
  | [], _ => []
  | (i, v) :: m, k => if i = k then Sparse.erase m k else (i, v) :: Sparse.erase m k

/-- The entry (k, v) placed before the first greater number. -/
def Sparse.insert {α : Type} : Sparse α → Nat → α → Sparse α
  | [], k, v => [(k, v)]
  | (i, w) :: m, k, v => if k < i then (k, v) :: (i, w) :: m else (i, w) :: Sparse.insert m k v

/-- The table with `v` listed for `k`. -/
def Sparse.put {α : Type} (m : Sparse α) (k : Nat) (v : α) : Sparse α := Sparse.insert (Sparse.erase m k) k v

/-- The table with the value `v` at `k`, in canonical form where an unlisted number has the value `d`. -/
def Sparse.set {α : Type} [DecidableEq α] (d : α) (m : Sparse α) (k : Nat) (v : α) : Sparse α :=
  if v = d then Sparse.erase m k else Sparse.put m k v

/-- The value at `k` changed by `f`. -/
def Sparse.modify {α : Type} [DecidableEq α] (d : α) (m : Sparse α) (k : Nat) (f : α → α) : Sparse α :=
  Sparse.set d m k (f (Sparse.get d m k))

/-- The numbers listed. -/
def Sparse.keys {α : Type} (m : Sparse α) : List Nat := m.map (fun e => e.1)

/-- The listed entries whose number satisfies `p`. -/
def Sparse.keep {α : Type} (p : Nat → Bool) (m : Sparse α) : Sparse α := m.filter (fun e => p e.1)

/-- Every listed value changed by `f`; an entry whose new value is the unlisted one is no longer listed. -/
def Sparse.remap {α : Type} [DecidableEq α] (d : Nat → α) (f : Nat → α → α) (m : Sparse α) : Sparse α :=
  m.filterMap (fun e => if f e.1 e.2 = d e.1 then none else some (e.1, f e.1 e.2))

/-- The table with the values of `m`, in canonical form where an unlisted number has the value `d`. -/
def Sparse.canon {α : Type} [DecidableEq α] (d : α) (m : Sparse α) : Sparse α := m.foldr (fun e a => Sparse.set d a e.1 e.2) []

/-- The canonical form: numbers strictly rising, no listed value equal to the unlisted one. -/
def Sparse.wf {α : Type} [DecidableEq α] (d : Nat → α) : Sparse α → Bool
  | [] => true
  | [(i, v)] => decide (v ≠ d i)
  | (i, v) :: (j, w) :: m => decide (v ≠ d i) && decide (i < j) && Sparse.wf d ((j, w) :: m)

end Sys2Proof.Machine
end

