-- ==== Sys2Proof/Machine/State.lean ====
section
/-! DEFINITION. The state of the block as plain data: its registers, and every queue, buffer, counter, mode and pin that the
spec's rules give it beside them. -/

namespace Sys2Proof.Machine

/-- A node of a loop that a stage takes as an input (R238). -/
inductive JNode where
  /-- the output of the stage before, or 0 for the first -/
  | prev
  /-- no node: 0 -/
  | none
  /-- output of stage k of the same loop -/
  | stage (k : Nat)
  /-- a node of stage k of loop l of the deck, numbered as JAS_Dd_TRc_SRC.NODE numbers them (R238) -/
  | loop (l k node : Nat)
  /-- a named source of Table 11-4, by number -/
  | source (k : Nat)
  deriving DecidableEq, Repr, Inhabited

/-! ### Operands of the write path -/

/-- A task's completion entry less PHASE (Table 02-6). -/
structure Completion where
  /-- 16 bits; R40, R44 -/
  status : BitVec 16 := 0
  /-- 64 bits; R40, R45 -/
  info0 : BitVec 64 := 0
  /-- 64 bits; R40, R45 -/
  info1 : BitVec 64 := 0
  /-- 32 bits; R40, R45 -/
  info2 : Word := 0
  /-- 32 bits; R40, R45 -/
  info3 : Word := 0
  deriving DecidableEq, Repr, Inhabited

/-- Where a task stands between its acceptance and its completion entry (R35, R47). -/
inductive Stage where
  /-- accepted, not begun (R47) -/
  | waiting
  /-- begun, fetching its descriptors, plan or label by DMA (R38, R62) -/
  | fetching
  /-- executing (R32, R52) -/
  | running
  /-- its work is done; the completion waits for its turn and for ring space (R41, R42, R47) -/
  | done (c : Completion)
  deriving DecidableEq, Repr, Inhabited

/-- A task in flight (R35, R36): the 64-byte record as the doorbell copied it, and its progress. -/
structure Task where
  /-- acceptance number, over all contexts (R48); the model's own count -/
  seq : Nat := 0
  /-- 64 bytes; the record (R33, R36) -/
  bytes : List Byte := []
  /-- where the task stands (R47) -/
  stage : Stage := .waiting
  /-- past its commit point (R52) -/
  committed : Bool := false
  /-- an object of it falls in a deferred error: it can no longer be verified on tape (R45, R50) -/
  lost : Bool := false
  /-- chosen to carry the deferred error (R50) -/
  carrier : Bool := false
  /-- DMA ranges still to be read, in order (R38, R335) -/
  ranges : List (Nat × Nat) := []
  /-- bytes fetched so far, in order (R38, R335) -/
  got : List Byte := []
  /-- bytes read of the ranges being fetched (Table 02-7: bytes done) -/
  fetched : Nat := 0
  /-- the descriptor list has been fetched and checked (R39) -/
  checked : Bool := false
  /-- lengths of the records of a WRITE not yet cut from the bytes fetched (R38, R81) -/
  recs : List Nat := []
  /-- objects sealed for a WRITE or MARK (R45) -/
  objs : Nat := 0
  /-- first object number of a WRITE or MARK (Table 02-7) -/
  first : Nat := 0
  /-- closed rounds the task waits for (R63, R75) -/
  waitRounds : List Nat := []
  /-- Cutter epoch counts under which its blocks were formed (R295) -/
  cutEpochs : List Nat := []
  /-- format epoch counts of the rounds that took its items (R295) -/
  fmtEpochs : List Nat := []
  /-- acceptance numbers a global BARRIER waits for (R48) -/
  before : List Nat := []
  deriving DecidableEq, Repr, Inhabited

/-- What a block latches at its start (R107). -/
structure Latch where
  /-- 12 bits; the slot named by CTX_KEY (R107) -/
  slot : Nat := 0
  /-- 256 bits; the key as 32 bytes (R104) -/
  key : List Byte := []
  /-- 32 bits; the salt (R105) -/
  salt : Word := 0
  /-- 64 bits; the key label (R106) -/
  label : BitVec 64 := 0
  /-- 64 bits; the invocation counter (R105) -/
  ctr : BitVec 64 := 0
  /-- 32 bits; the stream identifier (R106) -/
  stream : Word := 0
  /-- why the block cannot be sealed: the slot was EXHAUSTED or EMPTY at the latch, or was zeroised after it (R108, R116) -/
  bad : Option (BitVec 16) := none
  deriving DecidableEq, Repr, Inhabited

/-- One item waiting at the Cutter's input of a stream, in task order (R66, R81). -/
inductive InItem where
  /-- the rest of one record, its first byte's record having begun in an earlier block or not, and its WRITE (R81) -/
  | data (bytes : List Byte) (begun : Bool) (task : Nat)
  /-- the end of a WRITE's records (R82) -/
  | endWrite (task : Nat)
  /-- MARK (R66) -/
  | mark (count : Nat) (task : Nat)
  /-- FLUSH (R66) -/
  | flush (task : Nat)
  /-- SYNC (R66, R75) -/
  | sync (task : Nat)
  /-- PASS (R66, R70) -/
  | pass (count : Nat) (task : Nat)
  deriving DecidableEq, Repr, Inhabited

/-- How far a closed block has come on its way to the Dealer (R81, R94, R104). -/
inductive BlockStage where
  /-- in the write queue (R101) -/
  | queued
  /-- on an engine (R94) -/
  | coding
  /-- coded: the compressed block, header and body (R77) -/
  | coded (bytes : List Byte)
  deriving DecidableEq, Repr, Inhabited

/-- A block of a stream, closed by R81 and not yet sealed. -/
structure Block where
  /-- the data part D (R77) -/
  data : List Byte := []
  /-- lengths of the pieces that end in the block (R81) -/
  ends : List Nat := []
  /-- CONT, LAST, MARK_FOLLOWS (R77) -/
  cont : Bool := false
  /-- LAST (R77) -/
  last : Bool := false
  /-- MARK_FOLLOWS (R77) -/
  markFollows : Bool := false
  /-- the Cutter options the block was formed under (R83) -/
  options : Word := 0
  /-- the Cutter section's LIMIT and predictor set the block was formed under (R83) -/
  limit : Nat := 262144
  /-- predictor set of the section, bit k for Pk (R88) -/
  predSet : Nat := 15
  /-- block VERSION that the section writes (Table 13-2) -/
  version : Nat := 1
  /-- the model's own name for the block among its context's -/
  id : Nat := 0
  /-- Cutter epoch count of the context when the block was formed (R295) -/
  epoch : Nat := 0
  /-- latched at block start (R107) -/
  latch : Latch := {}
  /-- progress -/
  stage : BlockStage := .queued
  /-- WRITEs that have bytes in the block (R52, R82) -/
  tasks : List Nat := []
  /-- WRITE to which each piece that ends in the block belongs (R45) -/
  endTasks : List Nat := []
  /-- WRITEs whose last record is in the block (R82) -/
  ending : List Nat := []
  /-- restarted raw after a decode-verify mismatch (R94) -/
  forceRaw : Bool := false
  /-- PASS items that stand before the block in the stream and wait for the blocks before it (R66) -/
  before : List InItem := []
  deriving DecidableEq, Repr, Inhabited

/-- A sealed block at the Dealer or in a trick image (R103, R107). -/
structure Sealed where
  /-- the sealed block's bytes, Table 05-1 -/
  bytes : List Byte := []
  /-- 12 bits; writing context (R72, Table 12-2) -/
  ctx : Nat := 0
  /-- 32 bits; stream identifier (R67) -/
  stream : Word := 0
  /-- 32 bits; block sequence number (R68) -/
  bsn : Word := 0
  /-- 64 bits; key label (R109) -/
  label : BitVec 64 := 0
  /-- 32 bits; salt (R109) -/
  salt : Word := 0
  /-- 64 bits; invocation counter (R109) -/
  ctr : BitVec 64 := 0
  /-- first object that ends in the block or, where none does, the object it continues (R79, R208) -/
  firstObj : Nat := 0
  /-- objects that end in the block (R79) -/
  nrec : Nat := 0
  /-- Shoe chips that hold the block (R72, Table 12-2) -/
  chips : List Nat := []
  /-- acceptance numbers of the WRITEs with bytes in the block (R174) -/
  tasks : List Nat := []
  /-- START of the truncation of which this is the first item (R156) -/
  trunc : Option Nat := none
  deriving DecidableEq, Repr, Inhabited

/-- An item yielded to the Dealer (R66, Table 03-2). -/
inductive Item where
  /-- a sealed block with the bytes of it already packed (R69) -/
  | block (b : Sealed) (packed : Nat)
  /-- a mark: context, stream, BSN of the next block, first object, count, task, truncation START (R66, R67) -/
  | mark (ctx : Nat) (stream bsn : Word) (firstObj count task : Nat) (trunc : Option Nat)
  /-- FLUSH (R66) -/
  | flush (ctx task : Nat)
  /-- SYNC (R66, R75) -/
  | sync (ctx task : Nat)
  /-- PASS (R66, R70) -/
  | pass (ctx count task : Nat)
  deriving DecidableEq, Repr, Inhabited

/-- A content entry of a trick table with the bytes it carries (R67, Table 03-3). -/
structure Entry where
  /-- Bits 7:4 of byte 0 (Table 03-4) -/
  kind : Nat := 1
  /-- FIRST (Table 03-3) -/
  first : Bool := false
  /-- LAST (Table 03-3) -/
  last : Bool := false
  /-- 32 bits; STREAM_ID -/
  stream : Word := 0
  /-- 32 bits; BSN -/
  bsn : Word := 0
  /-- the fragment's bytes; empty for a mark -/
  data : List Byte := []
  /-- LENGTH of a mark entry: the mark count -/
  count : Nat := 0
  /-- writing context, not recorded on tape (R67) -/
  ctx : Nat := 0
  /-- first object carried by the entry's item (R156) -/
  firstObj : Nat := 0
  /-- objects the item carries (R79) -/
  nobj : Nat := 0
  /-- salt, label and counter of the block, for the key runs (R109) -/
  salt : Word := 0
  /-- key label of the block (R109) -/
  label : BitVec 64 := 0
  /-- counter of the block (R109) -/
  ctr : BitVec 64 := 0
  /-- truncation START where this entry is the first after one (R156) -/
  trunc : Option Nat := none
  /-- tasks whose item the entry packs (R174, R295) -/
  tasks : List Nat := []
  deriving DecidableEq, Repr, Inhabited

/-- A logical trick of a round, in the form from which every byte of it follows (R67, R140, R149, R152, R167). -/
inductive TrickBody where
  /-- a data trick: its content entries (R67) -/
  | data (entries : List Entry)
  /-- parity trick k of the hand with these data tricks (R152), with the trailer copies placed -/
  | c3 (k : Nat) (user : List Byte)
  /-- a C4 trick (R162) -/
  | c4 (user : List Byte)
  /-- lead, end-of-data, directory and medium lead tricks: the user area's defined bytes (R167) -/
  | special (type : Nat) (user : List Byte)
  /-- a rewrite-only trick (R142) -/
  | rewriteOnly
  /-- a run-in trick (R145) -/
  | runIn
  deriving DecidableEq, Repr, Inhabited

/-- A facet that waits to be rewritten, or a rewrite of it in a trick (R183, R184). -/
structure Rewrite where
  /-- image of its trick -/
  image : Nat := 0
  /-- tile -/
  tile : Nat := 0
  /-- facet of the tile -/
  facet : Nat := 0
  /-- attempts so far (R183) -/
  attempts : Nat := 0
  /-- it is a facet of a repeat of its trick (R129) -/
  ofRepeat : Bool := false
  /-- where its latest grade was taken: writing of the trick in the deck's own count, slot, track (R184) -/
  graded : Nat × Nat × Nat := (0, 0, 0)
  deriving DecidableEq, Repr, Inhabited

/-- A trick image with its logical number and place (R74, R149). -/
structure Trick where
  /-- 40 bits; logical trick number, or NONE (R128, R149) -/
  number : Nat := 0
  /-- content (R140) -/
  body : TrickBody := .data []
  /-- the format section under which it was packed (R159) -/
  format : List Byte := []
  /-- 6 bits; partition (R128) -/
  partition : Nat := 0
  /-- 2 bits; deck (R128) -/
  deck : Nat := 0
  /-- REPEAT set on slots 0 to 7: a repeat trick (R143) -/
  isRepeat : Bool := false
  /-- model's identity of the trick image across its original and repeats (R143, R193) -/
  image : Nat := 0
  /-- index of the round that holds it (R158) -/
  round : Nat := 0
  /-- hand of the round (R158) -/
  hand : Nat := 0
  /-- Shoe chips that hold the image (R74) -/
  chips : List Nat := []
  /-- released by the Loupe (R193) -/
  released : Bool := false
  /-- tape position at which its writing began (R172, R195) -/
  begun : Word := 0
  /-- its writing, in the deck's own count of writings (R184) -/
  ordinal : Nat := 0
  /-- band slots and rewrite-only slots: (track, slot) and the facet copied there (R141, R184) -/
  copies : List ((Nat × Nat) × Rewrite) := []
  deriving DecidableEq, Repr, Inhabited

/-- A closed hand of a round (R151, R153). -/
structure Hand where
  /-- data tricks then parity tricks, in trick-index order (R151) -/
  tricks : List Trick := []
  /-- n of R151 -/
  ndata : Nat := 0
  /-- FIRST_TRICK (Table 07-1) -/
  firstTrick : Nat := 0
  /-- HAND_IN_ROUND (Table 07-1) -/
  index : Nat := 0
  /-- 64 bits; DIGEST (R154) -/
  digest : BitVec 64 := 0
  /-- deck that writes it (R161) -/
  deck : Nat := 0
  /-- a C4 parity hand (R162) -/
  isC4 : Bool := false
  /-- every trick of it has been released (R193) -/
  released : Bool := false
  deriving DecidableEq, Repr, Inhabited

/-- A closed round (R158). -/
structure Round where
  /-- count of rounds of the table, the model's own name for the round -/
  id : Nat := 0
  /-- partition of the table -/
  partition : Nat := 0
  /-- hands in closing order (R158) -/
  hands : List Hand := []
  /-- format epoch count of the deck when the round was packed (R295) -/
  epoch : Nat := 0
  /-- the encoder has begun to write it (R74) -/
  started : Bool := false
  /-- written whole (R74) -/
  written : Bool := false
  /-- closed during a restore hold and kept back (R199) -/
  keptBack : Bool := false
  deriving DecidableEq, Repr, Inhabited

/-- One stream of a table (R68, R175, Table 07-5). -/
structure StreamInfo where
  /-- objects of the stream (R175) -/
  objects : Nat := 0
  /-- NEXT_BSN (R68) -/
  nextBsn : Word := 0
  /-- context that writes it (R401) -/
  ctx : Nat := 0
  deriving DecidableEq, Repr, Inhabited

/-- A table: one partition on one deck (R59 to R76). Key: 64 × deck + partition. -/
structure Table where
  /-- 2 bits; DLR_TABLE_STATE.MODE (R63) -/
  mode : Nat := 0
  /-- plan in force: context and quota per seat (R62) -/
  plan : List (Nat × Nat) := []
  /-- DLR_TABLE_STATE.WAITING, and DLR_TABLE_WAIT.SEAT (R70) -/
  waiting : Option Nat := none
  /-- 32 bits; DLR_TABLE_WAIT_MS -/
  waitMs : Word := 0
  /-- event 340 already raised for this wait (R70) -/
  alerted : Bool := false
  /-- DLR_TABLE_STATE.HOLDER with HOLDER_VALID (R60) -/
  holder : Option Nat := none
  /-- items yielded and not yet packed, in order of arrival (R69) -/
  items : List Item := []
  /-- pass_end of each seat (R70); unlisted: below the first trick -/
  passEnd : List (Nat × Nat) := []
  /-- seats that are vacant, and seats that become so once their items are packed (R65) -/
  vacant : List Nat := []
  /-- seats whose context took a CTX reset and whose last item is not packed (R65) -/
  vacating : List Nat := []
  /-- seat whose turn it is and what is left of its quota (R70) -/
  turn : Nat × Nat := (0, 0)
  /-- the turn has begun (R70) -/
  inTurn : Bool := false
  /-- content entries of the open trick (R69); DLR_TABLE_POS.ENTRIES -/
  openEntries : List Entry := []
  /-- chips of the open trick's image (R74) -/
  openChips : List Nat := []
  /-- data tricks closed in the open hand (R151); DLR_TABLE_POS.TRICK -/
  openHand : List Trick := []
  /-- hands closed in the open round (R158); DLR_TABLE_POS.HAND -/
  openRound : List Hand := []
  /-- 40 bits; logical number of the trick being packed (R149); DLR_TABLE_TRICK -/
  nextTrick : Nat := 0
  /-- rounds closed so far (the model's own count) -/
  rounds : Nat := 0
  /-- 32 bits; DLR_TABLE_CUTS -/
  cuts : Word := 0
  /-- 7 bits; DLR_TABLE_GUARANTEE (R225) -/
  guarantee : BitVec 7 := 0
  /-- streams of the partition by identifier (R68) -/
  streams : Sparse StreamInfo := []
  /-- identity recorded by its lead, its end-of-data and its hands: each with the first trick number from which it holds, latest last
  (R167, R287) -/
  formats : List (Nat × List Byte) := []
  /-- hands in the partition (Table 07-5), with their directory entries (Table 07-6) -/
  directory : List (List Byte) := []
  /-- the end zone has been reached (R174) -/
  full : Bool := false
  /-- packing waits for chips, event 341 raised: the pool, and its free chips when the wait began (R73) -/
  poolWait : Option (Nat × Nat) := none
  /-- sealing waits for chips, event 341 raised: the SEALED pool, and its free chips when the wait began (R73) -/
  sealWait : Option (Nat × Nat) := none
  /-- packing waits for the round being written, event 342 raised (R74) -/
  roundWait : Bool := false
  /-- truncations waiting for the first item after them: stream and START (R156) -/
  truncPending : List (Nat × Nat) := []
  /-- a SEAT task waiting for its round, with the mode and plan that it replaces (R63) -/
  seatPending : Option (Nat × Nat × List (Nat × Nat)) := none
  /-- stopped and not to be written until an end-of-data is written under R195 -/
  needsEod : Bool := false
  /-- its end-of-data has been read or written since the cartridge was loaded (R59) -/
  known : Bool := false
  deriving DecidableEq, Repr, Inhabited
/-! ### Reading -/

/-- A READ's progress (R208 to R212). -/
structure Reader where
  /-- acceptance number of the READ -/
  task : Nat := 0
  /-- object at which the READ started (R209, R210) -/
  start : Nat := 0
  /-- next object to deliver (R208) -/
  pos : Nat := 0
  /-- records delivered (INFO0 of R45) -/
  records : Nat := 0
  /-- bytes delivered (INFO1 of R45) -/
  bytes : Nat := 0
  /-- bytes of the record being assembled across blocks, not yet delivered (R209) -/
  partialRec : List Byte := []
  /-- block being opened or decoded: sealed bytes, label, salt, counter, bsn, first object, objects that end in it -/
  block : Option Sealed := none
  /-- key copy latched for the open, and its slot (R116, R117) -/
  key : Option (Nat × List Byte) := none
  /-- destination ranges of the task (R38, R118) -/
  dests : List (Nat × Nat) := []
  /-- LEN_ADDR and RECORD_COUNT (Table 02-4) -/
  lens : Nat × Nat := (0, 0)
  /-- compressed block after the open, waiting for or on an engine (R101, R208) -/
  opened : Option (List Byte) := none
  /-- Shoe chips the READ holds (R212) -/
  held : List Nat := []
  /-- waiting for tape (R214, R218) -/
  needsTape : Bool := false
  /-- BSN of the last block consumed (R208) -/
  lastBsn : Option Nat := none
  /-- the restore has ended at a hand, whose first unrecoverable trick this is: the READ ends MEDIUM_ERROR where it needs tape (R207) -/
  cutOff : Option Nat := none
  deriving DecidableEq, Repr, Inhabited

/-- A CUT or UNCUT job (R97 to R99). -/
structure Job where
  /-- acceptance number of the task -/
  task : Nat := 0
  /-- UNCUT rather than CUT -/
  isUncut : Bool := false
  /-- source blocks still to be coded or decoded, with the offset of each block's header (R97, R98) -/
  todo : List (Nat × List Byte) := []
  /-- blocks finished -/
  blocks : Nat := 0
  /-- output so far (R99) -/
  out : List Byte := []
  /-- staging chips (R99, Table 12-2) -/
  chips : List Nat := []
  /-- staging chips still needed; the job waits while the pool lacks them, event 292 raised (R99) -/
  need : Nat := 0
  /-- event 292 raised for this wait (R99) -/
  waiting : Bool := false
  /-- whole output exists and may be copied (R99) -/
  ready : Bool := false
  /-- CUT_STAGE.POOL when the job started (R99) -/
  pool : Nat := 0
  /-- the Cutter section when the job started: LIMIT, predictor set, VERSION (R97, R294) -/
  cutter : Nat × Nat × Nat := (262144, 15, 1)
  deriving DecidableEq, Repr, Inhabited

/-- A context beyond its registers (R29 to R58). Key: context number. -/
structure Context where
  /-- tasks in flight, oldest first (R35, R47) -/
  tasks : List Task := []
  /-- abort request decided and waiting for the completion entry: task and CAUGHT or TOO_LATE (R52, R53) -/
  abortWait : Option (Nat × Bool) := none
  /-- event 339 raised for this stall (R42); CTX_STATE.RING_STALL -/
  ringStall : Bool := false
  /-- items at the Cutter's input, in task order (R66, R81) -/
  inq : List InItem := []
  /-- latch of the open block (R107) -/
  openLatch : Option Latch := none
  /-- fetch of record data stopped at CTX_CHIP_QUOTA.MAX_CHIPS (R72) -/
  fetchStopped : Bool := false
  /-- closed blocks not yet sealed, in stream order (R83) -/
  blocks : List Block := []
  /-- READ in progress (R208) -/
  reader : Option Reader := none
  /-- CUT or UNCUT in progress (R97) -/
  job : Option Job := none
  /-- the Cutter section that the context still uses while a Cutter epoch waits for its block boundary: LIMIT, predictor set,
  VERSION (R294); none: that of the image in force -/
  oldCutter : Option (Nat × Nat × Nat) := none
  /-- the open block has closed since that epoch became pending (R294) -/
  epochDue : Bool := false
  /-- blocks formed so far (the model's own count) -/
  formed : Nat := 0
  /-- five 64-bit meters (R400): HOST_BYTES -/
  hostBytes : BitVec 64 := 0
  /-- SEALED_BYTES (R400) -/
  sealedBytes : BitVec 64 := 0
  /-- FACETS (R400, R401) -/
  facets : BitVec 64 := 0
  /-- RESTORE_BYTES (R400) -/
  restoreBytes : BitVec 64 := 0
  /-- ACTIVE_S (R400) -/
  activeS : BitVec 64 := 0
  /-- carried remainder r (R401) -/
  facetRem : Nat := 0
  /-- a meter has changed since the last snapshot (R402) -/
  metersChanged : Bool := false
  /-- a CTX reset of a seated context is not complete (R65) -/
  seatReset : Bool := false
  deriving DecidableEq, Repr, Inhabited

/-! ### Cutter, cipher and keys -/

/-- What an engine or a queue of R101 holds. -/
inductive EngineWork where
  /-- a closed block of a context, by its name (R101) -/
  | write (ctx id : Nat)
  /-- the block a context's READ has opened (R101, R208) -/
  | restore (ctx : Nat)
  /-- the next block of a context's host job (R101) -/
  | job (ctx : Nat)
  deriving DecidableEq, Repr, Inhabited

/-- The Cutter (R77 to R102). -/
structure CutUnit where
  /-- write queue in order of arrival (R101) -/
  writeQ : List EngineWork := []
  /-- restore queue (R101) -/
  restoreQ : List EngineWork := []
  /-- host-job queue (R101) -/
  jobQ : List EngineWork := []
  /-- blocks served of the three queues in the present round of the weighted round robin (R101) -/
  served : Nat × Nat × Nat := (0, 0, 0)
  /-- work on engine e (R101); unlisted: idle -/
  busy : List (Nat × EngineWork) := []
  /-- mismatches of engine e since the last COLD reset or its return to service (R94) -/
  mismatches : List (Nat × Nat) := []
  deriving DecidableEq, Repr, Inhabited

/-- A key slot (R113, Table 05-4). Key: slot number. -/
structure KeySlot where
  /-- 0 EMPTY, 1 LOADED, 2 EXHAUSTED (R113) -/
  state : Nat := 0
  /-- 32 bytes; the key (R104, R113) -/
  key : List Byte := []
  /-- 32 bits (R113) -/
  salt : Word := 0
  /-- 64 bits (R113) -/
  label : BitVec 64 := 0
  /-- 64 bits; next counter value (R108, R113) -/
  next : BitVec 64 := 0
  /-- event 320 raised since the last LOAD (R108) -/
  alerted : Bool := false
  /-- contexts that latched the slot since the last LOAD, each with the table to which it was bound, by 64 × deck + partition (R110, Table
  10-3) -/
  users : List (Nat × Option Nat) := []
  deriving DecidableEq, Repr, Inhabited

/-! ### The Shoe and memory integrity -/

/-- A pool (R269, R270). Key: pool number. -/
structure Pool where
  /-- SHO_POOL_CFG as written: ENABLE, HOST, LOW (R269) -/
  cfg : Word := 0
  /-- SHO_POOL_FIRST.INDEX (R269) -/
  first : Nat := 0
  /-- SHO_POOL_COUNT.COUNT (R269) -/
  count : Nat := 0
  /-- SHO_POOL_STATUS.READY (R269) -/
  ready : Bool := false
  /-- chip indices in the on-die cache (R270) -/
  cache : Nat := 0
  /-- SHO_POOL_ERRS (R272) -/
  errs : Word := 0
  /-- a run of failed allocations is open, event 353 raised (R270) -/
  failing : Bool := false
  /-- event 352 raised and not re-armed (Table 12-6) -/
  low : Bool := false
  /-- chips withheld until WARM (Table 12-4, Table 12-5) -/
  withheld : List Nat := []
  deriving DecidableEq, Repr, Inhabited

/-- A chip tag (R271, Table 12-1). Key: chip index. Unlisted: free. -/
structure ChipTag where
  /-- 6 bits -/
  pool : Nat := 0
  /-- 4 bits; owner class (Table 12-2) -/
  cls : Nat := 0
  /-- 12 bits; owner within the class -/
  id : Nat := 0
  /-- 4 bits; references -/
  refs : Nat := 0
  deriving DecidableEq, Repr, Inhabited

/-- Buffer memory (R260 to R282). -/
structure ShoeUnit where
  /-- pools by number (R269) -/
  pools : Sparse Pool := []
  /-- chip tags (R271) -/
  tags : Sparse ChipTag := []
  /-- MIC_REGION_CFG by 16 × stack + region (R264) -/
  regions : Sparse Word := []
  /-- HBM contents by 65,536 × chip + byte (R265) -/
  mem : Sparse Byte := []
  /-- words (2,048 × chip + word) that have left the never-written state by a fill or a write of the host (R267) -/
  written : List Nat := []
  /-- chips whose every word a device engine has written, with the step of the allocation (R267, log entry 128) -/
  filled : Sparse Nat := []
  /-- stack s takes no commands (R262) -/
  tripped : List Nat := []
  /-- words watched for a hard fault, oldest first: stack (0, 1) or 2 + group, word, accesses left (R279) -/
  watches : List (Nat × Nat × Nat) := []
  /-- remapped lines: stack (0, 1) or 2 + group, HBM 256-byte line or SRAM word (R279) -/
  remapped : List (Nat × Nat) := []
  /-- remap tables that are full and have raised event 374, by stack or 2 + group (R279) -/
  fullAlerted : List Nat := []
  /-- the fill in progress (R268): first chip, count, pattern -/
  fill : Option (Nat × Nat × Word) := none
  /-- no-HBM start-up by strap (Table 19-3) -/
  noHbm : Bool := false
  deriving DecidableEq, Repr, Inhabited

/-! ### Tabjo images -/

/-- One stage of a Jasper chain (R236, R238, Table 11-3). -/
structure JStage where
  /-- type code of Table 11-3 -/
  type : Nat := 0
  /-- chain input: a node reference (R238) -/
  x : JNode := .prev
  /-- auxiliary input (R238) -/
  aux : JNode := .none
  /-- coefficients in index order: 32-bit mantissa and 5-bit shift (R236) -/
  coefs : List (Word × BitVec 5) := []
  /-- node references of a MODE stage's SRC coefficients (Table 11-3) -/
  srcs : List JNode := []
  deriving DecidableEq, Repr, Inhabited

/-- The sections of an image that the device uses (R284). -/
structure Image where
  /-- bytes of the type 1 format section (R285) -/
  format : List Byte := []
  /-- type 7 sections (R284) -/
  legacy : List (List Byte) := []
  /-- track routing: (lane, slot) of track n (R304); empty: the map of R304 -/
  routing : List (Nat × Nat) := []
  /-- read profiles 0 to 3: (address, value) pairs (R317) -/
  profiles : List (List (Nat × Word)) := []
  /-- Cutter LIMIT (Table 13-2) -/
  limit : Nat := 262144
  /-- predictor set (Table 13-2) -/
  predSet : Nat := 15
  /-- block VERSION written (Table 13-2) -/
  version : Nat := 1
  /-- VERSIONs accepted by check 1 of Table 04-4 -/
  versions : List Nat := [1]
  /-- DKd_LOUPE_CTRL and DKd_LOUPE_HEALTH per deck (Table 13-2) -/
  loupe : List (Word × Word) := []
  /-- Jasper chains by 4 × deck + loop (Table 13-2) -/
  chains : Sparse (List JStage) := []
  /-- telemetry limits by channel: low, high, jump (R255) -/
  limits : List (Int × Int × Int) := []
  /-- reset values of the JAS_Dd registers: offset and value (Table 13-2) -/
  jasReset : Sparse Word := []
  /-- severities of events 496 to 511 that have a condition (R385) -/
  eventMap : Sparse Nat := []
  /-- IMAGE_LEN (Table 13-1) -/
  length : Nat := 0
  /-- 32 bits; trailer CHECK (R283) -/
  check : Word := 0
  deriving DecidableEq, Repr, Inhabited

/-- Images and activation (R283 to R298). -/
structure ImgUnit where
  /-- the image in force; none: NO_IMAGE (R292) -/
  inForce : Option Image := none
  /-- approval entries in the journal: slot, IMAGE_LEN, CHECK (R288) -/
  approved : List (Nat × Nat × Word) := []
  /-- slots that failed a margin verify or a boot check: BAD (R288, R289) -/
  bad : List Nat := []
  /-- slots written (R288) -/
  written : List Nat := []
  /-- the approval entry of the image that slot 0 held at shipment stands (R288) -/
  shippedOk : Bool := true
  /-- slot write running: 1 reading the image by DMA, 2 programming it; its slot, the address and length of the image in host memory, and
  the bytes read (R289) -/
  cmd : Option (Nat × Nat × (Nat × Nat) × List Byte) := none
  /-- IMAGE_ACTIVATE that waits for the Jasper loops: context, task, slot (R294) -/
  activating : Option (Nat × Nat × Nat) := none
  /-- tables for which a pending format epoch is not quiet, by 64 × deck + partition (R226) -/
  noisy : List Nat := []
  /-- the activation under way: the new image (R294) -/
  staged : Option Image := none
  /-- decks whose format epoch is pending (CFG_PENDING.DECKS, R294) -/
  deckPending : List Nat := []
  /-- image whose format, fabric and legacy sections a deck uses (R294); unlisted: the image in force -/
  deckImage : Sparse Image := []
  deriving DecidableEq, Repr, Inhabited

/-! ### Jasper -/

/-- One Jasper loop of a deck (R233 to R243). Key: 4 × deck + loop. -/
structure Loop where
  /-- the chain in force (R236) -/
  chain : List JStage := []
  /-- stage states: up to four values (R236) -/
  states : List (List Rat) := []
  /-- outputs of the stages in the last sample (R238, R239) -/
  outs : List Rat := []
  /-- chain and auxiliary inputs of the stages in the last sample (R238) -/
  ins : List (Rat × Rat) := []
  /-- stages whose LIMIT, SAT or SLEW limited in the last sample, with the sign (R239) -/
  limited : List (Nat × Int) := []
  /-- shadow bank: stage, index, mantissa, shift (R241) -/
  shadow : List (Nat × Nat × Word × BitVec 5) := []
  /-- present mode: source index of MODE stages (R251) -/
  mode : Nat := 0
  /-- the mode has changed since the last sample: the last output of the MODE stage (R251) -/
  switched : Option Rat := none
  /-- hand-over of the MODE stage: held value y_h, step k, length N (R251) -/
  ramp : Option (Rat × Nat × Nat) := none
  /-- hand-over of the loop's output to that of a new chain (R243, R251) -/
  chainRamp : Option (Rat × Nat × Nat) := none
  /-- last output (R243, R251) -/
  lastOut : Rat := 0
  /-- a run of overruns is open, event 64d + 55 raised (R234) -/
  overrun : Bool := false
  /-- a run of late commands is open, event 64d + 56 raised (R235) -/
  late : Bool := false
  /-- a new chain waits for the loop's next sample (R243) -/
  newChain : Option (List JStage) := none
  deriving DecidableEq, Repr, Inhabited

/-- A trace buffer (R258). Key: 4 × deck + buffer. -/
structure Trace where
  /-- entries, oldest first (R258) -/
  entries : List Word := []
  /-- recording (ARM pending, R258) -/
  recording : Bool := false
  /-- triggered: entries still to take (R258) -/
  left : Option Nat := none
  /-- samples of the loop seen, for DECIM (R258) -/
  count : Nat := 0
  /-- the node's value at the last sample, for LEVEL (R258) -/
  last : Option Rat := none
  /-- its value at the sample before -/
  prev : Option Rat := none
  deriving DecidableEq, Repr, Inhabited

/-- The transport of a deck as Jasper runs it (R244 to R257). -/
structure Motion where
  /-- SLEW output v in m/s and acceleration a (R247) -/
  v : Rat := 0
  /-- acceleration of the SLEW stage (R247) -/
  a : Rat := 0
  /-- PACE request held since the last PACE sample (R246) -/
  request : Rat := 0
  /-- 3 bits; PACE state (Table 11-5), JAS_Dd_STATE.PACE -/
  pace : Nat := 0
  /-- 2 bits each; modes of the SUPPLY and TAKEUP loops (R251): 0 VELOCITY, 1 TENSION, 2 HOLD, 3 THREAD -/
  modes : Nat × Nat := (2, 2)
  /-- LATERAL is in FOLLOW (R252), JAS_Dd_STATE.LAT_MODE -/
  follow : Bool := false
  /-- LATERAL is locked (R253), JAS_Dd_STATE.LOCKED -/
  locked : Bool := false
  /-- JAS_Dd_STATE.GATE_OFF (R253) -/
  gateOff : Bool := false
  /-- HI of R246 is set by CAP, JAS_Dd_STATE.CAPPED -/
  capped : Bool := false
  /-- state that ordered the reversal (Table 11-5) -/
  resume : Nat := 0
  /-- target tape position in 0.1 mm while repositioning (R436) -/
  target : Option Word := none
  /-- consecutive reel samples with tension in the window (R249) -/
  tensionRun : Nat := 0
  /-- consecutive LATERAL samples within LOCK_TOL (R253) -/
  lockRun : Nat := 0
  /-- GATE asserted (R253, R306) -/
  gate : Bool := false
  /-- causes recorded for the stop in progress or taken (Table 11-7) -/
  causes : BitVec 14 := 0
  /-- a controlled stop is in progress (R256) -/
  stopping : Bool := false
  /-- stopped, not to start before a DECK reset (R194, R257, R321) -/
  stopped : Bool := false
  /-- REEL samples since the last PACE sample: every 32nd SUPPLY sample (R233) -/
  supplyCount : Nat := 0
  /-- last accepted value of the telemetry channels (R255, Table 14-5) -/
  tlm : Sparse Int := []
  /-- run of consecutive discards per channel (R255) -/
  discards : Sparse Nat := []
  /-- 32 bits; tape position counter from SERVO (R175) -/
  tpc : Word := 0
  /-- last encoder counts of the two reels, for the measured speed -/
  counts : Word × Word := (0, 0)
  /-- measured speed in mm/s, int16 (JAS_Dd_SPEED.ACTUAL) -/
  measured : BitVec 16 := 0
  /-- sealed bytes that reached the Dealer for the deck's table since the last PACE sample (R244) -/
  arrived : Nat := 0
  /-- positions that left the round buffer since the last PACE sample (R245) -/
  delivered : Nat := 0
  /-- speed that PACE requests before LIMIT, in m/s (R25) -/
  wants : Rat := 0
  /-- wrap under the head (R170) -/
  wrap : Nat := 0
  /-- retry lateral offset in 1/32 of the track pitch (R206, R252) -/
  offset : Int := 0
  /-- FILL_ERR of the last PACE sample, in positions (R244, R245) -/
  fillErr : Rat := 0
  /-- RATE of the last PACE sample, in positions per second (R244, R245) -/
  rate : Rat := 0
  /-- in START: the tape has been at the pre-roll point (Table 11-5) -/
  prerolled : Bool := false
  /-- MOTOR_EN deasserted under R255 (JAS_STATUS.FAULT) -/
  motorFault : Bool := false

  deriving DecidableEq, Repr, Inhabited

/-! ### Loupe -/

/-- Health of a track (R190 to R192). Key: track. -/
structure Track where
  /-- 0 GOOD, 1 WATCH, 2 RETIRED (R190) -/
  state : Nat := 0
  /-- last 16 grades, newest first (R190) -/
  window : List Nat := []
  /-- 8 bits; latest signal-quality figure (R181) -/
  sq : Option Nat := none
  /-- figures and the channel bit of the track up to which it had been read when each came, newest first (R181) -/
  samples : List (Nat × Nat) := []
  /-- consecutive samples below SQ_WATCH (R190) -/
  sqRun : Nat := 0
  /-- DKd_LOUPE_TRACK_CNT_g (grades on this wrap) -/
  counts : List Nat := [0, 0, 0, 0]
  deriving DecidableEq, Repr, Inhabited

/-- State of one facet of an unreleased trick (R183, R187, R191). -/
inductive FacetState where
  /-- not good so far, with attempt count (R183); `ofRepeat` where its count began with a repeat of its trick (R129, R188) -/
  | pending (a : Nat) (ofRepeat : Bool)
  /-- verified (R183) -/
  | verified
  /-- unrecovered (R183) -/
  | unrecovered
  /-- on a retired track and not verified before (R191) -/
  | retired
  /-- not good so far, and left to the repeat of its trick (R188) -/
  | carried
  deriving DecidableEq, Repr, Inhabited

/-- What one grade of the trick being written has changed: the facet's image, tile and number, whether it is a facet of the trick itself, its
state before, and its place in the queue before (R186). -/
structure Trial where
  /-- image of its trick -/
  image : Nat := 0
  /-- tile -/
  tile : Nat := 0
  /-- facet of the tile -/
  facet : Nat := 0
  /-- a facet of slots 0 to N_S − 1 of the trick, rather than a copy in it -/
  own : Bool := true
  /-- its state before -/
  state : Option FacetState := none
  /-- its place in the queue before -/
  queued : Option Rewrite := none
  deriving DecidableEq, Repr, Inhabited

/-- A trick as it lies on tape: its wrap, the tape positions at which it begins and after it, and the rounds of which it carries a part
(R195). -/
structure Laid where
  /-- wrap -/
  wrap : Nat := 0
  /-- tape position at which it begins -/
  begun : Word := 0
  /-- tape position one trick length further on -/
  past : Word := 0
  /-- rounds whose facets it carries -/
  rounds : List Nat := []
  deriving DecidableEq, Repr, Inhabited

/-- A trick written and not yet released (R193). -/
structure Held where
  /-- the trick -/
  trick : Trick := {}
  /-- states of the facets graded so far by 128 × tile + facet (R183) -/
  facets : Sparse FacetState := []
  /-- facets of the original and of each repeat that have passed the read elements (R193) -/
  graded : Nat := 0
  /-- repeats written or scheduled (R189) -/
  repeats : Nat := 0
  /-- the repeat scheduled carries the facets not yet verified, which are not queued (R188) -/
  carrying : Bool := false
  /-- accepted under R189 -/
  accepted : Bool := false
  /-- ms since first written (DKd_LOUPE_RETAIN.OLDEST_MS) -/
  ms : Nat := 0
  deriving DecidableEq, Repr, Inhabited

/-- The channel bits received of one track with the ERASURE flag of each, and the index of the first (R307, R312). -/
structure RxTrack where
  /-- column index of the first 16 bits -/
  base : Nat := 0
  /-- channel bits, earliest first, each with its erasure flag -/
  bits : List (Bool × Bool) := []
  deriving DecidableEq, Repr, Inhabited

/-! ### A deck -/

/-- A trick in the round buffer of a reading deck (R201, R202). -/
structure ReadTrick where
  /-- 40 bits -/
  number : Nat := 0
  /-- facet TYPE of its message facets -/
  type : Nat := 1
  /-- format byte of the headers (R128, R159) -/
  format : Nat := 0
  /-- decoded code bytes by 128 × tile + facet, each with the place of its copy in tape order (R166, R201, R206) -/
  facets : Sparse (Nat × List Byte) := []
  /-- user bytes of the tiles recovered (R201) -/
  tiles : Sparse (List Byte) := []
  /-- declared missing (R202) -/
  missing : Bool := false
  /-- wrap and tape position at which it begins, where it has been met there (R213) -/
  begun : Option (Nat × Word) := none
  /-- the cell of the tape that it stands in while that is being read (R201, R202) -/
  cell : Option Nat := none
  deriving DecidableEq, Repr, Inhabited

/-- An item of a stream as a reader meets it, in logical order (R208, R209): read from tape, or held in the Shoe (R212). -/
inductive Restored where
  /-- a sealed block; a key run covers it or not (R112); the last trick that holds a fragment of it, and that fragment's entry -/
  | block (b : Sealed) (keyed : Bool) (trick entry : Nat)
  /-- marks: stream, first object number, count, trick and entry -/
  | mark (stream : Word) (firstObj count trick entry : Nat)
  deriving DecidableEq, Repr, Inhabited

/-- An administration task's work on a deck (R173). -/
inductive AdminWork where
  /-- LOAD: waiting for THREADED, then for the medium lead -/
  | load (ctx task : Nat) (threaded : Bool)
  /-- UNLOAD: waiting for THREADED to clear -/
  | unload (ctx task : Nat)
  /-- REWIND: waiting for the reposition to complete -/
  | rewind (ctx task : Nat)
  /-- writing (Table 07-7): the segments still to write, each with its wrap, its tape position and its tricks; the partitions and the
  label of the cartridge once the last is written, and the completion then -/
  | writing (ctx task : Nat) (c : Completion) (rest : List (Nat × Word × List Trick)) (parts : Sparse (Nat × Nat)) (label : List Byte)
  deriving DecidableEq, Repr, Inhabited

/-- A deck: link, encoder, Loupe, restore and transport. -/
structure Deck where
  /-- DECK_PRESENT_N low, debounced (Table 14-8) -/
  present : Bool := false
  /-- DECK_ESTOP_N low (R257) -/
  estop : Bool := false
  /-- MOTOR_EN high (Table 14-8) -/
  motorEn : Bool := false
  /-- FE_RESET_N high (Table 14-8) -/
  feResetN : Bool := false
  /-- training step reached, 1 to 5 (Table 14-7) -/
  trainStep : Nat := 0
  /-- training is to be repeated for a stop first (R318) -/
  trainAfterStop : Bool := false
  /-- link is to be disabled once the stop is complete (R318) -/
  disableAfterStop : Bool := false
  /-- a DECK reset waits for the stop to complete (R365) -/
  resetAfterStop : Bool := false
  /-- units of the good data-lane frames received, by 256 × lane + SEQ: VALID, ERASURE and 16 bits per slot unit (R307) -/
  rxFrames : Sparse (List (Bool × Bool × BitVec 16)) := []
  /-- SEQ of the next frame of each lane (R300, R307) -/
  laneSeq : Sparse Byte := []
  /-- consecutive good and bad frames per lane (R319) -/
  laneRuns : Sparse (Nat × Nat) := []
  /-- records of an unknown TYPE received (R313) -/
  unknown : Nat := 0
  /-- control-lane records delivered and not yet taken, oldest first (R313) -/
  inbox : List (List Byte) := []
  /-- 8 bits; next downstream SEQ (R300) -/
  txSeq : Byte := 0
  /-- LIMIT and CONSUMED of the last CREDIT (R309) -/
  limit : Word := 0
  /-- CONSUMED (R309) -/
  consumed : Word := 0
  /-- index of the next column to send (R308) -/
  nextCol : Word := 0
  /-- a write stream is open (R308) -/
  streamOpen : Bool := false
  /-- a run of transmit underruns is open, event 64d + 4 raised (R310) -/
  underrun : Bool := false
  /-- MODE last sent and its PROFILE (R308, R317) -/
  mode : Nat := 0
  /-- PROFILE last written (R317) -/
  profile : Nat := 0
  /-- front-end register access waiting: tag, write, address, data, misses, for the host (R317, R320) -/
  feAccess : Option (Byte × Bool × BitVec 16 × Word × Nat × Bool) := none
  /-- register accesses still to send: write, address, data, for the host (R317, R318, R320) -/
  feQueue : List (Bool × BitVec 16 × Word × Bool) := []
  /-- FE_TRACKS, FE_FIFO read at training (R318) -/
  feTracks : Nat := 0
  /-- FE_FIFO (R318) -/
  feFifo : Nat := 0
  /-- 8 bits; next register TAG (Table 14-4) -/
  feTag : Byte := 0
  /-- FAULT of the last STATUS (R314, R324) -/
  feFault : Bool := false
  /-- STATUS CARTRIDGE (R314) -/
  cartridge : Bool := false
  /-- STATUS THREADED (R314) -/
  threaded : Bool := false
  /-- a DECK reset has come since a data task last reached the active table: no table of the deck reads ACTIVE (R12, R195) -/
  dormant : Bool := false
  /-- a cartridge is loaded and its medium lead known or blank (R173) -/
  loaded : Bool := false
  /-- the medium lead region is blank (R173) -/
  blank : Bool := false
  /-- PART_MAP: FIRST_WRAP, WRAP_COUNT of present partitions (Table 07-4) -/
  parts : Sparse (Nat × Nat) := []
  /-- medium label (Table 07-4) -/
  label : List Byte := []
  /-- partitions known to hold a data trick (R56) -/
  dataParts : List Nat := []
  /-- the active table's partition (R59) -/
  active : Option Nat := none
  /-- administration task at work (R173) -/
  admin : Option AdminWork := none
  /-- closed rounds waiting or being written, oldest first (R74) -/
  rounds : List Round := []
  /-- MOTOR_EN is to fall once the stop is complete (R321) -/
  motorOffAfterStop : Bool := false
  /-- wrap and tape position from which a task needs the tape read, while one does (R198, R214) -/
  wanted : Option (Nat × Word) := none
  /-- a restore task holds writing (R199) -/
  hold : Bool := false
  /-- greatest number of a round released since the table became active (R195) -/
  lastReleased : Option Nat := none
  /-- positions still to write of the round being written (R158); none: no round is being written -/
  toWrite : Option (List Trick) := none
  /-- tricks to write outside rounds: end-of-data, lead, medium lead (R168, R171) -/
  script : List Trick := []
  /-- tricks fixed or not wholly written when writing was interrupted or the tape turned, which come first when it goes on (R172, R178) -/
  redo : List Trick := []
  /-- an administration task's segment has been written and is still to be verified (R173, R182) -/
  segmentDue : Bool := false
  /-- the trick being written and the trick fixed to follow it (R178) -/
  writing : Option Trick := none
  /-- the trick fixed to follow (R178) -/
  fixed : Option Trick := none
  /-- a run-in trick precedes the next trick (R145) -/
  needRunIn : Bool := true
  /-- writings begun (the model's own count) -/
  writings : Nat := 0
  /-- trick lengths left to the end of the partition's last wrap, as last measured (R174, R435) -/
  left : Option Nat := none
  /-- end-of-data stands on tape after every round begun (R168) -/
  eodWritten : Bool := true
  /-- tricks written and not released (R193) -/
  held : List Held := []
  /-- pending facets not yet placed, in order of grade (R184) -/
  queue : List Rewrite := []
  /-- what the grades taken of the trick being written have changed, latest first (R186) -/
  trial : List Trial := []
  /-- repeat tricks due, oldest first (R185, R188) -/
  repeatsDue : List Nat := []
  /-- the script is an end-of-data (R168) -/
  eodScript : Bool := false
  /-- tape position of the append point (R168, R172, R195) -/
  appendAt : Word := 0
  /-- the last column sent ends in filling bits, so that the next trick begins with a column (R137, R305) -/
  padded : Bool := false
  /-- wrap of the append point (R168, R170) -/
  appendWrap : Nat := 0
  /-- wrap and tape position at which writing goes on, where that is not the append point (R172) -/
  resumeAt : Option (Nat × Word) := none
  /-- the tricks written since the last one on which a released round depends, in order, that one first (R195) -/
  laid : List Laid := []
  /-- rewrite-only tricks begun inside the closing reserve (R435) -/
  reserveUsed : Nat := 0
  /-- the deck has written on the wrap under the head (R192) -/
  wrote : Bool := false
  /-- tricks written since the write stream was opened, in tape order, each with its first channel bit counted from column 0 (R177, R308) -/
  tape : List (Trick × Nat) := []
  /-- facets of the tape that have passed the read element of a track, by track (R177) -/
  cursor : Sparse Nat := []
  /-- chip that the next trick image continues, and the bytes of it in use (R74) -/
  tail : Option (Nat × Nat) := none
  /-- images given so far (the model's own count) -/
  images : Nat := 0
  /-- track health (R190) -/
  tracks : Sparse Track := []
  /-- retired tracks of this wrap in order (R192) -/
  retired : List Nat := []
  /-- received channel bits by track (R312) -/
  rx : Sparse RxTrack := []
  /-- round buffer (R201, R202) -/
  buffer : List ReadTrick := []
  /-- next logical number to deliver onward (R202) -/
  nextDeliver : Nat := 0
  /-- logical numbers of the tricks found, each with its cell, in the order in which they were first found (R202) -/
  found : List (Nat × Nat) := []
  /-- starts of tricks met on a track in this read stream, latest first: track, trick number, channel bit of slot 0 (R144) -/
  seen : List (Nat × Nat × Nat) := []
  /-- facets whose header fails and which nothing places yet: track, channel bit, format section, body, flagged bytes (R144) -/
  unplaced : List (Nat × Nat × List Byte × List Byte × List Nat) := []
  /-- a channel bit at which a trick began in this read stream: cells of one trick length are counted from there (R202) -/
  origin : Option Nat := none
  /-- the number of the cell at the origin (R202) -/
  cellBase : Nat := 0
  /-- the last cell read (R202) -/
  readTo : Nat := 0
  /-- cells of repeat, rewrite-only and run-in tricks, which R202 does not count -/
  skipped : List Nat := []
  /-- a sync word has been found since the deck began to read (R173) -/
  synced : Bool := false
  /-- a block begun in a hand read and not yet whole, by stream: the entry of its first fragment, its bytes, covered by a key run, all of
  its bytes recovered -/
  joining : Sparse (Entry × List Byte × Bool × Bool) := []
  /-- number of the first trick of the round being read, whose tricks stay in the round buffer (R218) -/
  roundFirst : Nat := 0
  /-- START_TPC of the MODE record last sent (R308) -/
  startTpc : Word := 0
  /-- a MODE record that waits for the registers of its profile: MODE, PROFILE, COLUMN_BASE, START_TPC (R317) -/
  modeDue : Option (Nat × Nat × Word × Word) := none
  /-- restored items in logical order (R208) -/
  restored : List Restored := []
  /-- the end-of-data trick has been met (R169) -/
  endMet : Bool := false
  /-- retry pass in progress for the hand (R206), DKd_RESTORE_STATUS.RETRY -/
  retry : Nat := 0
  /-- the hand is unrecovered: its first unrecoverable trick (R205, R207) -/
  unrecovered : Option Nat := none
  /-- the restore ended at that hand (R207), or stopped before a hand of another format (R287) -/
  gaveUp : Bool := false
  /-- position map anchors: stream, object, BSN, trick, entry, tape position (R213) -/
  anchors : List (Word × Nat × Nat × Nat × Nat × Word) := []
  /-- truncation records met: stream, START, TRICK, ENTRY (R213) -/
  truncs : List (Word × Nat × Nat × Nat) := []
  /-- transport -/
  motion : Motion := {}
  deriving DecidableEq, Repr, Inhabited
/-! ### Events, notices and meters -/

/-- A Scorepad record (R388, Table 18-3). -/
structure SpRecord where
  /-- 32 bits -/
  seq : Word := 0
  /-- 32 bits -/
  cycles : Word := 0
  /-- 32 bits -/
  hours : Word := 0
  /-- 32 bits -/
  wall : Word := 0
  /-- 9 bits -/
  event : Nat := 0
  /-- 2 bits; severity -/
  sev : Nat := 0
  /-- WALL_SET -/
  wallSet : Bool := false
  /-- PERSISTED -/
  persisted : Bool := false
  /-- TRUNC -/
  trunc : Bool := false
  /-- 16 bits; REPEAT -/
  repeats : Nat := 0
  /-- detail words, 0 to 7 (R396) -/
  detail : List Word := []
  /-- snapshot words, 0 to 8 (R391) -/
  snaps : List Word := []
  deriving DecidableEq, Repr, Inhabited

/-- Routing of an event source (EVT_SRC_CFG, EVT_SRC_SNAP_k; R385, R391). Key: event. -/
structure SrcCfg where
  /-- the bits RECORD, NOTIFY, PERSIST, CHAIN and SNAPS in their places of EVT_SRC_CFG -/
  cfg : Word := 0
  /-- EVT_SRC_SNAP_0 to 7, as written -/
  snaps : Sparse Word := []
  deriving DecidableEq, Repr, Inhabited

/-- Scorepad, Notice FIFO, hours and meter ring (R385 to R403). -/
structure EvtUnit where
  /-- records present, in no particular order (R389) -/
  records : List SpRecord := []
  /-- hold queue while frozen, oldest first (R392) -/
  held : List SpRecord := []
  /-- record most recently placed or held: cycles and seq; none once it has been overwritten (R390) -/
  last : Option (Word × Word) := none
  /-- 32 bits; SEQ of the next record (R388) -/
  nextSeq : Word := 0
  /-- 32 bits; EVT_SP_DROPPED (R389) -/
  dropped : Word := 0
  /-- a run of drops is open, event 448 raised (R389) -/
  dropRun : Bool := false
  /-- the four chains: complete packets, oldest first (R397) -/
  chains : Sparse (List (List Word)) := []
  /-- packet in service: its chain, the words left to return and its length (R398) -/
  service : Option (Nat × List Word × Nat) := none
  /-- 32 bits each; EVT_NTC_LOST_c (R397) -/
  lost : Sparse Word := []
  /-- chains whose run of losses has recorded event 449 (R397) -/
  lostRun : List Nat := []
  /-- 32 bits; doorbells sent since link-up (R336) -/
  doorbells : Word := 0
  /-- routing by event; unlisted: Table 18-1 (R386) -/
  srcs : Sparse SrcCfg := []
  /-- records waiting for the persistence sectors, oldest first (R393) -/
  toPersist : List SpRecord := []
  /-- a run of records not persisted is open, event 455 raised (R393) -/
  persistRun : Bool := false
  /-- records in the persistence sectors, oldest first, each with the number of its page since the first power-up (R393) -/
  persisted : List (Nat × SpRecord) := []
  /-- number of the next page of the persistence sectors (R393) -/
  persistPage : Nat := 0
  /-- EVT_WALL written since the last POR (R388) -/
  wallSet : Bool := false
  /-- 32 bits; EVT_HOURS (R394) -/
  hours : Word := 0
  /-- 32 bits; EVT_CYCLES (R394) -/
  cycles : Word := 0
  /-- hours and cycles of the hours ring, newest first, each with the number of its page since the first power-up (R394) -/
  checkpoints : List (Nat × (Word × Word)) := []
  /-- number of the next page of the hours ring (R394) -/
  hourPage : Nat := 0
  /-- GAP of the next snapshot (R402) -/
  gap : Bool := false
  /-- RESTART of the next snapshot (R402) -/
  restart : Bool := true
  /-- a FATAL event other than 420 has been raised since the last COLD or POR; it holds FAULT_N low (Table 16-8) -/
  fatal : Bool := false
  deriving DecidableEq, Repr, Inhabited

/-! ### Settings flash -/

/-- A flash operation of a bank (R374 to R376). -/
structure FlashOp where
  /-- 1 PROGRAM, 2 ERASE, 5 MARGIN_PV, 6 MARGIN_EV (Table 17-4) -/
  op : Nat := 0
  /-- 7 bits -/
  sector : Nat := 0
  /-- 7 bits -/
  page : Nat := 0
  /-- bytes to program -/
  data : List Byte := []
  /-- a command of the host, not of the steward (R376) -/
  host : Bool := true
  /-- suspensions so far (Table 17-4) -/
  suspensions : Nat := 0
  deriving DecidableEq, Repr, Inhabited

/-- A settings record (R381). -/
structure Settings where
  /-- 0 copy A, 1 copy B -/
  copy : Nat := 0
  /-- sector of the copy, 0 to 7 -/
  sector : Nat := 0
  /-- 32 bits; SEQ -/
  seq : Word := 0
  /-- the check holds -/
  valid : Bool := true
  /-- NV registers by aperture offset -/
  nv : Sparse Word := []
  /-- NV fields behind selectors: event routing, pools, regions -/
  srcs : Sparse SrcCfg := []
  /-- pools: cfg, first, count -/
  pools : Sparse (Word × Nat × Nat) := []
  /-- regions -/
  regions : Sparse Word := []
  deriving DecidableEq, Repr, Inhabited

/-- A journal entry (R379). -/
structure JEntry where
  /-- 1 intent, 2 done, 3 approval, 4 revoke, 5 tamper, 6 acknowledgement, 7 carried -/
  type : Nat := 0
  /-- 0 or 1 -/
  bank : Nat := 0
  /-- 0 to 127 -/
  sector : Nat := 0
  /-- 32 bits -/
  seq : Word := 0
  /-- TYPE of the entry that a carried copy carries -/
  carries : Nat := 0
  /-- approval: slot, IMAGE_LEN, CHECK -/
  slot : Nat := 0
  /-- approval: IMAGE_LEN -/
  len : Nat := 0
  /-- approval: CHECK -/
  check : Word := 0
  deriving DecidableEq, Repr, Inhabited

/-- Settings flash (R370 to R384). -/
structure NvmUnit where
  /-- contents of the two banks by 8,388,608 × bank + 65,536 × sector + byte; unlisted: 0xFF (R370) -/
  bytes : Sparse Byte := []
  /-- sectors of bank A that still hold what they held at shipment: the steward's firmware and image slot 0 (R288, Table 17-1) -/
  shipped : List Nat := List.range 64
  /-- pages whose program was interrupted, by 16,384 × bank + 128 × sector + page: contents undefined (R370) -/
  torn : List Nat := []
  /-- sectors left half-erased by an interrupted erase, by 128 × bank + sector (R370) -/
  halfErased : List Nat := []
  /-- operation running on a bank (R374) -/
  running : Sparse FlashOp := []
  /-- suspended erase of a bank (R376) -/
  suspended : Sparse FlashOp := []
  /-- journal entries, oldest first (R379) -/
  journal : List JEntry := []
  /-- settings records of both copies (R381) -/
  settings : List Settings := []
  /-- STORE at work: context, task, the record being written, second attempt (R382) -/
  storing : Option (Nat × Nat × Settings × Bool) := none
  /-- the STORE at work has taken its snapshot and waits for its bank (R382) -/
  storeWaits : Bool := false
  /-- emergency record: hours, cycles, records, marker valid (R383) -/
  emergency : Option (Word × Word × List SpRecord × Bool) := none
  /-- SEQ of the next journal entry (R379) -/
  jseq : Word := 1
  deriving DecidableEq, Repr, Inhabited

/-! ### UCIe -/

/-- A message or level the block has put out. -/
inductive Sent where
  /-- posted write to host memory (R335) -/
  | hostWrite (addr : Nat) (bytes : List Byte)
  /-- completion-ring or meter-ring entry (R40, R402), which waits for every posted write before it (R333) -/
  | ringWrite (addr : Nat) (bytes : List Byte)
  /-- non-posted read of host memory (R335) -/
  | hostRead (tag : BitVec 16) (addr count : Nat)
  /-- completion of a register access: TAG, STATUS, WERR, address, data (R334) -/
  | mmio (tag status : BitVec 16) (werr : Bool) (addr : Nat) (data : List Word)
  /-- notice doorbell: count, chain, length (R336) -/
  | doorbell (count : Word) (chain len : Nat)
  /-- flit on a port (R327) -/
  | flit (p : Nat) (bytes : List Byte)
  /-- record on a deck's control lane (Table 14-4) -/
  | record (d : Nat) (bytes : List Byte)
  /-- the 17 frames of one SEQ that carry a column and its COLUMN record, lane 0 first, as sent; bit k of a frame is bit k of Table 14-2
  (R300 to R302, R305, R308) -/
  | column (d : Nat) (index : Word) (frames : List (BitVec 1200))
  /-- AVSBus voltage write, mV (R421) -/
  | avs (mv : Nat)
  /-- console byte (R353) -/
  | console (b : Byte)
  /-- what a read port of the aperture returned: its offset and the word (R258, R371, R398) -/
  | read (off : Nat) (v : Word)
  /-- an access to a port of the aperture answered with an error completion: its offset (R274, R334) -/
  | portError (off : Nat)
  /-- one-microsecond pulse of TSYNC_OUT (R426) -/
  | tsync
  /-- one-microsecond pulse of DBG_TRIG_OUT (R258) -/
  | trigOut
  /-- bit pair driven on SEAL_OUT (R346) -/
  | sealBit (b : Bool)
  deriving DecidableEq, Repr, Inhabited

/-- A device read of host memory in flight (R335). -/
structure DmaRead where
  /-- 16 bits -/
  tag : BitVec 16 := 0
  /-- 52 bits -/
  addr : Nat := 0
  /-- 1 to 4,096 -/
  count : Nat := 0
  /-- bytes received so far -/
  got : List Byte := []
  /-- requester: context and task; (4,096, 0) the slot command; (4,097, 0) a task that no longer wants the data -/
  owner : Nat × Nat := (4097, 0)
  deriving DecidableEq, Repr, Inhabited

/-- A UCIe port (R326 to R339). Key: port. -/
structure Port where
  /-- next SEQ to send (R329) -/
  txSeq : Byte := 0
  /-- next SEQ expected (R330) -/
  rxSeq : Byte := 0
  /-- bytes 0 to 239 of the flits sent and not acknowledged, oldest first (R330) -/
  unacked : List (List Byte) := []
  /-- bytes 0 to 239 of the flits waiting for the window of 128 or for credits (R330, R332) -/
  waiting : List (List Byte) := []
  /-- NAK sent and no flit accepted since (R330) -/
  nakSent : Bool := false
  /-- an acknowledgement is due (R330) -/
  ackDue : Bool := false
  /-- consecutive replays that began at the same flit, and its SEQ (R330) -/
  replays : Nat := 0
  /-- SEQ at which the last replay began (R330) -/
  replaySeq : Byte := 0
  /-- event 259 raised since the last acknowledgement progress (Table 15-4) -/
  replayAlerted : Bool := false
  /-- credits released for the peer since link-up, classes 1 to 4 (R331) -/
  released : List (BitVec 16) := [512, 256, 1024, 0]
  /-- last counts received from the peer (R331) -/
  peer : List (BitVec 16) := [0, 0, 0, 0]
  /-- credits the device holds (R331) -/
  credits : List Nat := [0, 0, 0, 0]
  /-- unfinished messages being received, by class: their flits, none where the message is being discarded (R328) -/
  partialMsg : Sparse (List (List Byte)) := []
  /-- messages received whole, oldest first: their flits (R328, R333); each is carried out by the command that it is -/
  inbox : List (List (List Byte)) := []
  /-- credit wait of class already alerted (R332) -/
  waitAlerted : List Nat := []
  /-- retraining attempts since the port left Active (R337) -/
  attempts : Nat := 0
  deriving DecidableEq, Repr, Inhabited

/-- UCIe attachment (R325 to R341). -/
structure LnkUnit where
  /-- ports -/
  ports : Sparse Port := []
  /-- device reads in flight (R335) -/
  reads : List DmaRead := []
  /-- tags of failed reads, not reused for 1 ms (R335) -/
  quarantine : List (BitVec 16) := []
  /-- 16 bits; next tag -/
  nextTag : BitVec 16 := 0
  /-- messages put out so far that have been taken for the ports (the model's own count) -/
  put : Nat := 0
  /-- messages that no port has taken yet, oldest first (R332, R333) -/
  queue : List Sent := []
  deriving DecidableEq, Repr, Inhabited

/-! ### Presence, seal, power, TAP -/

/-- Presence, seal and security beyond the SEC registers (R342 to R354). -/
structure SecUnit where
  /-- SVC_JMP_N low (R342) -/
  jumper : Bool := false
  /-- SVC_BTN_N low since a BUTTON_PRESSED (R342) -/
  button : Bool := false
  /-- an action may take place: the button has been high for 20 ms since the last (R342) -/
  armed : Bool := true
  /-- the jumper went high during the press: the press is void (R342) -/
  void : Bool := false
  /-- the button is stuck (R345) -/
  stuck : Bool := false
  /-- presence window open (R343) -/
  window : Bool := false
  /-- 9 bits; seconds left in the window -/
  remain : Nat := 0
  /-- security state: 0 SEALED, 1 SERVICE, 2 TAMPERED, 3 OPEN (R351) -/
  state : Nat := 0
  /-- OPEN_PENDING (R352) -/
  openPending : Bool := false
  /-- RESTORED (R349) -/
  restored : Bool := false
  /-- 2 bits; debug level (R353) -/
  debug : Nat := 0
  /-- 16 bits; the seal LFSR (R346) -/
  lfsr : BitVec 16 := 0xACE1
  /-- consecutive mismatching bits (R347), SEC_SEAL.MISMATCH -/
  mismatch : Nat := 0
  /-- consecutive matching bits (R349) -/
  matching : Nat := 0
  /-- an island 23 fault is to enter TAMPERED (Table 01-4) -/
  sealFault : Bool := false
  /-- lines the service console has sent (R353) -/
  console : List Byte := []
  deriving DecidableEq, Repr, Inhabited

/-- Power, resets, thermal and clocks (R355 to R368, R418 to R424). -/
structure PwrUnit where
  /-- 0 RUN, 1 IDLE, 2 DOZE, 3 SLEEP (R355) -/
  state : Nat := 0
  /-- a POWER task enters this state: context, task, target (R57, R356, R357) -/
  entering : Option (Nat × Nat × Nat) := none
  /-- VDD_CORE request before DOZE, mV (R357) -/
  savedMv : Nat := 720
  /-- power failure acted; stopped until COLD (R361) -/
  pfail : Bool := false
  /-- thermal shutdown; no start until COLD (R423) -/
  shutdown : Bool := false
  /-- islands faulted whose recovery is not complete (R21) -/
  recovering : List Nat := []
  /-- the model's count of free values taken when island 25 faulted: trace stamps stand still there (Table 01-4) -/
  stopTick : Nat := 0
  /-- the slack monitor has measured since the core started (R24) -/
  measured : Bool := false
  /-- consecutive failed AVSBus transactions (R421) -/
  avsFails : Nat := 0
  /-- band of Table 17-3 in force: row and column (R373) -/
  band : Nat × Nat := (0, 0)
  /-- no deck link is enabled: PFAIL_N or a rail at start-up (R420) -/
  noLinks : Bool := false
  /-- resets that wait for RUN: d the DECK reset of deck d, 4 WARM, 5 + n the CTX reset of context n (R366) -/
  wakeResets : List Nat := []
  /-- a WARM reset waits for the decks' stops: its SOURCE (R364) -/
  warm : Option Nat := none
  /-- SB_WAKE has asked for an exit that has not come yet (R340) -/
  sbWake : Bool := false
  /-- SB_RESET has asked for a COLD reset that has not come yet (R340) -/
  coldAsked : Bool := false
  deriving DecidableEq, Repr, Inhabited

/-- The TAP (R404 to R413). -/
structure TapUnit where
  /-- controller state of IEEE 1149.1, 0 to 15 -/
  fsm : Nat := 0
  /-- 8 bits; instruction shift register (R405) -/
  irShift : BitVec 8 := 0
  /-- 8 bits; instruction in effect (R405) -/
  ir : BitVec 8 := 1
  /-- the BYPASS in effect was substituted (R405, R407) -/
  substituted : Bool := false
  /-- data shift register -/
  drShift : List Bool := []
  /-- 382 bits; update latches of the boundary register (R408) -/
  boundary : BitVec 382 := 0
  /-- SCAN has taken effect: the state of the core is undefined (R413) -/
  scan : Bool := false
  /-- TDO, since the last falling edge of TCK in a Shift state -/
  tdo : Bool := false
  /-- TRST_N was last seen low (R20, R404) -/
  trstLow : Bool := false
  deriving DecidableEq, Repr, Inhabited

/-! ### The machine -/

/-- The whole block. -/
structure State where
  /-- commands waiting, first in, first out -/
  pending : List Instr := []
  /-- the model's own counter from which free values are taken; not the spec's -/
  tick : Nat := 0
  /-- aperture registers by byte offset; unlisted: the reset value (R8, R430) -/
  regs : Sparse Word := []
  /-- messages put out, newest first -/
  sent : List Sent := []
  /-- events, notices, hours (R385) -/
  evt : EvtUnit := {}
  /-- tasks accepted so far, over all contexts (R34, R48) -/
  accepted : Nat := 0
  /-- contexts (R29) -/
  ctx : Sparse Context := []
  /-- tables by 64 × deck + partition (R59) -/
  tables : Sparse Table := []
  /-- Cutter (R101) -/
  cut : CutUnit := {}
  /-- key slots (R113) -/
  keys : Sparse KeySlot := []
  /-- buffer memory (R264) -/
  shoe : ShoeUnit := {}
  /-- images (R283) -/
  img : ImgUnit := {}
  /-- decks (R197) -/
  decks : Sparse Deck := []
  /-- loops by 4 × deck + loop (R233) -/
  loops : Sparse Loop := []
  /-- trace buffers by 4 × deck + buffer (R258) -/
  traces : Sparse Trace := []
  /-- settings flash (R370) -/
  nvm : NvmUnit := {}
  /-- UCIe (R325) -/
  lnk : LnkUnit := {}
  /-- security (R342) -/
  sec : SecUnit := {}
  /-- power (R355) -/
  pwr : PwrUnit := {}
  /-- TAP (R404) -/
  tap : TapUnit := {}
  deriving DecidableEq, Repr, Inhabited


/-- Why the block stops. No meaning raises one: every command of the spec's table has an effect (safe). -/
inductive Fault where
  /-- The block cannot go on; raised by no meaning of this model (safe). -/
  | halted
  deriving DecidableEq, Repr, Inhabited

/-- Why a command has no meaning in this model. -/
inductive Refusal where
  /-- The command of this mnemonic has no meaning yet; raised by Dispatch only (safe). -/
  | notModelled (mnemonic : String)
  deriving DecidableEq, Repr, Inhabited

/-- The block right after reset: every register field at the value its register table states (an unlisted register reads its
reset value), every queue empty (log entry 3). -/
def State.reset : State := {}

end Sys2Proof.Machine
end

