-- ==== Sys2Proof/Config.lean ====
section
/-! DEFINITION. What the spec leaves open, as opaque constants: no value of any of them can be evaluated or proved. -/

namespace Sys2Proof

/-- The state of the core while boundary-scan instruction SCAN is in effect, which R413 calls undefined (log entry 4). -/
opaque Config.coreState : Nat → Machine.State

/-- Which of a pool's free chips an allocation hands out; R270 defines no order (log entry 6). -/
opaque Config.chipPick : Nat → Nat

/-- A byte that a device engine has left in a chip, by the allocation's number and the byte's place; the spec lays no engine's data out over
its chips (log entry 128). -/
opaque Config.engineByte : Nat → Nat → Byte

/-- Tape position of the end of the cartridge loaded on a deck, where odd wraps begin; the spec gives no tape length (log entry 9). -/
opaque Config.eotPosition : Nat → Word

/-- Speed that two successive encoder counts of a reel show, in mm/s as int16; the spec gives no edges per turn and no reel radius
(log entry 11). -/
opaque Config.measuredSpeed : Word → Word → BitVec 16

/-- The node that a SRC coefficient of a MODE stage names; the spec gives no code for it (log entry 12). -/
opaque Config.nodeOf : Word → Machine.JNode

/-- The context, key slot, deck, record, chip or facet whose data a word of an on-die macro group holds; the spec gives no layout of the
groups (log entry 13). -/
opaque Config.sramOwner : Nat → Nat → Nat

/-- The bytes of bank A that the device has at shipment: the steward's firmware and the Garnet-1 image in slot 0, of which the spec prints
only the format section (log entry 14). -/
opaque Config.shippedByte : Nat → Byte

/-- IMAGE_LEN and CHECK of the shipped image in slot 0 (log entry 14). -/
opaque Config.shippedTrailer : Nat × Word

/-- The sections of the shipped image that the spec does not print (log entry 14). -/
opaque Config.garnetRest : Machine.Image

/-- A byte of a sector that only the steward writes and whose layout is not given, read at a moment (log entry 15). -/
opaque Config.stewardByte : Nat → Nat → Byte

/-- The sector of the emergency area, 0 to 7, that the steward takes for an emergency record; the spec names none (R383; log entry 132). -/
opaque Config.emergencySector : Nat → Fin 8

/-- A byte of a half-erased sector or a torn page, or what a read with too many bit errors delivers: contents undefined (R370; log entry 15). -/
opaque Config.brokenByte : Nat → Byte

/-- A byte of the factory calibration row (R372; log entry 15). -/
opaque Config.calByte : Nat → Byte

/-- What a section of a Tabjo image of types 2 to 6 sets; the spec gives no byte layout (log entry 16). -/
opaque Config.sectionImage : Nat → List Byte → Machine.Image

/-- A section of types 2 to 6 lies within its ranges (check 7 of Table 13-4; log entry 16). -/
opaque Config.sectionOk : Nat → List Byte → Bool

/-- A fabric section routes all four decks (check 8 of Table 13-4; log entry 16). -/
opaque Config.routesAll : List Byte → Bool

/-- The time of island 25 when a trace buffer is fired by software; the model has no clock (log entry 5). -/
opaque Config.islandTime : Nat → BitVec 64

/-- The number of a lane that the training of a UCIe port repaired: port, direction and count of the repair; the command gives only their
number (log entry 18). -/
opaque Config.repairedLane : Nat → Nat → Word

/-- What the service console sends: the boot banner, and its answer to a line at a debug level; the spec gives no format (log entry 19). -/
opaque Config.consoleReply : Nat → Nat → List Byte → List Byte

/-- The bit that a data register whose content the spec leaves to the die revision or to JESD238 shifts out: instruction, moment
(log entry 20). -/
opaque Config.tapData : Nat → Nat → Bool

/-- The channel named by the fault of island 20 where its crystal does not start; the spec names none (log entry 21). -/
opaque Config.crystalChannel : Word

/-- A partition of a cartridge holds a data trick when it is loaded: moment, partition. The tape tells it, and no command of the table does
before the partition is read (log entry 104). -/
opaque Config.holdsAtLoad : Nat → Nat → Bool

end Sys2Proof
end

