-- ==== Sys2Proof/Machine/Crc.lean ====
section
/-! DEFINITION. The check codes and the scramblers of the spec: CRC-32C (R93), CRC-32 (R283), CRC-16 (R130), CRC-64 (R154), CRC-24 (R301),
the track scrambler (R133), the lane scrambler (R302) and the seal loop's register (R346). -/

namespace Sys2Proof.Machine

/-- One bit of a reflected CRC register. -/
def crcReflBit (poly : Nat) (c : Nat) : Nat := if c % 2 = 1 then (c / 2) ^^^ poly else c / 2

/-- One byte of a reflected CRC, bits least significant first. -/
def crcReflByte (poly : Nat) (c : Nat) (b : Byte) : Nat :=
  let c0 := c ^^^ b.toNat
  let c4 := crcReflBit poly (crcReflBit poly (crcReflBit poly (crcReflBit poly c0)))
  crcReflBit poly (crcReflBit poly (crcReflBit poly (crcReflBit poly c4)))

/-- CRC-32C (R93). -/
def crc32c (l : List Byte) : Word :=
  word (l.foldl (crcReflByte 0x82F63B78) 0xFFFFFFFF ^^^ 0xFFFFFFFF)

/-- CRC-32 of IEEE 802.3 (R283). -/
def crc32 (l : List Byte) : Word :=
  word (l.foldl (crcReflByte 0xEDB88320) 0xFFFFFFFF ^^^ 0xFFFFFFFF)

/-- One bit of a CRC register of `w` bits, most significant first. -/
def crcMsbBit (w poly : Nat) (c : Nat) : Nat :=
  if c / 2 ^ (w - 1) % 2 = 1 then (c * 2 % 2 ^ w) ^^^ poly else c * 2 % 2 ^ w

/-- One byte of a CRC of `w` bits, bits most significant first. -/
def crcMsbByte (w poly : Nat) (c : Nat) (b : Byte) : Nat :=
  let c0 := c ^^^ (b.toNat * 2 ^ (w - 8))
  let c4 := crcMsbBit w poly (crcMsbBit w poly (crcMsbBit w poly (crcMsbBit w poly c0)))
  crcMsbBit w poly (crcMsbBit w poly (crcMsbBit w poly (crcMsbBit w poly c4)))

/-- CRC-16 of the facet header (R130). -/
def crc16 (l : List Byte) : Nat := l.foldl (crcMsbByte 16 0x1021) 0xFFFF

/-- CRC-24 of a lane frame (R301). -/
def crc24 (l : List Byte) : Nat := l.foldl (crcMsbByte 24 0x864CFB) 0xB704CE

/-- CRC-64/ECMA-182 of the hand digest (R154). -/
def crc64 (l : List Byte) : Nat := l.foldl (crcMsbByte 64 0x42F0E1EBA9EA3693) 0

/-- The next `n` bits of a left-shifting register of `w` bits that feeds back the exclusive-or of its top bit and of bit `t`,
and the register after them (R133, R302). -/
def lfsrBits (w t : Nat) : Nat → Nat → List Bool × Nat
  | 0, st => ([], st)
  | n + 1, st =>
    let b := ((st >>> (w - 1)) ^^^ (st >>> t)) % 2
    let r := lfsrBits w t n ((st * 2 + b) % 2 ^ w)
    ((b == 1) :: r.1, r.2)

/-- The number whose bits are given, most significant first. -/
def natOfBits (l : List Bool) : Nat := l.foldl (fun a b => a * 2 + bit b) 0

/-- The `n` bits of `v`, most significant first. -/
def bitsMsb : Nat → Nat → List Bool
  | 0, _ => []
  | n + 1, v => bitAt v n :: bitsMsb n v

/-- The key words of body words 0 to n − 1 on track `track` (R133). -/
def trackKeysFrom : Nat → Nat → List Nat
  | 0, _ => []
  | n + 1, st => let r := lfsrBits 31 27 32 st; natOfBits r.1 :: trackKeysFrom n r.2

/-- The scrambler's key words of a facet body of `n` words on a track (R133). -/
def trackKeys (track n : Nat) : List Nat := trackKeysFrom n (0x7FFFFFFF ^^^ track)

/-- The scrambler bits of bits 24 to 1,199 of a frame of a lane (R302). -/
def laneKey (lane seq : Nat) : List Bool :=
  (lfsrBits 23 17 1176 (0x7FFFFF ^^^ (lane <<< 12) ^^^ seq)).1

/-- The bit the seal loop drives next and its register afterwards (R346). -/
def sealNext (st : BitVec 16) : Bool × BitVec 16 :=
  let v := st.toNat
  let fb := (v ^^^ (v >>> 2) ^^^ (v >>> 3) ^^^ (v >>> 5)) % 2
  (v % 2 == 1, BitVec.ofNat 16 (v / 2 + fb * 2 ^ 15))

end Sys2Proof.Machine
end

