-- ==== Sys2Proof/Machine/Regs.lean ====
section
/-! DEFINITION. The stored registers of the aperture: read and write of a register or a field, the access codes of Table
00-3, and the reset classes of Table 00-4. -/

namespace Sys2Proof.Machine

/-- The reset value of the register at `off` (R12). -/
def resetOf (off : Nat) : Word :=
  match findReg off with
  | some r => word (r.fields.foldl (fun a f => a + f.reset <<< f.lo) 0)
  | none => 0

/-- The stored value of the register at `off`; unlisted: its reset value. -/
def State.reg (s : State) (off : Nat) : Word := (Sparse.find s.regs off).getD (resetOf off)

/-- `s` with `v` stored at `off`. -/
def State.setReg (s : State) (off : Nat) (v : Word) : State :=
  { s with regs := Sparse.set (resetOf off) s.regs off v }

/-- A field of a stored register. -/
def State.fld (s : State) (off : Nat) (f : Fld) : Nat := getBits (s.reg off) f

/-- A one-bit field of a stored register. -/
def State.flag (s : State) (off : Nat) (f : Fld) : Bool := decide (s.fld off f = 1)

/-- `s` with `v` in a field of a stored register. -/
def State.setFld (s : State) (off : Nat) (f : Fld) (v : Nat) : State := s.setReg off (putBits (s.reg off) f v)

/-- `s` with a counter field raised by `n`, saturating at the field's greatest value. -/
def State.addFld (s : State) (off : Nat) (f : Fld) (n : Nat) : State :=
  s.setFld off f (satAt (2 ^ f.width - 1) (s.fld off f + n))

/-- `s` with a counter field raised by `n`, wrapping. -/
def State.incFld (s : State) (off : Nat) (f : Fld) (n : Nat) : State := s.setFld off f (s.fld off f + n)

/-- The place of a field of a register table. -/
def FieldSpec.fld (f : FieldSpec) : Fld := ⟨f.hi, f.lo⟩

/-- `w` as a read returns it: reserved bits and WO fields read 0 (Table 00-3). -/
def readMasked (r : RegSpec) (w : Word) : Word :=
  r.fields.foldl (fun a f => if f.acc = Acc.wo then a else putBits a f.fld (getBits w f.fld)) 0

/-- The value a field takes when `v` is written to it, by its access code (Table 00-3). A WO field that holds something (a reset class
names it: the staging registers of the key port, R114) takes the value; any other acts through its own command. -/
def writtenField (f : FieldSpec) (old v : Nat) : Nat :=
  match f.acc with
  | .rw | .rwp => v
  | .ro => old
  | .wo => if f.cls = .none then old else v
  | .w1c => old - (old &&& v)
  | .w1s => old ||| v

/-- The register `old` after `v` is written to the fields whose access code satisfies `p` (R8, R10). -/
def writtenReg (p : Acc → Bool) (r : RegSpec) (old v : Word) : Word :=
  r.fields.foldl
    (fun a f => if p f.acc then putBits a f.fld (writtenField f (getBits old f.fld) (getBits v f.fld)) else a) old

/-- The write `v` would change an RWP field of `r` (R10). -/
def changesRwp (r : RegSpec) (old v : Word) : Bool :=
  r.fields.any (fun f => decide (f.acc = .rwp) && decide (getBits old f.fld ≠ getBits v f.fld))

/-- A register with the fields of the classes that satisfy `p` at their reset values (R12). -/
def resetFields (p : Cls → Bool) (r : RegSpec) (w : Word) : Word :=
  r.fields.foldl (fun a f => if p f.cls then putBits a f.fld f.reset else a) w

/-- `s` with the fields of the classes that satisfy `p` at their reset values, in the registers whose table and first index
satisfy `q` (R12). -/
def State.resetRegs (s : State) (p : Cls → Bool) (q : RegSpec → Nat → Bool) : State :=
  let f := fun (off : Nat) (w : Word) =>
    match findReg off with
    | some r => if q r (r.index1 off) then resetFields p r w else w
    | none => w
  { s with regs := Sparse.remap resetOf f s.regs }

/-- The classes that a POR returns to their reset values (Table 00-4). -/
def Cls.ofPor : Cls → Bool
  | .none => false
  | _ => true

/-- The classes that a COLD reset returns to their reset values (Table 00-4). -/
def Cls.ofCold : Cls → Bool
  | .cold | .warm | .deck | .ctx | .nv => true
  | _ => false

/-- The classes that a WARM reset returns to their reset values (Table 00-4). -/
def Cls.ofWarm : Cls → Bool
  | .warm | .deck | .ctx => true
  | _ => false

/-- The classes that entry to SLEEP returns to their reset values (R12). -/
def Cls.ofSleep : Cls → Bool
  | .cold | .warm | .deck | .ctx => true
  | _ => false

/-- The low and high words of a 64-bit pair (R431). -/
def State.pair (s : State) (lo hi : Nat) : Nat := (s.reg lo).toNat + 2 ^ 32 * (s.reg hi).toNat

/-- `s` with `v` in a pair of registers. -/
def State.setPair (s : State) (lo hi : Nat) (v : Nat) : State := (s.setReg lo (word v)).setReg hi (word (v >>> 32))

/-! ### Parts of the state -/

/-- Context n (R29). -/
def State.ctxAt (s : State) (n : Nat) : Context := Sparse.get {} s.ctx n

/-- `s` with context n replaced. -/
def State.putCtx (s : State) (n : Nat) (c : Context) : State := { s with ctx := Sparse.set {} s.ctx n c }

/-- `s` with context n changed by `f`. -/
def State.onCtx (s : State) (n : Nat) (f : Context → Context) : State := s.putCtx n (f (s.ctxAt n))

/-- The table of deck d and partition p (R59). -/
def State.tableAt (s : State) (d p : Nat) : Table := Sparse.get {} s.tables (64 * d + p)

/-- `s` with a table replaced. -/
def State.putTable (s : State) (d p : Nat) (t : Table) : State := { s with tables := Sparse.set {} s.tables (64 * d + p) t }

/-- `s` with a table changed by `f`. -/
def State.onTable (s : State) (d p : Nat) (f : Table → Table) : State := s.putTable d p (f (s.tableAt d p))

/-- Deck d. -/
def State.deckAt (s : State) (d : Nat) : Deck := Sparse.get {} s.decks d

/-- `s` with deck d replaced. -/
def State.putDeck (s : State) (d : Nat) (k : Deck) : State := { s with decks := Sparse.set {} s.decks d k }

/-- `s` with deck d changed by `f`. -/
def State.onDeck (s : State) (d : Nat) (f : Deck → Deck) : State := s.putDeck d (f (s.deckAt d))

/-- `s` with the motion of deck d changed by `f`. -/
def State.onMotion (s : State) (d : Nat) (f : Motion → Motion) : State := s.onDeck d (fun k => { k with motion := f k.motion })

/-- Key slot k (R113). -/
def State.keyAt (s : State) (k : Nat) : KeySlot := Sparse.get {} s.keys k

/-- `s` with key slot k replaced. -/
def State.putKey (s : State) (k : Nat) (v : KeySlot) : State := { s with keys := Sparse.set {} s.keys k v }

/-- Loop l of deck d (R233). -/
def State.loopAt (s : State) (d l : Nat) : Loop := Sparse.get {} s.loops (4 * d + l)

/-- `s` with a loop replaced. -/
def State.putLoop (s : State) (d l : Nat) (v : Loop) : State := { s with loops := Sparse.set {} s.loops (4 * d + l) v }

/-- Trace buffer c of deck d (R258). -/
def State.traceAt (s : State) (d c : Nat) : Trace := Sparse.get {} s.traces (4 * d + c)

/-- `s` with a trace buffer replaced. -/
def State.putTrace (s : State) (d c : Nat) (v : Trace) : State := { s with traces := Sparse.set {} s.traces (4 * d + c) v }

/-- Pool k (R269). -/
def State.poolAt (s : State) (k : Nat) : Pool := Sparse.get {} s.shoe.pools k

/-- `s` with a pool replaced. -/
def State.putPool (s : State) (k : Nat) (v : Pool) : State :=
  { s with shoe := { s.shoe with pools := Sparse.set {} s.shoe.pools k v } }

/-- UCIe port p (R326). -/
def State.portAt (s : State) (p : Nat) : Port := Sparse.get {} s.lnk.ports p

/-- `s` with a UCIe port replaced. -/
def State.putPort (s : State) (p : Nat) (v : Port) : State := { s with lnk := { s.lnk with ports := Sparse.set {} s.lnk.ports p v } }

end Sys2Proof.Machine
end

