-- ==== Sys2Proof/Machine/Flash.lean ====
section
/-! DEFINITION. The bytes of the settings flash (R370, R371, R379), the container of an image (R283, R284), what the image slots hold
(R288), and the format identity (R286). -/

namespace Sys2Proof.Machine

/-! ### Settings flash -/

/-- A sector by its number over both banks: 128 × bank + sector. -/
def sectorOf (bank sector : Nat) : Nat := 128 * bank + sector

/-- A byte of the journal sectors: entry i stands at the start of lower page 2 (i mod 64) of sector 104 + i / 64 (R379). -/
def entryBytes32 (e : JEntry) : List Byte :=
  let b := le 2 0x4A4E ++ [byte e.type, byte e.bank] ++ le 2 e.sector ++ zeros 2 ++ le 4 e.seq.toNat
    ++ (if e.type = 3 ∨ e.carries = 3 then [byte e.slot] ++ le 4 e.len ++ le 4 e.check.toNat ++ zeros 7 else zeros 16)
  b ++ le 4 (crc32c b).toNat

/-- A byte of the journal sectors by its offset in them (R379). -/
def journalByte (s : State) (off : Nat) : Byte :=
  let i := off / 1024
  let x := off % 1024
  if 32 ≤ x then 0xFF
  else
    match s.nvm.journal.reverse.find? (fun e => e.seq.toNat % 512 == i) with
    | some e => (entryBytes32 e).getD x 0xFF
    | none => 0xFF

/-- Sectors that the steward owns (Table 17-1). -/
def stewardOwned (bank sector : Nat) : Bool := if bank = 0 then decide (96 ≤ sector) else decide (64 ≤ sector) && decide (sector < 88)

/-- The 64 bytes of a Scorepad record (Table 18-3). -/
def SpRecord.bytes (r : SpRecord) : List Byte :=
  le 4 r.seq.toNat ++ le 4 r.cycles.toNat ++ le 4 r.hours.toNat ++ le 4 r.wall.toNat
    ++ le 2 (r.event % 512 + 512 * r.sev + 2048 * bit r.wallSet + 4096 * bit r.persisted + 8192 * bit r.trunc)
    ++ le 2 r.repeats ++ [byte r.detail.length, byte r.snaps.length] ++ zeros 2 ++ padTo 40 (bytesOf (r.detail ++ r.snaps))

/-- A byte of page q of the persistence sectors: up to seven records, and the trailer with MAGIC, their count and the CRC (R393; log entry 15:
what lies between is not given). -/
def persistByte (s : State) (q x : Nat) : Byte :=
  let l := (s.evt.persisted.filter (fun e => e.1 == q)).map (fun e => e.2)
  let free := fun (i : Nat) => Config.stewardByte q (512 * q + i)
  let records := l.flatMap SpRecord.bytes
  let trailer := le 4 0x53504144 ++ [byte l.length] ++ (List.range 55).map (fun i => free (453 + i))
  if x < records.length then records.getD x 0
  else if x < 448 then free x
  else (trailer ++ le 4 (crc32c (records ++ trailer)).toNat).getD (x - 448) 0

/-- A byte of page q of the hours ring: a checkpoint with its CRC (R394). -/
def hoursByte (s : State) (q x : Nat) : Byte :=
  match s.evt.checkpoints.find? (fun e => e.1 == q) with
  | some (_, h, c) =>
    let b := le 4 0x484F5552 ++ le 4 h.toNat ++ le 4 c.toNat
    (b ++ le 4 (crc32c b).toNat).getD x 0xFF
  | none => 0xFF

/-- A byte of a ring of eight sectors, sector i of it and x bytes into that: lower page 2k of the sector is the newest page of those numbered
64 × i + k modulo 512; upper pages are never programmed (R393, R394). -/
def ringByte (byteOf : Nat → Nat → Byte) (next i x : Nat) : Byte :=
  let k := 64 * i + x / 1024
  if 512 ≤ x % 1024 then 0xFF
  else if k < next then byteOf (k + (next - 1 - k) / 512 * 512) (x % 1024) else 0xFF

/-- A byte of a settings sector of a copy, x bytes into it: of a valid record the header and its CRC are given, the layout of the shadow before
them is not (R381; log entry 15). -/
def settingsByte (s : State) (copy sector x : Nat) : Byte :=
  match s.nvm.settings.find? (fun r => r.valid && r.copy == copy && r.sector == sector) with
  | some r =>
    let body := fun (i : Nat) => Config.stewardByte r.seq.toNat (8388608 * copy + 65536 * (if copy = 0 then 96 + sector else 64 + sector) + i)
    let head := le 4 0x53544F52 ++ le 4 r.seq.toNat
    let crc := crc32c ((List.range 65024).map body ++ head)
    if x < 65024 then body x else (head ++ le 4 crc.toNat).getD (x - 65024) (body x)
  | none => Config.stewardByte s.tick (8388608 * copy + 65536 * (if copy = 0 then 96 + sector else 64 + sector) + x)

/-- A byte of the flash: bank, sector and byte of the sector (R370, R371). -/
def flashByte (s : State) (bank sector x : Nat) : Byte :=
  let a := 8388608 * bank + 65536 * sector + x
  if s.nvm.halfErased.contains (sectorOf bank sector) || s.nvm.torn.contains (a / 512) then Config.brokenByte a
  else
    match Sparse.find s.nvm.bytes a with
    | some b => b
    | none =>
      if bank = 0 ∧ 104 ≤ sector ∧ sector < 112 then journalByte s (65536 * (sector - 104) + x)
      else if bank = 0 ∧ 96 ≤ sector ∧ sector < 104 then settingsByte s 0 (sector - 96) x
      else if bank = 1 ∧ 64 ≤ sector ∧ sector < 72 then settingsByte s 1 (sector - 64) x
      else if bank = 0 ∧ 112 ≤ sector ∧ sector < 120 then ringByte (fun q i => if s.evt.persisted.any (fun e => e.1 == q) then persistByte s q i else 0xFF)
        s.evt.persistPage (sector - 112) x
      else if bank = 1 ∧ 80 ≤ sector ∧ sector < 88 then ringByte (hoursByte s) s.evt.hourPage (sector - 80) x
      else if stewardOwned bank sector then Config.stewardByte s.tick a
      else if bank = 0 ∧ s.nvm.shipped.contains sector = true then Config.shippedByte a
      else 0xFF

/-- Bank and first sector of an image slot (Table 17-1). -/
def slotSectors (k : Nat) : Nat × Nat := (k / 2, if k = 0 then 32 else if k = 1 then 64 else if k = 2 then 0 else 32)

/-- The slot has an approval entry (R288). -/
def approvedEntry (s : State) (k : Nat) : Bool := (k == 0 && s.img.shippedOk) || s.img.approved.any (fun e => e.1 == k)

/-! ### The container of an image -/

/-- A directory entry: TYPE, SEC_VERSION, OFFSET, LENGTH, SEC_CRC (Table 13-1). -/
structure DirEntry where
  /-- TYPE -/
  type : Nat
  /-- SEC_VERSION -/
  version : Nat
  /-- OFFSET -/
  offset : Nat
  /-- LENGTH -/
  length : Nat
  /-- SEC_CRC -/
  crc : Nat
  deriving DecidableEq, Repr

/-- The section directory of an image (Table 13-1). -/
def imageDir (b : List Byte) : List DirEntry :=
  (List.range (leAt b 7 1)).map (fun k =>
    let o := 64 + 16 * k
    ⟨leAt b o 1, leAt b (o + 1) 1, leAt b (o + 4) 4, leAt b (o + 8) 4, leAt b (o + 12) 4⟩)

/-- The bytes of a section. -/
def sectionBytes (b : List Byte) (e : DirEntry) : List Byte := slice b e.offset e.length

/-- The sections of a type (R284). -/
def sectionsOf (b : List Byte) (type : Nat) : List (List Byte) := ((imageDir b).filter (fun e => e.type == type)).map (sectionBytes b)

/-- The only section of a type, or no bytes. -/
def sectionOf (b : List Byte) (type : Nat) : List Byte := (sectionsOf b type).headD []

/-! ### Slots -/

/-- The slot still holds what it held at shipment (R288). -/
def slotShipped (s : State) (k : Nat) : Bool :=
  k == 0 && (List.range 32).all (fun i => s.nvm.shipped.contains (32 + i)) && !s.img.written.contains 0

/-- The bytes of an image slot, as far as its header's IMAGE_LEN goes (R288). -/
def slotBytes (s : State) (k : Nat) : List Byte :=
  let p := slotSectors k
  let read := fun a => flashByte s p.1 (p.2 + a / 65536) (a % 65536)
  let len := leVal ((List.range 4).map (fun i => read (8 + i)))
  (List.range (min 2097152 (max 64 len))).map read

/-- IMAGE_LEN and CHECK of a slot's approval entry (R288). -/
def approval (s : State) (k : Nat) : Option (Nat × Word) :=
  match s.img.approved.find? (fun e => e.1 == k) with
  | some e => some e.2
  | none => if k = 0 ∧ s.img.shippedOk = true then some Config.shippedTrailer else none

/-- State of a slot: 0 EMPTY, 1 WRITTEN, 2 APPROVED, 3 BAD (R288). -/
def slotState (s : State) (k : Nat) : Nat :=
  if s.img.bad.contains k then 3
  else if approvedEntry s k then 2
  else if s.img.written.contains k || slotShipped s k then 1
  else 0

/-! ### The format identity -/

/-- The Garnet-1 format section, byte for byte (R285). -/
def garnetSection : List Byte :=
  le 4 1 ++ le 2 1024 ++ [8, 1, 128, 16, 240, 16, 0, 64, 4, 16, 0, 1] ++ le 2 2000 ++ [4, 16] ++ le 2 192 ++ zeros 4
    ++ (List.range 192).flatMap (fun w => le 4 (unsigned 32 (32 * (w : Int) - 3056)))

/-- The format identity of a section: its SHA-256 digest (R286). -/
def formatId (b : List Byte) : List Byte := sha256 b

/-- Bits 7:0 of the identity: byte 31 (R286). -/
def formatByte (b : List Byte) : Nat := beAt (formatId b) 31 1

/-- The low 32 bits of the identity: bytes 28 to 31, big-endian (R286). -/
def formatLow (b : List Byte) : Nat := beAt (formatId b) 28 4

/-- The image whose format, fabric and legacy sections deck d uses (R294). -/
def deckImage (s : State) (d : Nat) : Option Image :=
  match Sparse.find s.img.deckImage d with
  | some i => some i
  | none => s.img.inForce

/-- The bytes of the type 1 format section in force on a deck; Garnet-1's where no image is in force, when no task uses them
(R292). -/
def deckFormat (s : State) (d : Nat) : List Byte :=
  match deckImage s d with
  | some i => i.format
  | none => garnetSection

end Sys2Proof.Machine
end

