-- ==== Sys2Proof/Machine/Views.lean ====
section
/-! DEFINITION. What a read of each register returns where that is computed from the rest of the state: registers behind a
selector, copies and counts (R8, R430); the routing of event sources (R385, R386) and the layout of a Scorepad record (R388), which
such reads show. -/

namespace Sys2Proof.Machine

/-! ### What the views are computed from -/

/-- The configuration of region r of stack k (R264). -/
def regionCfg (s : State) (k r : Nat) : Word := Sparse.get 0 s.shoe.regions (16 * k + r)

/-- Whole chips of a region of this configuration, 0 while it is not enabled (R264). -/
def regionChips (w : Word) : Nat :=
  if getBits w Fld.micRegionCfgEnable = 1 then
    getBits w Fld.micRegionCfgSize * 8192 / (if getBits w Fld.micRegionCfgCode = 1 then 13 else 9)
  else 0

/-- ENABLE of a pool (R269). -/
def Pool.enabled (p : Pool) : Bool := getBits p.cfg Fld.shoPoolCfgEnable == 1

/-- Chips of the pool that hold its free ring (R269). -/
def Pool.ring (p : Pool) : Nat := (p.count + 16383) / 16384

/-- Chips of the pool in use (R271). -/
def chipsUsed (s : State) (k : Nat) : Nat := (s.shoe.tags.filter (fun e => e.2.pool == k)).length

/-- FREE of a pool (R269, R270): no chips while it is not enabled. -/
def poolFree (s : State) (k : Nat) : Nat :=
  let p := s.poolAt k
  if p.enabled then p.count - p.ring - chipsUsed s k - p.withheld.length else 0

/-- The stack and region that MIC_REGION_SEL shows. -/
def selRegion (s : State) : Nat × Nat :=
  (s.fld Reg.micRegionSel Fld.micRegionSelStack, s.fld Reg.micRegionSel Fld.micRegionSelRegion)

/-- The pool that SHO_POOL_SEL shows. -/
def selPool (s : State) : Nat := s.fld Reg.shoPoolSel Fld.shoPoolSelPool

/-- Spares of a stack or group (R279). -/
def spares (u : Nat) : Nat := if u < 2 then 32 else 4

/-- Entries used of a remap table (R279). -/
def remapUsed (s : State) (u : Nat) : Nat := (s.shoe.remapped.filter (fun e => e.1 == u)).length

/-- The bank programs or erases: it is busy (R374). -/
def bankBusy (s : State) (bank : Nat) : Bool :=
  match Sparse.find s.nvm.running bank with
  | some o => o.op == 1 || o.op == 2
  | none => false

/-- Grades in the window that are not good (R190). -/
def Track.bad (t : Track) : Nat := (t.window.filter (fun g => decide (2 ≤ g))).length

/-- Register and field of an engine's bit in CUT_ENGINE_OFF. -/
def engineOffReg (e : Nat) : Nat := if e < 32 then Reg.cutEngineOffLo else Reg.cutEngineOffHi

/-- Engine e is out of service (R100). -/
def engineOff (s : State) (e : Nat) : Bool := (s.reg (engineOffReg e)).toNat.testBit (e % 32)

/-- The nearest integer, ties away from zero (R237). -/
def roundAway (x : Rat) : Int :=
  let n := (2 * x.num.natAbs + x.den) / (2 * x.den)
  if x.num < 0 then -(n : Int) else n

/-! ### Events and their records -/

/-- The events 256 to 495 of severity NOTE, from the event tables of the chapters. -/
def noteEvents : List Nat :=
  [258, 259, 264, 265, 266, 267, 268, 290, 292, 320, 321, 325, 326, 337, 338, 339, 340, 341, 343, 352, 353, 356, 373, 376,
   377, 381, 400, 402, 403, 405, 406, 410, 411, 416, 418, 419, 421, 422, 423, 424, 425, 426, 427, 432, 433, 437, 438, 441,
   448, 449, 450, 452, 454, 468, 470, 472, 475]

/-- The events 256 to 495 of severity FAULT. -/
def faultEvents : List Nat :=
  [257, 260, 261, 262, 263, 288, 289, 291, 322, 323, 324, 354, 355, 370, 372, 374, 375, 401, 404, 408, 439, 440, 442, 455,
   457, 464, 469, 471, 474]

/-- The events 256 to 495 of severity FATAL. -/
def fatalEvents : List Nat := [368, 378, 379, 420, 467, 473, 476]

/-- The deck events, by n of 64d + n, of severity NOTE (Tables 14-9, 08-5, 09-4 and 11-6). -/
def noteDeckEvents : List Nat := [0, 3, 4, 8, 9, 17, 18, 20, 26, 33, 34, 49, 50, 54, 55, 56, 58]

/-- The deck events, by n of 64d + n, of severity FAULT. -/
def faultDeckEvents : List Nat := [2, 5, 19, 22, 23, 35, 36, 48, 51, 53]

/-- The severity of an event: 0 INFO, 1 NOTE, 2 FAULT, 3 FATAL (R385). -/
def severity (s : State) (ev : Nat) : Nat :=
  if ev < 256 then
    if noteDeckEvents.contains (ev % 64) then 1 else if faultDeckEvents.contains (ev % 64) then 2 else 0
  else if 496 ≤ ev then
    match s.img.inForce with
    | some i => Sparse.get 0 i.eventMap (ev - 496)
    | none => 0
  else if noteEvents.contains ev then 1
  else if faultEvents.contains ev then 2
  else if fatalEvents.contains ev then 3
  else 0

/-- The routing that a source has by default (Table 18-1): RECORD, NOTIFY, PERSIST, CHAIN in their places. -/
def defaultRouting (sev : Nat) : Word :=
  match sev with
  | 0 => 0x4C000000
  | 1 => 0xC8000000
  | 2 => 0xE4000000
  | _ => 0xE0000000

/-- The routing of a source (R385, R386). -/
def srcCfg (s : State) (ev : Nat) : SrcCfg :=
  (Sparse.find s.evt.srcs ev).getD { cfg := defaultRouting (severity s ev) }

/-- The record is ordered before the other by (CYCLES, SEQ) (R388). -/
def SpRecord.before (a b : SpRecord) : Bool :=
  decide (a.cycles.toNat < b.cycles.toNat) || (decide (a.cycles = b.cycles) && decide (a.seq.toNat < b.seq.toNat))

/-- `r` put into its place of a list in ascending (CYCLES, SEQ) order. -/
def insertRecord (r : SpRecord) : List SpRecord → List SpRecord
  | [] => [r]
  | q :: l => if r.before q then r :: q :: l else q :: insertRecord r l

/-- The records in ascending (CYCLES, SEQ) order (R392). -/
def sortRecords (l : List SpRecord) : List SpRecord := l.foldl (fun a r => insertRecord r a) []

/-! ### Computed registers -/

/-- `w` with the values listed in their fields. -/
def withFields (w : Word) (l : List (Fld × Nat)) : Word := l.foldl (fun a e => putBits a e.1 e.2) w

/-- The number of a field that saturates. -/
def capped (f : Fld) (v : Nat) : Fld × Nat := (f, satAt (2 ^ f.width - 1) v)

/-- The five meters of a context, in the order of Table 02-1. -/
def Context.meters (c : Context) : List (BitVec 64) := [c.hostBytes, c.sealedBytes, c.facets, c.restoreBytes, c.activeS]

/-- CTX_STATE, TSK_STATUS and the meters of a context (Tables 02-1, 02-2). -/
def viewCtx (s : State) (r : RegSpec) (off : Nat) : Option Word :=
  let n := r.index1 off
  let c := s.ctxAt n
  if r.base = Reg.ctxState 0 then
    some (withFields 0 [(Fld.ctxStateEnabled, s.fld (Reg.ctxControl n) Fld.ctxControlEnable),
      (Fld.ctxStateDeferred, s.fld (Reg.ctxDeferredStatus n) Fld.ctxDeferredStatusPending),
      (Fld.ctxStateRingStall, bit c.ringStall), (Fld.ctxStateInflight, c.tasks.length)])
  else if r.base = Reg.tskStatus 0 then some (withFields (s.reg off) [(Fld.tskStatusInflight, c.tasks.length)])
  else if r.base = Reg.ctxMtr 0 0 then
    let k := r.index2 off
    some (word ((c.meters.getD (k / 2) 0).toNat >>> (32 * (k % 2))))
  else none

/-- The table that DLR_TABLE_SEL shows. -/
def selTable (s : State) : Nat × Nat := (s.fld Reg.dlrTableSel Fld.dlrTableSelDeck, s.fld Reg.dlrTableSel Fld.dlrTableSelPartition)

/-- The per-table registers and DLR_DECK_BUF_d (chapter 3, R225). A DECK reset returns ACTIVE and the open trick's number to 0 until a data
task reaches the table (R12). -/
def viewDlr (s : State) (r : RegSpec) (off : Nat) : Option Word :=
  let d := (selTable s).1
  let t := s.tableAt d (selTable s).2
  let active := (s.deckAt d).active == some (selTable s).2
  let trick := if active && (s.deckAt d).dormant then 0 else t.nextTrick
  if off = Reg.dlrTableState then
    some (withFields 0 [(Fld.dlrTableStateMode, t.mode), (Fld.dlrTableStateActive, bit (active && !(s.deckAt d).dormant)),
      (Fld.dlrTableStateWaiting, bit t.waiting.isSome), (Fld.dlrTableStateSeatCount, t.plan.length),
      (Fld.dlrTableStateHolderValid, bit t.holder.isSome), (Fld.dlrTableStateHolder, t.holder.getD 0)])
  else if off = Reg.dlrTableWait then
    some (match t.waiting with
      | some q => withFields 0 [(Fld.dlrTableWaitSeat, q), (Fld.dlrTableWaitContext, (t.plan.getD q (0, 0)).1)]
      | none => 0)
  else if off = Reg.dlrTableWaitMs then some (if t.waiting.isSome then t.waitMs else 0)
  else if off = Reg.dlrTableTrickLo then some (word trick)
  else if off = Reg.dlrTableTrickHi then some (withFields 0 [(Fld.dlrTableTrickHiTrick, trick >>> 32)])
  else if off = Reg.dlrTablePos then
    some (withFields 0 [(Fld.dlrTablePosHand, t.openRound.length), (Fld.dlrTablePosEntries, t.openEntries.length),
      (Fld.dlrTablePosTrick, t.openHand.length)])
  else if off = Reg.dlrTableCuts then some t.cuts
  else if off = Reg.dlrTableGuarantee then some (word t.guarantee.toNat)
  else if r.base = Reg.dlrDeckBuf 0 then
    let x := r.index1 off
    some (withFields 0 [capped Fld.dlrDeckBufRounds (s.deckAt x).rounds.length,
      (Fld.dlrDeckBufStalled, bit (s.tables.any (fun e => e.1 / 64 == x && (e.2.poolWait.isSome || e.2.roundWait)))),
      (Fld.dlrDeckBufChips, (s.shoe.tags.filter (fun e => e.2.cls == 2 && e.2.id == x)).length)])
  else none

/-- CUT_STATUS, CUT_LIMIT and the KEY_SLOT registers (chapters 4 and 5). -/
def viewCut (s : State) (off : Nat) : Option Word :=
  let k := s.keyAt (s.fld Reg.keySel Fld.keySelSlot)
  if off = Reg.cutStatus then
    some (withFields 0 [(Fld.cutStatusBusy, s.cut.busy.length),
      (Fld.cutStatusInService, ((List.range 64).filter (fun e => !engineOff s e)).length)])
  else if off = Reg.cutLimit then
    some (match s.img.inForce with
      | some i => withFields 0 [(Fld.cutLimitLimit, i.limit)]
      | none => s.reg off)
  else if off = Reg.keySlotState then some (withFields 0 [(Fld.keySlotStateState, k.state)])
  else if off = Reg.keySlotLabelLo then some (if k.state = 0 then 0 else word k.label.toNat)
  else if off = Reg.keySlotLabelHi then some (if k.state = 0 then 0 else word (k.label.toNat >>> 32))
  else if off = Reg.keySlotSalt then some k.salt
  else if off = Reg.keySlotNextLo then some (word k.next.toNat)
  else if off = Reg.keySlotNextHi then some (word (k.next.toNat >>> 32))
  else none

/-- The Loupe's registers of a deck (chapter 8). -/
def viewLoupe (s : State) (r : RegSpec) (off : Nat) : Option Word :=
  let d := r.index1 off
  let k := s.deckAt d
  let t := Sparse.get {} k.tracks (s.fld (Reg.dkLoupeTrackSel d) Fld.dkLoupeTrackSelTrack)
  if r.base = Reg.dkLoupeStatus 0 then
    some (withFields (s.reg off) [(Fld.dkLoupeStatusRetired, k.retired.length), capped Fld.dkLoupeStatusBacklog k.queue.length])
  else if r.base = Reg.dkLoupeRetired 0 0 then
    some (match k.retired[r.index2 off]? with
      | some n => withFields 0 [(Fld.dkLoupeRetiredValid, 1), (Fld.dkLoupeRetiredTrack, n)]
      | none => 0)
  else if r.base = Reg.dkLoupeTrackState 0 then
    some (withFields 0 [(Fld.dkLoupeTrackStateWindowBad, t.bad), (Fld.dkLoupeTrackStateSq, t.sq.getD 0), (Fld.dkLoupeTrackStateState, t.state)])
  else if r.base = Reg.dkLoupeTrackCnt 0 0 then some (word (t.counts.getD (r.index2 off) 0))
  else if r.base = Reg.dkLoupeRetain 0 then
    some (withFields 0 [capped Fld.dkLoupeRetainOldestMs (greatestOf (k.held.map Held.ms)), capped Fld.dkLoupeRetainTricks k.held.length])
  else none

/-- DKd_RESTORE_STATUS.MODE: held while R199 waits for end-of-data, else repositioning, reading, writing or idle (log entry 22). -/
def restoreMode (k : Deck) : Nat :=
  if k.motion.target.isSome then 3
  else if k.mode = 2 then 2
  else if k.hold && !(k.eodWritten && k.rounds.all (fun r => r.keptBack)) then 4
  else if k.mode = 1 then 1
  else 0

/-- The restore and link registers of a deck (chapters 9 and 14). -/
def viewDeck (s : State) (r : RegSpec) (off : Nat) : Option Word :=
  let k := s.deckAt (r.index1 off)
  if r.base = Reg.dkRestoreStatus 0 then
    some (withFields 0 [(Fld.dkRestoreStatusMode, restoreMode k), (Fld.dkRestoreStatusRetry, k.retry),
      capped Fld.dkRestoreStatusBuffered k.buffer.length])
  else if r.base = Reg.dkRestoreAnchors 0 then
    some (withFields 0 [(Fld.dkRestoreAnchorsFull, bit (decide (1048576 ≤ k.anchors.length))), (Fld.dkRestoreAnchorsCount, k.anchors.length)])
  else if r.base = Reg.dkLnkState 0 then
    some (withFields (s.reg off) [(Fld.dkLnkStatePresent, bit k.present), (Fld.dkLnkStateCartridge, bit k.cartridge)])
  else if r.base = Reg.dkLnkCredit 0 then
    some (withFields (s.reg off) [capped Fld.dkLnkCreditAhead (if k.streamOpen then (k.nextCol - 1 - k.consumed).toNat else 0)])
  else none

/-- The bits d for which `p d` holds, of the four decks. -/
def deckBits (p : Nat → Bool) : Nat := bitsOf ((List.range 4).filter p)

/-- The stage that JAS_Dd_COEF_SEL names on its deck, with its chain (R240). -/
def selStage (s : State) (d : Nat) : List JStage × Option JStage :=
  let sel := Reg.jasCoefSel d
  let chain := (s.loopAt d (s.fld sel Fld.jasCoefSelLoop)).chain
  (chain, chain[s.fld sel Fld.jasCoefSelStage]?)

/-- The coefficient that JAS_Dd_COEF_SEL names on its deck: mantissa and shift (R240). -/
def selCoef (s : State) (d : Nat) : Word × BitVec 5 :=
  match (selStage s d).2 with
  | some g => g.coefs.getD (s.fld (Reg.jasCoefSel d) Fld.jasCoefSelIndex) (0, 0)
  | none => (0, 0)

/-- A speed in m/s as an int16 in mm/s. -/
def speedCode (v : Rat) : Nat := unsigned 16 (max (-32768) (min 32767 (roundAway (1000 * v))))

/-- The registers of Jasper (chapter 11). -/
def viewJas (s : State) (r : RegSpec) (off : Nat) : Option Word :=
  let d := r.index1 off
  let m := (s.deckAt d).motion
  if off = Reg.jasStatus then
    some (withFields 0 [(Fld.jasStatusEstop, deckBits (fun x => (s.deckAt x).estop)),
      (Fld.jasStatusStopped, deckBits (fun x =>
        let q := (s.deckAt x).motion
        q.pace == 4 || (q.stopped && bitAt q.causes.toNat 2))),
      (Fld.jasStatusFault, deckBits (fun x => (s.deckAt x).motion.motorFault))])
  else if off = Reg.jasGang then some (withFields 0 [(Fld.jasGangGanged, bit (leAt (deckFormat s 0) 16 1 != 0))])
  else if r.base = Reg.jasState 0 then
    some (withFields 0 [(Fld.jasStateFault, bit m.motorFault),
      (Fld.jasStateHandover, bit ((List.range 4).any (fun l => (s.loopAt d l).ramp.isSome || (s.loopAt d l).chainRamp.isSome))),
      (Fld.jasStateHold, s.fld (Reg.jasControl d) Fld.jasControlHold), (Fld.jasStateGateOff, bit m.gateOff),
      (Fld.jasStateCapped, bit m.capped), (Fld.jasStateLocked, bit m.locked), (Fld.jasStateLatMode, bit m.follow),
      (Fld.jasStateTakeupMode, m.modes.2), (Fld.jasStateSupplyMode, m.modes.1), (Fld.jasStatePace, m.pace)])
  else if r.base = Reg.jasSpeed 0 then
    some (withFields 0 [(Fld.jasSpeedActual, m.measured.toNat), (Fld.jasSpeedSetpoint, speedCode m.v)])
  else if r.base = Reg.jasCoefMant 0 then some (selCoef s d).1
  else if r.base = Reg.jasCoefShift 0 then some (withFields (s.reg off) [(Fld.jasCoefShiftShift, (selCoef s d).2.toNat)])
  else if r.base = Reg.jasStageInfo 0 then
    some (withFields 0 [(Fld.jasStageInfoStages, (selStage s d).1.length),
      (Fld.jasStageInfoType, match (selStage s d).2 with
        | some g => g.type
        | none => 0)])
  else none

/-- The registers of a trace buffer (R258). -/
def isTrace (r : RegSpec) : Bool :=
  [Reg.jasTrCtrl 0 0, Reg.jasTrSrc 0 0, Reg.jasTrTrig 0 0, Reg.jasTrLevel 0 0, Reg.jasTrStatus 0 0, Reg.jasTrStampLo 0 0,
   Reg.jasTrStampHi 0 0, Reg.jasTrData 0 0].contains r.base

/-- The trace registers of Jasper, hidden below debug level D1 (R258, R353). -/
def viewTrace (s : State) (r : RegSpec) (off : Nat) : Option Word :=
  if isTrace r then
    if s.sec.debug = 0 ∨ r.base = Reg.jasTrData 0 0 then some 0
    else if r.base = Reg.jasTrStatus 0 0 then
      some (withFields (s.reg off) [(Fld.jasTrStatusCount, (s.traceAt (r.index1 off) (r.index2 off)).entries.length)])
    else none
  else none

/-- The registers of pools and memory regions (chapter 12). -/
def viewMem (s : State) (off : Nat) : Option Word :=
  let k := selPool s
  let p := s.poolAt k
  let w := regionCfg s (selRegion s).1 (selRegion s).2
  if off = Reg.shoPoolCfg then some p.cfg
  else if off = Reg.shoPoolFirst then some (word p.first)
  else if off = Reg.shoPoolCount then some (word p.count)
  else if off = Reg.shoPoolStatus then
    some (withFields 0 [(Fld.shoPoolStatusReady, bit p.ready), (Fld.shoPoolStatusEmpty, bit (p.enabled && poolFree s k == 0)),
      (Fld.shoPoolStatusFree, poolFree s k)])
  else if off = Reg.shoPoolErrs then some p.errs
  else if off = Reg.micRegionCfg then some w
  else if off = Reg.micRegionChips then some (word (regionChips w))
  else if off = Reg.micRemap then
    some (withFields 0 [(Fld.micRemapHbm1Used, remapUsed s 1), (Fld.micRemapHbm0Used, remapUsed s 0),
      (Fld.micRemapSramFull, bitsOf ((List.range 12).filter (fun g => decide (spares (2 + g) ≤ remapUsed s (2 + g)))))])
  else none

/-- The registers of images (chapter 13). -/
def viewCfg (s : State) (off : Nat) : Option Word :=
  let k := s.fld Reg.cfgSlotSel Fld.cfgSlotSelSlot
  if off = Reg.cfgStatus then some (withFields (s.reg off) [(Fld.cfgStatusBusy, bit s.img.cmd.isSome)])
  else if off = Reg.cfgSlotState then
    some (withFields 0 [(Fld.cfgSlotStateState, slotState s k),
      (Fld.cfgSlotStateLength, if slotState s k = 2 then ((approval s k).map (fun a => a.1)).getD 0 else 0)])
  else if off = Reg.cfgSlotId then
    some (if slotState s k = 2 then word (formatLow (if slotShipped s k then garnetSection else sectionOf (slotBytes s k) 1)) else 0)
  else if off = Reg.cfgPending then
    some (withFields 0 [(Fld.cfgPendingDecks, bitsOf s.img.deckPending),
      (Fld.cfgPendingContexts, (s.ctx.filter (fun e => e.2.oldCutter.isSome)).length)])
  else none

/-- The registers of power, security and the settings flash (chapters 16 and 17). -/
def viewSec (s : State) (r : RegSpec) (off : Nat) : Option Word :=
  if off = Reg.glbPower then
    some (withFields (s.reg off) [(Fld.glbPowerTransition, bit s.pwr.entering.isSome), (Fld.glbPowerState, s.pwr.state)])
  else if off = Reg.secState then
    some (withFields 0 [(Fld.secStateOpenPending, bit s.sec.openPending), (Fld.secStateRestored, bit s.sec.restored),
      (Fld.secStateJumper, bit s.sec.jumper), (Fld.secStateWindow, bit s.sec.window), (Fld.secStateRemainS, s.sec.remain),
      (Fld.secStateDebug, s.sec.debug), (Fld.secStateState, s.sec.state)])
  else if off = Reg.secDebug then some (withFields 0 [(Fld.secDebugLevel, s.sec.debug)])
  else if off = Reg.secSeal then some (withFields (s.reg off) [(Fld.secSealMismatch, s.sec.mismatch)])
  else if off = Reg.nvmStatus then
    some (withFields (s.reg off) [(Fld.nvmStatusBusyB, bit (bankBusy s 1)), (Fld.nvmStatusSuspB, bit (Sparse.find s.nvm.suspended 1).isSome),
      (Fld.nvmStatusBusyA, bit (bankBusy s 0)), (Fld.nvmStatusSuspA, bit (Sparse.find s.nvm.suspended 0).isSome)])
  else if r.base = Reg.nvmWpClr 0 then some (s.reg (Reg.nvmWp (r.index1 off)))
  else none

/-- The registers of the Scorepad, the Notice FIFO and the hours (chapter 18). -/
def viewEvt (s : State) (r : RegSpec) (off : Nat) : Option Word :=
  let ev := s.fld Reg.evtSrcSel Fld.evtSrcSelEvent
  if off = Reg.evtSpStatus then
    some (withFields 0 [(Fld.evtSpStatusFrozen, s.fld Reg.evtSpCtrl Fld.evtSpCtrlFreeze), (Fld.evtSpStatusHeld, s.evt.held.length),
      (Fld.evtSpStatusCount, s.evt.records.length)])
  else if off = Reg.evtSpDropped then some s.evt.dropped
  else if r.base = Reg.evtSpWin 0 then
    some (match (sortRecords s.evt.records)[s.fld Reg.evtSpCursor Fld.evtSpCursorCursor]? with
      | some x => word (leAt x.bytes (4 * r.index1 off) 4)
      | none => 0)
  else if off = Reg.evtSrcCfg then some (withFields (srcCfg s ev).cfg [(Fld.evtSrcCfgSeverity, severity s ev)])
  else if r.base = Reg.evtSrcSnap 0 then some (Sparse.get 0 (srcCfg s ev).snaps (r.index1 off))
  else if off = Reg.evtNtcStatus then
    some (withFields 0 [(Fld.evtNtcStatusInService, bit s.evt.service.isSome),
      (Fld.evtNtcStatusReady, bitsOf ((List.range 4).filter (fun c => !(Sparse.get [] s.evt.chains c).isEmpty)))])
  else if r.base = Reg.evtNtcLost 0 then some (Sparse.get 0 s.evt.lost (r.index1 off))
  else if off = Reg.evtHours then some s.evt.hours
  else if off = Reg.evtCycles then some s.evt.cycles
  else none

/-- The read ports, which R391 reads as 0: EVT_NTC_POP, SHO_WIN, NVM_WIN, NVM_CAL (TRc_DATA stands with its kind). -/
def viewPort (r : RegSpec) : Option Word :=
  if [Reg.evtNtcPop, Reg.shoWin 0, Reg.nvmWin 0, Reg.nvmCal 0].contains r.base then some 0 else none

/-- What a read of the register at `off` returns, without the effect of a read port (R8, R391); 0 where the offset names no
register (R11). -/
def readReg (s : State) (off : Nat) : Word :=
  match findReg off with
  | some r =>
    let v := viewCtx s r off <|> viewDlr s r off <|> viewCut s off <|> viewLoupe s r off <|> viewDeck s r off <|> viewJas s r off
      <|> viewTrace s r off <|> viewMem s off <|> viewCfg s off <|> viewSec s r off <|> viewEvt s r off <|> viewPort r
    readMasked r (v.getD (s.reg off))
  | none => 0

end Sys2Proof.Machine
end

