-- ==== Sys2Proof/Machine/Evt.lean ====
section
/-! DEFINITION. Raising an event (R385): its Scorepad record (R388 to R392), its notice packet (R396, R397), its doorbell
(R336). -/

namespace Sys2Proof.Machine

/-- The first record in (CYCLES, SEQ) order of a list (R389). -/
def lowestRecord : List SpRecord → Option SpRecord
  | [] => none
  | r :: l =>
    match lowestRecord l with
    | none => some r
    | some q => if r.before q then some r else some q

/-- The same record as one already known by (CYCLES, SEQ). -/
def SpRecord.same (k : Word × Word) (r : SpRecord) : Bool := decide (r.cycles = k.1) && decide (r.seq = k.2)

/-- `r` with one more repeat, saturating (R388, R390). -/
def SpRecord.again (r : SpRecord) : SpRecord := { r with repeats := satAt 65535 (r.repeats + 1) }

/-- Where a new record goes in a full or free Scorepad (R389): the records after it has entered, none where it is dropped. -/
def placeRecord (l : List SpRecord) (r : SpRecord) : Option (List SpRecord) :=
  if l.length < 4096 then some (l ++ [r])
  else
    match lowestRecord (l.filter (fun q => decide (q.sev ≤ r.sev))) with
    | some q => some (l.filter (fun x => !(x.same (q.cycles, q.seq))) ++ [r])
    | none => none

/-- The words that the snapshots of a source give (R391). -/
def snapWords (s : State) (c : SrcCfg) : List Word :=
  (List.range (min 8 (getBits c.cfg Fld.evtSrcCfgSnaps))).map (fun k => readReg s (Sparse.get 0 c.snaps k).toNat)

/-- The record of an event, taken now (R388, R391). -/
def makeRecord (s : State) (ev : Nat) (details : List Word) (c : SrcCfg) : SpRecord :=
  let snaps := snapWords s c
  let room := 10 - details.length
  { seq := s.evt.nextSeq, cycles := s.evt.cycles, hours := s.evt.hours, wall := s.reg Reg.evtWall, event := ev,
    sev := severity s ev, wallSet := s.evt.wallSet, trunc := decide (room < snaps.length), detail := details,
    snaps := snaps.take room }

/-- A record that a new event repeats: the one most recently placed or held, with the same event and details (R390). -/
def repeated (e : EvtUnit) (ev : Nat) (details : List Word) : Option SpRecord :=
  match e.last with
  | none => none
  | some k => (e.records ++ e.held).find? (fun r => r.same k && decide (r.event = ev) && decide (r.detail = details))

/-- `e` with one more repeat in the record known by `k` (R390). -/
def EvtUnit.fold (e : EvtUnit) (k : Word × Word) : EvtUnit :=
  { e with
    records := e.records.map (fun r => if r.same k then r.again else r)
    held := e.held.map (fun r => if r.same k then r.again else r)
    toPersist := e.toPersist.map (fun r => if r.same k then r.again else r) }

/-- `e` with a record dropped (R389). -/
def EvtUnit.drop (e : EvtUnit) : EvtUnit :=
  { e with dropped := word (satAt 0xFFFFFFFF (e.dropped.toNat + 1)), dropRun := true }

/-- `e` with the record taken into its queue for persistence; the oldest waiting record gives way when 256 wait (R393). -/
def EvtUnit.queuePersist (e : EvtUnit) (r : SpRecord) : EvtUnit :=
  if e.toPersist.length < 256 then { e with toPersist := e.toPersist ++ [r], persistRun := false }
  else { e with toPersist := e.toPersist.drop 1 ++ [r], persistRun := true }

/-- `e` with the record placed (R389) or, while frozen, held (R392); none where it finds no place. -/
def EvtUnit.enter (e : EvtUnit) (frozen : Bool) (r : SpRecord) : Option EvtUnit :=
  if frozen then
    if e.held.length < 64 then some { e with held := e.held ++ [r], last := some (r.cycles, r.seq) } else none
  else
    match placeRecord e.records r with
    | some l => some { e with records := l, last := some (r.cycles, r.seq), dropRun := false }
    | none => none

/-- The Scorepad is frozen (R392). -/
def frozen (s : State) : Bool := s.flag Reg.evtSpCtrl Fld.evtSpCtrlFreeze

/-- An event takes its Scorepad record or is folded into one (R389, R390, R393); also the number of that record. `again`
raises the events that this itself gives rise to. -/
def recordEvent (again : Nat → List Word → State → State) (ev : Nat) (details : List Word) (s : State) :
    State × Option Word :=
  let c := srcCfg s ev
  match repeated s.evt ev details with
  | some r => ({ s with evt := s.evt.fold (r.cycles, r.seq) }, some r.seq)
  | none =>
    let r := makeRecord s ev details c
    match s.evt.enter (frozen s) r with
    | some e =>
      let e1 := { e with nextSeq := e.nextSeq + 1 }
      if getBits c.cfg Fld.evtSrcCfgPersist = 1 then
        let e2 := e1.queuePersist r
        let s2 := { s with evt := e2 }
        (if e2.persistRun && !s.evt.persistRun then again 455 [] s2 else s2, some r.seq)
      else ({ s with evt := e1 }, some r.seq)
    | none =>
      let s1 := { s with evt := s.evt.drop }
      (if s.evt.dropRun then s1 else again 448 [] s1, none)

/-- The header word of a packet (R396). -/
def packetHeader (ev sev len : Nat) (seq : Option Word) : Word :=
  word (ev * 2 ^ 23 + sev * 2 ^ 21 + (len - 1) * 2 ^ 18 + bit seq.isSome * 2 ^ 17 + 2 ^ 16
    + (seq.getD 0).toNat % 2 ^ 16)

/-- The words that a chain holds, the packet in service among them (R397, R398). -/
def chainWords (e : EvtUnit) (c : Nat) : Nat :=
  ((Sparse.get [] e.chains c).map List.length).sum
    + (match e.service with
       | some (d, _, n) => if d = c then n else 0
       | none => 0)

/-- The oldest whole packets of a chain removed until `n` words fit; how many were removed (R397). -/
def makeRoom : Nat → List (List Word) → Nat → Nat → List (List Word) × Nat
  | 0, l, _, _ => (l, 0)
  | fuel + 1, l, used, n =>
    if used + n ≤ 512 then (l, 0)
    else
      match l with
      | [] => ([], 0)
      | p :: l' => let r := makeRoom fuel l' (used - p.length) n; (r.1, r.2 + 1)

/-- The doorbell of a completed packet, where doorbells are enabled (R336, R399). -/
def ringDoorbell (c len : Nat) (s : State) : State :=
  if s.flag Reg.lnkDoorbellLo Fld.lnkDoorbellLoEnable then
    let n := s.evt.doorbells + 1
    { s with evt := { s.evt with doorbells := n }, sent := .doorbell n c len :: s.sent }
  else s

/-- A packet enters its chain, displacing the oldest whole ones where it does not fit (R397), and completes (R399). -/
def notifyEvent (again : Nat → List Word → State → State) (ev : Nat) (details : List Word) (seq : Option Word)
    (s : State) : State :=
  let sev := severity s ev
  let c := getBits (srcCfg s ev).cfg Fld.evtSrcCfgChain
  let pkt := packetHeader ev sev (details.length + 1) seq :: details
  let old := Sparse.get [] s.evt.chains c
  let room := makeRoom (old.length + 1) old (chainWords s.evt c) pkt.length
  let lost := (Sparse.get (0 : Word) s.evt.lost c).toNat + room.2
  let run := s.evt.lostRun.contains c
  let e := { s.evt with
    chains := Sparse.set [] s.evt.chains c (room.1 ++ [pkt])
    lost := Sparse.set 0 s.evt.lost c (word (satAt 0xFFFFFFFF lost))
    lostRun := if room.2 = 0 then s.evt.lostRun.filter (fun x => x != c) else if run then s.evt.lostRun else c :: s.evt.lostRun }
  let s1 := ringDoorbell c pkt.length { s with evt := e }
  if room.2 = 0 || run then s1 else again 449 [word c] s1

/-- An event of FATAL severity other than 420 holds FAULT_N low (Table 16-8). -/
def markFatal (ev : Nat) (s : State) : State :=
  if severity s ev = 3 && ev != 420 then { s with evt := { s.evt with fatal := true } } else s

/-- An event is raised (R385): recorded where RECORD is set, but 448 never (R389); notified where NOTIFY is set, but 449 never
(R397). Each event that a raise gives rise to opens a run that was not open, so six levels suffice. -/
def raiseN : Nat → Nat → List Word → State → State
  | 0, _, _, s => s
  | fuel + 1, ev, details, s =>
    let cfg := (srcCfg s ev).cfg
    let s0 := markFatal ev s
    let r := if getBits cfg Fld.evtSrcCfgRecord = 1 && ev != 448 then recordEvent (raiseN fuel) ev details s0 else (s0, none)
    if getBits cfg Fld.evtSrcCfgNotify = 1 && ev != 449 then notifyEvent (raiseN fuel) ev details r.2 r.1 else r.1

/-- Raise event `ev` with its detail words (R385). -/
def raise (ev : Nat) (details : List Word) (s : State) : State := raiseN 7 ev details s

/-- An event whose detail words go to the Scorepad whatever its RECORD bit, and which is notified as any other (R192, R385). -/
def raiseKept (ev : Nat) (details : List Word) (s : State) : State :=
  let r := recordEvent (raiseN 6) ev details (markFatal ev s)
  if getBits (srcCfg s ev).cfg Fld.evtSrcCfgNotify = 1 then notifyEvent (raiseN 6) ev details r.2 r.1 else r.1

/-- Raise event 64d + n of deck d (R387). -/
def raiseDeck (d n : Nat) (details : List Word) (s : State) : State := raise (64 * d + n) details s

/-- The two words of an item wider than 32 bits, low word first (R396). -/
def words2 (v : Nat) : List Word := [word v, word (v >>> 32)]

end Sys2Proof.Machine
end

