-- ==== Sys2Proof/Machine/Ops.lean ====
section
/-! DEFINITION. The operations that many commands share: access to the parts of the state, messages out, task completions
(R40 to R45), deferred errors (R50, R51), device reads of host memory (R335), refusals (R344). -/

namespace Sys2Proof.Machine

/-! ### Running a command -/

/-- The state while SCAN is in effect, which R413 calls undefined: any state, but for the queue, the security state, the TAP
that a reset still reaches, FAULT_N held low, and the memories in their canonical form (log entry 4). -/
def undefinedCore (s : State) : State :=
  let c := Config.coreState s.tick
  { c with pending := s.pending, tick := s.tick + 1, sec := s.sec, tap := s.tap, evt := { c.evt with fatal := true }
           shoe := { c.shoe with mem := Sparse.canon 0 c.shoe.mem }, nvm := { c.nvm with bytes := Sparse.canon 0xFF c.nvm.bytes } }

/-- PACE of every deck is IDLE (Table 11-5). -/
def decksIdle (s : State) : Bool := s.decks.all (fun e => decide (e.2.motion.pace = 0))

/-- The TAP instructions that drive pins (R405). -/
def pinDriving : List Nat := [0x00, 0x03, 0x04, 0x05, 0x06]

/-- Training of a stack is complete, and every allocatable chip of its enabled pools is free: none in use, none withheld (R410). -/
def stackFree (s : State) (k : Nat) : Bool :=
  s.flag (Reg.micHbmStatus k) Fld.micHbmStatusTrained && s.shoe.tags.all (fun e => e.1 / 2 ^ 19 != k)
    && s.shoe.pools.all (fun e => !e.2.enabled || e.2.first / 2 ^ 19 != k || e.2.withheld.isEmpty)

/-- The conditions of Table 19-1 hold for an instruction (R405, R410, R413). -/
def tapHonoured (s : State) (ir : Nat) : Bool :=
  if pinDriving.contains ir then (s.sec.state == 1 || s.sec.state == 3) && decksIdle s
  else if ir = 0x10 ∨ ir = 0x11 then decide (2 ≤ s.sec.debug) && decksIdle s && stackFree s (ir - 0x10)
  else if ir = 0x20 then decide (2 ≤ s.sec.debug)
  else if ir = 0x30 then s.sec.debug == 3 && s.flag Reg.glbStraps Fld.glbStrapsTestmode
  else true

/-- The words of stack k return to the never-written state (R267, R410). -/
def unwriteStack (k : Nat) (s : State) : State :=
  { s with shoe := { s.shoe with written := s.shoe.written.filter (fun w => w / 2 ^ 30 != k)
                                 mem := Sparse.keep (fun i => i / 2 ^ 35 != k) s.shoe.mem
                                 filled := Sparse.keep (fun i => i / 2 ^ 19 != k) s.shoe.filled } }

/-- An instruction that has been in effect ends: after HBMs_1500 the stack's check areas are written again (R410). -/
def endTapInstruction (ir : Nat) (s : State) : State := if ir = 0x10 ∨ ir = 0x11 then unwriteStack (ir - 0x10) s else s

/-- BYPASS is substituted for an instruction that does not meet its conditions: counted, with event 425 (R354, R407). -/
def substituteBypass (s : State) : State :=
  raise 425 [] (({ s with tap := { s.tap with ir := 0xFF, substituted := true } }).addFld Reg.secRefused Fld.secRefusedTap 1)

/-- An instruction in effect that has stopped meeting its conditions is replaced (R407). -/
def withdrawTap (s : State) : State :=
  let ir := s.tap.ir.toNat
  if tapHonoured s ir then s else substituteBypass (endTapInstruction ir s)

/-- A command's effect `f`, and what it means for the TAP instruction in effect (R407); but while SCAN is in effect the core's state is
undefined (R413). -/
def run (f : State → State) (s : State) : Host.Outcome State Fault Refusal :=
  .next (if s.tap.scan then undefinedCore s else withdrawTap (f s))

/-- A reset that returns the block to operation from SCAN too (R413). -/
def runReset (f : State → State) (s : State) : Host.Outcome State Fault Refusal :=
  .next (withdrawTap (f { s with tap := { s.tap with scan := false } }))

/-- A command to the TAP, which works on while SCAN is in effect (R404, R413). -/
def runTap (f : State → State) (s : State) : Host.Outcome State Fault Refusal :=
  .next (if s.tap.scan then { undefinedCore s with tap := { (f s).tap with scan := true } } else withdrawTap (f s))

/-- A message or pulse leaves the block. -/
def emit (m : Sent) (s : State) : State := { s with sent := m :: s.sent }

/-- The number from which the next free value is taken, and the state with the count moved on. -/
def State.ticked (s : State) : State := { s with tick := s.tick + 1 }

/-! ### Refusals under the presence rule -/

/-- The presence window is open (R343). -/
def State.window (s : State) : Bool := s.sec.window

/-- A write to offset `off` is refused under R344: counted, recorded and reported (R10, R344). -/
def refuseWrite (off : Nat) (s : State) : State :=
  raise 418 [word off] ((s.addFld Reg.secRefused Fld.secRefusedWrites 1).setFld Reg.secRefusedAddr Fld.secRefusedAddrOffset off)

/-- A task is refused under R344: counted and reported with its opcode. -/
def refuseTask (op : Nat) (s : State) : State :=
  raise 418 [word op] (s.addFld Reg.secRefused Fld.secRefusedTasks 1)

/-- A register write is answered with event 338: the context and the offset (R31, R35, R61). -/
def refuseConfig (n off : Nat) (s : State) : State := raise 338 [word n, word off] s

/-! ### Task records -/

/-- OPCODE of a task record (Table 02-3). -/
def Task.opcode (t : Task) : Nat := (t.bytes.getD 0 0).toNat

/-- FLAGS of a task record (Table 02-3). -/
def Task.flags (t : Task) : Nat := (t.bytes.getD 1 0).toNat

/-- NOTIFY (Table 02-3). -/
def Task.notify (t : Task) : Bool := bitAt t.flags 0

/-- POSITIONED (Table 02-3). -/
def Task.positioned (t : Task) : Bool := bitAt t.flags 1

/-- TAG (Table 02-3). -/
def Task.tag (t : Task) : Nat := leAt t.bytes 4 4

/-- A little-endian field of the task record: `n` bytes from byte `a` (R37). -/
def Task.field (t : Task) (a n : Nat) : Nat := leAt t.bytes a n

/-- The task is to begin, or to try again (R47). -/
def Task.waits (t : Task) : Bool := decide (t.stage = .waiting)

/-- The task has not begun execution (R32, R50). DESIGN CHOICE (log entry 100): a task whose descriptors, label or plan are being fetched for
the check of R39 has begun. -/
def Task.unbegun (t : Task) : Bool := t.waits && !t.committed

/-- The task's work is done and its completion waits (R47). -/
def Task.isDone (t : Task) : Bool :=
  match t.stage with
  | .done _ => true
  | _ => false

/-- The task with acceptance number `q` in a context (R48). -/
def Context.task (c : Context) (q : Nat) : Option Task := c.tasks.find? (fun t => t.seq == q)

/-- The context with one of its tasks changed. -/
def Context.onTask (c : Context) (q : Nat) (f : Task → Task) : Context :=
  { c with tasks := c.tasks.map (fun t => if t.seq == q then f t else t) }

/-- Task q of context n changed. -/
def State.onTask (s : State) (n q : Nat) (f : Task → Task) : State := s.onCtx n (fun c => c.onTask q f)

/-- The oldest task of a context that has not begun execution and carries no deferred error, so that it may still begin (R50). -/
def Context.oldestWaiting (c : Context) : Option Task := c.tasks.find? (fun t => t.waits && !t.carrier)

/-- Tasks in flight across the device (R34). -/
def totalInFlight (s : State) : Nat := (s.ctx.map (fun e => e.2.tasks.length)).sum

/-! ### Completions -/

/-- The task's work is done with completion `c`; its entry is written in its turn (R41, R47). -/
def finish (n q : Nat) (c : Completion) (s : State) : State := s.onTask n q (fun t => { t with stage := .done c })

/-- A completion with a status and all INFO fields zero (R45). -/
def status (code : Nat) : Completion := { status := BitVec.ofNat 16 code }

/-- NOT_READY with its reason (R46). -/
def notReady (reason : Nat) : Completion := { status := 0x13, info2 := word reason }

/-- FIELD_RANGE with its locator and the offending value (Table 02-7). -/
def fieldRange (loc val : Nat) : Completion := { status := 0x12, info2 := word loc, info3 := word val }

/-- SECURITY_STATE with the state's code (Table 02-7). -/
def securityState (code : Nat) : Completion := { status := 0x1C, info2 := word code }

/-- ABORTED (Table 02-7). -/
def abortedC : Completion := status 0x11

/-- A completion with INFO0 and INFO1. -/
def result2 (code i0 i1 : Nat) : Completion :=
  { status := BitVec.ofNat 16 code, info0 := BitVec.ofNat 64 i0, info1 := BitVec.ofNat 64 i1 }

/-! ### Deferred errors -/

/-- The oldest task that has not begun carries the pending deferred error, unless one already does (R50). -/
def chooseCarrier (n : Nat) (s : State) : State :=
  s.onCtx n (fun c =>
    if c.tasks.any (fun t => t.carrier && t.unbegun) then c
    else match c.tasks.find? Task.unbegun with
      | some t => c.onTask t.seq (fun t => { t with carrier := true })
      | none => c)

/-- A WRITE or MARK with objects from `lo` to `hi` loses them (R45, R50). -/
def loseObjects (lo hi : Nat) (t : Task) : Task :=
  if (t.opcode = 1 ∨ t.opcode = 2) ∧ t.first ≤ hi ∧ lo < t.first + t.objs then { t with lost := true } else t

/-- A deferred error of context n, for objects `lo` to `hi` of its stream and with a cause of Table 02-9, is recorded or folded
into the pending one (R50, R51). -/
def deferError (n cause lo hi : Nat) (s : State) : State :=
  let st := Reg.ctxDeferredStatus n
  let old := s.flag st Fld.ctxDeferredStatusPending
  let oldLo := s.pair (Reg.ctxDeferredFirstLo n) (Reg.ctxDeferredFirstHi n)
  let oldHi := oldLo + (s.reg (Reg.ctxDeferredCount n)).toNat - 1
  let lo' := if old then min oldLo lo else lo
  let hi' := if old then max oldHi hi else hi
  let cause' := if old then s.fld st Fld.ctxDeferredStatusCause else cause
  let s1 := (s.setPair (Reg.ctxDeferredFirstLo n) (Reg.ctxDeferredFirstHi n) lo').setReg (Reg.ctxDeferredCount n)
    (word (satAt 0xFFFFFFFF (hi' - lo' + 1)))
  let s2 := (s1.setFld st Fld.ctxDeferredStatusPending 1).setFld st Fld.ctxDeferredStatusCause cause'
  let s3 := (s2.setFld st Fld.ctxDeferredStatusMerged (bit old)).onCtx n (fun c => { c with tasks := c.tasks.map (loseObjects lo hi) })
  raise 337 ([word n, word cause'] ++ words2 lo') (chooseCarrier n s3)

/-! ### Device reads and writes of host memory -/

/-- A posted write to host memory leaves (R335). -/
def hostWrite (addr : Nat) (bytes : List Byte) (s : State) : State := emit (.hostWrite addr bytes) s

/-- The first tag from `t` on that names no outstanding read and is not held back (R335). -/
def freeTag (l : LnkUnit) : Nat → BitVec 16 → BitVec 16
  | 0, t => t
  | fuel + 1, t =>
    if l.reads.any (fun r => r.tag == t) || l.quarantine.contains t then freeTag l fuel (t + 1) else t

/-- The device reads `count` bytes of host memory for task q of context n, or for the slot command (R335). -/
def hostRead (owner : Nat × Nat) (addr count : Nat) (s : State) : State :=
  let t := freeTag s.lnk (s.lnk.reads.length + s.lnk.quarantine.length + 1) s.lnk.nextTag
  let r : DmaRead := { tag := t, addr := addr, count := count, got := [], owner := owner }
  emit (.hostRead t addr count) { s with lnk := { s.lnk with reads := s.lnk.reads ++ [r], nextTag := t + 1 } }

/-- The part of a range that one read may cover: at most 4,096 bytes and no 4 KiB boundary (R328). -/
def readPiece (addr len : Nat) : Nat := min len (4096 - addr % 4096)

/-- The next piece of what a task still has to fetch is read (R335). -/
def fetchNext (n q : Nat) (s : State) : State :=
  match (s.ctxAt n).task q with
  | some t =>
    match t.ranges with
    | (a, len) :: _ => hostRead (n, q) a (readPiece a len) s
    | [] => s
  | none => s

/-- The opcodes whose commit point lies behind the start of execution: WRITE, MARK, READ, CUT and UNCUT (R52). -/
def commitsLater (op : Nat) : Bool := [1, 2, 5, 11, 12].contains op

/-- Task q of context n begins to fetch the ranges (R38, R335); most opcodes commit as they begin (R52). -/
def startFetch (n q : Nat) (ranges : List (Nat × Nat)) (s : State) : State :=
  fetchNext n q (s.onTask n q (fun t =>
    { t with stage := .fetching, ranges := ranges, got := [], fetched := 0, committed := t.committed || !commitsLater t.opcode }))

/-! ### Guarantee bits -/

/-- A bit of DLR_TABLE_GUARANTEE of a table is set; the first time, event 343 is raised (R232). -/
def setGuarantee (d p k : Nat) (s : State) : State :=
  let t := s.tableAt d p
  if bitAt t.guarantee.toNat k then s
  else raise 343 ([word d, word p, word k] ++ words2 t.nextTrick) (s.putTable d p { t with guarantee := t.guarantee ||| BitVec.ofNat 7 (2 ^ k) })

/-! ### Contexts and tables -/

/-- The context is bound (Table 02-4). -/
def bound (s : State) (n : Nat) : Bool := s.flag (Reg.ctxBind n) Fld.ctxBindBound

/-- The deck a context is bound to. -/
def bindDeck (s : State) (n : Nat) : Nat := s.fld (Reg.ctxBind n) Fld.ctxBindDeck

/-- The partition a context is bound to. -/
def bindPart (s : State) (n : Nat) : Nat := s.fld (Reg.ctxBind n) Fld.ctxBindPartition

/-- CTX_SEAT.SEATED (R62). -/
def seated (s : State) (n : Nat) : Bool := s.flag (Reg.ctxSeat n) Fld.ctxSeatSeated

/-- CTX_STREAM_ID (R30). -/
def streamId (s : State) (n : Nat) : Word := s.reg (Reg.ctxStreamId n)

/-- The stream of an identifier in a table (R68). -/
def Table.stream (t : Table) (sid : Word) : StreamInfo := Sparse.get {} t.streams sid.toNat

/-- A table with one of its streams changed. -/
def Table.onStream (t : Table) (sid : Word) (f : StreamInfo → StreamInfo) : Table :=
  { t with streams := Sparse.set {} t.streams sid.toNat (f (t.stream sid)) }

/-- CTX_POSITION (R175). -/
def position (s : State) (n : Nat) : Nat := s.pair (Reg.ctxPositionLo n) (Reg.ctxPositionHi n)

/-- `s` with the position of context n set (R175). -/
def setPosition (n v : Nat) (s : State) : State := s.setPair (Reg.ctxPositionLo n) (Reg.ctxPositionHi n) v

/-- The contexts with BOUND set, each with its CTX_BIND; BOUND resets to 0, so an unlisted register is not bound. -/
def bindings (s : State) : List (Nat × Word) :=
  s.regs.filterMap (fun e =>
    if decide (0x100000 ≤ e.1) && decide (e.1 < 0x200000) && e.1 % 0x100 == 0x0C && getBits e.2 Fld.ctxBindBound == 1
    then some ((e.1 - 0x100000) / 0x100, e.2) else none)

/-- The contexts that are bound to a table. -/
def boundTo (s : State) (d p : Nat) : List Nat :=
  ((bindings s).filter (fun e => getBits e.2 Fld.ctxBindDeck == d && getBits e.2 Fld.ctxBindPartition == p)).map (fun e => e.1)

/-- The contexts that are bound to a deck. -/
def boundToDeck (s : State) (d : Nat) : List Nat :=
  ((bindings s).filter (fun e => getBits e.2 Fld.ctxBindDeck == d)).map (fun e => e.1)

/-- The state's effect `f` on each element of a list in turn. -/
def forEach {α : Type} (l : List α) (f : α → State → State) (s : State) : State := l.foldl (fun a x => f x a) s

end Sys2Proof.Machine
end

