-- ==== Sys2Proof/Machine/Chips.lean ====
section
/-! DEFINITION. Pools and chips of the Shoe (R269 to R273): what a pool holds, allocation, references and frees. -/

namespace Sys2Proof.Machine

/-- Units of 64 MiB of a trained stack (R266). -/
def stackUnits (s : State) (k : Nat) : Nat := if s.flag (Reg.micHbmStatus k) Fld.micHbmStatusHeight then 384 else 256

/-- Number of the first chip of region r within its stack (R265). -/
def regionFirst (s : State) (k r : Nat) : Nat := ((List.range r).map (fun i => regionChips (regionCfg s k i))).sum

/-- The stack and region that hold a chip index; none where no such chip exists (R265). -/
def chipRegion (s : State) (idx : Nat) : Option (Nat × Nat) :=
  let k := idx / 2 ^ 19
  let n := idx % 2 ^ 19
  ((List.range 16).find? (fun r =>
    decide (regionFirst s k r ≤ n) && decide (n < regionFirst s k r + regionChips (regionCfg s k r)))).map (fun r => (k, r))

/-- HOST of a pool (R274). -/
def Pool.host (p : Pool) : Bool := getBits p.cfg Fld.shoPoolCfgHost == 1

/-- Indices of the pool's allocatable chips (R269). -/
def Pool.chips (p : Pool) : List Nat := (List.range (p.count - p.ring)).map (fun i => p.first + p.ring + i)

/-- The free chips of a pool. -/
def freeChips (s : State) (k : Nat) : List Nat :=
  let p := s.poolAt k
  p.chips.filter (fun i => (Sparse.find s.shoe.tags i).isNone && !p.withheld.contains i)

/-- The cache of chip indices after one is taken; it fetches 128 from the ring when it falls below 64 (R270). -/
def cacheTake (cache free : Nat) : Nat :=
  let c := (if cache = 0 then min 128 free else cache) - 1
  if c < 64 then min (c + 128) (free - 1) else c

/-- The cache after one index comes back; it returns 128 to the ring when it rises above 192 (R270). -/
def cachePut (cache : Nat) : Nat := if cache + 1 > 192 then cache + 1 - 128 else cache + 1

/-- The tag of a chip. -/
def chipTag (s : State) (i : Nat) : Option ChipTag := Sparse.find s.shoe.tags i

/-- A device engine writes each word of chip i before it reads the word; what it leaves there the spec does not lay out (R267, log entry
128). -/
def engineFills (i : Nat) (s : State) : State :=
  { s with shoe := { s.shoe with written := s.shoe.written.filter (fun w => w / 2048 != i)
                                 mem := Sparse.keep (fun a => a / 65536 != i) s.shoe.mem
                                 filled := Sparse.put s.shoe.filled i s.tick } }

/-- One chip of pool k for an owner: which one R270 leaves open (R271). Only where the pool has a free chip. Every owner but the host (class 6)
is a device engine, which fills the chip (R267). -/
def takeChip (k cls id : Nat) (s : State) : Nat × State :=
  let l := freeChips s k
  let i := l.getD (Config.chipPick s.tick % l.length) 0
  let p := s.poolAt k
  let s1 := s.ticked.putPool k { p with cache := cacheTake p.cache (poolFree s k) }
  let s2 := if cls = 6 then s1 else engineFills i s1
  (i, { s2 with shoe := { s2.shoe with tags := Sparse.put s2.shoe.tags i { pool := k, cls := cls, id := id, refs := 1 } } })

/-- `n` chips taken one after another. -/
def takeChips : Nat → Nat → Nat → Nat → State → List Nat × State
  | 0, _, _, _, s => ([], s)
  | n + 1, k, cls, id, s =>
    let r := takeChip k cls id s
    let q := takeChips n k cls id r.2
    (r.1 :: q.1, q.2)

/-- Event 352 where FREE of the pool has fallen below LOW, once until FREE reaches LOW + 256 again (Table 12-6). -/
def lowWater (k : Nat) (s : State) : State :=
  let p := s.poolAt k
  let low := getBits p.cfg Fld.shoPoolCfgLow
  if p.low then
    if low + 256 ≤ poolFree s k then s.putPool k { p with low := false } else s
  else if low ≠ 0 && decide (poolFree s k < low) then raise 352 [] (s.putPool k { p with low := true })
  else s

/-- A failed allocation: event 353 and the count of runs, once for each run (R270). -/
def allocFailed (k : Nat) (s : State) : State :=
  let p := s.poolAt k
  if p.failing then s
  else
    let e := putBits p.errs Fld.shoPoolErrsEmpty (satAt 255 (getBits p.errs Fld.shoPoolErrsEmpty + 1))
    raise 353 [] (s.putPool k { p with failing := true, errs := e })

/-- A pool serves: not before it is READY (R270), nor while its stack takes no commands (R262) or is under HBMs_1500 (R410). -/
def poolServes (s : State) (k : Nat) : Bool :=
  let p := s.poolAt k
  !p.enabled || (p.ready && s.tap.ir.toNat != 0x10 + p.first / 2 ^ 19 && !s.shoe.tripped.contains (p.first / 2 ^ 19))

/-- A wait on a pool as it begins: the pool, and the free chips that were not enough (R73). -/
def waitMark (s : State) (k : Nat) : Nat × Nat := (k, if poolServes s k then poolFree s k else 0)

/-- A chip of pool k has been freed since the wait began (R73). -/
def waitOver (s : State) (k : Nat) (w : Option (Nat × Nat)) : Bool :=
  match w with
  | some x => x.1 == k && decide (x.2 < poolFree s k)
  | none => false

/-- `n` chips of pool k for an owner, or none of them: none where FREE does not reach n or the pool does not serve (R270). -/
def allocate (n k cls id : Nat) (s : State) : Option (List Nat) × State :=
  if n = 0 then (some [], s)
  else if !poolServes s k then (none, s)
  else if poolFree s k < n then (none, allocFailed k s)
  else
    let r := takeChips n k cls id s
    (some r.1, lowWater k r.2)

/-- A refused free is counted in the chip's pool, recorded and reported: kind 1 double, 2 foreign (R272). -/
def refuseFree (kind i pool cls : Nat) (s : State) : State :=
  let p := s.poolAt pool
  let f := if kind = 1 then Fld.shoPoolErrsDouble else Fld.shoPoolErrsForeign
  let s1 := s.putPool pool { p with errs := putBits p.errs f (satAt 255 (getBits p.errs f + 1)) }
  let w := putBits (putBits (putBits (putBits 0 Fld.shoLastRefusedKind kind) Fld.shoLastRefusedClass cls)
    Fld.shoLastRefusedPool pool) Fld.shoLastRefusedIndex i
  raise (if kind = 1 then 354 else 355) [] (s1.setReg Reg.shoLastRefused w)

/-- The pool whose range holds a chip index (R269). -/
def poolOfChip (s : State) (i : Nat) : Nat :=
  match s.shoe.pools.find? (fun e => e.2.enabled && decide (e.2.first ≤ i) && decide (i < e.2.first + e.2.count)) with
  | some e => e.1
  | none => 0

/-- One reference to a chip ends; with the last the chip goes back to the pool of its tag (R271). -/
def dropRef (i : Nat) (t : ChipTag) (s : State) : State :=
  if t.refs ≤ 1 then
    let p := s.poolAt t.pool
    let s1 := { s with shoe := { s.shoe with tags := Sparse.erase s.shoe.tags i } }
    lowWater t.pool (s1.putPool t.pool { p with cache := cachePut p.cache, failing := false })
  else { s with shoe := { s.shoe with tags := Sparse.put s.shoe.tags i { t with refs := t.refs - 1 } } }

/-- An owner frees a chip; a double or foreign free is refused (R272). -/
def freeChip (cls id i : Nat) (s : State) : State :=
  match chipTag s i with
  | none => refuseFree 1 i (poolOfChip s i) cls s
  | some t => if t.cls = cls ∧ t.id = id then dropRef i t s else refuseFree 2 i t.pool cls s

/-- An owner frees a list of chips. -/
def freeList (cls id : Nat) (l : List Nat) (s : State) : State := forEach l (freeChip cls id) s

/-- A second reference to a chip (R271). -/
def addRef (i : Nat) (s : State) : State :=
  match chipTag s i with
  | some t => { s with shoe := { s.shoe with tags := Sparse.put s.shoe.tags i { t with refs := t.refs + 1 } } }
  | none => s

/-- A hold on a chip ends (R271). -/
def endHold (i : Nat) (s : State) : State :=
  match chipTag s i with
  | some t => dropRef i t s
  | none => s

/-- Most references of a chip (R271). -/
def maxRefs : Nat := 15

/-- A further hold on one of these chips would take its references past 15 (R271). -/
def holdsFull (s : State) (l : List Nat) : Bool :=
  l.any (fun i => match chipTag s i with
    | some t => decide (maxRefs ≤ t.refs)
    | none => false)

/-- The chips of the owners that satisfy `q` are freed whole, as a reset does (R275). -/
def freeOwned (q : ChipTag → Bool) (s : State) : State :=
  forEach (s.shoe.tags.filter (fun e => q e.2)) (fun e a => dropRef e.1 { e.2 with refs := 1 } a) s

/-- The pool for sealed blocks of deck d (Table 12-3). -/
def sealedPool (s : State) (d : Nat) : Nat := s.fld (Reg.shoDeckPools d) Fld.shoDeckPoolsSealed

/-- The pool for trick images of deck d (Table 12-3). -/
def trickPool (s : State) (d : Nat) : Nat := s.fld (Reg.shoDeckPools d) Fld.shoDeckPoolsTrick

/-- The pool of the round buffer and position map of deck d (Table 12-3). -/
def restorePool (s : State) (d : Nat) : Nat := s.fld (Reg.dkRestoreCtrl d) Fld.dkRestoreCtrlPool

/-- Chips that `n` bytes occupy, 65,536 bytes a chip (R265; log entry 7). -/
def chipsFor (n : Nat) : Nat := (n + 65535) / 65536

/-- Chips of a context's sealed blocks waiting for packing (R72). -/
def sealedChips (s : State) (n : Nat) : Nat := (s.shoe.tags.filter (fun e => e.2.cls == 1 && e.2.id == n)).length

/-- CTX_CHIP_QUOTA is reached (R72). -/
def overChipQuota (s : State) (n : Nat) : Bool :=
  let m := s.fld (Reg.ctxChipQuota n) Fld.ctxChipQuotaMaxChips
  decide (m ≠ 0) && decide (m ≤ sealedChips s n)

end Sys2Proof.Machine
end

