-- ==== Sys2Proof/Machine/Codec.lean ====
section
/-! DEFINITION. The Cutter's method: block header (R77 to R79), prediction (R84 to R88), residue coding (R89 to R91), raw
blocks (R92), decoding and its checks (R96). -/

namespace Sys2Proof.Machine

/-! ### Boundaries of a block -/

/-- `n` as unsigned LEB128, low group first; five groups suffice (Table 04-2). -/
def leb128 : Nat → Nat → List Byte
  | 0, _ => []
  | fuel + 1, n => if n < 128 then [byte n] else byte (n % 128 + 128) :: leb128 fuel (n / 128)

/-- Every entry after the first is equal (R81). -/
def uniformEnds : List Nat → Bool
  | _ :: a :: l => l.all (fun x => x == a)
  | _ => true

/-- The boundary list of the lengths of the pieces (Table 04-2). -/
def boundaryList (ends : List Nat) : List Byte := ends.flatMap (leb128 5)

/-- list_cost of R81. -/
def listCost (ends : List Nat) : Nat := if uniformEnds ends then 0 else (boundaryList ends).length

/-- BMODE of a block (R79): the first row of Table 04-2 that applies. -/
def boundaryMode (ends : List Nat) (d : Nat) : Nat :=
  match ends with
  | [] => 0
  | [e] => if e = d then 1 else 2
  | _ => if uniformEnds ends then 2 else 3

/-! ### Prediction -/

/-- b[i − k], 0 before the block (R84). -/
def back (b : List Byte) (i k : Nat) : Byte := if k ≤ i then b.getD (i - k) 0 else 0

/-- The context hash h(i) (R86). -/
def ctxHash (b : List Byte) (i : Nat) : Nat :=
  (beVal (slice b (i - 4) 4) * 0x9E3779B1 % 2 ^ 32) / 2 ^ 20

/-- T[h(i)] at i: the latest earlier position with the same hash, from 4 on (R86). -/
def matchPos (b : List Byte) (i : Nat) : Option Nat :=
  ((List.range i).filter (fun j => decide (4 ≤ j) && ctxHash b j == ctxHash b i)).getLast?

/-- p_k(i), from the bytes before i (Table 04-3). -/
def predict (b : List Byte) (stride k i : Nat) : Byte :=
  match k with
  | 0 => back b i 1
  | 1 => back b i stride
  | 2 =>
    if 4 ≤ i then
      match matchPos b i with
      | some j => b.getD j 0
      | none => back b i 1
    else back b i 1
  | _ => 2 * back b i stride - back b i (2 * stride)

/-- The distance at which the byte pair ending at i last occurred, where it did (R85). -/
def pairDistance (b : List Byte) (i : Nat) : Option Nat :=
  ((List.range i).filter (fun j => decide (1 ≤ j) && b.getD (j - 1) 0 == b.getD (i - 1) 0 && b.getD j 0 == b.getD i 0)).getLast?.map
    (fun j => i - j)

/-- The least of the elements at which `f` is greatest; `d` for the empty list. -/
def argMax (f : Nat → Nat) (d : Nat) (l : List Nat) : Nat :=
  l.foldl (fun best x => if f best < f x then x else best) (l.headD d)

/-- S as the encoder chooses it (R85). -/
def chooseStride (b : List Byte) : Nat :=
  let ds := (List.range (min b.length 65536)).filterMap (fun i => if 1 ≤ i then pairDistance b i else none)
  argMax (fun d => (ds.filter (fun x => x == d)).length) 1 ((List.range 4096).map (fun d => d + 1))

/-- Predictor k is off in `off` (bit k). -/
def predOff (off k : Nat) : Bool := bitAt off k

/-- Hits of a predictor over the first 4,096 bytes (R88). -/
def predHits (b : List Byte) (stride k : Nat) : Nat :=
  ((List.range (min b.length 4096)).filter (fun i => predict b stride k i == b.getD i 0)).length

/-- Class of each predictor, where `off` marks those that are off (R88). -/
def selClasses (b : List Byte) (stride off : Nat) : List Nat :=
  let hits := (List.range 4).map (fun k => if predOff off k then 0 else predHits b stride k)
  let on := (List.range 4).filter (fun k => !predOff off k)
  let best := argMax (fun k => hits.getD k 0) 0 on
  (List.range 4).map (fun k =>
    if predOff off k then 3
    else if k = best then 0
    else if hits.getD best 0 ≤ 2 * hits.getD k 0 then 1 else 2)

/-- SEL_INIT from the classes (Table 04-1). -/
def selInit (cls : List Nat) : Nat := (List.range 4).foldl (fun a k => a + cls.getD k 0 * 4 ^ k) 0

/-- The classes of a SEL_INIT (Table 04-1). -/
def selClassesOf (v : Nat) : List Nat := (List.range 4).map (fun k => v / 4 ^ k % 4)

/-- Initial costs, none for a predictor that is off (R87). -/
def initCosts (cls : List Nat) : List (Option Nat) :=
  cls.map (fun c => match c with
    | 0 => some 0
    | 1 => some 512
    | 2 => some 1024
    | _ => none)

/-- The predictor that the costs select: the lowest cost, the lowest index on a tie (R87). -/
def selected (costs : List (Option Nat)) : Nat :=
  ((List.range 4).foldl (fun (best : Option (Nat × Nat)) k =>
    match costs.getD k none, best with
    | some c, some (_, m) => if c < m then some (k, c) else best
    | some c, none => some (k, c)
    | none, _ => best) none).map (fun p => p.1) |>.getD 0

/-- The costs after byte `v` at i (R87). -/
def updateCosts (b : List Byte) (stride i : Nat) (v : Byte) (costs : List (Option Nat)) : List (Option Nat) :=
  (List.range 4).map (fun j =>
    (costs.getD j none).map (fun c =>
      let e := (v - predict b stride j i).toNat
      c - c / 16 + min e (256 - e)))

/-- The residues of the bytes from i on (R87). -/
def residuesFrom (b : List Byte) (stride : Nat) : Nat → Nat → List (Option Nat) → List Byte
  | 0, _, _ => []
  | fuel + 1, i, costs =>
    let v := b.getD i 0
    (v - predict b stride (selected costs) i) :: residuesFrom b stride fuel (i + 1) (updateCosts b stride i v costs)

/-- The residues of a block (R87). -/
def residues (b : List Byte) (stride : Nat) (cls : List Nat) : List Byte := residuesFrom b stride b.length 0 (initCosts cls)

/-- The bytes whose residues are given, `b` being the bytes before them (R87). -/
def reconstructFrom (stride : Nat) : List Byte → List Byte → List (Option Nat) → List Byte
  | [], b, _ => b
  | r :: rs, b, costs =>
    let v := predict b stride (selected costs) b.length + r
    reconstructFrom stride rs (b ++ [v]) (updateCosts b stride b.length v costs)

/-! ### Residue coding -/

/-- h[0..255] (R89). -/
def histogram (r : List Byte) : List Nat := (List.range 256).map (fun s => (r.filter (fun x => x == byte s)).length)

/-- The symbol with the largest frequency, the lowest on a tie (R89). -/
def topSymbol (f : List Nat) : Nat := argMax (fun s => f.getD s 0) 0 (List.range 256)

/-- F brought down to 4,096, one at a time (R89). -/
def trimFreq : Nat → List Nat → List Nat
  | 0, f => f
  | fuel + 1, f =>
    if 4096 < f.sum then trimFreq fuel (setAt f (topSymbol f) (f.getD (topSymbol f) 0 - 1)) else f

/-- The frequency table of a block of n bytes (R89). -/
def freqTable (h : List Nat) (n : Nat) : List Nat :=
  let f := h.map (fun c => if c = 0 then 0 else max 1 (c * 4096 / n))
  if f.sum < 4096 then setAt f (topSymbol f) (f.getD (topSymbol f) 0 + (4096 - f.sum)) else trimFreq 256 f

/-- cum[s] (R89). -/
def cumFreq (f : List Nat) (s : Nat) : Nat := (f.take s).sum

/-- The frequency table as the body holds it (R90). -/
def freqBytes (f : List Nat) : List Byte :=
  (List.range 32).map (fun k => byte (bitsOf ((List.range 8).filterMap (fun i =>
    if f.getD (8 * k + i) 0 = 0 then none else some (7 - i)))))
  ++ f.flatMap (fun v => if v = 0 then [] else if v < 128 then [byte v] else [byte (128 + v / 256), byte v])

/-- Bytes pushed to bring a state below its bound, last pushed first, and the state after (R91). -/
def ransPush : Nat → Nat → Nat → List Byte → List Byte × Nat
  | 0, _, x, out => (out, x)
  | fuel + 1, bound, x, out => if bound ≤ x then ransPush fuel bound (x / 256) (byte x :: out) else (out, x)

/-- The encoder of R91 over residues from the last one back: each with its index. -/
def ransEncode (f : List Nat) : List (Nat × Byte) → List Nat × List Byte → List Nat × List Byte
  | [], st => st
  | (i, r) :: l, (xs, out) =>
    let s := r.toNat
    let fs := f.getD s 0
    let p := ransPush 4 (fs * 2 ^ 19) (xs.getD (i % 4) 0) out
    ransEncode f l (setAt xs (i % 4) (p.2 / fs * 4096 + p.2 % fs + cumFreq f s), p.1)

/-- The compressed body of residues `r` (R90). -/
def compressedBody (r : List Byte) : List Byte :=
  let f := freqTable (histogram r) r.length
  let st := ransEncode f ((List.zip (List.range r.length) r).reverse) (List.replicate 4 0x800000, [])
  freqBytes f ++ st.1.flatMap (be 4) ++ st.2

/-! ### Headers -/

/-- The fields of a block header (Table 04-1). -/
structure BlockHeader where
  /-- MAGIC -/
  magic : Nat := 0xC7A1
  /-- VERSION -/
  version : Nat := 1
  /-- FLAGS -/
  flags : Nat := 0
  /-- IN_LEN -/
  inLen : Nat := 0
  /-- OUT_LEN -/
  outLen : Nat := 0
  /-- STRIDE -/
  stride : Nat := 0
  /-- SEL_INIT -/
  sel : Nat := 0
  /-- byte 15 -/
  zero : Nat := 0
  /-- NREC -/
  nrec : Nat := 0
  /-- HEAD -/
  head : Nat := 0
  /-- UNIT -/
  unit : Nat := 0
  /-- CRC -/
  crc : Nat := 0
  /-- LIST_LEN -/
  listLen : Nat := 0
  deriving DecidableEq, Repr, Inhabited

/-- The 32 bytes of a header, big-endian (R77, R78). -/
def BlockHeader.bytes (h : BlockHeader) : List Byte :=
  be 2 h.magic ++ [byte h.version, byte h.flags] ++ be 4 h.inLen ++ be 4 h.outLen ++ be 2 h.stride ++ [byte h.sel, byte h.zero]
    ++ be 2 h.nrec ++ be 3 h.head ++ be 3 h.unit ++ be 4 h.crc ++ be 4 h.listLen

/-- The header that 32 bytes spell (R77, R78). -/
def headerOf (b : List Byte) : BlockHeader :=
  { magic := beAt b 0 2, version := beAt b 2 1, flags := beAt b 3 1, inLen := beAt b 4 4, outLen := beAt b 8 4,
    stride := beAt b 12 2, sel := beAt b 14 1, zero := beAt b 15 1, nrec := beAt b 16 2, head := beAt b 18 3,
    unit := beAt b 21 3, crc := beAt b 24 4, listLen := beAt b 28 4 }

/-- RAW (Table 04-1). -/
def BlockHeader.raw (h : BlockHeader) : Bool := bitAt h.flags 7

/-- CONT (Table 04-1). -/
def BlockHeader.cont (h : BlockHeader) : Bool := bitAt h.flags 4

/-- BMODE (Table 04-1). -/
def BlockHeader.bmode (h : BlockHeader) : Nat := h.flags / 4 % 4

/-! ### Coding a block -/

/-- The predictors off in a block: those of PRED_OFF and those the image's set lacks (R88). -/
def Block.off (b : Block) : Nat := bitsOf ((List.range 4).filter (fun k => bitAt b.options.toNat (4 + k) || !bitAt b.predSet k))

/-- The compressed block of a block, header and body: raw where R92 or `forceRaw` requires it. -/
def codeBlock (version : Nat) (b : Block) : List Byte :=
  let mode := boundaryMode b.ends b.data.length
  let list := if mode = 3 then boundaryList b.ends else []
  let inp := list ++ b.data
  let stride := chooseStride inp
  let cls := selClasses inp stride b.off
  let body := compressedBody (residues inp stride cls)
  let raw := b.forceRaw || bitAt b.options.toNat 0 || decide (b.off = 15) || decide (inp.length ≤ body.length)
  let h : BlockHeader :=
    { version := version
      flags := bit raw * 128 + bit b.last * 64 + bit b.markFollows * 32 + bit b.cont * 16 + mode * 4
      inLen := inp.length, outLen := if raw then inp.length else body.length
      stride := if raw then 0 else stride, sel := if raw then 0 else selInit cls
      nrec := b.ends.length, head := if mode = 2 then b.ends.headD 0 else 0
      unit := if mode = 2 then b.ends.getD 1 0 else 0
      crc := (crc32c b.data).toNat, listLen := list.length }
  h.bytes ++ (if raw then inp else body)

/-! ### Decoding -/

/-- The symbol of a slot (R91). -/
def symbolOf (f : List Nat) (slot : Nat) : Nat :=
  ((List.range 256).find? (fun s => decide (cumFreq f s ≤ slot) && decide (slot < cumFreq f s + f.getD s 0))).getD 0

/-- A state brought up to 0x80_0000 with bytes of the stream; none past its end (R91). -/
def ransPull : Nat → Nat → List Byte → Option (Nat × List Byte)
  | 0, x, st => some (x, st)
  | fuel + 1, x, st =>
    if x < 0x800000 then
      match st with
      | [] => none
      | b :: st' => ransPull fuel (x * 256 + b.toNat) st'
    else some (x, st)

/-- The decoder of R91: n residues from index i; none where it reads past the stream (check 7). -/
def ransDecode (f : List Nat) : Nat → Nat → List Nat → List Byte → Option (List Byte × List Nat × List Byte)
  | 0, _, xs, st => some ([], xs, st)
  | n + 1, i, xs, st =>
    let x := xs.getD (i % 4) 0
    let slot := x % 4096
    let s := symbolOf f slot
    match ransPull 4 (f.getD s 0 * (x / 4096) + slot - cumFreq f s) st with
    | none => none
    | some (x', st') =>
      match ransDecode f n (i + 1) (setAt xs (i % 4) x') st' with
      | none => none
      | some (rs, ys, rest) => some (byte s :: rs, ys, rest)

/-- The frequencies of the symbols that the bitmap marks present, and the rest of the body; none where it does not parse
(R90, check 6). DESIGN CHOICE (log entry 112): a coding that no encoder would choose parses too, here and in check 8: a present symbol of
frequency 0, a frequency below 128 in two bytes, a LEB128 longer than its value needs, a length of 0. -/
def parseFreq (bitmap : List Byte) : Nat → Nat → List Byte → Option (List Nat × List Byte)
  | 0, _, rest => some ([], rest)
  | n + 1, s, rest =>
    if bitAt (bitmap.getD (s / 8) 0).toNat (7 - s % 8) then
      match rest with
      | a :: l =>
        if a.toNat < 128 then (parseFreq bitmap n (s + 1) l).map (fun r => (a.toNat :: r.1, r.2))
        else
          match l with
          | c :: l' => (parseFreq bitmap n (s + 1) l').map (fun r => (((a.toNat - 128) * 256 + c.toNat) :: r.1, r.2))
          | [] => none
      | [] => none
    else (parseFreq bitmap n (s + 1) rest).map (fun r => (0 :: r.1, r.2))

/-- The lengths that a LIST spells; none where it does not parse (check 8). -/
def parseLebs : Nat → Nat → List Byte → Option (List Nat)
  | _, 0, [] => some []
  | 0, _, _ => none
  | fuel + 1, n, l =>
    match n with
    | 0 => none
    | m + 1 =>
      let groups := (l.takeWhile (fun b => bitAt b.toNat 7)).length + 1
      let g := l.take groups
      if g.length = groups then
        (parseLebs fuel m (l.drop groups)).map (fun r => g.foldr (fun b a => b.toNat % 128 + 128 * a) 0 :: r)
      else none

/-- Check 1 of Table 04-4. -/
def BlockHeader.check1 (versions : List Nat) (h : BlockHeader) : Bool := h.magic == 0xC7A1 && versions.contains h.version

/-- Check 2 of Table 04-4. -/
def BlockHeader.check2 (h : BlockHeader) : Bool :=
  decide (h.flags % 4 = 0) && decide (h.zero = 0) && (!h.raw || (decide (h.stride = 0) && decide (h.sel = 0)))

/-- Check 3 of Table 04-4. -/
def BlockHeader.check3 (h : BlockHeader) : Bool :=
  decide (1 ≤ h.inLen) && decide (h.inLen ≤ 262144)
    && (if h.raw then decide (h.outLen = h.inLen) else decide (h.outLen < h.inLen))

/-- Check 4 of Table 04-4. -/
def BlockHeader.check4 (h : BlockHeader) : Bool :=
  match h.bmode with
  | 0 => decide (h.nrec = 0 ∧ h.head = 0 ∧ h.unit = 0 ∧ h.listLen = 0)
  | 1 => decide (h.nrec = 1 ∧ h.head = 0 ∧ h.unit = 0 ∧ h.listLen = 0)
  | 2 =>
    decide (1 ≤ h.nrec ∧ h.listLen = 0 ∧ 1 ≤ h.head ∧ h.head + (h.nrec - 1) * h.unit ≤ h.inLen)
      && (if 2 ≤ h.nrec then decide (1 ≤ h.unit) else decide (h.unit = 0))
  | _ => decide (1 ≤ h.nrec ∧ h.head = 0 ∧ h.unit = 0 ∧ 1 ≤ h.listLen ∧ h.listLen ≤ h.inLen)

/-- The first of checks 1 to 4 that a header fails (R98, R112). -/
def headerCheck (versions : List Nat) (h : BlockHeader) : Option Nat :=
  if !h.check1 versions then some 1 else if !h.check2 then some 2 else if !h.check3 then some 3
  else if !h.check4 then some 4 else none

/-- A block as decompression yields it: its header, its data part and the lengths of the pieces that end in it. -/
structure Decoded where
  /-- the header -/
  header : BlockHeader
  /-- D -/
  data : List Byte
  /-- lengths of the pieces that end in the block -/
  ends : List Nat
  deriving DecidableEq, Repr, Inhabited

/-- The block input B of a body, or the check that fails: 5, 6 or 7 (Table 04-4). -/
def decodeBody (h : BlockHeader) (body : List Byte) : Except Nat (List Byte) :=
  if h.raw then .ok body
  else
    let cls := selClassesOf h.sel
    if h.stride < 1 || 4096 < h.stride || cls.all (fun c => c == 3) then .error 5
    else
      match parseFreq (body.take 32) 256 0 (body.drop 32) with
      | none => .error 6
      | some (f, rest) =>
        let xs := (chunks 4 (rest.take 16)).map beVal
        if body.length < 32 || rest.length < 16 || f.sum != 4096 || xs.any (fun x => decide (x < 0x800000) || decide (0x80000000 ≤ x))
        then .error 6
        else
          match ransDecode f h.inLen 0 xs (rest.drop 16) with
          | none => .error 7
          | some (r, ys, left) =>
            if left.isEmpty && ys.all (fun y => y == 0x800000) then .ok (reconstructFrom h.stride r [] (initCosts cls))
            else .error 7

/-- The boundaries of a block input B by its header, or check 8 (Table 04-4). -/
def decodeEnds (h : BlockHeader) (b : List Byte) : Except Nat (List Nat) :=
  match h.bmode with
  | 0 => .ok []
  | 1 => .ok [h.inLen]
  | 2 => .ok (h.head :: List.replicate (h.nrec - 1) h.unit)
  | _ =>
    match parseLebs (h.listLen + 1) h.nrec (b.take h.listLen) with
    | some l => if l.sum ≤ h.inLen - h.listLen then .ok l else .error 8
    | none => .error 8

/-- Decompression of a compressed block; the first check of Table 04-4 that fails ends it (R96). -/
def decodeBlock (versions : List Nat) (bytes : List Byte) : Except Nat Decoded :=
  let h := headerOf bytes
  match headerCheck versions h with
  | some c => .error c
  | none =>
    match decodeBody h (slice bytes 32 h.outLen) with
    | .error c => .error c
    | .ok b =>
      match decodeEnds h b with
      | .error c => .error c
      | .ok ends =>
        let d := b.drop h.listLen
        if (crc32c d).toNat = h.crc then .ok { header := h, data := d, ends := ends } else .error 9

end Sys2Proof.Machine
end

