-- ==== Sys2Proof/Machine/Gf.lean ====
section
/-! DEFINITION. GF(2^8) and the Reed–Solomon codes of Garnet-1 (R123 to R126): generator, systematic encoder, and a decoder
that corrects errors and erasures up to the bound of R125. -/

namespace Sys2Proof.Machine

/-- The product before reduction (R123). -/
def gfCarryless (a b : Nat) : Nat :=
  (List.range 8).foldl (fun p i => if bitAt b i then p ^^^ (a <<< i) else p) 0

/-- Multiplication in GF(2^8) with the polynomial 0x11D (R123). -/
def gfMul (a b : Byte) : Byte :=
  byte ([14, 13, 12, 11, 10, 9, 8].foldl (fun p i => if bitAt p i then p ^^^ (0x11D <<< (i - 8)) else p)
    (gfCarryless a.toNat b.toNat))

/-- a^n in GF(2^8). -/
def gfPow (a : Byte) : Nat → Byte
  | 0 => 1
  | n + 1 => gfMul a (gfPow a n)

/-- α^n, α = 0x02 (R123). -/
def gfAlpha (n : Nat) : Byte := gfPow 2 (n % 255)

/-- The inverse of a nonzero element. -/
def gfInv (a : Byte) : Byte := gfPow a 254

/-- The coefficients g[0..p] of the generator of a code with p parity bytes, g[0] = 1 (R124). -/
def rsGenerator : Nat → List Byte
  | 0 => [1]
  | p + 1 =>
    let g := rsGenerator p
    List.zipWith (fun a b => a ^^^ b) (g ++ [0]) (0 :: g.map (fun c => gfMul c (gfAlpha p)))

/-- One message byte through the parity register (R125). -/
def rsShift (g : List Byte) (par : List Byte) (m : Byte) : List Byte :=
  let fb := m ^^^ par.headD 0
  List.zipWith (fun a c => a ^^^ gfMul fb c) (par.tail ++ [0]) g.tail

/-- The p parity bytes of a message (R125). -/
def rsParity (p : Nat) (m : List Byte) : List Byte := m.foldl (rsShift (rsGenerator p)) (zeros p)

/-- The codeword of a message (R125). -/
def rsEncode (p : Nat) (m : List Byte) : List Byte := m ++ rsParity p m

/-- The value at `x` of a polynomial given from its highest coefficient. -/
def gfEval (l : List Byte) (x : Byte) : Byte := l.foldl (fun a c => gfMul a x ^^^ c) 0

/-- The value at `x` of a polynomial given from its lowest coefficient. -/
def gfEvalLow (l : List Byte) (x : Byte) : Byte := gfEval l.reverse x

/-- c(α^i) for i = 0 to p − 1: all 0 exactly for a codeword (R125). -/
def rsSyndromes (p : Nat) (c : List Byte) : List Byte := (List.range p).map (fun i => gfEval c (gfAlpha i))

/-- The word is a codeword (R125). -/
def rsValid (p : Nat) (c : List Byte) : Bool := (rsSyndromes p c).all (fun x => decide (x = 0))

/-- The sum of two polynomials, lowest coefficient first. -/
def gfAddPoly : List Byte → List Byte → List Byte
  | [], q => q
  | p, [] => p
  | a :: p, b :: q => (a ^^^ b) :: gfAddPoly p q

/-- A polynomial times a constant. -/
def gfScale (c : Byte) (p : List Byte) : List Byte := p.map (gfMul c)

/-- The product of two polynomials, lowest coefficient first. -/
def gfMulPoly : List Byte → List Byte → List Byte
  | [], _ => []
  | a :: p, q => gfAddPoly (gfScale a q) (0 :: gfMulPoly p q)

/-- The discrepancy of step k of the search for the locator. -/
def rsDiscrepancy (syn lam : List Byte) (k : Nat) : Byte :=
  (List.range lam.length).foldl
    (fun a i => if i ≤ k then a ^^^ gfMul (lam.getD i 0) (syn.getD (k - i) 0) else a) 0

/-- The search for the locator of errors and erasures, from the locator of the f erasures (Berlekamp and Massey):
`fuel` steps from step k. -/
def rsLocator (syn : List Byte) (f : Nat) : Nat → Nat → Nat → List Byte → List Byte → List Byte
  | 0, _, _, lam, _ => lam
  | fuel + 1, k, len, lam, b =>
    let d := rsDiscrepancy syn lam k
    let xb := 0 :: b
    if d = 0 then rsLocator syn f fuel (k + 1) len lam xb
    else if 2 * len ≤ k + f then
      rsLocator syn f fuel (k + 1) (k + 1 + f - len) (gfAddPoly lam (gfScale d xb)) (gfScale (gfInv d) lam)
    else rsLocator syn f fuel (k + 1) len (gfAddPoly lam (gfScale d xb)) xb

/-- The formal derivative of a polynomial, lowest coefficient first, in characteristic 2. -/
def gfDeriv (p : List Byte) : List Byte :=
  (List.range (p.length - 1)).map (fun i => if i % 2 = 0 then p.getD (i + 1) 0 else 0)

/-- The correction that the locator and the syndromes give for byte i of a word of n bytes. -/
def rsCorrection (n p : Nat) (syn lam : List Byte) (i : Nat) : Byte :=
  let x := gfAlpha (n - 1 - i)
  let xi := gfInv x
  if gfEvalLow lam xi = 0 then
    gfMul x (gfMul (gfEvalLow ((gfMulPoly syn lam).take p) xi) (gfInv (gfEvalLow (gfDeriv lam) xi)))
  else 0

/-- The codeword within the bound 2e + f ≤ p of the received word, where there is one (R125): `erased` lists the f erased
places, e counts the changed bytes at other places. -/
def rsDecode (p : Nat) (c : List Byte) (erased : List Nat) : Option (List Byte) :=
  let n := c.length
  let f := erased.length
  if p < f then none
  else
    let syn := rsSyndromes p c
    let gam := erased.foldl (fun g i => gfMulPoly g [1, gfAlpha (n - 1 - i)]) [1]
    let lam := rsLocator syn f (p - f) f f gam gam
    let fixed := List.zipWith (fun i b => b ^^^ rsCorrection n p syn lam i) (List.range n) c
    let errs := (List.range n).filter (fun i => decide (c.getD i 0 ≠ fixed.getD i 0) && !erased.contains i)
    if rsValid p fixed && decide (2 * errs.length + f ≤ p) then some fixed else none

end Sys2Proof.Machine
end

