-- ==== Sys2Proof/Machine/Format.lean ====
section
/-! DEFINITION. The tape format: format section and identity (R147, R285, R286), the trick's user area (R67, R138), facets,
headers and codes (R126 to R131), placement (R139 to R143), Pavé modulation (R132 to R135). -/

namespace Sys2Proof.Machine

/-- The parameters of a format section (Table 13-3). -/
structure Fmt where
  /-- FAMILY -/
  family : Nat
  /-- N_T -/
  nT : Nat
  /-- N_S -/
  nS : Nat
  /-- N_B -/
  nB : Nat
  /-- N_F -/
  nF : Nat
  /-- p2 -/
  p2 : Nat
  /-- n1 -/
  n1 : Nat
  /-- p1 -/
  p1 : Nat
  /-- Pavé set -/
  pave : Nat
  /-- HAND -/
  hand : Nat
  /-- p3 -/
  p3 : Nat
  /-- R_H -/
  rh : Nat
  /-- C4: 0 off, 1 3+1, 2 2+2 -/
  c4 : Nat
  /-- DIR_EN -/
  dirEn : Bool
  /-- GAP_UM -/
  gapUm : Nat
  /-- LOCK_TOL -/
  lockTol : Nat
  /-- OFFTRACK_TOL -/
  offTol : Nat
  /-- WRAPS -/
  wraps : Nat
  deriving DecidableEq, Repr, Inhabited

/-- The parameters that a format section holds (Table 13-3). -/
def fmtOf (b : List Byte) : Fmt :=
  { family := leAt b 0 4, nT := leAt b 4 2, nS := leAt b 6 1, nB := leAt b 7 1, nF := leAt b 8 1, p2 := leAt b 9 1,
    n1 := leAt b 10 1, p1 := leAt b 11 1, pave := leAt b 12 1, hand := leAt b 13 1, p3 := leAt b 14 1, rh := leAt b 15 1,
    c4 := leAt b 16 1, dirEn := decide (leAt b 17 1 = 1), gapUm := leAt b 18 2, lockTol := leAt b 20 1,
    offTol := leAt b 21 1, wraps := leAt b 22 2 }

/-- Lateral offset of wrap w, in 1/32 of the track pitch (Table 13-3). -/
def wrapOffset (b : List Byte) (w : Nat) : Int := signed 32 (leAt b (28 + 4 * w) 4)

/-- The format in force on a deck. -/
def deckFmt (s : State) (d : Nat) : Fmt := fmtOf (deckFormat s d)

/-- G of R147. -/
def Fmt.groups (f : Fmt) : Nat := f.nT / f.nF

/-- Tiles of a trick (R147). -/
def Fmt.tiles (f : Fmt) : Nat := f.groups * f.nS

/-- Data bytes of a facet (R147). -/
def Fmt.facetData (f : Fmt) : Nat := f.n1 - f.p1

/-- Message facets of a tile (R147). -/
def Fmt.msgFacets (f : Fmt) : Nat := f.nF - f.p2

/-- User bytes of a tile (R147). -/
def Fmt.tileBytes (f : Fmt) : Nat := f.msgFacets * f.facetData

/-- U: user bytes of a trick (R147). -/
def Fmt.userBytes (f : Fmt) : Nat := f.tiles * f.tileBytes

/-- T: bytes of a hand trailer (R152). -/
def Fmt.trailerBytes (f : Fmt) : Nat := min 262144 (32 * (f.userBytes / 128))

/-- Facet slots of a track in a trick (R137). -/
def Fmt.slots (f : Fmt) : Nat := f.nS + f.nB

/-- Modulated words of a facet body (R147). -/
def Fmt.bodyWords (f : Fmt) : Nat := (12 + f.n1) / 4

/-- Channel bits of a facet on its track (R147). -/
def Fmt.facetBits (f : Fmt) : Nat := 33 * (f.bodyWords + 1)

/-- Channel bits of a trick on each track (R146). -/
def Fmt.trickBits (f : Fmt) : Nat := f.slots * f.facetBits

/-- Most data tricks of a hand (R285). -/
def Fmt.fullHand (f : Fmt) : Nat := f.hand - f.p3

/-- q of R152: parity tricks that carry a trailer copy. -/
def Fmt.trailerCopies (f : Fmt) : Nat := max 1 (f.p3 / 2)

/-- Track and slot of facet j of tile t (R139). -/
def Fmt.place (f : Fmt) (t j : Nat) : Nat × Nat := (f.groups * j + t / f.nS, (t % f.nS + j) % f.nS)

/-- Tile and facet in slot q of track n (R139). -/
def Fmt.facetAt (f : Fmt) (n q : Nat) : Nat × Nat :=
  (f.nS * (n % f.groups) + (q + f.nS * f.nT - n / f.groups) % f.nS, n / f.groups)

/-! ### User areas -/

/-- One entry of a trick table, big-endian (Table 03-3). -/
def tableEntry (kind : Nat) (first last : Bool) (stream bsn : Word) (off len : Nat) : List Byte :=
  byte (kind * 16 + bit first * 8 + bit last * 4) :: 0 :: (be 4 stream.toNat ++ be 4 bsn.toNat ++ be 3 off ++ be 3 len)

/-- The trick table entries of content entries whose data begin at offset `off`, and the offset after them (R67). -/
def tableEntries : Nat → List Entry → List Byte
  | _, [] => []
  | off, e :: l =>
    (if e.kind = 2 then tableEntry 2 false false e.stream e.bsn 0 e.count
     else tableEntry e.kind e.first e.last e.stream e.bsn off e.data.length) ++ tableEntries (off + e.data.length) l

/-- Data bytes of content entries. -/
def entryBytes (l : List Entry) : Nat := (l.map (fun e => e.data.length)).sum

/-- The user area of U bytes that content entries make: trick table, filler entry, data region, filler (R67, R69). -/
def userArea (u : Nat) (l : List Entry) : List Byte :=
  let start := 2 + 16 * (l.length + 1)
  let d := entryBytes l
  padTo u (be 2 (l.length + 1) ++ tableEntries start l ++ tableEntry 3 false false 0 0 (start + d) (u - start - d)
    ++ l.flatMap (fun e => e.data))

/-- The user area of a trick; empty for a trick without tiles (R140). -/
def Trick.user (t : Trick) : List Byte :=
  let u := (fmtOf t.format).userBytes
  match t.body with
  | .data l => userArea u l
  | .c3 _ b => padTo u b
  | .c4 b => padTo u b
  | .special _ b => padTo u b
  | .rewriteOnly => []
  | .runIn => []

/-! ### Codes of a tile (R126) -/

/-- The data bytes of facets 0 to N_F − 1 of tile t: message facets, then C2 parity facets (R126, R138). -/
def tileFacets (f : Fmt) (user : List Byte) (t : Nat) : List (List Byte) :=
  let k := f.facetData
  let msg := chunks k (slice user (t * f.tileBytes) f.tileBytes)
  let par := (List.range k).map (fun b => rsParity f.p2 (msg.map (fun m => m.getD b 0)))
  msg ++ (List.range f.p2).map (fun j => par.map (fun p => p.getD j 0))

/-- The code bytes of a facet: data bytes and C1 parity (R126). -/
def codeBytes (f : Fmt) (data : List Byte) : List Byte := rsEncode f.p1 data

/-! ### Facets -/

/-- A facet header (Table 06-2). -/
def facetHeader (type flags trick tile : Nat) (rewrite : Bool) (facet deck part fb : Nat) : List Byte :=
  let h := byte (type * 16 + flags) :: be 5 trick ++ [byte tile, byte (bit rewrite * 128 + facet), byte (deck * 64 + part), byte fb]
  h ++ be 2 (crc16 h)

/-- NONE (R128). -/
def noTrick : Nat := 0xFFFFFFFFFF

/-- A filler facet with FLAGS as given (R131). -/
def fillerBody (f : Fmt) (flags deck part fb : Nat) : List Byte :=
  facetHeader 5 flags noTrick 0 false 0 deck part fb ++ zeros f.n1

/-- TYPE of the message facets of a trick (Table 06-8). -/
def Trick.msgType (t : Trick) : Nat :=
  match t.body with
  | .data _ => 1
  | .c3 _ _ => 3
  | .c4 _ => 4
  | .special ty _ => ty
  | .rewriteOnly | .runIn => 5

/-- The body of facet j of tile t of a trick with tiles; `rewrite` for a copy, `rwOnly` for one in a rewrite-only trick (R128,
R141 to R143). -/
def Trick.facet (t : Trick) (rewrite rwOnly : Bool) (tile j : Nat) : List Byte :=
  let f := fmtOf t.format
  let ty := if j < f.msgFacets then t.msgType else 2
  facetHeader ty (bit t.isRepeat * 8 + bit rwOnly * 4) t.number tile rewrite j t.deck t.partition (formatByte t.format)
    ++ codeBytes f ((tileFacets f t.user tile).getD j [])

/-- The copy that a trick carries at a track and slot (R184). -/
def Trick.copyAt (t : Trick) (n q : Nat) : Option Rewrite := (t.copies.find? (fun c => c.1 == (n, q))).map (fun c => c.2)

/-- The body that a trick carries in slot q of track n; `srcs` are the tricks whose facets may be copied (R140 to R143). A copy of a facet of
a repeat carries REPEAT (R129, R141). -/
def Trick.slotBody (srcs : List Trick) (t : Trick) (n q : Nat) : List Byte :=
  let f := fmtOf t.format
  let fb := formatByte t.format
  let copy := fun (rwOnly : Bool) (flags : Nat) =>
    match t.copyAt n q with
    | some r =>
      match srcs.find? (fun x => x.image == r.image) with
      | some x => { x with isRepeat := r.ofRepeat }.facet true rwOnly r.tile r.facet
      | none => fillerBody f flags t.deck t.partition fb
    | none => fillerBody f flags t.deck t.partition fb
  match t.body with
  | .rewriteOnly => copy true 4
  | .runIn => fillerBody f 2 t.deck t.partition fb
  | _ =>
    if q < f.nS then
      let p := f.facetAt n q
      t.facet false false p.1 p.2
    else copy false 0

/-! ### Pavé modulation -/

/-- M1 of a Pavé set (Table 06-5). -/
def paveMask (set : Nat) : Nat := if set < 2 then 0xAAAAAAAA else 0x55555555

/-- Sync word of a Pavé set, bit 32 first (Table 06-5). -/
def paveSync (set : Nat) : Nat := if set % 2 = 0 then 0xFFFF0000 else 0x0000FFFF

/-- The longest run of equal bits: the run under way and the longest so far (R134). -/
def longestRun : Option Bool → Nat → Nat → List Bool → Nat
  | _, _, best, [] => best
  | prev, cur, best, b :: l =>
    let c := if prev = some b then cur + 1 else 1
    longestRun (some b) c (max best c) l

/-- run(x) of R134. -/
def runOf (x : Nat) : Nat := longestRun none 0 0 (bitsMsb 32 x)

/-- The 33 channel bits of a scrambled word (R134). -/
def channelWord (set w : Nat) : List Bool :=
  let v := w ^^^ paveMask set
  if runOf v < runOf w then true :: bitsMsb 32 v else false :: bitsMsb 32 w

/-- The channel bits of a facet on track n: sync word, then the modulated words of its body (R127, R132 to R135). -/
def facetChannel (f : Fmt) (n : Nat) (body : List Byte) : List Bool :=
  let ws := (chunks 4 body).map beVal
  bitsMsb 33 (paveSync f.pave)
    ++ (List.zipWith (fun w k => channelWord f.pave (w ^^^ k)) ws (trackKeys n ws.length)).flatten

/-- The body that 33-bit channel words on track n spell (R134). -/
def demodulate (f : Fmt) (n : Nat) (bits : List Bool) : List Byte :=
  let ws := (chunks 33 bits).map (fun c => natOfBits (c.drop 1) ^^^ (if c.headD false then paveMask f.pave else 0))
  (List.zipWith (fun w k => be 4 (w ^^^ k)) ws (trackKeys n ws.length)).flatten

end Sys2Proof.Machine
end

