-- ==== Sys2Proof/Machine/Blocks.lean ====
section
/-! DEFINITION. The write path from the Cutter's input to the Dealer: block formation (R80 to R83), key latches (R107, R108),
failing blocks (R108, R116), sealing (R103 to R106), items yielded (R66). -/

namespace Sys2Proof.Machine

/-! ### The Cutter section and options of a context -/

/-- The Cutter section in force for a context: LIMIT, predictor set, VERSION written (R83, R294). -/
def ctxCutter (s : State) (n : Nat) : Nat × Nat × Nat :=
  match (s.ctxAt n).oldCutter with
  | some c => c
  | none =>
    match s.img.inForce with
    | some i => (i.limit, i.predSet, i.version)
    | none => (262144, 15, 1)

/-- The VERSIONs that check 1 of Table 04-4 accepts. -/
def blockVersions (s : State) : List Nat :=
  match s.img.inForce with
  | some i => i.versions
  | none => [1]

/-- LIMIT under BLOCK_SIZE b of an options word (CTX_CUT_OPTIONS). -/
def limitUnder (b limit : Nat) : Nat := if b = 0 then limit else min (b * 16384) limit

/-- CTX_CUT_OPTIONS. -/
def cutOptions (s : State) (n : Nat) : Word := s.reg (Reg.ctxCutOptions n)

/-- LIMIT of a context's blocks. -/
def ctxLimit (s : State) (n : Nat) : Nat := limitUnder (getBits (cutOptions s n) Fld.ctxCutOptionsBlockSize) (ctxCutter s n).1

/-- SPAN of a context (R82). -/
def ctxSpan (s : State) (n : Nat) : Bool := s.flag (Reg.ctxCutOptions n) Fld.ctxCutOptionsSpan

/-! ### Block formation -/

/-- What form_block has taken so far (R81). -/
structure Forming where
  /-- D so far -/
  data : List Byte := []
  /-- lengths of the pieces that end in the block -/
  ends : List Nat := []
  /-- task of each of those pieces -/
  endTasks : List Nat := []
  /-- tasks with bytes in the block -/
  tasks : List Nat := []
  /-- WRITEs whose last record is in the block -/
  ending : List Nat := []
  /-- pass items met, which close nothing (Table 03-2) -/
  passes : List InItem := []
  /-- closed by an item other than record data (LAST) -/
  last : Bool := false
  /-- that item was a mark (MARK_FOLLOWS) -/
  mark : Bool := false
  deriving DecidableEq, Repr, Inhabited

/-- `l` with `x` at its end unless it is there. -/
def addNew {α : Type} [BEq α] (x : α) (l : List α) : List α := if l.contains x then l else l ++ [x]

/-- form_block of R81 over the items at the Cutter's input: the block formed and the items left; none while the next item is
not known. -/
def formWalk (limit : Nat) (span : Bool) : Forming → List InItem → Option (Forming × List InItem)
  | _, [] => none
  | a, .data b begun t :: l =>
    if a.ends.length < 65535 && decide (a.data.length + b.length + listCost (a.ends ++ [b.length]) ≤ limit) then
      formWalk limit span
        { a with data := a.data ++ b, ends := a.ends ++ [b.length], endTasks := a.endTasks ++ [t], tasks := addNew t a.tasks } l
    else
      let take := min (b.length - 1) (limit - a.data.length - listCost a.ends)
      if a.ends.length < 65535 && decide (0 < take) then
        some ({ a with data := a.data ++ b.take take, tasks := addNew t a.tasks }, .data (b.drop take) true t :: l)
      else some (a, .data b begun t :: l)
  | a, .endWrite t :: l =>
    if span then formWalk limit span { a with ending := a.ending ++ [t] } l
    else some ({ a with ending := a.ending ++ [t], last := true }, l)
  | a, .pass c t :: l => formWalk limit span { a with passes := a.passes ++ [.pass c t] } l
  | a, .mark c t :: l => some ({ a with last := true, mark := true }, .mark c t :: l)
  | a, .flush t :: l => some ({ a with last := true }, .flush t :: l)
  | a, .sync t :: l => some ({ a with last := true }, .sync t :: l)

/-- The first item but passes is record data: a block is open (R80, R107). -/
def blockOpen : List InItem → Bool
  | .pass _ _ :: l => blockOpen l
  | .data _ _ _ :: _ => true
  | _ => false

/-- The open block begins inside a record (CONT). -/
def startsInside : List InItem → Bool
  | .pass _ _ :: l => startsInside l
  | .data _ begun _ :: _ => begun
  | _ => false

/-- The task of the open block's first byte. -/
def openTask : List InItem → Option Nat
  | .pass _ _ :: l => openTask l
  | .data _ _ t :: _ => some t
  | _ => none

/-! ### Key latches -/

/-- The contexts that latched the slot since its last LOAD give SHARED_SLOT where there are two, on the table to which each of them was bound
as it latched (Table 10-3). -/
def sharedSlot (users : List (Nat × Option Nat)) (s : State) : State :=
  if ((users.map (fun u => u.1)).dedup).length < 2 then s
  else forEach users (fun u a => match u.2 with
    | some t => setGuarantee (t / 64) (t % 64) 2 a
    | none => a) s

/-- What a block of context n latches now (R107, R108, Table 05-4), and the slot after it. -/
def latchKey (n : Nat) (s : State) : Latch × State :=
  let k := s.fld (Reg.ctxKey n) Fld.ctxKeyKeySlot
  let v := s.keyAt k
  if v.state = 1 then
    let l : Latch := { slot := k, key := v.key, salt := v.salt, label := v.label, ctr := v.next, stream := streamId s n, bad := none }
    let users := addNew (n, if bound s n then some (64 * bindDeck s n + bindPart s n) else none) v.users
    let last := decide (v.next = BitVec.allOnes 64)
    let s1 := s.putKey k { v with next := v.next + 1, users := users, state := if last then 2 else 1, alerted := v.alerted || last }
    let s2 := if last && !v.alerted then raise 320 [word k] s1 else s1
    (l, sharedSlot users s2)
  else ({ slot := k, stream := streamId s n, bad := some (if v.state = 2 then 0x15 else 0x16) }, s)

/-- The open block of context n latches its key if it has not (R107). -/
def latchOpen (n : Nat) (s : State) : State :=
  let c := s.ctxAt n
  if c.openLatch.isNone && blockOpen c.inq then
    let r := latchKey n s
    r.2.onCtx n (fun c => { c with openLatch := some r.1 })
  else s

/-! ### Failing blocks -/

/-- The reads of a task bring data that nobody wants any more. -/
def dropReads (n q : Nat) (s : State) : State :=
  let l := { s.lnk with reads := s.lnk.reads.map (fun r => if r.owner == (n, q) then { r with owner := (4097, 0) } else r) }
  { s with lnk := l }

/-- A task back at its beginning (R116). -/
def Task.again (t : Task) : Task :=
  { t with stage := .waiting, committed := false, lost := false, ranges := [], got := [], fetched := 0, checked := false, objs := 0, first := 0, waitRounds := [],
           cutEpochs := [], fmtEpochs := [] }

/-- The task is under way: begun and not done. -/
def Task.busy (t : Task) : Bool := !t.waits && !t.isDone

/-- Every task of context n after task q that is under way starts again from its beginning (R108, R116). -/
def restartAfter (n q : Nat) (s : State) : State :=
  let l := (s.ctxAt n).tasks.filter (fun t => decide (q < t.seq) && t.busy)
  forEach l (fun t a => (dropReads n t.seq a).onTask n t.seq Task.again) s

/-- Work of context n leaves the write queue. -/
def unqueue (n : Nat) (s : State) : State :=
  let q := s.cut.writeQ.filter (fun w => match w with
    | .write c _ => c != n
    | _ => true)
  { s with cut := { s.cut with writeQ := q } }

/-- Every block of context n not yet sealed, and everything at its Cutter input, is discarded. -/
def discardUnsealed (n : Nat) (s : State) : State :=
  (unqueue n s).onCtx n (fun c => { c with blocks := [], inq := [], openLatch := none, fetchStopped := false })

/-- Task q of context n ends with `c`; later blocks and items of the context are discarded and later tasks start again (R108,
R116). -/
def failFrom (n q : Nat) (c : Completion) (s : State) : State :=
  restartAfter n q (discardUnsealed n (finish n q c (dropReads n q s)))

/-- The first failing block of a context, where no sealed block is still due before it: its task, status and slot. -/
def failingHead (c : Context) : Option (Nat × BitVec 16 × Nat) :=
  match c.blocks with
  | b :: _ => b.latch.bad.bind (fun code => b.tasks.head?.map (fun q => (q, code, b.latch.slot)))
  | [] => c.openLatch.bind (fun l => l.bad.bind (fun code => (openTask c.inq).map (fun q => (q, code, l.slot))))

/-- The block next to be sealed of context n fails where its latch failed or was erased: its task completes KEY_EXHAUSTED or
KEY_ZEROIZED (R108, R116, R45). -/
def settleHead (n : Nat) (s : State) : State :=
  match failingHead (s.ctxAt n) with
  | some (q, code, slot) =>
    let objs := (((s.ctxAt n).task q).map (fun t => t.objs)).getD 0
    failFrom n q { status := code, info0 := BitVec.ofNat 64 objs, info2 := word slot } s
  | none => s

/-! ### Items yielded to the Dealer -/

/-- The START of a truncation that the next item of a stream is the first after (R156), and the table without it. -/
def takeTrunc (t : Table) (sid : Word) : Option Nat × Table :=
  match t.truncPending.find? (fun e => e.1 == sid.toNat) with
  | some e => (some e.2, { t with truncPending := t.truncPending.filter (fun x => x.1 != sid.toNat) })
  | none => (none, t)

/-- A mark item of task q is handed to the Dealer: its objects take their numbers and the task completes (R52, R66, R175). -/
def yieldMark (n q count : Nat) (s : State) : State :=
  let d := bindDeck s n
  let p := bindPart s n
  let sid := streamId s n
  let r := takeTrunc (s.tableAt d p) sid
  let st := r.2.stream sid
  let tb := r.2.onStream sid (fun x => { x with objects := x.objects + count, ctx := n })
  let s1 := s.putTable d p { tb with items := tb.items ++ [.mark n sid st.nextBsn st.objects count q r.1] }
  let s2 := s1.onTask n q (fun t => { t with committed := true, first := st.objects, objs := count })
  finish n q (result2 1 st.objects count) (setPosition n (st.objects + count) s2)

/-- An item without objects is handed to the Dealer. -/
def yieldPlain (n : Nat) (i : Item) (s : State) : State :=
  s.onTable (bindDeck s n) (bindPart s n) (fun t => { t with items := t.items ++ [i] })

/-- A PASS goes to the Dealer and completes. -/
def yieldPass (n k q : Nat) (s : State) : State := finish n q (status 0) (yieldPlain n (.pass n k q) s)

/-- The PASS items that stand before a block go to the Dealer once the blocks before it have been sealed (R66). -/
def yieldBefore (n : Nat) (s : State) : State :=
  match (s.ctxAt n).blocks with
  | b :: l =>
    forEach b.before (fun i a => match i with
      | .pass k q => yieldPass n k q a
      | _ => a) (s.onCtx n (fun c => { c with blocks := { b with before := [] } :: l }))
  | [] => s

/-- The items at the head of the Cutter's input that are not record data go to the Dealer, once every block before them has
been sealed (R66, R80). A FLUSH and a PASS complete there; a SYNC waits (R75). -/
def yieldHeads (n : Nat) : Nat → State → State
  | 0, s => s
  | fuel + 1, s =>
    let c := s.ctxAt n
    if c.blocks.isEmpty then
      match c.inq with
      | .mark k q :: l => yieldHeads n fuel (yieldMark n q k (s.putCtx n { c with inq := l }))
      | .flush q :: l => yieldHeads n fuel (finish n q (status 0) (yieldPlain n (.flush n q) (s.putCtx n { c with inq := l })))
      | .sync q :: l => yieldHeads n fuel (yieldPlain n (.sync n q) (s.putCtx n { c with inq := l }))
      | .pass k q :: l => yieldHeads n fuel (yieldPass n k q (s.putCtx n { c with inq := l }))
      | .endWrite _ :: l => yieldHeads n fuel (s.putCtx n { c with inq := l })
      | _ => s
    else yieldBefore n s

/-- The Cutter input of context n has changed: items that wait for no block go on, a block that is now open latches its key,
and one that cannot be sealed fails. -/
def advanceInput (n : Nat) (s : State) : State :=
  settleHead n (latchOpen n (yieldHeads n ((s.ctxAt n).inq.length + 1) s))

/-- Items join the Cutter's input of context n, in task order (R66). -/
def pushInput (n : Nat) (l : List InItem) (s : State) : State :=
  advanceInput n (s.onCtx n (fun c => { c with inq := c.inq ++ l }))

/-! ### Closing blocks -/

/-- Event 437 when the last pending epoch of the activation has taken effect (R294). -/
def settleActivation (s : State) : State :=
  if s.img.staged.isSome && s.img.deckPending.isEmpty && s.ctx.all (fun e => e.2.oldCutter.isNone)
      && s.loops.all (fun e => e.2.newChain.isNone) then
    raise 437 [] { s with img := { s.img with staged := none } }
  else s

/-- A deferred Cutter epoch of context n takes effect: CTX_EPOCH counts it and event 434 reports it (R294). It is not quiet, so
EPOCH of its table is set (R226). -/
def takeCutterEpoch (n : Nat) (s : State) : State :=
  let s1 := s.onCtx n (fun c => { c with oldCutter := none, epochDue := false })
  let s2 := raise 434 [] (s1.incFld (Reg.ctxEpoch n) Fld.ctxEpochCount 1)
  settleActivation (if bound s2 n then setGuarantee (bindDeck s2 n) (bindPart s2 n) 5 s2 else s2)

/-- A Cutter epoch of context n that is due takes effect. -/
def dueEpoch (n : Nat) (s : State) : State := if (s.ctxAt n).epochDue then takeCutterEpoch n s else s

/-- The PASS items at the head of the Cutter's input. -/
def leadingPasses : List InItem → List InItem
  | .pass k q :: l => .pass k q :: leadingPasses l
  | _ => []

/-- The open block of context n closes where R81 lets it and waits for an engine (R101). A PASS that stands before the block's first byte
stays before it in the stream; one met inside it follows it. -/
def closeBlock (n : Nat) (s0 : State) : State :=
  let s := latchOpen n (dueEpoch n s0)
  let c := s.ctxAt n
  if blockOpen c.inq then
    match formWalk (ctxLimit s n) (ctxSpan s n) {} c.inq with
    | some (f, rest) =>
      let k := ctxCutter s n
      let before := leadingPasses c.inq
      let b : Block :=
        { data := f.data, ends := f.ends, endTasks := f.endTasks, tasks := f.tasks, ending := f.ending, cont := startsInside c.inq
          last := f.last, markFollows := f.mark, options := cutOptions s n, limit := ctxLimit s n, predSet := k.2.1, version := k.2.2
          id := c.formed, epoch := (s.reg (Reg.ctxEpoch n)).toNat, latch := c.openLatch.getD {}, before := before }
      let c1 := { c with inq := f.passes.drop before.length ++ rest, blocks := c.blocks ++ [b], openLatch := none, formed := c.formed + 1,
                         epochDue := c.epochDue || c.oldCutter.isSome }
      let s1 := s.putCtx n c1
      let s2 := { s1 with cut := { s1.cut with writeQ := s1.cut.writeQ ++ [.write n b.id] } }
      settleHead n (latchOpen n s2)
    | none => s
  else s

/-! ### Sealing -/

/-- The IV of a latch (R105). -/
def sealIv (salt : Word) (ctr : BitVec 64) : List Byte := be 4 salt.toNat ++ be 8 ctr.toNat

/-- The additional data of a block header, stream identifier and key label (R106). -/
def sealAad (header : List Byte) (stream : Word) (label : BitVec 64) : List Byte :=
  header ++ be 4 stream.toNat ++ be 8 label.toNat

/-- The sealed block of a compressed block under a latch (R103 to R106). -/
def sealBytes (l : Latch) (block : List Byte) : List Byte :=
  let h := block.take 32
  let r := gcmSeal l.key (sealIv l.salt l.ctr) (sealAad h l.stream l.label) (block.drop 32)
  h ++ r.1 ++ r.2

/-- A WRITE's record of what it has sealed: object `obj` is one more of its records (R45). -/
def Task.countObject (obj : Nat) (t : Task) : Task :=
  { t with objs := t.objs + 1, first := if t.objs = 0 then obj else t.first }

/-- Every WRITE with bytes in the block is past its commit point (R52) and has used the block's Cutter section (R295). -/
def commitTasks (n : Nat) (b : Block) (s : State) : State :=
  forEach b.tasks (fun q a => a.onTask n q (fun t => { t with committed := true, cutEpochs := addNew b.epoch t.cutEpochs })) s

/-- The objects that end in the block are counted for their WRITEs, numbered from `obj` (R45). -/
def countObjects (n : Nat) : Nat → List Nat → State → State
  | _, [], s => s
  | obj, q :: l, s => countObjects n (obj + 1) l (s.onTask n q (Task.countObject obj))

/-- The WRITEs whose last record the block holds have done their work (R82). -/
def finishWrites (n : Nat) (l : List Nat) (s : State) : State :=
  forEach l (fun q a =>
    match (a.ctxAt n).task q with
    | some t => finish n q (result2 1 t.first t.objs) a
    | none => a) s

/-- The meters that sealing adds to (Table 18-5). -/
def meterSeal (n host sealedLen : Nat) (s : State) : State :=
  s.onCtx n (fun c => { c with hostBytes := c.hostBytes + BitVec.ofNat 64 host, sealedBytes := c.sealedBytes + BitVec.ofNat 64 sealedLen,
                               metersChanged := true })

/-- A block of the table waits for chips of the SEALED pool k before it is sealed: event 341 once for each wait; packing, which frees such
chips, goes on (R72, R73). -/
def waitSealed (d p k : Nat) (s : State) : State :=
  if (s.tableAt d p).sealWait.any (fun x => x.1 == k) then s
  else raise 341 [word d, word k] (s.onTable d p (fun t => { t with sealWait := some (waitMark s k) }))

/-- A Dealer allocation of the table waits on pool k: event 341 once for each wait (R73). -/
def waitPool (d p k : Nat) (s : State) : State :=
  if (s.tableAt d p).poolWait.any (fun x => x.1 == k) then s
  else raise 341 [word d, word k] (s.onTable d p (fun t => { t with poolWait := some (waitMark s k) }))

/-- The coded block `code` at the head of context n is sealed, takes its BSN and object numbers, and goes to the Dealer (R68,
R79, R103, R107). -/
def sealHead (n : Nat) (b : Block) (code : List Byte) (chips : List Nat) (s : State) : State :=
  let d := bindDeck s n
  let p := bindPart s n
  let sid := b.latch.stream
  let bytes := sealBytes b.latch code
  let r := takeTrunc (s.tableAt d p) sid
  let st := r.2.stream sid
  let nrec := b.ends.length
  let x : Sealed :=
    { bytes := bytes, ctx := n, stream := sid, bsn := st.nextBsn, label := b.latch.label, salt := b.latch.salt, ctr := b.latch.ctr
      firstObj := st.objects, nrec := nrec, chips := chips, tasks := b.tasks, trunc := r.1 }
  let tb := r.2.onStream sid (fun y => { y with objects := y.objects + nrec, nextBsn := y.nextBsn + 1, ctx := n })
  let s1 := s.putTable d p { tb with items := tb.items ++ [.block x 0] }
  let s2 := s1.onCtx n (fun c => { c with blocks := c.blocks.drop 1 })
  let s3 := countObjects n st.objects b.endTasks (commitTasks n b s2)
  let s4 := (setPosition n (st.objects + nrec) (meterSeal n b.data.length bytes.length s3)).onDeck d (fun k =>
    { k with motion := { k.motion with arrived := k.motion.arrived + bytes.length } })
  advanceInput n (finishWrites n b.ending s4)

/-- The block at the head of context n is sealed where it has been coded; one outside the length limits is recoded, on whichever engine is
free next, with event 324 (R95, R111), and one for which the pool has no chips waits (R73). -/
def sealNextBlock (n : Nat) (s0 : State) : State :=
  let s := settleHead n s0
  match (s.ctxAt n).blocks with
  | b :: l =>
    match b.stage with
    | .coded code =>
      if 262176 < code.length then
        let s1 := s.onCtx n (fun c => { c with blocks := { b with stage := .queued } :: l })
        raise 324 [] { s1 with cut := { s1.cut with writeQ := .write n b.id :: s1.cut.writeQ } }
      else
        let d := bindDeck s n
        let k := sealedPool s d
        let r := allocate (chipsFor (code.length + 16)) k 1 n s
        match r.1 with
        | some chips => sealHead n b code chips (r.2.onTable d (bindPart s n) (fun t => { t with sealWait := none }))
        | none => waitSealed d (bindPart s n) k r.2
    | _ => s
  | [] => s

end Sys2Proof.Machine
end

