-- ==== Sys2Proof/Machine/Keys.lean ====
section
/-! DEFINITION. The key store (R113 to R117): commands, clear-all, the blocks and opens that a zeroise fails; the end of a READ
and its zero-fill (R118). -/

namespace Sys2Proof.Machine

/-! ### The end of a READ -/

/-- Zeros over every destination range and every LEN_ADDR entry of a READ (R118). -/
def zeroFill (r : Reader) (s : State) : State :=
  hostWrite r.lens.1 (zeros (4 * r.lens.2)) (forEach r.dests (fun x a => hostWrite x.1 (zeros x.2) a) s)

/-- An engine's work is given up: no engine goes on with it, and it leaves its queue. -/
def haltEngines (w : EngineWork) (s : State) : State :=
  { s with cut := { s.cut with busy := s.cut.busy.filter (fun x => x.2 != w), restoreQ := s.cut.restoreQ.filter (· != w), jobQ := s.cut.jobQ.filter (· != w) } }

/-- The statuses that R119 allows a READ's data to be used under; IMAGE_EPOCH is no status of a READ (R295). -/
def usableStatus (code : BitVec 16) : Bool := code == 0 || code == 2 || code == 3

/-- A context's READ ends with `c`: the chips that it holds are let go, and RESTORE_BYTES takes its INFO1 (R212, R400). -/
def endRead (n : Nat) (c : Completion) (s : State) : State :=
  match (s.ctxAt n).reader with
  | some r =>
    let s1 := forEach r.held endHold (haltEngines (.restore n) s)
    let s2 := s1.onCtx n (fun x =>
      if usableStatus c.status then { x with reader := none, restoreBytes := x.restoreBytes + c.info1, metersChanged := true }
      else { x with reader := none })
    finish n r.task c (dropReads n r.task s2)
  | none => s

/-- A task writes to its destination: it is past its commit point (R52). -/
def commits (n q : Nat) (s : State) : State := s.onTask n q (fun t => { t with committed := true })

/-- A READ ends with its destinations zeroed and its position where it started (R45, R118, R210). -/
def failRead (n : Nat) (c : Completion) (s : State) : State :=
  match (s.ctxAt n).reader with
  | some r => endRead n c (setPosition n r.start (commits n r.task (zeroFill r s)))
  | none => s

/-! ### Slots -/

/-- A WRITE or MARK of context n is in flight. -/
def writeInFlight (s : State) (n : Nat) : Bool := (s.ctxAt n).tasks.any (fun t => t.opcode == 1 || t.opcode == 2)

/-- A block of the context that is not sealed holds the slot's latch. -/
def latchedTo (c : Context) (k : Nat) : Bool :=
  c.blocks.any (fun b => b.latch.slot == k) || (match c.openLatch with
    | some l => l.slot == k
    | none => false)

/-- Slot k changes while a WRITE or MARK of a context that latches it is in flight: KEY_MID of its table (Table 10-3). -/
def keyMid (k : Nat) (s : State) : State :=
  let l := (s.ctx.map (fun e => e.1)).filter (fun n =>
    bound s n && writeInFlight s n && (s.fld (Reg.ctxKey n) Fld.ctxKeyKeySlot == k || latchedTo (s.ctxAt n) k))
  forEach l (fun n a => setGuarantee (bindDeck a n) (bindPart a n) 3 a) s

/-- A latch on the slot erased (R116). -/
def Latch.erase (k : Nat) (l : Latch) : Latch :=
  if l.slot = k && l.bad.isNone then { l with key := [], bad := some 0x16 } else l

/-- Blocks of a context that still hold a copy of the slot's key. -/
def liveLatches (c : Context) (k : Nat) : Nat :=
  (c.blocks.filter (fun b => b.latch.slot == k && b.latch.bad.isNone)).length
    + (match c.openLatch with
       | some l => bit (l.slot == k && l.bad.isNone)
       | none => 0)

/-- A context's copies of the slot's key are erased (R116). -/
def Context.eraseKey (k : Nat) (c : Context) : Context :=
  { c with blocks := c.blocks.map (fun b => { b with latch := b.latch.erase k }), openLatch := c.openLatch.map (Latch.erase k) }

/-- The READ of context n that has latched slot k for an open is abandoned (R116). -/
def abandonOpen (k n : Nat) (s : State) : State :=
  match (s.ctxAt n).reader with
  | some r =>
    match r.key with
    | some (k', _) =>
      if k' = k then failRead n { status := 0x16, info0 := BitVec.ofNat 64 r.records, info2 := word k } s else s
    | none => s
  | none => s

/-- Blocks of all contexts that a zeroise of slot k loses. -/
def lostBlocks (s : State) (k : Nat) : Nat := (s.ctx.map (fun e => liveLatches e.2 k)).sum

/-- Slot k becomes EMPTY and everything latched to it fails (R116, Table 05-4). -/
def zeroiseSlot (k : Nat) (s : State) : State :=
  let s1 := (keyMid k s).putKey k {}
  forEach (s.ctx.map (fun e => e.1)) (fun n a => settleHead n (abandonOpen k n (a.onCtx n (Context.eraseKey k)))) s1

/-- The slots that a clear-all reaches: those that are not EMPTY and those that a copy still names. -/
def usedSlots (s : State) : List Nat :=
  let l := s.keys.map (fun e => e.1)
  let m := s.ctx.flatMap (fun e => e.2.blocks.map (fun b => b.latch.slot)
    ++ (match e.2.openLatch with
        | some x => [x.slot]
        | none => [])
    ++ (match e.2.reader with
        | some r => (match r.key with
          | some (k, _) => [k]
          | none => [])
        | none => []))
  (l ++ m).dedup

/-- A clear-all while WRITEs or MARKs are in flight: KEY_MID of the table of each context that has one, whichever slot it selects (Table 10-3). -/
def keyMidAll (s : State) : State :=
  forEach ((s.ctx.map (fun e => e.1)).filter (fun n => bound s n && writeInFlight s n)) (fun n a =>
    setGuarantee (bindDeck a n) (bindPart a n) 3 a) s

/-- Clear-all: every slot and every latched copy is zeroised; event 322 carries the trigger (R115, R116, Table 05-5). -/
def clearAll (trigger : Nat) (s : State) : State :=
  raise 322 [word trigger] (forEach (usedSlots s) zeroiseSlot (keyMidAll s))

/-! ### Opening -/

/-- The lowest slot in state LOADED or EXHAUSTED that holds a label (R117). -/
def slotOfLabel (s : State) (label : BitVec 64) : Option Nat :=
  (s.keys.find? (fun e => decide (e.2.state ≠ 0) && e.2.label == label)).map (fun e => e.1)

/-! ### Key commands -/

/-- KEY_STATUS.BUSY. -/
def keyBusy (s : State) : Bool := s.flag Reg.keyStatus Fld.keyStatusBusy

/-- The count of commands moves on and RESULT is set (KEY_STATUS.SEQ_RESULT). DESIGN CHOICE (log entry 113): a refused command is counted as
one that runs is, and the count moves with the write of KEY_COMMAND. -/
def keyResult (r : Nat) (s : State) : State :=
  let c := s.fld Reg.keyStatus Fld.keyStatusSeqResult / 16
  s.setFld Reg.keyStatus Fld.keyStatusSeqResult ((c + 1) % 16 * 16 + r)

/-- Why a key command is refused now: the RESULT code (R114). -/
def keyRefusal (s : State) : Option Nat :=
  if s.sec.state = 2 then some 1
  else if keyBusy s then some (if s.fld Reg.keyCommand Fld.keyCommandOp = 3 then 2 else 3)
  else none

/-- The staging registers cleared to zero (R114). -/
def clearStaging (s : State) : State :=
  let offs := (List.range 8).map Reg.keyData ++ [Reg.keySalt, Reg.keyLabelLo, Reg.keyLabelHi, Reg.keyBaseLo, Reg.keyBaseHi]
  forEach offs (fun o a => a.setReg o 0) s

/-- A key command runs with effect `f`, or is refused with event 326 (R114). -/
def keyCommand (op : Nat) (f : State → State) (s : State) : State :=
  match keyRefusal s with
  | some r => raise 326 [word r] (keyResult r s)
  | none => f (keyResult 0 ((s.setFld Reg.keyStatus Fld.keyStatusBusy 1).setFld Reg.keyCommand Fld.keyCommandOp op))

/-- The slot that the staging registers describe (R108, R114). -/
def stagedSlot (s : State) : KeySlot :=
  { state := 1, key := bytesOf ((List.range 8).map (fun k => s.reg (Reg.keyData k))), salt := s.reg Reg.keySalt
    label := BitVec.ofNat 64 (s.pair Reg.keyLabelLo Reg.keyLabelHi), next := BitVec.ofNat 64 (s.pair Reg.keyBaseLo Reg.keyBaseHi) }

/-- KEY_LOAD: a refused LOAD changes no slot but clears the staging registers (R114). -/
def opKeyLoad (s : State) : State :=
  let k := s.fld Reg.keySel Fld.keySelSlot
  clearStaging (keyCommand 1 (fun a => (keyMid k a).putKey k (stagedSlot a)) s)

/-- KEY_ZEROISE: event 321 where blocks were latched to the slot (R116, Table 05-5). -/
def opKeyZeroise (s : State) : State :=
  let k := s.fld Reg.keySel Fld.keySelSlot
  keyCommand 2 (fun a =>
    let lost := lostBlocks a k
    let b := zeroiseSlot k a
    if lost = 0 then b else raise 321 [word k, word lost] b) s

/-- KEY_CLEAR_ALL (R115). -/
def opKeyClearAll (s : State) : State := keyCommand 3 (clearAll 6) s

/-- KEY_COMMAND_DONE: the command that runs has completed (R114). -/
def opKeyCommandDone (s : State) : State :=
  if keyBusy s then (s.setFld Reg.keyStatus Fld.keyStatusBusy 0).setFld Reg.keyCommand Fld.keyCommandOp 0 else s

/-- KEY_LOAD. -/
def execKeyLoad (s : State) : Host.Outcome State Fault Refusal := run opKeyLoad s

/-- KEY_ZEROISE. -/
def execKeyZeroise (s : State) : Host.Outcome State Fault Refusal := run opKeyZeroise s

/-- KEY_CLEAR_ALL. -/
def execKeyClearAll (s : State) : Host.Outcome State Fault Refusal := run opKeyClearAll s

/-- KEY_COMMAND_DONE. -/
def execKeyCommandDone (s : State) : Host.Outcome State Fault Refusal := run opKeyCommandDone s

end Sys2Proof.Machine
end

