-- ==== Sys2Proof/Machine/Stop.lean ====
section
/-! DEFINITION. A deck's controlled stop (R256, R437) with the deferred errors and task endings of R194; dealt groups (R160);
records on the control lane (R313, R315). -/

namespace Sys2Proof.Machine

/-! ### Groups and tables of a deck -/

/-- Data decks of the group to which deck d belongs (R160). -/
def dataDecks (s : State) (d : Nat) : List Nat :=
  match (deckFmt s d).c4 with
  | 1 => [0, 1, 2]
  | 2 => [0, 1]
  | _ => [d]

/-- Parity decks of the group to which deck d belongs (R160). -/
def parityDecks (s : State) (d : Nat) : List Nat :=
  match (deckFmt s d).c4 with
  | 1 => [3]
  | 2 => [2, 3]
  | _ => []

/-- The decks that act together with deck d (R160). -/
def groupOf (s : State) (d : Nat) : List Nat := dataDecks s d ++ parityDecks s d

/-- The deck that names the tables of deck d: deck 0 in a dealt group (R160). -/
def tableDeck (s : State) (d : Nat) : Nat := if (deckFmt s d).c4 = 0 then d else 0

/-- The active table's partition of deck d (R59). -/
def activePart (s : State) (d : Nat) : Option Nat := (s.deckAt (tableDeck s d)).active

/-- The content entries of a trick. -/
def Trick.entries (t : Trick) : List Entry :=
  match t.body with
  | .data l => l
  | _ => []

/-- The tricks of a round, hand by hand. -/
def Round.tricks (r : Round) : List Trick := r.hands.flatMap (fun h => h.tricks)

/-! ### Records on the control lane -/

/-- A record of 16 bytes leaves on a deck's control lane (R313). -/
def sendRecord (d : Nat) (bytes : List Byte) (s : State) : State := emit (.record d (padTo 16 bytes)) s

/-- The direction of a wrap: even wraps run towards EOT (R170). -/
def towardsEot (wrap : Nat) : Bool := wrap % 2 == 0

/-- A MODE record (Table 14-4); it ends any write stream, and opens one where MODE is 1 (R308, R311). What was received before it of
columns that it numbers anew is dropped. -/
def sendMode (d mode profile : Nat) (base start : Word) (s : State) : State :=
  let k := s.deckAt d
  let w := k.motion.wrap
  let rec0 := [0x83, 0, byte mode, byte profile] ++ be 2 w ++ [byte (bit (towardsEot w))] ++ be 4 base.toNat ++ be 4 start.toNat
  let rx := if mode = 1 then Sparse.remap (fun _ => {}) (fun _ r => { r with bits := r.bits.take (16 * (base.toNat - r.base)) }) k.rx else []
  let anew := Sparse.remap (fun _ => ({} : Track)) (fun _ (t : Track) => { t with samples := t.sq.toList.map (fun v => (0, v)) }) k.tracks
  let k1 := if mode = 1 then { k with limit := base, consumed := base - 1, underrun := false, padded := true, tracks := anew } else k
  sendRecord d rec0 (s.putDeck d { k1 with mode := mode, profile := profile, streamOpen := decide (mode = 1), nextCol := base, rx := rx, startTpc := start })

/-! ### What a stop loses -/

/-- Context, stream and first object of what a content entry carries. -/
def Entry.ref (e : Entry) : Nat × Word × Nat := (e.ctx, e.stream, e.firstObj)

/-- Context, stream and first object of an item that carries objects. -/
def Item.ref : Item → Option (Nat × Word × Nat)
  | .block b _ => some (b.ctx, b.stream, b.firstObj)
  | .mark c sid _ o _ _ _ => some (c, sid, o)
  | _ => none

/-- Objects in tricks of the deck that are not released, and in items not yet packed for its active table (R194). -/
def exposed (s : State) (d : Nat) : List (Nat × Word × Nat) :=
  let tricks := (s.deckAt d).rounds.flatMap (fun r => r.tricks.filter (fun t => !t.released))
  let open' := match activePart s d with
    | some p =>
      let t := s.tableAt (tableDeck s d) p
      (t.openRound.flatMap (fun h => h.tricks) ++ t.openHand).flatMap (fun x => x.entries.map Entry.ref)
        ++ t.openEntries.map Entry.ref ++ t.items.filterMap Item.ref
    | none => []
  tricks.flatMap (fun t => t.entries.map Entry.ref) ++ open'

/-- Objects of a stream in the active table of deck d. -/
def streamObjects (s : State) (d : Nat) (sid : Word) : Nat :=
  match activePart s d with
  | some p => ((s.tableAt (tableDeck s d) p).stream sid).objects
  | none => 0

/-- Every context with exposed objects takes a deferred error, from the lowest such object of the stream to the last sealed one
(R194). -/
def deferExposed (d cause : Nat) (s : State) : State :=
  let refs := exposed s d
  let keys := (refs.map (fun r => (r.1, r.2.1))).dedup
  forEach keys (fun k a =>
    let lo := leastOf ((refs.filter (fun r => r.1 == k.1 && r.2.1 == k.2)).map (fun r => r.2.2))
    let total := streamObjects s d k.2
    if lo < total then deferError k.1 cause lo (total - 1) a else a) s

/-! ### Tasks that a stop ends -/

/-- The bytes of destination ranges beyond the first `n` (R210). -/
def rangesBeyond : Nat → List (Nat × Nat) → List (Nat × Nat)
  | _, [] => []
  | n, (a, len) :: l => if len ≤ n then rangesBeyond (n - len) l else (a + n, len - n) :: l

/-- A READ ends NOT_READY and keeps the records delivered: its position follows them and the rest of its destinations is zeroed
(R210). -/
def keepRead (n reason : Nat) (s : State) : State :=
  match (s.ctxAt n).reader with
  | some r =>
    let s1 := forEach (rangesBeyond r.bytes r.dests) (fun x a => hostWrite x.1 (zeros x.2) a) s
    let s2 := hostWrite (r.lens.1 + 4 * r.records) (zeros (4 * (r.lens.2 - r.records))) s1
    endRead n { notReady reason with info0 := BitVec.ofNat 64 r.records } (setPosition n r.pos (commits n r.task s2))
  | none => s

/-- The opcodes of data tasks (R59). -/
def dataOpcodes : List Nat := [0x01, 0x02, 0x03, 0x04, 0x09]

/-- A task that a stop of its context's deck ends: a data task, LOCATE or SPACE under way (R194). -/
def Task.endsAtStop (t : Task) : Bool := t.busy && (dataOpcodes.contains t.opcode || t.opcode == 6 || t.opcode == 7)

/-- The tasks of context n under way on a stopped deck complete NOT_READY with reason 4; what is not sealed is dropped (R194). -/
def stopContext (n : Nat) (s : State) : State :=
  let l := (s.ctxAt n).tasks.filter Task.endsAtStop
  let s1 := forEach l (fun t a => finish n t.seq (notReady 4) (dropReads n t.seq a)) s
  keepRead n 4 (discardUnsealed n s1)

/-- The administration task of a deck, or of its group, is over. -/
def endAdmin (d : Nat) (s : State) : State := forEach (groupOf s d) (fun x a => a.onDeck x (fun k => { k with admin := none })) s

/-- An administration task whose work needs the tape to move ends NOT_READY with reason 4 (R194). -/
def stopAdmin (d : Nat) (s : State) : State :=
  match (s.deckAt d).admin with
  | some (.writing c q _ _ _ _) | some (.rewind c q) =>
    finish c q (notReady 4) (forEach (groupOf s d) (fun x a => a.onDeck x (fun k => { k with script := [] })) (endAdmin d s))
  | _ => s

/-- A LOAD or UNLOAD at work on the deck ends NOT_READY with reason 4: at a link fault or a DECK reset (R173). -/
def stopLoad (d : Nat) (s : State) : State :=
  match (s.deckAt d).admin with
  | some (.load c q _) | some (.unload c q) => finish c q (notReady 4) (endAdmin d s)
  | _ => s

/-- The SEAT that waits on the deck's active table ends NOT_READY with reason 4 and changes no seating (R194). -/
def stopSeat (d : Nat) (s : State) : State :=
  match activePart s d with
  | some p =>
    let td := tableDeck s d
    match (s.tableAt td p).seatPending with
    | some (q, m, l) => finish 0 q (notReady 4) (s.onTable td p (fun t => { t with seatPending := none, mode := m, plan := l }))
    | none => s
  | none => s

/-- Every task that R194 ends. -/
def stopTasks (d : Nat) (s : State) : State :=
  stopSeat d (stopAdmin d (forEach (boundToDeck s (tableDeck s d)) stopContext s))

/-! ### The stop -/

/-- Length of a trick in 0.1 mm of tape, rounded up (R146). -/
def Fmt.trickLength (f : Fmt) : Nat := (f.trickBits + 3999) / 4000

/-- A position of a round or a repeat of one: a trick of the round sequence. -/
def Trick.ofRound (t : Trick) : Bool :=
  match t.body with
  | .data _ | .c3 _ _ | .c4 _ => true
  | _ => false

/-- The greatest number of a round that every deck of the group has released since the table became active (R195). -/
def groupReleased (s : State) (d : Nat) : Option Nat :=
  let l := (groupOf s d).map (fun x => (s.deckAt x).lastReleased)
  if l.all (fun x => x.isSome) then some (leastOf (l.filterMap id)) else none

/-- A released round depends on the trick: it is a trick of it, or carries a copy of one of its facets (R195). -/
def Laid.neededBy (last : Option Nat) (x : Laid) : Bool :=
  match last with
  | some r => x.rounds.any (fun i => decide (i ≤ r))
  | none => false

/-- The wrap and tape position one trick length past the last trick, repeat or rewrite-only trick on which any released round depends
(R195). -/
def releasedEnd (s : State) (d : Nat) : Nat × Word :=
  let k := s.deckAt d
  match (k.laid.filter (Laid.neededBy (groupReleased s d))).getLast? with
  | some x => (x.wrap, x.past)
  | none => (k.appendWrap, k.appendAt)

/-- One deck begins to stop: GATE clears, MODE 0 is sent in the same frame, PACE enters STOP; what was being written is lost to
the Loupe (R194, R256, R311). -/
def beginStop (d b : Nat) (s : State) : State :=
  let k := s.deckAt d
  let m := { k.motion with gate := false, pace := 4, stopping := true, stopped := true,
                           causes := BitVec.ofNat 14 (2 ^ b), target := none }
  let k1 := { k with motion := m, tape := [], cursor := [], writing := none, fixed := none, redo := [], trial := [], needRunIn := true
                     laid := [], segmentDue := false }
  let e := releasedEnd s d
  let s1 := s.putDeck d { k1 with appendWrap := e.1, appendAt := e.2, resumeAt := none, wanted := none }
  let link := s.fld (Reg.dkLnkState d) Fld.dkLnkStateState
  let s2 := forEach (List.range 4) (fun l a => a.putLoop d l { (a.loopAt d l) with ramp := none, chainRamp := none }) s1
  if link = 2 ∨ link = 3 then sendMode d 0 k.profile 0 0 s2 else s2

/-- A deck records cause b of Table 11-7 for the stop in progress or taken (R256). -/
def recordCause (d b : Nat) (s : State) : State :=
  s.onDeck d (fun k => if k.motion.stopping then { k with motion := { k.motion with causes := k.motion.causes ||| BitVec.ofNat 14 (2 ^ b) } } else k)

/-- A controlled stop of one deck, with cause bit b of Table 11-7 and deferred-error cause of Table 02-9 (R194, R256). A second
cause during a stop changes nothing but the recorded causes. -/
def stopDeck (d b cause : Nat) (s : State) : State :=
  if (s.deckAt d).motion.stopped then recordCause d b s
  else stopTasks d (deferExposed d cause (beginStop d b s))

/-- A controlled stop of a deck and, in a dealt group, of every deck of the group (R160, R254, R256). -/
def controlledStop (d b cause : Nat) (s : State) : State :=
  forEach ((groupOf s d).filter (fun x => x != d)) (fun x a => stopDeck x 13 cause a) (stopDeck d b cause s)

/-- The deck is not idle: PACE is in any state but IDLE (R318, Table 11-5). -/
def deckMoving (s : State) (d : Nat) : Bool := (s.deckAt d).motion.pace != 0

/-- MOTOR_EN falls (Table 14-8). -/
def motorOff (d : Nat) (s : State) : State := s.onDeck d (fun k => { k with motorEn := false })

/-! ### Link faults -/

/-- State of a deck's link: 0 DISABLED, 1 TRAINING, 2 ACTIVE, 3 FAULT. -/
def linkState (s : State) (d : Nat) : Nat := s.fld (Reg.dkLnkState d) Fld.dkLnkStateState

/-- The link of a deck in state v. -/
def setLinkState (d v : Nat) (s : State) : State := s.setFld (Reg.dkLnkState d) Fld.dkLnkStateState v

/-- A link fault with a cause of R320, numbered from 1: event 64d + 2, FAULT, and either MOTOR_EN falls at once or the deck stops
first (R321). Nothing while the link is not ACTIVE. -/
def linkFault (d cause : Nat) (atOnce : Bool) (s : State) : State :=
  if linkState s d = 2 then
    let s1 := raiseDeck d 2 [word cause] ((setLinkState d 3 s).setFld (Reg.dkLnkState d) Fld.dkLnkStateCause cause)
    let s2 := controlledStop d 4 5 (if atOnce then motorOff d s1 else s1)
    stopLoad d (if atOnce then s2 else s2.onDeck d (fun k => { k with motorOffAfterStop := true }))
  else s

end Sys2Proof.Machine
end

