-- ==== Sys2Proof/Machine/Hands.lean ====
section
/-! DEFINITION. Hands, rounds and deals (R149 to R166): key runs and truncation records, trailers, C3 and C4 parity, the places
of tricks in a round; the records of special tricks (R167). -/

namespace Sys2Proof.Machine

/-! ### Trailer records -/

/-- A key run (Table 05-3). -/
structure KeyRun where
  /-- STREAM_ID -/
  stream : Word
  /-- FIRST_BSN -/
  bsn : Word
  /-- COUNT -/
  count : Nat
  /-- KEY_LABEL -/
  label : BitVec 64
  /-- SALT -/
  salt : Word
  /-- FIRST_CTR -/
  ctr : BitVec 64
  deriving DecidableEq, Repr, Inhabited

/-- The 32 bytes of a key run (Table 05-3). -/
def KeyRun.bytes (r : KeyRun) : List Byte :=
  be 4 r.stream.toNat ++ be 4 r.bsn.toNat ++ be 4 r.count ++ be 8 r.label.toNat ++ be 4 r.salt.toNat ++ be 8 r.ctr.toNat

/-- The key run that 32 bytes spell (Table 05-3). -/
def keyRunOf (b : List Byte) : KeyRun :=
  { stream := word (beAt b 0 4), bsn := word (beAt b 4 4), count := beAt b 8 4, label := BitVec.ofNat 64 (beAt b 12 8)
    salt := word (beAt b 20 4), ctr := BitVec.ofNat 64 (beAt b 24 8) }

/-- The run covers a block of stream `sid` with BSN `b` (R109). -/
def KeyRun.covers (r : KeyRun) (sid b : Word) : Bool :=
  r.stream == sid && decide (r.bsn.toNat ≤ b.toNat) && decide (b.toNat < r.bsn.toNat + r.count)

/-- The block that an entry begins goes on the run (R109). -/
def KeyRun.extends (r : KeyRun) (e : Entry) : Bool :=
  r.stream == e.stream && r.bsn.toNat + r.count == e.bsn.toNat && r.ctr + BitVec.ofNat 64 r.count == e.ctr && r.salt == e.salt
    && r.label == e.label

/-- The runs with the block that entry `e` begins: the stream's last run goes on, or a new one starts (R109). Later runs stand
first. -/
def addRun (e : Entry) : List KeyRun → List KeyRun → List KeyRun
  | skipped, r :: l =>
    if r.stream == e.stream then
      if r.extends e then skipped.reverse ++ { r with count := r.count + 1 } :: l
      else { stream := e.stream, bsn := e.bsn, count := 1, label := e.label, salt := e.salt, ctr := e.ctr } :: (skipped.reverse ++ r :: l)
    else addRun e (r :: skipped) l
  | skipped, [] =>
    { stream := e.stream, bsn := e.bsn, count := 1, label := e.label, salt := e.salt, ctr := e.ctr } :: skipped.reverse

/-- The key runs of a hand's data tricks, in the order of their first blocks (R109, R156). -/
def keyRuns (tricks : List Trick) : List KeyRun :=
  ((tricks.flatMap Trick.entries).foldl (fun a e => if e.kind = 1 && e.first then addRun e [] a else a) []).reverse

/-- The 32 bytes of a truncation record (Table 07-2). -/
def truncBytes (stream : Word) (start trick entry : Nat) : List Byte :=
  be 4 stream.toNat ++ be 8 start ++ be 5 trick ++ [byte entry] ++ zeros 14

/-- The truncation records of a hand's data tricks: stream, START, trick, entry (R156). -/
def truncRecords (tricks : List Trick) : List (Word × Nat × Nat × Nat) :=
  tricks.flatMap (fun t => (List.zip (List.range t.entries.length) t.entries).filterMap (fun e =>
    e.2.trunc.map (fun st => (e.2.stream, st, t.number, e.1))))

/-- Record places of a trailer (R153). -/
def Fmt.recordPlaces (f : Fmt) : Nat := (f.trailerBytes - 64) / 32

/-- Records that the hand of these data tricks uses (R153). -/
def recordsUsed (tricks : List Trick) : Nat := (keyRuns tricks).length + (truncRecords tricks).length

/-- The hand trailer of data tricks `data` (Table 07-1). -/
def trailer (f : Fmt) (format : List Byte) (short isC4 : Bool) (n first index : Nat) (digest : Nat) (data : List Trick) : List Byte :=
  let runs := if isC4 then [] else keyRuns data
  let truncs := if isC4 then [] else truncRecords data
  let recs := runs.flatMap KeyRun.bytes ++ truncs.flatMap (fun t => truncBytes t.1 t.2.1 t.2.2.1 t.2.2.2)
  let h := be 4 0x48414E44 ++ [1, byte (bit short * 128 + bit isC4 * 64)] ++ be 2 n ++ be 5 first ++ [byte index, 0, 0]
    ++ be 8 digest ++ formatId format ++ be 2 runs.length ++ be 2 truncs.length
  padTo f.trailerBytes (h ++ be 4 (crc32c (h ++ recs)).toNat ++ recs)

/-! ### Parity -/

/-- The parity bytes of each user byte position over messages taken in order: one list of p bytes for each position (R152). -/
def columnParity (p u : Nat) (users : List (List Byte)) : List (List Byte) :=
  users.foldl (fun pars m => List.zipWith (fun par b => rsShift (rsGenerator p) par b) pars m) (List.replicate u (zeros p))

/-- The user area of C3 parity trick k of the hand of these message user areas, with the trailer copy that it holds (R152). -/
def c3User (f : Fmt) (pars : List (List Byte)) (tr : List Byte) (k : Nat) : List Byte :=
  let b := pars.map (fun p => p.getD k 0)
  if f.p3 - f.trailerCopies ≤ k then b.take (f.userBytes - f.trailerBytes) ++ tr else b

/-- The C3 parity tricks of a hand of message tricks, numbered from `first`, with `tr` its trailer (R152, R149). -/
def c3Tricks (f : Fmt) (format : List Byte) (part deck first : Nat) (msgs : List Trick) (tr : List Byte) : List Trick :=
  let pars := columnParity f.p3 f.userBytes (msgs.map Trick.user)
  (List.range f.p3).map (fun k =>
    { number := first + k, body := .c3 k (c3User f pars tr k), format := format, partition := part, deck := deck })

/-- The hand digest (R154). -/
def handDigest (msgs : List Trick) : Nat := crc64 (msgs.flatMap Trick.user)

/-- The hand of message tricks `msgs`, its C3 parity numbered from `c3First` (R151 to R154). -/
def makeHand (format : List Byte) (part deck index first c3First full : Nat) (isC4 : Bool) (msgs : List Trick) : Hand :=
  let f := fmtOf format
  let dg := handDigest msgs
  let tr := trailer f format (decide (msgs.length < full)) isC4 msgs.length first index dg msgs
  { tricks := msgs ++ c3Tricks f format part deck c3First msgs tr, ndata := msgs.length, firstTrick := first, index := index
    digest := BitVec.ofNat 64 dg, deck := deck, isC4 := isC4 }

/-- The C4 tricks of parity deck number k: trick i holds parity byte k of tricks i of the data decks (R162). -/
def c4Tricks (format : List Byte) (part deck k parity first : Nat) (hands : List (List Trick)) (n0 : Nat) : List Trick :=
  let f := fmtOf format
  (List.range n0).map (fun i =>
    let users := hands.map (fun h => match h[i]? with
      | some t => t.user
      | none => zeros f.userBytes)
    let pars := columnParity parity f.userBytes users
    { number := first + i, body := .c4 (pars.map (fun p => p.getD k 0)), format := format, partition := part, deck := deck })

/-- The hands of a hand set whose data tricks are `data` in packing order, all decks; the next trick number after them (R149,
R161 to R163). -/
def handSet (format : List Byte) (part index : Nat) (ds ps : List Nat) (data : List Trick) : List Hand × Nat :=
  let f := fmtOf format
  let first := (data.headD {}).number
  let own := fun (i : Nat) => (List.zip (List.range data.length) data).filterMap (fun e =>
    if e.1 % ds.length = i then some e.2 else none)
  let split := (List.range ds.length).map own
  let c3 := first + data.length
  let hs := (List.zip (List.range ds.length) (List.zip ds split)).map (fun e =>
    makeHand format part e.2.1 index first (c3 + e.1 * f.p3) f.fullHand false e.2.2)
  let n0 := (split.headD []).length
  let start := c3 + ds.length * f.p3
  let each := n0 + f.p3
  let c4 := (List.zip (List.range ps.length) ps).map (fun e =>
    let msgs := c4Tricks format part e.2 e.1 ps.length (start + e.1 * each) split n0
    makeHand format part e.2 index first (start + e.1 * each + n0) f.fullHand true msgs)
  (hs ++ c4, start + ps.length * each)

/-! ### Rounds -/

/-- The tricks of a round in the order of its positions (R158): by trick index, and within it by hand. -/
def Round.positions (r : Round) : List Trick :=
  let n := greatestOf (r.hands.map (fun h => h.tricks.length))
  (List.range n).flatMap (fun i => r.hands.filterMap (fun h => h.tricks[i]?))

/-! ### Special tricks -/

/-- The user area of a lead or end-of-data trick: a table of two entries and the record (R167). -/
def recordUser (u kind : Nat) (record : List Byte) : List Byte :=
  let start := 2 + 16 * 2
  padTo u (be 2 2 ++ tableEntry kind false false 0 0 start record.length
    ++ tableEntry 3 false false 0 0 (start + record.length) (u - start - record.length) ++ record)

/-- A lead record (Table 07-4). -/
def leadRecord (medium : Bool) (format : List Byte) (part c4 first wraps : Nat) (map label : List Byte) : List Byte :=
  be 4 (if medium then 0x4D4C4544 else 0x4C454144) ++ formatId format ++ [byte part, byte c4] ++ be 2 first ++ be 2 wraps ++ zeros 6
    ++ padTo 512 map ++ be 4 label.length ++ label

/-- PART_MAP of the partitions present: first wrap and wrap count (Table 07-4). -/
def partMap (parts : Sparse (Nat × Nat)) : List Byte :=
  (List.range 64).flatMap (fun q =>
    match Sparse.find parts q with
    | some (w, n) => be 2 w ++ be 2 n ++ [0x80, 0, 0, 0]
    | none => zeros 8)

/-- An end-of-data record (Table 07-5); the streams are given by identifier, NEXT_BSN and NEXT_OBJECT in rising order. -/
def eodRecord (id : List Byte) (trick dirTricks hands : Nat) (streams : List (Word × Word × Nat)) : List Byte :=
  let l := streams.take 65535
  be 4 0x454F4431 ++ padTo 32 id ++ be 5 trick ++ [byte (bit (decide (65535 < streams.length)) * 128)] ++ be 2 dirTricks ++ be 4 hands
    ++ be 2 l.length ++ zeros 14 ++ l.flatMap (fun x => be 4 x.1.toNat ++ be 4 x.2.1.toNat ++ be 8 x.2.2)

/-- The 16 bytes of a hand's directory entry (Table 07-6). -/
def directoryEntry (h : Hand) : List Byte :=
  let short := decide (h.tricks.length < (fmtOf ((h.tricks.headD {}).format)).hand)
  be 5 h.firstTrick ++ [byte h.ndata, byte (bit short * 128 + bit h.isC4 * 64), 0] ++ be 8 h.digest.toNat

/-- DIR_TRICKS for a count of hands (R167). -/
def dirTricks (f : Fmt) (hands : Nat) : Nat := if f.dirEn then (hands + 100349) / 100350 else 0

/-- The user area of directory trick `i` of `n` over the directory entries (Table 07-6). -/
def directoryUser (u i n : Nat) (entries : List (List Byte)) : List Byte :=
  let l := slice entries (100350 * i) 100350
  padTo u (be 4 0x44495231 ++ be 2 i ++ be 2 n ++ be 4 l.length ++ be 4 (100350 * i) ++ zeros 16 ++ l.flatten)

end Sys2Proof.Machine
end

