-- ==== Sys2Proof/Machine/Dealer.lean ====
section
/-! DEFINITION. The Dealer (R59 to R76): packing of items into tricks, hands and rounds, by R69 and R70, its waits (R73, R74),
the end zone (R174). -/

namespace Sys2Proof.Machine

/-- Why packing stops short: a pool that has no chip (R73), or the end zone (R174). -/
inductive PackStop where
  /-- no chip of this pool -/
  | pool (k : Nat)
  /-- the trick would lie in the end zone -/
  | full
  deriving DecidableEq, Repr, Inhabited

/-- Packing under way: the state, or why it stops. -/
abbrev Pack := Except PackStop State

/-! ### Tables -/

/-- The format in force for the table that deck `td` names. -/
def tableFmt (s : State) (td : Nat) : Fmt := deckFmt s td

/-- Rounds of a deck not yet written whole (R74). -/
def unwrittenRounds (s : State) (d : Nat) : Nat := ((s.deckAt d).rounds.filter (fun r => !r.written)).length

/-- Positions that the deck encoder writes before a round that closes now. -/
def positionsAhead (s : State) (d : Nat) : Nat :=
  let k := s.deckAt d
  (match k.toWrite with
   | some l => l.length
   | none => 0) + ((k.rounds.filter (fun r => !r.started)).map (fun r => r.tricks.length)).sum

/-- A round that closes now would begin inside the end zone: the last 8,192 trick lengths of the partition's last wrap (R174).
While nothing has been written there is no measure, and room is taken to be left (log entry 8). -/
def inEndZone (s : State) (d : Nat) : Bool :=
  match (s.deckAt d).left with
  | some l => decide (l < 8192 + positionsAhead s d)
  | none => false

/-- The deck to which data trick j of a hand set goes (R161). -/
def deckOfTrick (ds : List Nat) (j : Nat) : Nat := ds.getD (j % ds.length) 0

/-! ### Trick images -/

/-- Chips for a trick image of `u` bytes laid after the deck's last one (R74). -/
def imageChips (d u : Nat) (s : State) : Except PackStop (List Nat × State) :=
  let k := s.deckAt d
  let pool := trickPool s d
  let tail := match k.tail with
    | some (c, used) =>
      match chipTag s c with
      | some t => if t.cls = 2 ∧ t.id = d ∧ t.refs < maxRefs then some (c, used) else none
      | none => none
    | none => none
  let lead := match tail with
    | some (c, used) => ([c], 65536 - used)
    | none => ([], 0)
  let need := chipsFor (u - lead.2)
  let r := allocate need pool 2 d s
  match r.1 with
  | none => .error (.pool pool)
  | some new =>
    let s1 := forEach lead.1 addRef r.2
    let chips := lead.1 ++ new
    let used := if need = 0 then 65536 - lead.2 + u else u - lead.2 - 65536 * (need - 1)
    let tail' := if used = 65536 then none else chips.getLast?.map (fun c => (c, used))
    .ok (chips, s1.onDeck d (fun k => { k with tail := tail' }))

/-- Chips for each of several tricks in turn, put into them (R74). -/
def imageAll : List Trick → State → Except PackStop (List Trick × State)
  | [], s => .ok ([], s)
  | t :: l, s =>
    match imageChips t.deck (fmtOf t.format).userBytes s with
    | .error e => .error e
    | .ok (c, s1) =>
      match imageAll l s1 with
      | .error e => .error e
      | .ok (ts, s2) => .ok ({ t with chips := c } :: ts, s2)

/-- The chips of a trick image are let go (R193). -/
def freeImage (t : Trick) (s : State) : State := freeList 2 t.deck t.chips s

/-! ### Closing tricks, hands and rounds -/

/-- close_round of R69: the open round goes to its decks (R74, R158). -/
def closeRound (td p : Nat) (s : State) : State :=
  let t := s.tableAt td p
  if t.openRound.isEmpty then s
  else
    let decks := groupOf s td
    let s1 := forEach decks (fun d a =>
      a.onDeck d (fun k =>
        let r : Round := { id := t.rounds, partition := p, hands := t.openRound.filter (fun h => h.deck == d)
                           epoch := (s.reg (Reg.cfgDeckEpoch td)).toNat, keptBack := k.hold }
        { k with rounds := k.rounds ++ [r] })) s
    let s2 := s1.onTable td p (fun t => { t with openRound := [], rounds := t.rounds + 1 })
    if decks.any (fun d => decide (2 ≤ unwrittenRounds s2 d)) && !t.roundWait then
      raise 342 [word td] (s2.onTable td p (fun t => { t with roundWait := true }))
    else s2

/-- A new image number for each trick, so that its repeats and copies can name it. -/
def nameImages : List Trick → State → List Trick × State
  | [], s => ([], s)
  | t :: l, s =>
    let i := (s.deckAt t.deck).images
    let r := nameImages l (s.onDeck t.deck (fun k => { k with images := i + 1 }))
    ({ t with image := i } :: r.1, r.2)

/-- The identity recorded from trick n on, where it is not the one before (Table 07-5). -/
def addFormat (n : Nat) (id : List Byte) (l : List (Nat × List Byte)) : List (Nat × List Byte) :=
  match l.getLast? with
  | some e => if e.2 = id then l else l ++ [(n, id)]
  | none => [(n, id)]

/-- close_hand of R69: parity, trailers and, in a dealt group, the C4 hands (R151 to R154, R161, R162); the round closes with its
last hand (R158). -/
def closeHand (td p : Nat) (s : State) : Pack :=
  let t := s.tableAt td p
  if t.openHand.isEmpty then .ok s
  else
    let ds := dataDecks s td
    let ps := parityDecks s td
    let index := (t.openRound.filter (fun h => h.deck == td)).length
    let r := handSet (deckFormat s td) p index ds ps t.openHand
    let chipped := r.1.foldl (fun (acc : Except PackStop (List Hand × State)) h =>
      match acc with
      | .error e => .error e
      | .ok (hs, a) =>
        let old := if h.isC4 then [] else h.tricks.take h.ndata
        let new := if h.isC4 then h.tricks else h.tricks.drop h.ndata
        match imageAll new a with
        | .error e => .error e
        | .ok (ts, b) =>
          let n := nameImages ts b
          let all := (old ++ n.1).map (fun x => { x with round := t.rounds, hand := index })
          .ok (hs ++ [{ h with tricks := all }], n.2)) (.ok ([], s))
    match chipped with
    | .error e => .error e
    | .ok (hs, s1) =>
      let s2 := s1.onTable td p (fun t =>
        { t with openHand := [], openRound := t.openRound ++ hs, nextTrick := r.2
                 formats := addFormat (leastOf (t.openHand.map (fun x => x.number))) (formatId (deckFormat s td)) t.formats
                 directory := t.directory ++ (hs.take 1).map directoryEntry })
      if index + 1 = (tableFmt s td).rh then .ok (closeRound td p s2) else .ok s2

/-- The trailer condition of R151: fewer than 508 record places free in the hand of any data deck. -/
def trailerTight (f : Fmt) (ds : List Nat) (data : List Trick) : Bool :=
  ds.any (fun d => decide (f.recordPlaces < 508 + recordsUsed (data.filter (fun t => t.deck == d))))

/-- The open trick has chips for its image (R74). -/
def openImage (td p : Nat) (s : State) : Pack :=
  let t := s.tableAt td p
  if t.openChips.isEmpty then
    match imageChips (deckOfTrick (dataDecks s td) t.openHand.length) (tableFmt s td).userBytes s with
    | .error e => .error e
    | .ok (c, s1) => .ok (s1.onTable td p (fun t => { t with openChips := c }))
  else .ok s

/-- close_trick of R69 on a table: the open trick, an empty one of fixed seating too, has its image and its number and joins the open hand,
which closes when full (R74, R151, R161). A trick that would lie in the end zone is not closed (R174). OPEN goes with the trick's own number
(R225, R232). -/
def closeTrick (td p : Nat) (s0 : State) : Pack :=
  if inEndZone s0 td then .error .full
  else
    match openImage td p s0 with
    | .error e => .error e
    | .ok s =>
      let t := s.tableAt td p
      let f := tableFmt s td
      let ds := dataDecks s td
      let n := nameImages [{ number := t.nextTrick, body := .data t.openEntries, format := deckFormat s td, partition := p,
                             deck := deckOfTrick ds t.openHand.length, chips := t.openChips }] (if t.mode = 1 then setGuarantee td p 0 s else s)
      let hand := t.openHand ++ n.1
      let s1 := n.2.onTable td p (fun t => { t with openEntries := [], openChips := [], openHand := hand, nextTrick := t.nextTrick + 1 })
      if hand.length = ds.length * f.fullHand || trailerTight f ds hand then closeHand td p s1 else .ok s1

/-! ### Emitting entries -/

/-- The WRITEs and MARKs that an entry packs have used the deck's format section (R295). -/
def usesFormat (ctx : Nat) (tasks : List Nat) (epoch : Nat) (s : State) : State :=
  forEach tasks (fun q a => a.onTask ctx q (fun t => { t with fmtEpochs := addNew epoch t.fmtEpochs })) s

/-- An entry goes into the open trick. -/
def emitEntry (td p : Nat) (e : Entry) (s : State) : Pack :=
  match openImage td p s with
  | .error x => .error x
  | .ok s1 =>
    .ok (usesFormat e.ctx e.tasks (s.reg (Reg.cfgDeckEpoch td)).toNat (s1.onTable td p (fun t => { t with openEntries := t.openEntries ++ [e] })))

/-- The entry of a fragment of `f` bytes of a block of which `packed` bytes are packed (Table 03-3). -/
def fragmentEntry (b : Sealed) (packed f : Nat) : Entry :=
  { kind := 1, first := decide (packed = 0), last := decide (packed + f = b.bytes.length), stream := b.stream, bsn := b.bsn
    data := slice b.bytes packed f, ctx := b.ctx, firstObj := b.firstObj, nobj := b.nrec, salt := b.salt, label := b.label, ctr := b.ctr
    trunc := if packed = 0 then b.trunc else none, tasks := b.tasks }

/-- The entry of a mark (Table 03-3). -/
def markEntry (ctx : Nat) (sid bsn : Word) (obj count task : Nat) (trunc : Option Nat) : Entry :=
  { kind := 2, stream := sid, bsn := bsn, count := count, ctx := ctx, firstObj := obj, nobj := count, trunc := trunc, tasks := [task] }

/-- free(n, d) of the open trick plus one, 0 where it is below 0: what the open trick could still carry, less the filler. -/
def freeBytes (f : Fmt) (t : Table) : Int :=
  (f.userBytes : Int) - 2 - 16 * (t.openEntries.length + 2 : Nat) - (entryBytes t.openEntries : Nat)

/-- The open trick holds 254 content entries or has fewer than `need` bytes free: it closes (R69). -/
def roomFor (td p : Nat) (need : Int) (s : State) : Pack :=
  let t := s.tableAt td p
  if t.openEntries.length = 254 ∨ freeBytes (tableFmt s td) t < need then closeTrick td p s else .ok s

/-- A pending format epoch of the deck is due: the round being packed has closed, and the next is not begun (R294). -/
def epochBoundary (s : State) (td p : Nat) : Bool :=
  let t := s.tableAt td p
  s.img.deckPending.contains td && t.openEntries.isEmpty && t.openHand.isEmpty && t.openRound.isEmpty

/-- Nothing more is packed for now: two closed rounds are not written (R74), or a format epoch is due (R294). -/
def packingHeld (s : State) (td p : Nat) : Bool := (s.tableAt td p).roundWait || epochBoundary s td p

/-- An item goes back to the head of the items. -/
def putBack (td p : Nat) (i : Item) (s : State) : State := s.onTable td p (fun t => { t with items := i :: t.items })

/-- The chips of a sealed block are freed with its last fragment (R72). -/
def freeBlock (b : Sealed) (s : State) : State := freeList 1 b.ctx b.chips s

/-- The fragments of a block from byte `packed` on (R69); where a round closes within it and packing then has to wait, the rest of the block
waits (R74, R294). -/
def packBlock (td p : Nat) (b : Sealed) : Nat → Nat → State → Pack
  | 0, packed, s => .ok (putBack td p (.block b packed) s)
  | fuel + 1, packed, s =>
    if packed < b.bytes.length then
      match roomFor td p 1 s with
      | .error e => .error e
      | .ok s1 =>
        if packingHeld s1 td p then .ok (putBack td p (.block b packed) s1)
        else
          let f := min (b.bytes.length - packed) (freeBytes (tableFmt s1 td) (s1.tableAt td p)).toNat
          match emitEntry td p (fragmentEntry b packed f) s1 with
          | .error e => .error e
          | .ok s2 => packBlock td p b fuel (packed + f) s2
    else .ok (freeBlock b s)

/-! ### SYNC -/

/-- Rounds of the group's decks that are not released and hold an item of context n (R75). -/
def roundsOf (s : State) (td n : Nat) : List Nat :=
  ((groupOf s td).flatMap (fun d => ((s.deckAt d).rounds.filter (fun r => r.tricks.any (fun t =>
    !t.released && t.entries.any (fun e => e.ctx == n)))).map (fun r => r.id))).dedup

/-- What a sync item closes: trick, hand and round, each only where it holds something (R75). -/
def closeAll (td p : Nat) (s : State) : Pack :=
  let t := s.tableAt td p
  match (if t.openEntries.isEmpty then .ok s else closeTrick td p s) with
  | .error e => .error e
  | .ok s1 =>
    match closeHand td p s1 with
    | .error e => .error e
    | .ok s2 => .ok (closeRound td p s2)

/-- The Dealer reaches a SYNC: the task waits for the rounds that hold its context's items, or completes (R75). -/
def reachSync (td p n q : Nat) (s : State) : Pack :=
  match closeAll td p s with
  | .error e => .error e
  | .ok s1 =>
    let l := roundsOf s1 td n
    .ok (if l.isEmpty then finish n q (status 0) s1 else s1.onTask n q (fun t => { t with waitRounds := l }))

/-! ### The end zone -/

/-- Sealed blocks and marks of the table that are not whole in closed tricks (R174). -/
def untricked (t : Table) : List (Nat × Word × Nat) := t.openEntries.map Entry.ref ++ t.items.filterMap Item.ref

/-- The least BSN of a stream among what is not whole in closed tricks: NEXT_BSN after the end zone is met (R174). -/
def untrickedBsn (t : Table) (sid : Nat) : List Nat :=
  (t.openEntries.filter (fun e => e.stream.toNat == sid)).map (fun e => e.bsn.toNat)
    ++ t.items.filterMap (fun i => match i with
      | .block b _ => if b.stream.toNat = sid then some b.bsn.toNat else none
      | .mark _ x bsn _ _ _ _ => if x.toNat = sid then some bsn.toNat else none
      | _ => none)

/-- Record data and marks at the Cutter's input of context n are discarded; other items go on (R174). -/
def discardData (n : Nat) (s : State) : State :=
  let keep := (s.ctxAt n).inq.filter (fun i => match i with
    | .flush _ | .sync _ | .pass _ _ => true
    | _ => false)
  advanceInput n ((discardUnsealed n s).onCtx n (fun c => { c with inq := keep }))

/-- A WRITE or MARK in flight completes END_OF_PARTITION: the objects of it that remain, and the stream's object count (R174). -/
def endOfPartition (n : Nat) (objects : Nat) (s : State) : State :=
  forEach ((s.ctxAt n).tasks.filter (fun t => (t.opcode == 1 || t.opcode == 2) && (t.busy || t.isDone))) (fun t a =>
    let kept := if t.objs = 0 then 0 else min t.objs (objects - t.first)
    if t.busy || decide (kept < t.objs) then finish n t.seq (result2 3 kept objects) (dropReads n t.seq a) else a) s

/-- The table is full: what is not in a closed trick is discarded and takes no object number, and the WRITEs and MARKs that
needed such a trick complete END_OF_PARTITION (R174). Discarded objects whose task has completed already are a deferred error with cause 3
(R50, Table 02-9). -/
def refuseEndZone (td p : Nat) (s : State) : State :=
  let t := s.tableAt td p
  let refs := untricked t
  let streams := t.streams.map (fun e =>
    let l := (refs.filter (fun r => r.2.1.toNat == e.1)).map (fun r => r.2.2)
    if l.isEmpty then e else (e.1, { e.2 with objects := leastOf l, nextBsn := word (leastOf (untrickedBsn t e.1)) }))
  let chips := t.items.filterMap (fun i => match i with
    | .block b _ => some (b.ctx, b.chips)
    | _ => none)
  let items := t.items.filter (fun i => (Item.ref i).isNone)
  let s1 := forEach chips (fun c a => freeList 1 c.1 c.2 a) s
  let s2 := freeList 2 (deckOfTrick (dataDecks s td) t.openHand.length) t.openChips s1
  let s3 := s2.putTable td p { t with full := true, streams := streams, items := items, openEntries := [], openChips := [] }
  let ctxs := boundTo s td p
  forEach ctxs (fun n a =>
    let o := ((s3.tableAt td p).stream (streamId a n)).objects
    let mine := (a.ctxAt n).tasks.filter (fun t => (t.opcode == 1 || t.opcode == 2) && (t.busy || t.isDone) && t.objs != 0)
    let top := leastOf ((t.stream (streamId a n)).objects :: mine.map (fun t => t.first))
    let b := endOfPartition n o (setPosition n o a)
    let c := if (a.ctxAt n).tasks.any (fun t => t.busy && (t.opcode == 1 || t.opcode == 2)) then discardData n b else b
    if o < top then deferError n 3 o (top - 1) c else c) s3

/-! ### Packing an item -/

/-- Packing may go on: the table is active, the deck not stopped, no wait of R73 or R74 stands, no format epoch is due. -/
def mayPack (s : State) (td p : Nat) : Bool :=
  (s.deckAt td).active == some p && !(s.deckAt td).motion.stopped && (s.tableAt td p).poolWait.isNone && !packingHeld s td p

/-- The seat of a context in the plan in force (R62). -/
def seatOf (t : Table) (ctx : Nat) : Option Nat := t.plan.findIdx? (fun e => e.1 == ctx)

/-- A packing result put into the state: a wait on a pool (R73), or the end zone (R174), leave the item unpacked. -/
def settlePack (td p : Nat) (s : State) (r : Pack) : State :=
  match r with
  | .ok s1 => s1
  | .error (.pool k) => waitPool td p k (if poolServes s k then allocFailed k s else s)
  | .error .full => refuseEndZone td p s

/-- An item is packed whole outside fixed seating (R69). -/
def packItemOf (td p : Nat) (i : Item) (s : State) : Pack :=
  match i with
  | .sync n q => reachSync td p n q s
  | .mark n sid bsn o c q tr =>
    match roomFor td p 0 s with
    | .error e => .error e
    | .ok s1 => if packingHeld s1 td p then .ok (putBack td p i s1) else emitEntry td p (markEntry n sid bsn o c q tr) s1
  | .block b packed => packBlock td p b (b.bytes.length + 1) packed s
  | .flush _ _ | .pass _ _ _ => .ok s

/-- PACK_ITEM: the next item in order of arrival, on an unseated table or one in open seating (R69). -/
def opPackItem (td p : Nat) (s : State) : State :=
  let t := s.tableAt td p
  if mayPack s td p && t.mode != 2 then
    match t.items with
    | [] => s
    | i :: l => settlePack td p s (packItemOf td p i (s.putTable td p { t with items := l }))
  else s

/-! ### Fixed seating -/

/-- Context of an item. -/
def Item.ctx : Item → Nat
  | .block b _ => b.ctx
  | .mark c _ _ _ _ _ _ => c
  | .flush c _ => c
  | .sync c _ => c
  | .pass c _ _ => c

/-- The first item of a context, and the items without it. -/
def takeFirst (ctx : Nat) : List Item → Option (Item × List Item)
  | [] => none
  | i :: l => if i.ctx = ctx then some (i, l) else (takeFirst ctx l).map (fun r => (r.1, i :: r.2))

/-- pass_end of a seat covers trick t (R70). -/
def passed (t : Table) (seat trick : Nat) : Bool := t.passEnd.any (fun e => e.1 == seat && decide (trick ≤ e.2))

/-- The seat's pass_end set to `v`. -/
def setPass (t : Table) (seat v : Nat) : Table := { t with passEnd := (seat, v) :: t.passEnd.filter (fun e => e.1 != seat) }

/-- The turn of seat s begins, with its quota (R70). -/
def beginTurn (t : Table) (s : Nat) : Table := { t with turn := (s, (t.plan.getD s (0, 0)).2), inTurn := true, waiting := none, alerted := false, waitMs := 0 }

/-- Seats that a PASS covers are passed over; past the last seat the trick closes, and seat 0's turn of the next trick is to begin (R70). -/
def nextSeat (td p : Nat) : Nat → State → Pack
  | 0, s => .ok s
  | fuel + 1, s =>
    let t := s.tableAt td p
    if t.plan.length ≤ t.turn.1 then
      match closeTrick td p s with
      | .error e => .error e
      | .ok s1 => .ok (s1.onTable td p (fun t => beginTurn t 0))
    else if t.turn.2 = 0 || passed t t.turn.1 t.nextTrick then
      nextSeat td p fuel (s.onTable td p (fun t => beginTurn t (t.turn.1 + 1)))
    else .ok s

/-- The seat's turn ends (R70). -/
def endTurn (td p : Nat) (s : State) : State := s.onTable td p (fun t => { t with turn := (t.turn.1, 0) })

/-- A seat whose context took a CTX reset becomes vacant once its last item is packed and the reset has completed (R65). -/
def vacate (td p : Nat) (s : State) : State :=
  s.onTable td p (fun t =>
    let gone := t.vacating.filter (fun x =>
      let ctx := (t.plan.getD x (0, 0)).1
      !(t.items.any (fun i => i.ctx == ctx)) && !(s.ctxAt ctx).seatReset)
    { t with vacating := t.vacating.filter (fun x => !gone.contains x), vacant := gone ++ t.vacant })

/-- One item of the seat whose turn it is, within its quota (R70). -/
def seatItem (td p : Nat) (i : Item) (rest : List Item) (s : State) : Pack :=
  let t := s.tableAt td p
  let budget := t.turn.2
  let taken := s.putTable td p { t with items := rest }
  match i with
  | .block b packed =>
    let f := min (b.bytes.length - packed) budget
    let left := { t with items := if packed + f = b.bytes.length then rest else .block b (packed + f) :: rest, turn := (t.turn.1, budget - f) }
    match emitEntry td p (fragmentEntry b packed f) (s.putTable td p left) with
    | .error e => .error e
    | .ok s1 => .ok (if packed + f = b.bytes.length then freeBlock b s1 else s1)
  | .mark n sid bsn o c q tr => emitEntry td p (markEntry n sid bsn o c q tr) taken
  | .flush _ _ => .ok (endTurn td p taken)
  | .pass _ c _ => .ok (endTurn td p (taken.onTable td p (fun t => setPass t t.turn.1 (t.nextTrick + c - 1))))
  | .sync n q =>
    match reachSync td p n q taken with
    | .error e => .error e
    | .ok s1 => .ok (s1.onTable td p (fun t => beginTurn t 0))

/-- The turn of the awaited seat: its next item, or its wait (R65, R70). -/
def seatTurn (td p : Nat) (s : State) : Pack :=
  let t := s.tableAt td p
  if t.openEntries.length = 254 then
    match closeTrick td p s with
    | .error e => .error e
    | .ok s1 => .ok (s1.onTable td p (fun t => beginTurn { t with cuts := word (satAt 0xFFFFFFFF (t.cuts.toNat + 1)) } 0))
  else
    match takeFirst (t.plan.getD t.turn.1 (0, 0)).1 t.items with
    | some (i, rest) => seatItem td p i rest (s.putTable td p { t with waiting := none, alerted := false, waitMs := 0 })
    | none =>
      if t.vacant.contains t.turn.1 then .ok (endTurn td p (s.onTable td p (fun t => setPass t t.turn.1 t.nextTrick)))
      else .ok (s.putTable td p { t with waiting := some t.turn.1 })

/-- FIXED_SEAT_TURN: the awaited seat's next item is packed within its quota (R70). Where every seat left passes, the trick closes and the
turn is over: the next one looks at what the passes cover of the next trick. -/
def opFixedSeatTurn (td p : Nat) (s : State) : State :=
  let t := s.tableAt td p
  if mayPack s td p && t.mode == 2 && !t.plan.isEmpty then
    let s0 := if t.inTurn then s else s.putTable td p (beginTurn t 0)
    let fuel := t.plan.length + 2
    let r := match nextSeat td p fuel s0 with
      | .error e => .error e
      | .ok s1 =>
        if (s1.tableAt td p).nextTrick ≠ (s0.tableAt td p).nextTrick then .ok s1
        else
          match seatTurn td p s1 with
          | .error e => .error e
          | .ok s2 => if packingHeld s2 td p then .ok (vacate td p s2) else nextSeat td p fuel (vacate td p s2)
    settlePack td p s r
  else s

/-- SEAT_ALERT: a wait has reached ALERT_MS: event 340 once for the wait, unless ALERT_MS is 0 (R70, DLR_SEAT_ALERT). -/
def opSeatAlert (td p : Nat) (s : State) : State :=
  let t := s.tableAt td p
  let ms := s.fld Reg.dlrSeatAlert Fld.dlrSeatAlertAlertMs
  match t.waiting with
  | some k =>
    if ms = 0 || t.alerted then s
    else raise 340 [word td, word p, word k, word (t.plan.getD k (0, 0)).1]
      (s.putTable td p { t with alerted := true, waitMs := word (max ms t.waitMs.toNat) })
  | none => s

/-- PACK_ITEM. -/
def execPackItem (d : Fin 4) (p : Fin 64) (s : State) : Host.Outcome State Fault Refusal := run (opPackItem d.val p.val) s

/-- FIXED_SEAT_TURN. -/
def execFixedSeatTurn (d : Fin 4) (p : Fin 64) (s : State) : Host.Outcome State Fault Refusal := run (opFixedSeatTurn d.val p.val) s

/-- SEAT_ALERT. -/
def execSeatAlert (d : Fin 4) (p : Fin 64) (s : State) : Host.Outcome State Fault Refusal := run (opSeatAlert d.val p.val) s

end Sys2Proof.Machine
end

