-- ==== Sys2Proof/Machine/Tasks.lean ====
section
/-! DEFINITION. Tasks (R36 to R48): the check of R39, when a task begins, the states that refuse it (R46, R56), tables made
active (R59), truncation (R54); the data tasks, POSITION and BARRIER. -/

namespace Sys2Proof.Machine

/-! ### The check of R39 -/

/-- A field of a task record: place, length, and the values it may have (Table 02-4). -/
structure RecordField where
  /-- first byte -/
  off : Nat
  /-- bytes -/
  len : Nat
  /-- in range -/
  ok : Nat → Bool

/-- An address field aligned to `a` bytes, with bits 63:52 zero (R37). -/
def addressOk (a v : Nat) : Bool := v % a == 0 && decide (v < 2 ^ 52)

/-- `lo` ≤ `v` ≤ `hi`. -/
def within (lo hi v : Nat) : Bool := decide (lo ≤ v) && decide (v ≤ hi)

/-- Any value. -/
def anyValue (_ : Nat) : Bool := true

/-- OPTIONS of CUT and UNCUT: bits 31:12 and 3:2 zero (Table 02-4). -/
def optionsOk (v : Nat) : Bool := decide (v < 4096) && v / 4 % 4 == 0

/-- The opcodes of Table 02-4 that any context may use. -/
def commonOpcodes : List Nat := [0x01, 0x02, 0x03, 0x04, 0x05, 0x06, 0x07, 0x08, 0x09, 0x0A, 0x0B, 0x0C, 0x0D]

/-- The opcodes of the house context (R29, Table 02-4). -/
def houseOpcodes : List Nat := [0x10, 0x11, 0x12, 0x13, 0x14, 0x15, 0x16, 0x17, 0x18, 0x19]

/-- OPCODE is in range for context n (R39). -/
def opcodeOk (n op : Nat) : Bool := commonOpcodes.contains op || (houseOpcodes.contains op && n == 0)

/-- FLAGS is in range for the opcode (Table 02-3). -/
def flagsOk (op v : Nat) : Bool := decide (v < 4) && (decide (v < 2) || op == 1 || op == 5)

/-- A deck field: 0 to 3, and 0 only in a dealt group (R160). -/
def deckOk (s : State) (v : Nat) : Bool := decide (v < 4) && ((deckFmt s v).c4 == 0 || v == 0)

/-- The fields of an opcode in rising order (Table 02-4). -/
def opcodeFields (s : State) (n : Nat) (t : Task) : List RecordField :=
  let label := [⟨16, 8, addressOk 1⟩, ⟨24, 4, within 1 4096⟩]
  match t.opcode with
  | 0x01 => [⟨8, 8, addressOk 16⟩, ⟨16, 4, within 1 65536⟩, ⟨24, 8, anyValue⟩]
  | 0x02 => [⟨8, 4, within 1 65535⟩]
  | 0x05 => [⟨8, 8, addressOk 16⟩, ⟨16, 4, within 1 65536⟩, ⟨20, 4, within 1 65536⟩, ⟨24, 8, anyValue⟩, ⟨32, 8, addressOk 4⟩]
  | 0x06 => [⟨8, 1, within 0 1⟩, ⟨16, 8, fun v => t.field 8 1 != 1 || decide (v < 2 ^ 40)⟩]
  | 0x07 => [⟨8, 1, within 0 2⟩, ⟨16, 8, fun v => t.field 8 1 == 2 || v != 0⟩]
  | 0x09 => [⟨8, 4, within 1 65535⟩]
  | 0x0A => [⟨8, 1, fun v => v == 0 || (v == 1 && n == 0)⟩]
  | 0x0B | 0x0C =>
    [⟨8, 8, addressOk 1⟩, ⟨16, 4, within 1 0xFFFFFFFF⟩, ⟨24, 8, addressOk 1⟩, ⟨32, 4, within 1 0xFFFFFFFF⟩, ⟨36, 4, optionsOk⟩]
  | 0x0D => [⟨8, 2, fun v => v == n || (n == 0 && decide (v < 4096))⟩, ⟨16, 8, addressOk 64⟩]
  | 0x10 | 0x11 | 0x12 => [⟨8, 1, deckOk s⟩]
  | 0x13 => [⟨8, 1, deckOk s⟩, ⟨10, 2, within 1 65535⟩] ++ label
  | 0x14 => [⟨8, 1, deckOk s⟩, ⟨9, 1, within 0 63⟩]
  | 0x15 => [⟨8, 1, deckOk s⟩] ++ label
  | 0x16 =>
    [⟨8, 1, deckOk s⟩, ⟨9, 1, within 0 63⟩, ⟨10, 1, within 0 2⟩,
     ⟨12, 2, fun v => if t.field 10 1 = 0 then v == 0 else within 1 256 v⟩, ⟨16, 8, addressOk 8⟩]
  | 0x17 => [⟨8, 1, within 0 3⟩]
  | 0x19 => [⟨8, 1, within 0 3⟩]
  | _ => []

/-- TAG is used by no other task of the context in flight (Table 02-3). -/
def tagOk (c : Context) (t : Task) (v : Nat) : Bool := !(c.tasks.any (fun u => u.seq != t.seq && u.tag == v))

/-- The first violation from byte `a` on: its place and the low 32 bits of its value; bytes that no field covers are zero. -/
def violationFrom (t : Task) (fields : List RecordField) : Nat → Nat → Option (Nat × Nat)
  | 0, _ => none
  | fuel + 1, a =>
    if 64 ≤ a then none
    else
      match fields.find? (fun f => f.off == a) with
      | some f =>
        let v := t.field a f.len
        if f.ok v then violationFrom t fields fuel (a + f.len) else some (a, v % 2 ^ 32)
      | none => if t.field a 1 = 0 then violationFrom t fields fuel (a + 1) else some (a, t.field a 1)

/-- The first violation of a task record in ascending order of location (R39). -/
def checkRecord (s : State) (n : Nat) (t : Task) : Option (Nat × Nat) :=
  violationFrom t ([⟨0, 1, opcodeOk n⟩, ⟨1, 1, flagsOk t.opcode⟩, ⟨4, 4, tagOk (s.ctxAt n) t⟩] ++ opcodeFields s n t) 65 0

/-! ### Descriptors -/

/-- A descriptor: ADDR, LENGTH, FLAGS (Table 02-5). -/
structure Descriptor where
  /-- ADDR -/
  addr : Nat
  /-- LENGTH -/
  len : Nat
  /-- FLAGS -/
  flags : Nat
  deriving DecidableEq, Repr, Inhabited

/-- The descriptors of a list as fetched (Table 02-5). -/
def descriptorsOf (b : List Byte) : List Descriptor := (chunks 16 b).map (fun x => ⟨leAt x 0 8, leAt x 8 4, leAt x 12 4⟩)

/-- The first violation of a descriptor list from index `i` on; `run` counts the descriptors of the present record (R38, R39). -/
def checkDescriptors (isWrite : Bool) : Nat → Nat → List Descriptor → Option (Nat × Nat)
  | _, _, [] => none
  | i, run, x :: l =>
    let loc := 0x80000000 + 16 * i
    let ends := bitAt x.flags 0
    if !addressOk 1 x.addr then some (loc, x.addr % 2 ^ 32)
    else if !within 1 16777216 x.len then some (loc + 8, x.len)
    else if (if isWrite then decide (2 ≤ x.flags) else x.flags != 0) then some (loc + 12, x.flags)
    else if isWrite && !ends && (l.isEmpty || run == 255) then some (loc + 12, x.flags)
    else checkDescriptors isWrite (i + 1) (if ends then 0 else run + 1) l

/-- Lengths of the records that a WRITE's descriptors describe (R38). -/
def recordLengths : Nat → List Descriptor → List Nat
  | _, [] => []
  | a, x :: l => if bitAt x.flags 0 then (a + x.len) :: recordLengths 0 l else recordLengths (a + x.len) l

/-! ### Beginning -/

/-- A task that may begin before its predecessors have completed (R47, R66). -/
def Task.overlaps (t : Task) : Bool := (dataOpcodes.contains t.opcode) && !t.positioned

/-- An earlier task that a data task need not wait for: one that carries a deferred error and does not execute (R50), or a data task that has
begun, is not fetching, and has not failed so that its followers start again (R47, R108, R116). -/
def Task.passable (t : Task) : Bool :=
  t.carrier || (dataOpcodes.contains t.opcode &&
    (match t.stage with
     | .running => true
     | .done c => c.status != 0x15 && c.status != 0x16
     | _ => false))

/-- The ordering of R47 lets the task begin. -/
def inOrder (c : Context) (t : Task) : Bool :=
  let earlier := c.tasks.takeWhile (fun u => u.seq != t.seq)
  earlier.isEmpty || (t.overlaps && earlier.all Task.passable)

/-- The opcodes of deck tasks that act for the context's own binding (R434). -/
def boundDeckOpcodes : List Nat := [0x01, 0x02, 0x03, 0x04, 0x05, 0x06, 0x07, 0x09]

/-- The opcodes of deck tasks that name their deck (R434). -/
def namedDeckOpcodes : List Nat := [0x10, 0x11, 0x12, 0x13, 0x14, 0x15, 0x16]

/-- The deck on which a task acts; none where it needs no deck (R434). -/
def taskDeck (s : State) (n : Nat) (t : Task) : Option Nat :=
  if boundDeckOpcodes.contains t.opcode then (if bound s n then some (bindDeck s n) else none)
  else if namedDeckOpcodes.contains t.opcode then some (t.field 8 1 % 4)
  else none

/-- A link of the deck's group trains: its tasks wait (R318). -/
def deckTraining (s : State) (d : Nat) : Bool := (groupOf s d).any (fun x => linkState s x == 1)

/-- The task of context n with this opcode, or with a code of no opcode, that may begin now (R47, R318, R355). -/
def startable (s : State) (n op : Nat) : Option Task :=
  match (s.ctxAt n).oldestWaiting with
  | none => none
  | some t =>
    let known := commonOpcodes.contains t.opcode || houseOpcodes.contains t.opcode
    let trains := match taskDeck s n t with
      | some d => deckTraining s d
      | none => false
    if (t.opcode == op || !known) && decide (s.pwr.state ≤ 1) && inOrder (s.ctxAt n) t && !trains then some t else none

/-- A task begins: the check of R39, then `f`. -/
def beginTask (op n : Nat) (f : Task → State → State) (s : State) : State :=
  match startable s n op with
  | none => s
  | some t =>
    match (if t.checked then none else checkRecord s n t) with
    | some (loc, v) => finish n t.seq (fieldRange loc v) s
    | none => f t s

/-- A task has begun to execute and is past its commit point (R52). -/
def commence (n q : Nat) (s : State) : State := s.onTask n q (fun t => { t with stage := .running, committed := true })

/-- A task has begun to execute; its commit point lies ahead (R52). -/
def commenceOpen (n q : Nat) (s : State) : State := s.onTask n q (fun t => { t with stage := .running })

/-- `f`, unless the task is refused: then it completes so. -/
def unlessRefused (n q : Nat) (r : Option Completion) (f : State → State) (s : State) : State :=
  match r with
  | some c => finish n q c s
  | none => f s

/-! ### Refusals -/

/-- The first reason whose condition holds. -/
def firstReason (l : List (Bool × Nat)) : Option Nat := (l.find? (fun e => e.1)).map (fun e => e.2)

/-- SECURITY_STATE in TAMPERED for the tasks that R56 names. -/
def tampered (s : State) : Option Completion := if s.sec.state = 2 then some (securityState 2) else none

/-- A deck of the group is absent, or a dealt table is named by another deck than deck 0 (R160). -/
def deckAbsent (s : State) (d : Nat) : Bool :=
  (groupOf s d).any (fun x => !(s.deckAt x).present) || ((deckFmt s d).c4 != 0 && d != 0)

/-- The deck is stopped and not reset, its link is in FAULT or DISABLED, or the debug level locks tape out (Table 02-10, 4). -/
def deckStopped (s : State) (d : Nat) : Bool :=
  s.sec.debug == 3 || (groupOf s d).any (fun x => (s.deckAt x).motion.stopped || linkState s x == 0 || linkState s x == 3)

/-- The partition is PRESENT on the loaded cartridge (R59, R173). -/
def partPresent (s : State) (d p : Nat) : Bool := (s.deckAt d).loaded && (Sparse.find (s.deckAt d).parts p).isSome

/-- Closed rounds of a table that are not released (R193). -/
def unreleasedRounds (s : State) (td : Nat) : Bool := (groupOf s td).any (fun d => !((s.deckAt d).rounds).isEmpty)

/-- The table has an item packed in a round that has not closed, or one not packed, or a round not released (R59). -/
def tableHolds (s : State) (td p : Nat) : Bool :=
  let t := s.tableAt td p
  !t.openEntries.isEmpty || !t.openHand.isEmpty || !t.openRound.isEmpty || !t.items.isEmpty || unreleasedRounds s td

/-- A data task of a context bound to the table is in flight (R59). -/
def dataInFlight (s : State) (td p : Nat) : Bool :=
  (boundTo s td p).any (fun n => (s.ctxAt n).tasks.any (fun t => dataOpcodes.contains t.opcode))

/-- The active table of the deck has anything that R59 lists. -/
def activeBusy (s : State) (td : Nat) : Bool :=
  match (s.deckAt td).active with
  | some p => tableHolds s td p || dataInFlight s td p
  | none => false

/-- Another table than the deck's active one is named, and the active one is busy (R59, R198). -/
def otherTableBusy (s : State) (td p : Nat) : Bool := (s.deckAt td).active != some p && activeBusy s td

/-- The format sections loaded for a deck, of type 1 or type 7 (R287). -/
def loadedFormats (s : State) (d : Nat) : List (List Byte) :=
  deckFormat s d :: (match deckImage s d with
    | some i => i.legacy
    | none => [])

/-- Two format sections are of one family (R287). -/
def sameFamily (a b : List Byte) : Bool := (fmtOf a).family == (fmtOf b).family && slice a 4 14 == slice b 4 14

/-- The identity that a table's end-of-data records: of its last hand, or of its lead (Table 07-5, R287). -/
def Table.formatId (t : Table) : List Byte :=
  match t.formats.getLast? with
  | some e => e.2
  | none => []

/-- The table may be appended under these loaded sections, the first of them in force (R287). -/
def usableUnder (formats : List (List Byte)) (t : Table) : Bool :=
  t.directory.isEmpty ||
    (match formats with
     | a :: _ => formats.any (fun b => formatId b == t.formatId && sameFamily a b)
     | [] => false)

/-- The table is usable for appending (R287). -/
def usable (s : State) (td p : Nat) : Bool := usableUnder (loadedFormats s td) (s.tableAt td p)

/-- A stack is not trained, or a checker has failed its self-test (R261, R277, Table 19-3). -/
def memoryFailed (s : State) : Bool :=
  s.shoe.noHbm || !(s.flag (Reg.micHbmStatus 0) Fld.micHbmStatusTrained) || !(s.flag (Reg.micHbmStatus 1) Fld.micHbmStatusTrained)
    || s.fld Reg.micSelftest Fld.micSelftestGroupFail != 0 || s.fld Reg.micSelftest Fld.micSelftestHbmFail != 0

/-- No image is in force (R292). -/
def noImage (s : State) : Bool := s.img.inForce.isNone

/-- Why a data task cannot run: the reasons of Table 02-10 in rising order (log entry 10). -/
def dataReason (s : State) (n op : Nat) : Option Nat :=
  let d := bindDeck s n
  let p := bindPart s n
  let t := s.tableAt d p
  let other := match t.holder with
    | some h => h != n
    | none => false
  firstReason
    [(!bound s n, 1), (deckAbsent s d, 2), (!partPresent s d p, 3), (deckStopped s d, 4), (otherTableBusy s d p, 5),
     ((op == 9 && !seated s n) || (if t.mode = 0 then other else !seated s n), 6), (memoryFailed s, 9),
     ((s.deckAt d).active != some p && !usable s d p, 10), (noImage s, 11)]

/-- Why a restore task cannot run (R198, R292). -/
def restoreReason (s : State) (n : Nat) : Option Nat :=
  let d := bindDeck s n
  let p := bindPart s n
  firstReason
    [(!bound s n, 1), (deckAbsent s d, 2), (!partPresent s d p, 3), (deckStopped s d, 4), (otherTableBusy s d p, 5), (noImage s, 11)]

/-- The first of two refusals. -/
def orElse (a b : Option Completion) : Option Completion :=
  match a with
  | some c => some c
  | none => b

/-! ### The active table -/

/-- What has been read from a deck's tape is forgotten: reading begins again from the start of the partition. -/
def Deck.forget (k : Deck) : Deck :=
  { k with restored := [], buffer := [], found := [], seen := [], unplaced := [], joining := [], nextDeliver := 0, roundFirst := 0, endMet := false,
           retry := 0, unrecovered := none, gaveUp := false, origin := none, cellBase := 0, readTo := 0, skipped := [], synced := false }

/-- A new read stream of the deck begins: its channel bits are counted anew, its cells go on after those read (R202, R312). -/
def Deck.nextRead (k : Deck) : Deck := { k with seen := [], unplaced := [], origin := none, cellBase := k.readTo + 1 }

/-- The table becomes its deck's active one; its end-of-data is to be met on tape first (R59). -/
def makeActive (td p : Nat) (s : State) : State :=
  if (s.deckAt td).active = some p then s.onDeck td (fun k => { k with dormant := false })
  else
    let holds := (s.tableAt td p).known && !(s.tableAt td p).directory.isEmpty
    let s1 := forEach (groupOf s td) (fun d a => a.onDeck d (fun k =>
      { Deck.forget k with active := some p, dormant := false, lastReleased := none, needRunIn := true, left := none, eodWritten := true
                           resumeAt := none, laid := [], reserveUsed := 0
                           dataParts := if holds then addNew p k.dataParts else k.dataParts })) s
    s1.onTable td p (fun t => { t with known := false, directory := [] })

/-- IDLE returns to RUN by itself when a task needs tape (R356). -/
def leaveIdle (s : State) : State := if s.pwr.state = 1 then raise 466 [] { s with pwr := { s.pwr with state := 0 } } else s

/-- A READ of a context bound to the deck's group needs its tape (R199). -/
def readWaits (s : State) (d : Nat) : Bool :=
  (boundToDeck s (tableDeck s d)).any (fun n => match (s.ctxAt n).reader with
    | some r => r.needsTape
    | none => false)

/-- The state for which PACE leaves IDLE where tape is wanted: POSITION for a LOCATE or SPACE, START for a READ and what else reads (Table 11-5). -/
def wantedState (s : State) (d : Nat) : Nat :=
  let seeks := (boundToDeck s (tableDeck s d)).any (fun n =>
    (s.ctxAt n).tasks.any (fun t => decide (t.stage = .running) && (t.opcode == 6 || t.opcode == 7)))
  if seeks && !readWaits s d then 5 else 1

/-- A task needs deck d's tape read from a position on: PACE leaves IDLE (R198, R248). -/
def wantTape (d : Nat) (target : Nat × Word) (s : State) : State :=
  let k := s.deckAt d
  if k.wanted.isSome then s
  else
    let m := if k.motion.pace = 0 && !k.motion.stopped && !k.estop then { k.motion with pace := wantedState s d, target := some target.2 }
      else k.motion
    (leaveIdle s).putDeck d { k with wanted := some target, motion := m }

/-- Tape position at which a partition begins on its first wrap: past the medium lead region on wrap 0, at BOT on the other even wraps,
and at the other end, whose position the spec does not give, on odd ones (R170, R171). -/
def wrapStart (s : State) (d w : Nat) : Word :=
  if w = 0 then word ((16 * (deckFmt s d).trickBits + 3999) / 4000) else if towardsEot w then 0 else Config.eotPosition d

/-- The first wrap of a partition (R171). -/
def partWrap (s : State) (d p : Nat) : Nat := ((Sparse.find (s.deckAt d).parts p).getD (0, 0)).1

/-- Tape position at which a partition begins. -/
def partStart (s : State) (d p : Nat) : Word :=
  match Sparse.find (s.deckAt d).parts p with
  | some (w, _) => wrapStart s d w
  | none => 0

/-- The decks of the group want tape from the start of the partition. -/
def wantPartition (td p : Nat) (s : State) : State := forEach (groupOf s td) (fun d a => wantTape d (partWrap a d p, partStart a d p) a) s

/-- A data task's table becomes active and its end-of-data known; true where the task may go on now (R59, R195). -/
def enterTable (n : Nat) (s : State) : Bool × State :=
  let td := bindDeck s n
  let p := bindPart s n
  let s1 := makeActive td p s
  let t := s1.tableAt td p
  if !t.known then (false, wantPartition td p s1)
  else if t.needsEod then (false, s1)
  else (true, if t.mode = 0 then s1.onTable td p (fun t => { t with holder := some n }) else s1)

/-- A data task goes on with `f` once its table is active and its end-of-data known; until then it waits (R59). -/
def onTableReady (n q : Nat) (f : State → State) (s : State) : State :=
  let r := enterTable n s
  if r.1 then f r.2 else r.2.onTask n q (fun t => { t with stage := .waiting })

/-- A WRITE or MARK on a table that is full (R174). -/
def fullRefusal (s : State) (n : Nat) : Option Completion :=
  let t := s.tableAt (bindDeck s n) (bindPart s n)
  if t.full then some (result2 3 0 (t.stream (streamId s n)).objects) else none

/-! ### Truncation -/

/-- What a truncation at `start` leaves of an item of the stream that is not yet packed: none where it is discarded (R54). -/
def truncItem (sid : Word) (start : Nat) : Item → Option Item
  | .block b packed => if b.stream = sid ∧ packed = 0 ∧ start ≤ b.firstObj then none else some (.block b packed)
  | .mark c x bsn o k q tr =>
    if x = sid then (if start ≤ o then none else some (.mark c x bsn o (min k (start - o)) q tr)) else some (.mark c x bsn o k q tr)
  | i => some i

/-- Items of the stream that carry an object before `start` and are not packed (R225, TRUNC). -/
def unpackedBefore (sid : Word) (start : Nat) (l : List Item) : Bool :=
  l.any (fun i => match i.ref with
    | some (_, x, o) => x == sid && decide (o < start)
    | none => false)

/-- The stream of context n is truncated at `start` (R54). -/
def truncate (n start : Nat) (s : State) : State :=
  let td := bindDeck s n
  let p := bindPart s n
  let sid := streamId s n
  let t := s.tableAt td p
  let gone := t.items.filterMap (fun i => match i with
    | .block b k => if (truncItem sid start (.block b k)).isNone then some b else none
    | _ => none)
  let s1 := if unpackedBefore sid start t.items then setGuarantee td p 4 s else s
  let s2 := forEach gone (fun b a => freeList 1 b.ctx b.chips a) s1
  setPosition n start (s2.onTable td p (fun t =>
    { t.onStream sid (fun x => { x with objects := start }) with
      items := t.items.filterMap (truncItem sid start)
      truncPending := (sid.toNat, start) :: t.truncPending.filter (fun e => e.1 != sid.toNat) }))

/-- Why a positioned WRITE does not run (R54): seated, or another context bound to the partition; then START beyond the stream. DESIGN CHOICE
(log entry 102): START is so checked of a WRITE only; a positioned READ beyond the stream ends END_OF_PARTITION. -/
def positionedRefusal (s : State) (n : Nat) (t : Task) : Option Completion :=
  let td := bindDeck s n
  let p := bindPart s n
  if !t.positioned then none
  else if seated s n || (boundTo s td p).any (fun m => m != n) then some (notReady 6)
  else if ((s.tableAt td p).stream (streamId s n)).objects < t.field 24 8 then some (fieldRange 24 (t.field 24 8 % 2 ^ 32))
  else none

/-! ### WRITE -/

/-- Record data of a context may be fetched: its sealed blocks hold fewer chips than its quota (R72). -/
def fetchMore (n q : Nat) (s : State) : State :=
  if overChipQuota s n then s.onCtx n (fun c => { c with fetchStopped := true }) else fetchNext n q s

/-- A WRITE whose descriptors are good executes: states are checked, its stream truncated where POSITIONED is set, and its
records are fetched (R38, R54, R66, R72). -/
def runWrite (n : Nat) (t : Task) (s : State) : State :=
  let q := t.seq
  unlessRefused n q (orElse (tampered s) ((dataReason s n 1).map notReady))
    (onTableReady n q (fun a =>
      unlessRefused n q (orElse (positionedRefusal a n t) (fullRefusal a n))
        (fun b =>
          let ds := descriptorsOf t.got
          let c := if t.positioned then truncate n (t.field 24 8) b else b
          let r := ds.map (fun d => (d.addr, d.len))
          fetchMore n q (c.onTask n q (fun x =>
            { x with stage := .fetching, checked := true, ranges := r, recs := recordLengths 0 ds, got := [], fetched := 0 }))) a)) s

/-- A WRITE's descriptors have been fetched: they are checked before anything else (R39). -/
def writeDescriptors (n : Nat) (t : Task) (s : State) : State :=
  match checkDescriptors true 0 0 (descriptorsOf t.got) with
  | some (loc, v) => finish n t.seq (fieldRange loc v) s
  | none => runWrite n { t with checked := true } (s.onTask n t.seq (fun x => { x with checked := true }))

/-- Records cut from the bytes fetched: those that are whole, with what is left. -/
def cutRecords (q : Nat) : List Nat → List Byte → List InItem × List Nat × List Byte
  | [], b => ([], [], b)
  | n :: l, b =>
    if n ≤ b.length then
      let r := cutRecords q l (b.drop n)
      (.data (b.take n) false q :: r.1, r.2)
    else ([], n :: l, b)

/-- Data of a WRITE has arrived: whole records go to the Cutter, and fetching goes on or is done (R66, R72, R81). -/
def writeData (n : Nat) (t : Task) (s : State) : State :=
  let q := t.seq
  let r := cutRecords q t.recs t.got
  let rest := r.2
  let s1 := s.onTask n q (fun x => { x with recs := rest.1, got := rest.2, stage := if t.ranges.isEmpty then .running else .fetching })
  if t.ranges.isEmpty then pushInput n (r.1 ++ [.endWrite q]) s1 else fetchMore n q (if r.1.isEmpty then s1 else pushInput n r.1 s1)

/-- WRITE begins: its descriptors are fetched (R38, R39). -/
def opWrite (n : Nat) (s : State) : State :=
  beginTask 1 n (fun t a =>
    if t.checked then runWrite n t a else startFetch n t.seq [(t.field 8 8, 16 * t.field 16 4)] a) s

/-- FETCH_RESUME: packing has freed chips, and the context's record data is fetched again, where no read of it is under way (R72). -/
def opFetchResume (n : Nat) (s : State) : State :=
  if (s.ctxAt n).fetchStopped && !overChipQuota s n then
    let s1 := s.onCtx n (fun c => { c with fetchStopped := false })
    let waiting := fun (t : Task) => decide (t.stage = .fetching) && t.opcode == 1 && !s.lnk.reads.any (fun r => r.owner == (n, t.seq))
    forEach ((s.ctxAt n).tasks.filter waiting) (fun t a => fetchNext n t.seq a) s1
  else s

/-! ### MARK, FLUSH, SYNC, PASS -/

/-- A data task without data: its item joins the Cutter's input (R66). -/
def runItem (n op : Nat) (refusals : State → Option Completion) (item : Nat → InItem) (t : Task) (s : State) : State :=
  unlessRefused n t.seq (orElse (if op = 2 then tampered s else none) ((dataReason s n op).map notReady))
    (onTableReady n t.seq (fun a =>
      unlessRefused n t.seq (refusals a)
        (fun b => pushInput n [item t.seq] (if op = 2 then commenceOpen n t.seq b else commence n t.seq b)) a)) s

/-- MARK (R66). -/
def opMark (n : Nat) (s : State) : State :=
  beginTask 2 n (fun t => runItem n 2 (fun a => fullRefusal a n) (fun q => .mark (t.field 8 4) q) t) s

/-- FLUSH (R66). -/
def opFlush (n : Nat) (s : State) : State := beginTask 3 n (runItem n 3 (fun _ => none) InItem.flush) s

/-- SYNC (R75). -/
def opSync (n : Nat) (s : State) : State := beginTask 4 n (runItem n 4 (fun _ => none) InItem.sync) s

/-- PASS (R70). -/
def opPass (n : Nat) (s : State) : State :=
  beginTask 9 n (fun t => runItem n 9 (fun _ => none) (fun q => .pass (t.field 8 4) q) t) s

/-! ### POSITION and BARRIER -/

/-- The logical trick number at which a bound context stands: that being read while its deck reads, else that being packed. -/
def trickNow (s : State) (d p : Nat) : Nat :=
  let k := s.deckAt d
  if k.mode = 2 then k.nextDeliver else (s.tableAt (tableDeck s d) p).nextTrick

/-- POSITION's results (Table 02-8, R175). -/
def positionResult (s : State) (n : Nat) : Completion :=
  let d := bindDeck s n
  let p := bindPart s n
  let m := (s.deckAt d).motion
  { status := 0, info0 := BitVec.ofNat 64 (position s n), info1 := BitVec.ofNat 64 (trickNow s d p % 2 ^ 40 + m.wrap % 65536 * 2 ^ 40)
    info2 := m.tpc, info3 := word (p + d * 256) }

/-- POSITION: it starts once every earlier task has completed (R47). -/
def opPosition (n : Nat) (s : State) : State :=
  beginTask 8 n (fun t a => unlessRefused n t.seq (if bound a n then none else some (notReady 1))
    (fun b => finish n t.seq (positionResult b n) (commence n t.seq b)) a) s

/-- No task accepted before the barrier is in flight in any context (R48). -/
def allEarlierDone (s : State) (q : Nat) : Bool := s.ctx.all (fun e => e.2.tasks.all (fun u => decide (q ≤ u.seq)))

/-- BARRIER: it completes once every earlier task of its context has, and with GLOBAL of every context (R47, R48). -/
def opBarrier (n : Nat) (s : State) : State :=
  beginTask 0x0A n (fun t a =>
    if t.field 8 1 = 1 && !allEarlierDone a t.seq then a else finish n t.seq (status 0) (commence n t.seq a)) s

/-- WRITE. -/
def execWrite (n : Fin 4096) (s : State) : Host.Outcome State Fault Refusal := run (opWrite n.val) s

/-- FETCH_RESUME. -/
def execFetchResume (n : Fin 4096) (s : State) : Host.Outcome State Fault Refusal := run (opFetchResume n.val) s

/-- MARK. -/
def execMark (n : Fin 4096) (s : State) : Host.Outcome State Fault Refusal := run (opMark n.val) s

/-- FLUSH. -/
def execFlush (n : Fin 4096) (s : State) : Host.Outcome State Fault Refusal := run (opFlush n.val) s

/-- SYNC. -/
def execSync (n : Fin 4096) (s : State) : Host.Outcome State Fault Refusal := run (opSync n.val) s

/-- PASS. -/
def execPass (n : Fin 4096) (s : State) : Host.Outcome State Fault Refusal := run (opPass n.val) s

/-- POSITION. -/
def execPosition (n : Fin 4096) (s : State) : Host.Outcome State Fault Refusal := run (opPosition n.val) s

/-- BARRIER. -/
def execBarrier (n : Fin 4096) (s : State) : Host.Outcome State Fault Refusal := run (opBarrier n.val) s

end Sys2Proof.Machine
end

