-- ==== Sys2Proof/Machine/Windows.lean ====
section
/-! DEFINITION. Task windows and context records (R31 to R35, R52, R53), completion entries (R40 to R43, R49, R295), delivery of
deferred errors (R50), CTX reset (R32). -/

namespace Sys2Proof.Machine

/-! ### Task records and doorbells -/

/-- TSK_STATUS.STATE of context n. -/
def windowState (s : State) (n : Nat) : Nat := s.fld (Reg.tskStatus n) Fld.tskStatusState

/-- TASK_RECORD_WRITE: a word of the record area; discarded with event 338 while STATE is PENDING (R35). -/
def opTaskRecordWrite (n k : Nat) (v : Word) (s : State) : State :=
  if windowState s n = 1 then refuseConfig n (Reg.tskRecord n k) s else s.setReg (Reg.tskRecord n k) v

/-- The 64 bytes of the record area (R33). -/
def recordBytes (s : State) (n : Nat) : List Byte := bytesOf ((List.range 16).map (fun k => s.reg (Reg.tskRecord n k)))

/-- Tasks that a context may have in flight: values above 32,768 act as 32,768 (CTX_QUOTA). -/
def taskQuota (s : State) (n : Nat) : Nat := min 32768 (s.fld (Reg.ctxQuota n) Fld.ctxQuotaMaxTasks)

/-- The STATE that a doorbell of context n gives (R32, R34). -/
def doorbellOutcome (s : State) (n : Nat) : Nat :=
  if !s.flag (Reg.ctxControl n) Fld.ctxControlEnable || s.flag (Reg.ctxControl n) Fld.ctxControlReset
      || decide (taskQuota s n ≤ (s.ctxAt n).tasks.length) then 3
  else if 32768 ≤ totalInFlight s then 4
  else 2

/-- A POWER task that is entering DOZE or SLEEP is cancelled by arriving work: the device is in RUN and the task completes
POWER_TRANSITION with INFO2 = 0 (R57). -/
def cancelEntry (s : State) : State :=
  match s.pwr.entering with
  | some (n, q, target) =>
    if 2 ≤ target then
      finish n q { status := 0x1D, info2 := 0 } (leaveIdle { s with pwr := { s.pwr with entering := none } })
    else s
  | none => s

/-- A task is accepted (R34, R48, R50, R57). -/
def acceptTask (n : Nat) (s : State) : State :=
  let t : Task := { seq := s.accepted, bytes := recordBytes s n }
  let s1 := { cancelEntry s with accepted := s.accepted + 1 }
  let s2 := s1.onCtx n (fun c => { c with tasks := c.tasks ++ [t] })
  if s2.flag (Reg.ctxDeferredStatus n) Fld.ctxDeferredStatusPending then chooseCarrier n s2 else s2

/-- DOORBELL: SEQ counts, the record area is copied and STATE takes its outcome (R34, R35). -/
def opDoorbell (n : Nat) (s : State) : State :=
  let r := Reg.tskStatus n
  if windowState s n = 1 then refuseConfig n (Reg.tskDoorbell n) s
  else
    let o := doorbellOutcome s n
    let s1 := (s.incFld r Fld.tskStatusSeq 1).setFld r Fld.tskStatusState o
    if o = 2 then acceptTask n s1 else s1

/-! ### Context records -/

/-- Offset of a configuration register of context n (R31). -/
def configOffset (n : Nat) : CtxConfigReg → Nat
  | .streamId => Reg.ctxStreamId n
  | .bind => Reg.ctxBind n
  | .cutOptions => Reg.ctxCutOptions n
  | .eccProfile => Reg.ctxEccProfile n
  | .ringBaseLo => Reg.ctxRingBaseLo n
  | .ringBaseHi => Reg.ctxRingBaseHi n
  | .ringCtrl => Reg.ctxRingCtrl n

/-- A host write that is applied: each field by its access code (R8, Table 00-3). -/
def applyWrite (off : Nat) (v : Word) (s : State) : State :=
  match findReg off with
  | some r => s.setReg off (writtenReg (fun _ => true) r (s.reg off) v)
  | none => s

/-- Context n no longer is the writer of the table to which it was bound (R60). -/
def releaseHolder (n : Nat) (s : State) : State :=
  { s with tables := Sparse.remap (fun _ => {}) (fun _ t => if t.holder = some n then { t with holder := none } else t) s.tables }

/-- CTX_CONFIG_WRITE (R31, R61). -/
def opCtxConfigWrite (n : Nat) (reg : CtxConfigReg) (v : Word) (s : State) : State :=
  let off := configOffset n reg
  let busy := s.flag (Reg.ctxControl n) Fld.ctxControlEnable || !(s.ctxAt n).tasks.isEmpty
  if busy || (reg = .bind && seated s n) then refuseConfig n off s
  else
    let s1 := applyWrite off v s
    if reg = .bind && s1.reg off ≠ s.reg off then releaseHolder n s1 else s1

/-! ### Abort -/

/-- Whole pieces of a block with their WRITEs, the ends of WRITEs among them, and the rest of its data. -/
def piecesOf (ending : List Nat) : Bool → List Nat → List Nat → List Byte → List InItem × List Byte × Bool
  | begun, e :: es, q :: qs, d =>
    let r := piecesOf ending false es qs (d.drop e)
    let last := ending.contains q && !qs.contains q
    (.data (d.take e) begun q :: (if last then [.endWrite q] else []) ++ r.1, r.2)
  | begun, _, _, d => ([], d, begun)

/-- The item belongs to task q. -/
def InItem.task : InItem → Nat
  | .data _ _ q => q
  | .endWrite q => q
  | .mark _ q => q
  | .flush q => q
  | .sync q => q
  | .pass _ q => q

/-- The bytes of a record with which a block ended, put back before the rest of the record. -/
def rejoin (rest : List Byte) (begun : Bool) : List InItem → List InItem
  | .data d _ q :: l => .data (rest ++ d) begun q :: l
  | i :: l => i :: rejoin rest begun l
  | [] => []

/-- An item put before those of its own and later tasks. -/
def inTaskOrder (i : InItem) : List InItem → List InItem
  | [] => [i]
  | j :: l => if i.task ≤ j.task then i :: j :: l else j :: inTaskOrder i l

/-- A block's record data and PASS items put back before the items at the Cutter's input, in task order (R66). -/
def unform (b : Block) (l : List InItem) : List InItem :=
  let r := piecesOf b.ending b.cont b.ends b.endTasks b.data
  let l1 := if r.2.1.isEmpty then l else rejoin r.2.1 r.2.2 l
  (b.before ++ r.1 ++ l1).foldr inTaskOrder []

/-- Everything of task q that is at the Cutter and not sealed is taken back; the blocks that held it are formed again from what
is left, under the first of their latches (R52: catching a task affects no other task). -/
def withdraw (n q : Nat) (s : State) : State :=
  let c := s.ctxAt n
  let items := c.blocks.foldr unform c.inq
  let latch := match c.blocks with
    | b :: _ => some b.latch
    | [] => c.openLatch
  let s1 := (unqueue n s).onCtx n (fun c => { c with blocks := [], inq := items.filter (fun i => i.task != q), openLatch := latch })
  let s2 := s1.onCtx n (fun c => if blockOpen c.inq then c else { c with openLatch := none })
  advanceInput n s2

/-- A context's host job goes, with its staging chips (R52, R99). -/
def dropJob (n q : Nat) (s : State) : State :=
  match (s.ctxAt n).job with
  | some j =>
    if j.task = q then
      (haltEngines (.job n) (freeList 5 n j.chips s)).onCtx n (fun c => { c with job := none })
    else s
  | none => s

/-- A caught task: it never passes its commit point, and completes ABORTED; a deferred error that it was to carry passes on
(R51, R52). -/
def catchTask (n : Nat) (t : Task) (s : State) : State :=
  let q := t.seq
  let s1 := if t.isDone then s else dropReads n q s
  let s2 := if t.isDone then s1 else if t.opcode = 1 || t.opcode = 2 then withdraw n q s1 else dropJob n q s1
  let s3 := match (s2.ctxAt n).reader with
    | some r => if r.task = q then endRead n abortedC s2 else s2
    | none => s2
  let s4 := finish n q abortedC (s3.onTask n q (fun x => { x with carrier := false }))
  if t.carrier then chooseCarrier n s4 else s4

/-- TSK_ABORT_RESULT.STATE of context n set. -/
def setAbort (n v : Nat) (s : State) : State := s.setFld (Reg.tskAbortResult n) Fld.tskAbortResultState v

/-- ABORT_REQUEST: decided at one instant; CAUGHT and TOO_LATE appear with the completion entry (R52, R53). A task whose entry still waits is
caught where it ended before its commit point. A write while STATE is PENDING is discarded. -/
def opAbortRequest (n : Nat) (tag : Word) (s : State) : State :=
  let r := Reg.tskAbortResult n
  if s.fld r Fld.tskAbortResultState = 1 then s
  else
    let s1 := setAbort n 1 (s.incFld r Fld.tskAbortResultSeq 1)
    match (s.ctxAt n).tasks.find? (fun t => t.tag == tag.toNat) with
    | none => setAbort n 4 s1
    | some t =>
      let caught := !t.committed && (commitsLater t.opcode || !t.isDone)
      let s2 := s1.onCtx n (fun c => { c with abortWait := some (t.seq, caught) })
      if caught then catchTask n t s2 else s2

/-! ### CTX reset -/

/-- The seat of a context in the plan of its table. -/
def ownSeat (s : State) (n : Nat) : Option Nat := seatOf (s.tableAt (bindDeck s n) (bindPart s n)) n

/-- A seated context takes a CTX reset: its seat keeps its items, and becomes vacant after them (R65, Table 10-3). -/
def leaveSeat (n : Nat) (s : State) : State :=
  if seated s n then
    let td := bindDeck s n
    let p := bindPart s n
    let s1 := setGuarantee td p 1 (s.onCtx n (fun c => { c with seatReset := true }))
    match ownSeat s n with
    | some k => s1.onTable td p (fun t => { t with vacating := addNew k t.vacating })
    | none => s1
  else s

/-- A CTX reset begins: tasks that have not begun complete ABORTED; those executing run on (R32). -/
def beginCtxReset (n : Nat) (s : State) : State :=
  (leaveSeat n s).onCtx n (fun c => { c with tasks := c.tasks.map (fun t =>
    if t.unbegun then { t with stage := .done abortedC, carrier := false } else t) })

/-- CTX_RESET: RESET reads 1 from the write that sets it. In DOZE the reset itself waits for RUN; one asked for during a WARM reset is
discarded (R8, R32, R366). -/
def opCtxReset (n : Nat) (s : State) : State :=
  if s.flag (Reg.ctxControl n) Fld.ctxControlReset || s.pwr.warm.isSome || s.pwr.wakeResets.contains 4 then s
  else
    let s1 := s.setFld (Reg.ctxControl n) Fld.ctxControlReset 1
    if s.pwr.state = 2 then { s1 with pwr := { s1.pwr with wakeResets := addNew (5 + n) s1.pwr.wakeResets } }
    else beginCtxReset n s1

/-- The pending deferred error of context n is recorded in the Scorepad (R32). -/
def recordDeferred (n : Nat) (s : State) : State :=
  let r := Reg.ctxDeferredStatus n
  if s.flag r Fld.ctxDeferredStatusPending then
    raise 337 ([word n, word (s.fld r Fld.ctxDeferredStatusCause)] ++ words2 (s.pair (Reg.ctxDeferredFirstLo n) (Reg.ctxDeferredFirstHi n))) s
  else s

/-- A register field of class CTX. -/
def isCtxClass (c : Cls) : Bool := decide (c = .ctx)

/-- The registers whose first index is context n. -/
def ofCtx (n : Nat) (r : RegSpec) (i : Nat) : Bool := decide (r.owner = .ctx) && i == n

/-- CTX_RESET_COMPLETE: after the last completion, every CTX-class field of the context returns to its reset value, the seat may
become vacant, and a pending Cutter epoch applies (R32, R65, R296). -/
def opCtxResetComplete (n : Nat) (s : State) : State :=
  if s.flag (Reg.ctxControl n) Fld.ctxControlReset && (s.ctxAt n).tasks.isEmpty && !s.pwr.wakeResets.contains (5 + n) then
    let td := bindDeck s n
    let p := bindPart s n
    let s0 := if (s.ctxAt n).oldCutter.isSome && bound s n then setGuarantee td p 5 s else s
    let s1 := releaseHolder n (recordDeferred n s0)
    let s2 := s1.resetRegs isCtxClass (ofCtx n)
    let s3 := s2.onCtx n (fun c => { c with abortWait := none, ringStall := false, inq := [], openLatch := none, fetchStopped := false,
                                            seatReset := false })
    let s4 := if (s3.ctxAt n).oldCutter.isSome then takeCutterEpoch n s3 else s3
    vacate td p s4
  else s

/-! ### Completion entries -/

/-- log2 of the ring size of context n: 4 to 16, other values act as 4 (CTX_RING_CTRL). -/
def ringLog (s : State) (n : Nat) : Nat :=
  let v := s.fld (Reg.ctxRingCtrl n) Fld.ctxRingCtrlSizeLog2
  if 4 ≤ v ∧ v ≤ 16 then v else 4

/-- CTX_RING_TAIL. -/
def ringTail (s : State) (n : Nat) : Word := s.reg (Reg.ctxRingTail n)

/-- The ring of context n is full (R42). -/
def ringFull (s : State) (n : Nat) : Bool := (ringTail s n - s.reg (Reg.ctxRingHead n)).toNat == 2 ^ ringLog s n

/-- CTX_RING_BASE (R41). -/
def ringBase (s : State) (n : Nat) : Nat :=
  s.fld (Reg.ctxRingBaseLo n) Fld.ctxRingBaseLoAddr * 4096 + s.fld (Reg.ctxRingBaseHi n) Fld.ctxRingBaseHiAddr * 2 ^ 32

/-- PHASE of completion number k (R41). -/
def phaseOf (k log : Nat) : Nat := 1 - k / 2 ^ log % 2

/-- The 32 bytes of a completion entry (Table 02-6). -/
def entryRecord (t : Task) (phase : Nat) (c : Completion) : List Byte :=
  le 4 t.tag ++ [byte t.opcode, byte phase] ++ le 2 c.status.toNat ++ le 8 c.info0.toNat ++ le 8 c.info1.toNat ++ le 4 c.info2.toNat
    ++ le 4 c.info3.toNat

/-- The completion waits for ring space: event 339 once per stall (R42). -/
def stall (n : Nat) (s : State) : State :=
  if (s.ctxAt n).ringStall then s else raise 339 [word n] (s.onCtx n (fun c => { c with ringStall := true }))

/-- An abort request that waited for the entry shows its outcome (R53). -/
def settleAbort (n q : Nat) (s : State) : State :=
  match (s.ctxAt n).abortWait with
  | some (q', caught) =>
    if q' = q then setAbort n (if caught then 2 else 3) (s.onCtx n (fun c => { c with abortWait := none })) else s
  | none => s

/-- The entry of a task is written and the task is no longer in flight; the notice follows it (R40, R41, R43, R49). DESIGN CHOICE (log entry
101): RING_STALL reads 1 until the entry that waited has been written, although the ring has space from the write of CTX_RING_HEAD on. -/
def writeEntry (n : Nat) (t : Task) (c : Completion) (s : State) : State :=
  let k := (ringTail s n).toNat
  let log := ringLog s n
  let bytes := entryRecord t (phaseOf k log) c
  let s1 := emit (.ringWrite (ringBase s n + 32 * (k % 2 ^ log)) bytes) s
  let s2 := s1.setReg (Reg.ctxRingTail n) (ringTail s n + 1)
  let s3 := s2.onCtx n (fun x => { x with tasks := x.tasks.filter (fun u => u.seq != t.seq), ringStall := false })
  let s4 := settleAbort n t.seq s3
  if t.notify || s.flag (Reg.ctxRingCtrl n) Fld.ctxRingCtrlNotifyAll then raise 336 [word n, ringTail s n + 1] s4 else s4

/-- An item of task q of context n is still to be released by the Loupe, or to be packed (Table 02-8). -/
def onItsWay (s : State) (n q : Nat) : Bool :=
  let ours := fun (e : Entry) => e.ctx == n && e.tasks.contains q
  let item := fun (i : Item) => match i with
    | .block b _ => b.ctx == n && b.tasks.contains q
    | .mark c _ _ _ _ k _ => c == n && k == q
    | _ => false
  s.tables.any (fun e => e.2.items.any item || e.2.openEntries.any ours || e.2.openHand.any (fun t => t.entries.any ours)
      || e.2.openRound.any (fun h => h.tricks.any (fun t => t.entries.any ours)))
    || s.decks.any (fun e => e.2.rounds.any (fun r => r.tricks.any (fun t => !t.released && t.entries.any ours)))

/-- GOOD in place of GOOD_BUFFERED when the objects are already verified on tape (Table 02-8). -/
def buffered (s : State) (n : Nat) (t : Task) (c : Completion) : Completion :=
  if c.status = 1 && !t.lost && !onItsWay s n t.seq then { c with status := 0 } else c

/-- IMAGE_EPOCH in place of GOOD or GOOD_BUFFERED of a WRITE or MARK that spans an epoch (R295). -/
def spanned (s : State) (n : Nat) (t : Task) (c : Completion) : Completion :=
  let two := decide (2 ≤ t.cutEpochs.length) || decide (2 ≤ t.fmtEpochs.length)
  if (t.opcode = 1 || t.opcode = 2) && (c.status = 0 || c.status = 1) && two then
    let deck := (s.reg (Reg.cfgDeckEpoch (bindDeck s n))).toNat
    { c with status := 4, info2 := word ((s.reg (Reg.ctxEpoch n)).toNat % 65536 + deck % 65536 * 65536), info3 := word c.status.toNat }
  else c

/-- LOCATE, SPACE and READ (ch. 9). -/
def restoreOpcodes : List Nat := [5, 6, 7]

/-- A restore task of the deck's active table is in flight (R199). -/
def restoreInFlight (s : State) (td : Nat) : Bool :=
  (boundToDeck s td).any (fun n => decide ((s.deckAt td).active = some (bindPart s n)) && (s.ctxAt n).tasks.any (fun t => restoreOpcodes.contains t.opcode))

/-- When no restore task of a table remains in flight, its hold ends: the rounds kept back may be written (R199). -/
def settleHold (td : Nat) (s : State) : State :=
  if restoreInFlight s td then s
  else forEach (groupOf s td) (fun d a => a.onDeck d (fun k =>
    if k.hold then { k with hold := false, needRunIn := true, rounds := k.rounds.map (fun r => { r with keptBack := false }) } else k)) s

/-- A task's completion is written where the ring has space (R41, R42), and waits for it otherwise. -/
def deliver (n : Nat) (t : Task) (c : Completion) (s : State) : State :=
  if ringFull s n then stall n s
  else
    let s1 := writeEntry n t (spanned s n t (buffered s n t c)) s
    if restoreOpcodes.contains t.opcode && bound s n then settleHold (bindDeck s n) s1 else s1

/-- The pending deferred error of context n as a completion (Table 02-7, R50). -/
def deferredCompletion (s : State) (n : Nat) : Completion :=
  let r := Reg.ctxDeferredStatus n
  { status := 0x10, info0 := BitVec.ofNat 64 (s.pair (Reg.ctxDeferredFirstLo n) (Reg.ctxDeferredFirstHi n))
    info1 := BitVec.ofNat 64 (s.reg (Reg.ctxDeferredCount n)).toNat, info2 := word (s.fld r Fld.ctxDeferredStatusCause)
    info3 := word (s.fld r Fld.ctxDeferredStatusMerged) }

/-- DEFERRED_ERROR_DELIVERY: the chosen task does not execute; its completion carries the pending error as it stands and clears
PENDING, and CTX_STATE.DEFERRED with it (R50). -/
def opDeferredErrorDelivery (n : Nat) (s : State) : State :=
  match (s.ctxAt n).tasks with
  | t :: _ =>
    if t.carrier && t.unbegun then
      if ringFull s n then stall n s
      else (writeEntry n t (deferredCompletion s n) s).setFld (Reg.ctxDeferredStatus n) Fld.ctxDeferredStatusPending 0
    else s
  | [] => s

/-- TASK_RECORD_WRITE. -/
def execTaskRecordWrite (n : Fin 4096) (k : Fin 16) (v : Word) (s : State) : Host.Outcome State Fault Refusal :=
  run (opTaskRecordWrite n.val k.val v) s

/-- DOORBELL. -/
def execDoorbell (n : Fin 4096) (_v : Word) (s : State) : Host.Outcome State Fault Refusal := run (opDoorbell n.val) s

/-- ABORT_REQUEST. -/
def execAbortRequest (n : Fin 4096) (tag : Word) (s : State) : Host.Outcome State Fault Refusal := run (opAbortRequest n.val tag) s

/-- CTX_CONFIG_WRITE. -/
def execCtxConfigWrite (n : Fin 4096) (reg : CtxConfigReg) (v : Word) (s : State) : Host.Outcome State Fault Refusal :=
  run (opCtxConfigWrite n.val reg v) s

/-- CTX_RESET. -/
def execCtxReset (n : Fin 4096) (s : State) : Host.Outcome State Fault Refusal := run (opCtxReset n.val) s

/-- CTX_RESET_COMPLETE. -/
def execCtxResetComplete (n : Fin 4096) (s : State) : Host.Outcome State Fault Refusal := run (opCtxResetComplete n.val) s

/-- DEFERRED_ERROR_DELIVERY. -/
def execDeferredErrorDelivery (n : Fin 4096) (s : State) : Host.Outcome State Fault Refusal := run (opDeferredErrorDelivery n.val) s

end Sys2Proof.Machine
end

