-- ==== Sys2Proof/Machine/Reader.lean ====
section
/-! DEFINITION. READ, LOCATE and SPACE (R208 to R216): the items of a stream in the Shoe and from tape, block opening (R112, R117,
R118), delivery of records (R209 to R211), the restore hold (R199). -/

namespace Sys2Proof.Machine

/-! ### Items of a stream -/

/-- Stream of an item. -/
def Restored.stream : Restored → Word
  | .block b _ _ _ => b.stream
  | .mark x _ _ _ _ => x

/-- First object of an item. -/
def Restored.first : Restored → Nat
  | .block b _ _ _ => b.firstObj
  | .mark _ o _ _ _ => o

/-- Object number after an item. -/
def Restored.last : Restored → Nat
  | .block b _ _ _ => b.firstObj + b.nrec
  | .mark _ o c _ _ => o + c

/-- Trick of an item: the last one that holds a part of it. -/
def Restored.trick : Restored → Nat
  | .block _ _ t _ => t
  | .mark _ _ _ t _ => t

/-- The items earlier than a truncation of the stream at `start`: objects from `start` on are dropped (R157). -/
def dropFrom (sid : Word) (start : Nat) (l : List Restored) : List Restored :=
  l.filterMap (fun i =>
    if i.stream = sid then
      if start ≤ i.first then none
      else
        match i with
        | .block b k t e => some (.block { b with nrec := min b.nrec (start - b.firstObj) } k t e)
        | .mark x o c t e => some (.mark x o (min c (start - o)) t e)
    else some i)

/-- Items met so far, and the block whose fragments are being joined. -/
structure Joining where
  /-- items, oldest first -/
  items : List Restored := []
  /-- the block begun: its entry, its bytes so far, chips that hold them -/
  open' : Option (Entry × List Byte × List Nat) := none
  deriving DecidableEq, Repr, Inhabited

/-- One content entry of trick `t` met in logical order (R208, R212). A block of which an image in the middle has been released is not whole
and is served from tape. -/
def Joining.entry (t : Trick) (a : Joining) (ei : Nat × Entry) : Joining :=
  let e := ei.2
  let items := match e.trunc with
    | some st => dropFrom e.stream st a.items
    | none => a.items
  if e.kind = 2 then { items := items ++ [.mark e.stream e.firstObj e.count t.number ei.1], open' := none }
  else
    let start := if e.first then some (e, e.data, t.chips)
      else a.open'.map (fun o => (o.1, o.2.1 ++ e.data, o.2.2 ++ t.chips))
    match start with
    | some (f, bytes, chips) =>
      if e.last then
        let b : Sealed := { bytes := bytes, ctx := f.ctx, stream := f.stream, bsn := f.bsn, label := f.label, salt := f.salt, ctr := f.ctr
                            firstObj := f.firstObj, nrec := f.nobj, chips := chips.dedup }
        if bytes.length = (headerOf bytes).outLen + 48 then { items := items ++ [.block b true t.number ei.1], open' := none }
        else { items := items, open' := none }
      else { items := items, open' := some (f, bytes, chips) }
    | none => { items := items, open' := none }

/-- The entries of a stream in one trick. -/
def Joining.trick (sid : Word) (a : Joining) (t : Trick) : Joining :=
  ((List.range t.entries.length).zip t.entries |>.filter (fun x => x.2.stream == sid)).foldl (Joining.entry t) a

/-- The trick images of the table held in the Shoe, in logical order: those of closed rounds not released, then those of the round
being packed (R212). -/
def shoeTricks (s : State) (td p : Nat) : List Trick :=
  let t := s.tableAt td p
  let closed := (groupOf s td).flatMap (fun d => (s.deckAt d).rounds.flatMap (fun r => r.tricks.filter (fun x => !x.released)))
  let packed := t.openRound.flatMap (fun h => h.tricks) ++ t.openHand
  let open' : Trick := { number := t.nextTrick, body := .data t.openEntries, chips := t.openChips }
  let all := (closed ++ packed ++ [open']).filter (fun x => !x.entries.isEmpty)
  all.mergeSort (fun a b => decide (a.number ≤ b.number))

/-- The items of a stream held in the Shoe, in logical order (R212). -/
def shoeItems (s : State) (td p : Nat) (sid : Word) : List Restored :=
  let t := s.tableAt td p
  let packed := ((shoeTricks s td p).foldl (Joining.trick sid) {}).items
  let waiting := t.items.filterMap (fun i => match i with
    | .block b _ => if b.stream = sid then some (Restored.block b true t.nextTrick 0, b.trunc) else none
    | .mark _ x _ o c _ tr => if x = sid then some (Restored.mark x o c t.nextTrick 0, tr) else none
    | _ => none)
  let all := waiting.foldl (fun a x => (match x.2 with
    | some st => dropFrom sid st a
    | none => a) ++ [x.1]) packed
  match t.truncPending.find? (fun e => e.1 == sid.toNat) with
  | some e => dropFrom sid e.2 all
  | none => all

/-- Block x begins or carries on the record that item i goes on with. -/
def leadsInto (i x : Restored) : Bool :=
  match i, x with
  | .block b _ _ _, .block y _ _ _ => (headerOf b.bytes).cont && y.firstObj == b.firstObj && y.nrec == 0
  | _, _ => false

/-- The items of a stream that can be read now: those read from tape, as far as they carry objects before the Shoe's (R157), then the
Shoe's. -/
def readable (s : State) (td p : Nat) (sid : Word) : List Restored :=
  let shoe := shoeItems s td p sid
  let all := (s.deckAt td).restored.filter (fun i => i.stream == sid)
  let tape := match (s.tableAt td p).truncPending.find? (fun e => e.1 == sid.toNat) with
    | some e => dropFrom sid e.2 all
    | none => all
  match shoe with
  | i :: _ => tape.flatMap (fun x => if leadsInto i x then [x] else dropFrom sid i.first [x]) ++ shoe
  | [] => tape

/-! ### Delivery -/

/-- Bytes written from offset `off` of the destination ranges on, back to back (R38, R209). -/
def scatter : Nat → List (Nat × Nat) → List Byte → State → State
  | _, [], _, s => s
  | off, (a, len) :: l, b, s =>
    if b.isEmpty then s
    else if len ≤ off then scatter (off - len) l b s
    else
      let n := min b.length (len - off)
      scatter 0 l (b.drop n) (hostWrite (a + off) (b.take n) s)

/-- Bytes that the destination ranges hold. -/
def Reader.space (r : Reader) : Nat := (r.dests.map (fun d => d.2)).sum

/-- One record delivered: its bytes, and its length in its LEN_ADDR entry (R209). -/
def deliverRecord (n : Nat) (r : Reader) (b : List Byte) (s : State) : Reader × State :=
  let s1 := scatter r.bytes r.dests b s
  let s2 := hostWrite (r.lens.1 + 4 * r.records) (le 4 b.length) s1
  ({ r with records := r.records + 1, bytes := r.bytes + b.length, pos := r.pos + 1 }, s2.onTask n r.task (fun t => { t with committed := true }))

/-- How the delivery of a block's records goes on. -/
inductive Delivery where
  /-- every record of the block has been passed -/
  | more
  /-- RECORD_COUNT records delivered -/
  | all
  /-- the next record does not fit -/
  | full
  deriving DecidableEq, Repr, Inhabited

/-- The records that end in a block, from object `obj` on: those from the position on are delivered (R209). -/
def deliverEnds (n limit : Nat) : Nat → List Byte → List Nat → List Byte → Reader → State → Delivery × Reader × State
  | _, _, [], _, r, s => (.more, r, s)
  | obj, head, e :: es, d, r, s =>
    let rec' := head ++ d.take e
    if obj < r.pos then deliverEnds n limit (obj + 1) [] es (d.drop e) r s
    else if limit ≤ obj then (.more, r, s)
    else if r.records = r.lens.2 then (.all, r, s)
    else if r.space < r.bytes + rec'.length then (.full, r, s)
    else
      let x := deliverRecord n r rec' s
      deliverEnds n limit (obj + 1) [] es (d.drop e) x.1 x.2

/-- A READ's results (Table 02-8). -/
def readGood (r : Reader) : Completion := result2 0 r.records r.bytes

/-- The context's READ ends at its position with `c` (Table 09-2). -/
def endAt (n : Nat) (c : Completion) (s : State) : State :=
  match (s.ctxAt n).reader with
  | some r => endRead n c (setPosition n r.pos s)
  | none => s

/-! ### The restore hold -/

/-- Writing is held for restore tasks of the table: event 64d + 37 (R199). -/
def holdWriting (td : Nat) (s : State) : State :=
  if (s.deckAt td).hold then s
  else raiseDeck td 37 [] (forEach (groupOf s td) (fun d a => a.onDeck d (fun k => { k with hold := true })) s)

/-- Every round that had closed before the hold is written and released, and end-of-data stands on tape (R199). -/
def tapeFree (s : State) (td : Nat) : Bool :=
  (groupOf s td).all (fun d => (s.deckAt d).rounds.all (fun r => r.keptBack) && (s.deckAt d).eodWritten)

/-- Chips of a round buffer of two rounds (R217). -/
def bufferChips (f : Fmt) : Nat := chipsFor (2 * f.rh * f.hand * f.userBytes)

/-- The round buffer of a deck is allocated, or a task waits for it (R217). -/
def roundBuffer (d : Nat) (s : State) : Bool × State :=
  if s.shoe.tags.any (fun e => e.2.cls == 3 && e.2.id == d) then (true, s)
  else
    let r := allocate (bufferChips (deckFmt s d)) (restorePool s d) 3 d s
    (r.1.isSome, r.2)

/-- The round buffers of the decks of a group, as far as they can be had (R217). -/
def roundBuffers : List Nat → State → Bool × State
  | [], s => (true, s)
  | d :: l, s =>
    let r := roundBuffer d s
    if r.1 then roundBuffers l r.2 else r

/-- A restore task of a table needs tape: writing is held where R199 asks for it, and then the tape is read from the start of the
partition; `anew` where what has been read of it does not serve. -/
def needTape (td p : Nat) (anew : Bool) (s : State) : State :=
  let t := s.tableAt td p
  let s1 := if !t.openEntries.isEmpty || unreleasedRounds s td then holdWriting td s else s
  let k := s1.deckAt td
  let again := anew || k.gaveUp
  if tapeFree s1 td && (!k.endMet || again) && k.wanted.isNone then
    let b := roundBuffers (groupOf s1 td) (if again then forEach (groupOf s1 td) (fun d a => a.onDeck d Deck.forget) s1 else s1)
    if b.1 then wantPartition td p b.2 else b.2
  else s1

/-! ### Opening a block -/

/-- The zero-fill of a tag failure: the READ ends AUTH_FAILURE, with event 323, which carries the context, the stream and the BSN (R118,
R122). -/
def authFail (n : Nat) (b : Sealed) (s : State) : State :=
  raise 323 [word n, b.stream, b.bsn] (failRead n (result2 0x17 0 b.firstObj) s)

/-- A block begins to be opened: the requirements of R112, the key of R117, the chips held (R212). Where a hold would take the references of a chip
past 15 the READ waits (R271); it tries again with the next command that pumps it. -/
def beginOpen (n : Nat) (b : Sealed) (keyed : Bool) (s : State) : State :=
  let h := headerOf b.bytes
  let good := h.check1 (blockVersions s) && h.check2 && h.check3 && b.bytes.length == h.outLen + 48 && keyed
  if !good then authFail n b (raise 324 [] s)
  else
    match slotOfLabel s b.label with
    | none => raise 325 (words2 b.label.toNat) (keepRead n 8 s)
    | some k =>
      if holdsFull s b.chips then s
      else (forEach b.chips addRef s).onCtx n (fun c => { c with reader := c.reader.map (fun r =>
        { r with block := some b, key := some (k, (s.keyAt k).key), opened := none, held := r.held ++ b.chips, needsTape := false }) })

/-- The first object that begins in a block, or the one after where it begins inside a record. -/
def beginsAt (b : Sealed) : Nat := b.firstObj + bit (headerOf b.bytes).cont

/-- The next item that a READ takes from the items it can read (R208): the mark or block that follows the last block taken, or in
which the object at its position begins; none where that item is not at hand. -/
def nextItem (r : Reader) (l : List Restored) : Option Restored :=
  match l.find? (fun i => match i with
    | .mark _ o c _ _ => decide (o ≤ r.pos) && decide (r.pos < o + c)
    | _ => false) with
  | some m => some m
  | none =>
    match r.lastBsn with
    | some k => l.find? (fun i => match i with
        | .block b _ _ _ => decide (k < b.bsn.toNat) && decide (b.firstObj ≤ r.pos)
        | _ => false)
    | none =>
      let from' := fun (i : Restored) => match i with
        | .block b _ _ _ => beginsAt b
        | .mark _ _ _ _ _ => r.pos + 1
      match (l.filter (fun i => decide (from' i ≤ r.pos))).getLast? with
      | some i => if r.pos < i.last || l.any (fun x => decide (x.first ≤ r.pos) && decide (r.pos < from' x)) then some i else none
      | none => none

/-- The restore has ended at a hand: its READ, which has delivered what lies before it, ends MEDIUM_ERROR at trick l (R207, R210). -/
def cutShort (n td l : Nat) (s : State) : State :=
  match (s.ctxAt n).reader with
  | some r =>
    let c := failRead n { status := 0x14, info0 := BitVec.ofNat 64 r.records, info1 := BitVec.ofNat 64 l } s
    (c.setReg (Reg.dkRestoreFailLo td) (word l)).setReg (Reg.dkRestoreFailHi td) (word (2 ^ 31 + l / 2 ^ 32))
  | none => s

/-- A READ that is not opening a block goes on: it ends (Table 09-2), takes its next block, or needs tape (R199, R208, R212). -/
def pump (n : Nat) (s : State) : State :=
  match (s.ctxAt n).reader with
  | none => s
  | some r =>
    if r.block.isSome then s
    else
      let td := bindDeck s n
      let p := bindPart s n
      let sid := streamId s n
      let t := s.tableAt td p
      let l := readable s td p sid
      if r.records = r.lens.2 then endAt n (readGood r) s
      else if t.known && decide ((t.stream sid).objects ≤ r.pos) then
        let o := (t.stream sid).objects
        endRead n (result2 3 r.records o) (setPosition n o s)
      else
        match nextItem r l with
        | some (.mark _ _ _ _ _) => endRead n (result2 2 r.records r.pos) (setPosition n (r.pos + 1) s)
        | some (.block b keyed _ _) =>
          if b.bytes.isEmpty then
            match r.cutOff with
            | some x => cutShort n td x s
            | none => needTape td p true (s.onCtx n (fun c => { c with reader := some { r with needsTape := true } }))
          else beginOpen n b keyed s
        | none =>
          match r.cutOff with
          | some x => cutShort n td x s
          | none => needTape td p false (s.onCtx n (fun c => { c with reader := some { r with needsTape := true } }))

/-- A block opened and decompressed for a READ yields its records (R209); with the last of them the next item is taken. -/
def consume (n : Nat) (x : Decoded) (s : State) : State :=
  match (s.ctxAt n).reader with
  | none => s
  | some r =>
    match r.block with
    | none => s
    | some b =>
      let head := if x.header.cont then r.partialRec else []
      let d := deliverEnds n (b.firstObj + b.nrec) b.firstObj head x.ends x.data r s
      let rest := x.data.drop x.ends.sum
      let r1 := { d.2.1 with block := none, key := none, opened := none, lastBsn := some b.bsn.toNat,
                             partialRec := (if x.ends.isEmpty then head else []) ++ rest }
      let s1 := d.2.2.onCtx n (fun c => { c with reader := some r1 })
      match d.1 with
      | .full => failRead n { status := 0x19, info0 := BitVec.ofNat 64 r1.records } s1
      | .all => endAt n (readGood r1) s1
      | .more => pump n s1

/-- BLOCK_OPEN: the block is decrypted and its tag checked (R104 to R106, R118); it then waits for an engine (R208). -/
def opBlockOpen (n : Nat) (s : State) : State :=
  match (s.ctxAt n).reader with
  | some r =>
    match r.block, r.key with
    | some b, some (_, key) =>
      if r.opened.isSome then s
      else
        let h := b.bytes.take 32
        let body := slice b.bytes 32 (b.bytes.length - 48)
        match gcmOpen key (sealIv b.salt b.ctr) (sealAad h b.stream b.label) body (b.bytes.drop (b.bytes.length - 16)) with
        | none => authFail n b s
        | some text =>
          let s1 := s.onCtx n (fun c => { c with reader := some { r with opened := some (h ++ text) } })
          { s1 with cut := { s1.cut with restoreQ := s1.cut.restoreQ ++ [.restore n] } }
    | _, _ => s
  | none => s

/-! ### READ -/

/-- A READ whose descriptors are good executes (R208). -/
def runRead (n : Nat) (t : Task) (s : State) : State :=
  let ds := descriptorsOf t.got
  unlessRefused n t.seq (orElse (tampered s) ((restoreReason s n).map notReady))
    (fun a =>
      let s1 := makeActive (bindDeck a n) (bindPart a n) a
      let start := if t.positioned then t.field 24 8 else position a n
      let r : Reader := { task := t.seq, start := start, pos := start, dests := ds.map (fun d => (d.addr, d.len))
                          lens := (t.field 32 8, t.field 20 4) }
      pump n ((commenceOpen n t.seq s1).onCtx n (fun c => { c with reader := some r }))) s

/-- A READ's descriptors have been fetched (R38, R39). -/
def readDescriptors (n : Nat) (t : Task) (s : State) : State :=
  match checkDescriptors false 0 0 (descriptorsOf t.got) with
  | some (loc, v) => finish n t.seq (fieldRange loc v) s
  | none => runRead n t s

/-- READ begins: its descriptors are fetched (R38, R39); one that waits for its tape or its round buffer tries again. -/
def opRead (n : Nat) (s : State) : State :=
  match startable s n 5 with
  | some _ => beginTask 5 n (fun t a => startFetch n t.seq [(t.field 8 8, 16 * t.field 16 4)] a) s
  | none => pump n s

/-! ### LOCATE and SPACE -/

/-- The answer to a LOCATE or SPACE: the completion and the position; none where tape must be read first (R214). -/
abbrev Found := Option (Completion × Nat)

/-- The object up to which the items leave no gap from object `o` on. -/
def reach (l : List Restored) (o : Nat) : Nat := l.foldl (fun a i => if i.first ≤ a ∧ a < i.last then i.last else a) o

/-- LOCATE by logical trick number (R215): the first item carried in the trick or a later one; certain where the object before it is at hand,
or the last object of the stream. -/
def locateTrick (l : List Restored) (objects target : Nat) : Found :=
  match l.find? (fun i => decide (target ≤ i.trick)) with
  | some i => if i.first = 0 || decide (i.first - 1 < reach l (i.first - 1)) then some (result2 0 i.first 0, i.first) else none
  | none => if objects = 0 || decide (objects - 1 < reach l (objects - 1)) then some (result2 3 0 objects, objects) else none

/-- The mark objects among the items, ascending. -/
def markObjects (l : List Restored) : List Nat :=
  l.flatMap (fun i => match i with
    | .mark _ o c _ _ => (List.range c).map (fun k => o + k)
    | _ => [])

/-- SPACE forward over records (Table 09-3): the objects passed must be at hand, up to the first mark. -/
def spaceForward (l : List Restored) (objects pos c : Nat) : Found :=
  if objects ≤ pos then some (result2 3 0 objects, objects)
  else
    let to' := min (pos + c) objects
    match (markObjects l).find? (fun m => decide (pos ≤ m) && decide (m < to') && decide (m < reach l pos)) with
    | some m => some (result2 2 (m - pos) m, m + 1)
    | none =>
      if reach l pos < to' then none
      else if pos + c ≤ objects then some (result2 0 (pos + c) 0, pos + c) else some (result2 3 (objects - pos) objects, objects)

/-- SPACE back over records (Table 09-3): the objects passed must be at hand, back to the first mark. -/
def spaceBack (l : List Restored) (pos c : Nat) : Found :=
  match ((markObjects l).filter (fun m => decide (pos - c ≤ m) && decide (m < pos) && decide (pos ≤ reach l m))).getLast? with
  | some m => some (result2 2 (pos - 1 - m) m, m)
  | none => if pos ≤ reach l (pos - c) then some (result2 0 (pos - c) 0, pos - c) else none

/-- SPACE forward by marks (Table 09-3): the objects passed must be at hand. -/
def marksForward (l : List Restored) (objects pos c : Nat) : Found :=
  if objects ≤ pos then some (result2 3 0 objects, objects)
  else
    let ms := (markObjects l).filter (fun m => decide (pos ≤ m) && decide (m < reach l pos))
    match ms[c - 1]? with
    | some m => some (result2 0 (m + 1) 0, m + 1)
    | none => if reach l pos < objects then none else some (result2 3 ms.length objects, objects)

/-- SPACE back by marks (Table 09-3): the objects passed must be at hand. -/
def marksBack (l : List Restored) (pos c : Nat) : Found :=
  let ms := ((markObjects l).filter (fun m => decide (m < pos) && decide (pos ≤ reach l m))).reverse
  match ms[c - 1]? with
  | some m => some (result2 0 m 0, m)
  | none => if pos = 0 || decide (pos ≤ reach l 0) then some (result2 3 ms.length 0, 0) else none

/-- The answer to a LOCATE or SPACE of context n (R215, R216). DESIGN CHOICE (log entry 121): a SPACE whose COUNT is 0, for which Table 09-3 has
no column, completes GOOD where it stands. -/
def findTarget (s : State) (n : Nat) (t : Task) : Found :=
  let td := bindDeck s n
  let p := bindPart s n
  let sid := streamId s n
  let tb := s.tableAt td p
  let l := readable s td p sid
  let o := (tb.stream sid).objects
  let pos := position s n
  let target := t.field 16 8
  let c := signed 64 target
  if !tb.known then none
  else if t.opcode = 6 then
    if t.field 8 1 = 0 then (if o < target then some (result2 3 0 o, o) else some (result2 0 target 0, target))
    else locateTrick l o target
  else
    match t.field 8 1 with
    | 2 => some (result2 0 o 0, o)
    | 0 => if c = 0 then some (result2 0 pos 0, pos) else if 0 ≤ c then spaceForward l o pos c.toNat else spaceBack l pos (-c).toNat
    | _ => if c = 0 then some (result2 0 pos 0, pos) else if 0 ≤ c then marksForward l o pos c.toNat else marksBack l pos (-c).toNat

/-- A LOCATE or SPACE under way completes where its answer is known, and needs tape otherwise (R199, R214). -/
def pumpSeek (n : Nat) (s : State) : State :=
  match (s.ctxAt n).tasks.find? (fun t => decide (t.stage = .running) && (t.opcode == 6 || t.opcode == 7)) with
  | none => s
  | some t =>
    match findTarget s n t with
    | some (c, pos) => finish n t.seq c (setPosition n pos s)
    | none => needTape (bindDeck s n) (bindPart s n) false s

/-- A backward SPACE by records beyond object 0: FIELD_RANGE naming COUNT (Table 09-3). -/
def spaceRefusal (s : State) (n : Nat) (t : Task) : Option Completion :=
  let c := signed 64 (t.field 16 8)
  if t.opcode = 7 && t.field 8 1 = 0 && decide (c < 0) && decide ((position s n : Int) < -c) then some (fieldRange 16 (t.field 16 8 % 2 ^ 32))
  else none

/-- LOCATE or SPACE executes (R198, R214). -/
def runSeek (n : Nat) (t : Task) (s : State) : State :=
  unlessRefused n t.seq (orElse ((restoreReason s n).map notReady) (spaceRefusal s n t))
    (fun a => pumpSeek n (commence n t.seq (makeActive (bindDeck a n) (bindPart a n) a))) s

/-- LOCATE (R215). -/
def opLocate (n : Nat) (s : State) : State :=
  match startable s n 6 with
  | some _ => beginTask 6 n (runSeek n) s
  | none => pumpSeek n s

/-- SPACE (R216). -/
def opSpace (n : Nat) (s : State) : State :=
  match startable s n 7 with
  | some _ => beginTask 7 n (runSeek n) s
  | none => pumpSeek n s

/-- Every restore task of a table goes on with what can be read now. -/
def pumpTable (td p : Nat) (s : State) : State := forEach (boundTo s td p) (fun n a => pumpSeek n (pump n a)) s

/-! ### Truncations met while reading -/

/-- A truncation record of a hand that begins at trick `first` is met: earlier items lose their objects, and a READ that has
delivered such an object ends GOOD with its position at START (R157, R211). -/
def meetTruncation (td p : Nat) (sid : Word) (start : Nat) (s : State) : State :=
  let s1 := s.onDeck td (fun k => { k with restored := dropFrom sid start k.restored })
  forEach (boundTo s td p) (fun n a =>
    match (a.ctxAt n).reader with
    | some r =>
      if streamId a n = sid && decide (0 < r.records) && decide (start < r.pos) then endRead n (readGood r) (setPosition n start a) else a
    | none => a) s1

/-- READ. -/
def execRead (n : Fin 4096) (s : State) : Host.Outcome State Fault Refusal := run (opRead n.val) s

/-- LOCATE. -/
def execLocate (n : Fin 4096) (s : State) : Host.Outcome State Fault Refusal := run (opLocate n.val) s

/-- SPACE. -/
def execSpace (n : Fin 4096) (s : State) : Host.Outcome State Fault Refusal := run (opSpace n.val) s

/-- BLOCK_OPEN. -/
def execBlockOpen (n : Fin 4096) (_lane : Fin 32) (s : State) : Host.Outcome State Fault Refusal := run (opBlockOpen n.val) s

end Sys2Proof.Machine
end

