-- ==== Sys2Proof/Machine/Engines.lean ====
section
/-! DEFINITION. The Cutter's engines and queues (R94 to R96, R100, R101), host jobs (R97 to R99), sealing (R103, R111), and what
waits for a pool (R73). -/

namespace Sys2Proof.Machine

/-! ### Engines -/

/-- Engine e works on a block. -/
def engineBusy (s : State) (e : Nat) : Bool := s.cut.busy.any (fun x => x.1 == e)

/-- The closed block of context n with this name. -/
def findBlock (s : State) (n id : Nat) : Option Block := (s.ctxAt n).blocks.find? (fun b => b.id == id)

/-- A block of context n changed. -/
def onBlock (n id : Nat) (f : Block → Block) (s : State) : State :=
  s.onCtx n (fun c => { c with blocks := c.blocks.map (fun b => if b.id == id then f b else b) })

/-- The work still exists: its block is waiting, its READ or job has a block for an engine. -/
def liveWork (s : State) : EngineWork → Bool
  | .write n id => (findBlock s n id).isSome
  | .restore n => (match (s.ctxAt n).reader with
    | some r => r.opened.isSome
    | none => false)
  | .job n => (match (s.ctxAt n).job with
    | some j => !j.todo.isEmpty
    | none => false)

/-- The weights of CUT_ARB: write, restore, host job. -/
def weights (s : State) : Nat × Nat × Nat :=
  (s.fld Reg.cutArb Fld.cutArbWriteW, s.fld Reg.cutArb Fld.cutArbRestoreW, s.fld Reg.cutArb Fld.cutArbJobW)

/-- Which queue is served next by weighted round robin, and the blocks served in the round after it (R101): a queue of weight 0
only when the other two are empty. DESIGN CHOICE (log entry 108): a round serves the write queue up to its weight, then the restore queue,
then the host-job queue, and a new round begins when no queue with work has anything left of its weight. -/
def pickQueue (w served : Nat × Nat × Nat) (has : Bool × Bool × Bool) : Option (Nat × Nat × Nat × Nat) :=
  let pick := fun (v : Nat × Nat × Nat) =>
    if has.1 && decide (v.1 < w.1) then some (0, v.1 + 1, v.2.1, v.2.2)
    else if has.2.1 && decide (v.2.1 < w.2.1) then some (1, v.1, v.2.1 + 1, v.2.2)
    else if has.2.2 && decide (v.2.2 < w.2.2) then some (2, v.1, v.2.1, v.2.2 + 1)
    else none
  match pick served with
  | some r => some r
  | none =>
    match pick (0, 0, 0) with
    | some r => some r
    | none =>
      match has with
      | (true, false, false) => some (0, served.1, served.2.1, served.2.2)
      | (false, true, false) => some (1, served.1, served.2.1, served.2.2)
      | (false, false, true) => some (2, served.1, served.2.1, served.2.2)
      | (_, _, _) => none

/-- The Cutter's queues without work that no longer exists. -/
def liveQueues (s : State) : CutUnit :=
  { s.cut with writeQ := s.cut.writeQ.filter (liveWork s), restoreQ := s.cut.restoreQ.filter (liveWork s), jobQ := s.cut.jobQ.filter (liveWork s) }

/-- ENGINE_DISPATCH: a free engine in service takes the next block (R100, R101). -/
def opEngineDispatch (e : Nat) (s : State) : State :=
  if engineOff s e || engineBusy s e then s
  else
    let c := liveQueues s
    match pickQueue (weights s) c.served (!c.writeQ.isEmpty, !c.restoreQ.isEmpty, !c.jobQ.isEmpty) with
    | none => { s with cut := c }
    | some (q, sv) =>
      let take := match q with
        | 0 => (c.writeQ.head?, { c with writeQ := c.writeQ.drop 1 })
        | 1 => (c.restoreQ.head?, { c with restoreQ := c.restoreQ.drop 1 })
        | _ => (c.jobQ.head?, { c with jobQ := c.jobQ.drop 1 })
      match take.1 with
      | none => { s with cut := c }
      | some w =>
        let s1 := { s with cut := { take.2 with served := sv, busy := s.cut.busy ++ [(e, w)] } }
        match w with
        | .write n id => onBlock n id (fun b => { b with stage := .coding }) s1
        | _ => s1

/-- The engine is free. -/
def freeEngine (e : Nat) (s : State) : State := { s with cut := { s.cut with busy := s.cut.busy.filter (fun x => x.1 != e) } }

/-- The work on engine e. -/
def engineWork (s : State) (e : Nat) : Option EngineWork := (s.cut.busy.find? (fun x => x.1 == e)).map (fun x => x.2)

/-- Work goes back to the front of its queue: its block is coded or decoded again from its start, and event 290 names the engine
(R95). -/
def restartWork (e : Nat) (w : EngineWork) (s : State) : State :=
  let c := s.cut
  let c1 := match w with
    | .write _ _ => { c with writeQ := w :: c.writeQ }
    | .restore _ => { c with restoreQ := w :: c.restoreQ }
    | .job _ => { c with jobQ := w :: c.jobQ }
  let s1 := raise 290 [word e] { s with cut := c1 }
  match w with
  | .write n id => onBlock n id (fun b => { b with stage := .queued }) s1
  | _ => s1

/-- Engine e is taken out of service: event 289 (R94, R100). -/
def takeOut (e : Nat) (s : State) : State :=
  let r := engineOffReg e
  raise 289 [word e] (s.setReg r (s.reg r ||| word (2 ^ (e % 32))))

/-- A decode-verify mismatch of engine e on a block of context n whose first record is object `obj` (R94). -/
def mismatch (e n obj : Nat) (s : State) : State :=
  let m := ((s.cut.mismatches.find? (fun x => x.1 == e)).map (fun x => x.2)).getD 0 + 1
  let s1 := { s with cut := { s.cut with mismatches := (e, m) :: s.cut.mismatches.filter (fun x => x.1 != e) } }
  let s2 := s1.addFld Reg.cutVerifyCount Fld.cutVerifyCountCount 1
  let s3 := (s2.setFld Reg.cutLastVerify Fld.cutLastVerifyContext n).setFld Reg.cutLastVerify Fld.cutLastVerifyEngine e
  let s4 := raise 288 ([word e, word n] ++ words2 obj) s3
  if 4 ≤ m && !engineOff s4 e then takeOut e s4 else s4

/-- The block coded raw (R92, R94). -/
def rawOf (b : Block) : Block := { b with forceRaw := true }

/-- The coded form is compressed: its header does not carry RAW. -/
def compressed (code : List Byte) : Bool := !(headerOf code).raw

/-- Object number of the first record of a block of context n that waits to be sealed (R94). -/
def blockObject (s : State) (n id : Nat) : Nat :=
  let before := (s.ctxAt n).blocks.takeWhile (fun b => b.id != id)
  ((s.tableAt (bindDeck s n) (bindPart s n)).stream (streamId s n)).objects + (before.map (fun b => b.ends.length)).sum

/-- A write block has been coded (R94). -/
def writeCoded (e n : Nat) (b : Block) (bad : Bool) (s : State) : State :=
  let code := codeBlock b.version b
  if bad && compressed code then
    let s1 := mismatch e n (blockObject s n b.id) s
    let s2 := if bound s1 n then setGuarantee (bindDeck s1 n) (bindPart s1 n) 6 s1 else s1
    onBlock n b.id (fun x => { rawOf x with stage := .coded (codeBlock b.version (rawOf b)) }) s2
  else onBlock n b.id (fun x => { x with stage := .coded code }) s

/-! ### Host jobs -/

/-- A job ends: its staging chips are freed (R99). -/
def endJob (n : Nat) (c : Completion) (s : State) : State :=
  match (s.ctxAt n).job with
  | some j => finish n j.task c (dropJob n j.task (dropReads n j.task s))
  | none => s

/-- The job of context n changed. -/
def onJob (n : Nat) (f : Job → Job) (s : State) : State := s.onCtx n (fun c => { c with job := c.job.map f })

/-- The task record of a job. -/
def jobTask (s : State) (n : Nat) : Task :=
  match (s.ctxAt n).job with
  | some j => ((s.ctxAt n).task j.task).getD {}
  | none => {}

/-- The job's next block waits for an engine, or its whole output exists (R99, R101). DESIGN CHOICE (log entry 109): a job has one block at a
time in the host-job queue or on an engine; the next joins the queue when that one is done. -/
def queueJob (n : Nat) (s : State) : State :=
  match (s.ctxAt n).job with
  | some j =>
    if j.todo.isEmpty then onJob n (fun j => { j with ready := true }) s
    else { s with cut := { s.cut with jobQ := s.cut.jobQ ++ [.job n] } }
  | none => s

/-- LIMIT of a CUT job under the Cutter section with which it started (R97). -/
def jobLimit (t : Task) (cutter : Nat × Nat × Nat) : Nat := limitUnder (t.field 36 4 / 256 % 16) cutter.1

/-- Allocatable chips of the staging pool, 0 where it is not enabled (R99). -/
def poolTotal (s : State) (k : Nat) : Nat := if (s.poolAt k).enabled then (s.poolAt k).count - (s.poolAt k).ring else 0

/-- CUT_STAGE.POOL. -/
def stagePool (s : State) : Nat := s.fld Reg.cutStage Fld.cutStagePool

/-- The staging of a job is reserved from the pool that CUT_STAGE named when the job started, and `f` follows; the job ends where the pool
is too small, and waits where it lacks chips (R99). -/
def reserve (n need : Nat) (f : State → State) (s : State) : State :=
  let k := match (s.ctxAt n).job with
    | some j => j.pool
    | none => stagePool s
  if poolTotal s k < need then endJob n (notReady 7) s
  else
    let r := allocate need k 5 n s
    match r.1 with
    | some l => f (onJob n (fun j => { j with chips := l, need := 0, waiting := false }) r.2)
    | none =>
      let old := match (r.2.ctxAt n).job with
        | some j => j.waiting
        | none => false
      let s1 := onJob n (fun j => { j with need := need, waiting := true }) r.2
      if old then s1 else raise 292 [] s1

/-- The source of a job is read (R97, R98). -/
def fetchSource (n : Nat) (s : State) : State :=
  let t := jobTask s n
  startFetch n t.seq [(t.field 8 8, t.field 16 4)] s

/-- CUT begins: its staging is reserved before any source byte is read (R97, R99). -/
def runCut (n : Nat) (t : Task) (s : State) : State :=
  unlessRefused n t.seq (tampered s)
    (fun a =>
      let cutter := ctxCutter a n
      let lim := jobLimit t cutter
      let len := t.field 16 4
      let bytes := min (t.field 32 4) (len + 32 * ((len + lim - 1) / lim))
      let s1 := (commenceOpen n t.seq a).onCtx n (fun c => { c with job := some { task := t.seq, pool := stagePool a, cutter := cutter } })
      reserve n (chipsFor bytes) (fetchSource n) s1) s

/-- UNCUT begins: its source is read (R98). -/
def runUncut (n : Nat) (t : Task) (s : State) : State :=
  unlessRefused n t.seq (tampered s)
    (fun a => fetchSource n ((commenceOpen n t.seq a).onCtx n (fun c =>
      { c with job := some { task := t.seq, isUncut := true, pool := stagePool a } }))) s

/-- The source of a CUT has arrived and is cut into blocks (R97). -/
def cutSource (n : Nat) (t : Task) (s : State) : State :=
  let blocks := fun (j : Job) =>
    let lim := jobLimit t j.cutter
    let l := chunks lim t.got
    (List.range l.length).map (fun i => (i * lim, l.getD i []))
  queueJob n (commenceOpen n t.seq (onJob n (fun j => { j with todo := blocks j }) s))

/-- The header walk of UNCUT from offset `o` (R98): the blocks with their offsets and the bytes of output, or the offset and check of
the failure. -/
def headerWalk (versions : List Nat) (src : List Byte) : Nat → Nat → Except (Nat × Nat) (List (Nat × List Byte) × Nat)
  | 0, o => .error (o, 3)
  | fuel + 1, o =>
    if o = src.length then .ok ([], 0)
    else if src.length < o + 32 then .error (o, 3)
    else
      let h := headerOf (slice src o 32)
      let bad := if !h.check1 versions then some 1 else if !h.check2 then some 2 else if !h.check3 then some 3
        else if !h.check4 then some 4 else none
      match bad with
      | some k => .error (o, k)
      | none =>
        if src.length < o + 32 + h.outLen then .error (o, 3)
        else
          match headerWalk versions src fuel (o + 32 + h.outLen) with
          | .error x => .error x
          | .ok (l, sum) => .ok ((o, slice src o (32 + h.outLen)) :: l, h.inLen - h.listLen + sum)

/-- CRC_MISMATCH of an UNCUT: the source offset of the failing block's header and the check number (R99). -/
def uncutFailure (off check : Nat) : Completion := { status := 0x18, info1 := BitVec.ofNat 64 off, info2 := word check }

/-- The source of an UNCUT has arrived: the header walk, then the reservation (R98, R99); a walk that fails raises event 291 with its
check (R96). -/
def uncutSource (n : Nat) (t : Task) (s : State) : State :=
  let s1 := commenceOpen n t.seq s
  match headerWalk (blockVersions s) t.got (t.got.length / 32 + 2) 0 with
  | .error (o, k) => endJob n (uncutFailure o k) (raise 291 [word k] s1)
  | .ok (l, sum) =>
    if t.field 32 4 < sum then endJob n (status 0x19) s1
    else reserve n (chipsFor sum) (queueJob n) (onJob n (fun j => { j with todo := l }) s1)

/-- A job that waits for staging chips tries again (R99). -/
def retryJob (n : Nat) (s : State) : State :=
  match (s.ctxAt n).job with
  | some j => if j.waiting then reserve n j.need (if j.isUncut then queueJob n else fetchSource n) s else s
  | none => s

/-- A block of a CUT job (R97): BMODE 0, CONT but for the first, LAST on the last. DESIGN CHOICE (log entry 111): every block of a job is cut
and coded under the Cutter section with which the job started, whatever epoch takes effect meanwhile. -/
def jobBlock (s : State) (n : Nat) (j : Job) : Block :=
  let t := jobTask s n
  let x := j.todo.headD (0, [])
  { data := x.2, cont := decide (x.1 ≠ 0), last := decide (j.todo.length = 1), options := word (t.field 36 4), limit := jobLimit t j.cutter
    predSet := j.cutter.2.1, version := j.cutter.2.2 }

/-- One more block of a CUT job is in its staging, or its output has grown past DST_LEN (R99). -/
def jobOutput (n : Nat) (bytes : List Byte) (s : State) : State :=
  match (s.ctxAt n).job with
  | some j =>
    if (jobTask s n).field 32 4 < j.out.length + bytes.length then endJob n (status 0x19) s
    else queueJob n (onJob n (fun j => { j with todo := j.todo.drop 1, blocks := j.blocks + 1, out := j.out ++ bytes }) s)
  | none => s

/-- A CUT job's block has been coded (R94, R97). DESIGN CHOICE (log entry 110): event 288 for such a block, which has no record, carries
object number 0. -/
def jobCoded (e n : Nat) (bad : Bool) (s : State) : State :=
  match (s.ctxAt n).job with
  | some j =>
    let b := jobBlock s n j
    let code := codeBlock b.version b
    if bad && compressed code then jobOutput n (codeBlock b.version (rawOf b)) (mismatch e n 0 s) else jobOutput n code s
  | none => s

/-- An UNCUT job's block has been decoded (R96, R98). -/
def jobDecoded (e n : Nat) (s : State) : State :=
  match (s.ctxAt n).job with
  | some j =>
    let x := j.todo.headD (0, [])
    match decodeBlock (blockVersions s) x.2 with
    | .error k => endJob n (uncutFailure x.1 k) (raise 291 [word k, word e] s)
    | .ok y => jobOutput n y.data s
  | none => s

/-- HOST_JOB_COPY: the whole output exists and is copied in one pass, the job's commit point (R99). -/
def opHostJobCopy (n : Nat) (s : State) : State :=
  match (s.ctxAt n).job with
  | some j =>
    if j.ready then
      let s1 := hostWrite ((jobTask s n).field 24 8) j.out (s.onTask n j.task (fun t => { t with committed := true }))
      endJob n (result2 0 j.out.length j.blocks) (meterSeal n ((jobTask s n).field 16 4) 0 s1)
    else s
  | none => s

/-- CUT (R97); one that waits for staging tries again. -/
def opCut (n : Nat) (s : State) : State :=
  match startable s n 0x0B with
  | some _ => beginTask 0x0B n (runCut n) s
  | none => retryJob n s

/-- UNCUT (R98); one that waits for staging tries again. -/
def opUncut (n : Nat) (s : State) : State :=
  match startable s n 0x0C with
  | some _ => beginTask 0x0C n (runUncut n) s
  | none => retryJob n s

/-! ### Engine commands -/

/-- BLOCK_CODED: engine e has finished a write block or a block of a CUT job (R94, R95). -/
def opBlockCoded (e : Nat) (o : CodedOutcome) (s : State) : State :=
  match engineWork s e with
  | some w =>
    let s1 := freeEngine e s
    match w with
    | .write n id =>
      match findBlock s n id with
      | some b => if o = .parity then restartWork e w s1 else writeCoded e n b (o = .mismatch) s1
      | none => s1
    | .job n =>
      match (s.ctxAt n).job with
      | some j => if j.isUncut then s else if o = .parity then restartWork e w s1 else jobCoded e n (o = .mismatch) s1
      | none => s1
    | .restore _ => s
  | none => s

/-- A block opened for a READ has been decompressed under the checks of Table 04-4 (R96, R208). -/
def restoreDecoded (e n : Nat) (s : State) : State :=
  match (s.ctxAt n).reader with
  | some r =>
    match r.opened with
    | some bytes =>
      match decodeBlock (blockVersions s) bytes with
      | .error k => failRead n (result2 0x18 0 ((r.block.map (fun b => b.firstObj)).getD 0)) (raise 291 [word k, word e] s)
      | .ok x => consume n x s
    | none => s
  | none => s

/-- BLOCK_DECODE: engine e has finished a block of a READ or of an UNCUT job (R95, R96). -/
def opBlockDecode (e : Nat) (parity : Bool) (s : State) : State :=
  match engineWork s e with
  | some w =>
    let s1 := freeEngine e s
    match w with
    | .restore n => if !liveWork s w then s1 else if parity then restartWork e w s1 else restoreDecoded e n s1
    | .job n =>
      match (s.ctxAt n).job with
      | some j => if !j.isUncut then s else if parity then restartWork e w s1 else jobDecoded e n s1
      | none => s1
    | .write _ _ => s
  | none => s

/-- ENGINE_OFF_WRITE: engines newly off leave service with event 289; those returned restart their mismatch counts (R94, R100). -/
def opEngineOffWrite (hi : Bool) (v : Word) (s : State) : State :=
  let base := if hi then 32 else 0
  let r := engineOffReg base
  let old := s.reg r
  let s1 := s.setReg r v
  let m := s1.cut.mismatches.filter (fun x => !(decide (base ≤ x.1) && decide (x.1 < base + 32)) || v.toNat.testBit (x.1 - base))
  let s2 := { s1 with cut := { s1.cut with mismatches := m } }
  forEach ((List.range 32).filter (fun i => v.toNat.testBit i && !old.toNat.testBit i)) (fun i a => raise 289 [word (base + i)] a) s2

/-! ### Waits for a pool -/

/-- POOL_WAIT_RESUME: a chip of the pool has been freed, and what waits on the pool goes on: tables (R73), host jobs (R99), READs
that wait for their round buffer (R217). -/
def opPoolWaitResume (k : Nat) (s : State) : State :=
  if poolFree s k = 0 || !(s.poolAt k).ready then s
  else
    let l := (s.tables.filter (fun e => waitOver s k e.2.poolWait || waitOver s k e.2.sealWait)).map (fun e => e.1)
    let free := fun (w : Option (Nat × Nat)) => if waitOver s k w then none else w
    let s1 := forEach l (fun i a => a.onTable (i / 64) (i % 64) (fun t => { t with poolWait := free t.poolWait, sealWait := free t.sealWait })) s
    let ns := s1.ctx.map (fun e => e.1)
    let s2 := forEach (ns.filter (fun n => (s1.ctxAt n).job.any (fun j => j.pool == k))) retryJob s1
    forEach (ns.filter (fun n => bound s2 n && restorePool s2 (bindDeck s2 n) == k)) (fun n a => pumpSeek n (pump n a)) s2

/-- ENGINE_DISPATCH. -/
def execEngineDispatch (e : Fin 64) (s : State) : Host.Outcome State Fault Refusal := run (opEngineDispatch e.val) s

/-- BLOCK_CLOSE (R81). -/
def execBlockClose (n : Fin 4096) (s : State) : Host.Outcome State Fault Refusal := run (closeBlock n.val) s

/-- BLOCK_CODED. -/
def execBlockCoded (e : Fin 64) (outcome : CodedOutcome) (s : State) : Host.Outcome State Fault Refusal := run (opBlockCoded e.val outcome) s

/-- BLOCK_DECODE. -/
def execBlockDecode (e : Fin 64) (historyParityError : Bool) (s : State) : Host.Outcome State Fault Refusal :=
  run (opBlockDecode e.val historyParityError) s

/-- ENGINE_OFF_WRITE. -/
def execEngineOffWrite (hi : Bool) (v : Word) (s : State) : Host.Outcome State Fault Refusal := run (opEngineOffWrite hi v) s

/-- SEAL: a lane finishes the next block of the context in stream order (R103); the choice of lane has no effect (R121). -/
def execSeal (n : Fin 4096) (_lane : Fin 32) (s : State) : Host.Outcome State Fault Refusal := run (sealNextBlock n.val) s

/-- CUT. -/
def execCut (n : Fin 4096) (s : State) : Host.Outcome State Fault Refusal := run (opCut n.val) s

/-- UNCUT. -/
def execUncut (n : Fin 4096) (s : State) : Host.Outcome State Fault Refusal := run (opUncut n.val) s

/-- HOST_JOB_COPY. -/
def execHostJobCopy (n : Fin 4096) (s : State) : Host.Outcome State Fault Refusal := run (opHostJobCopy n.val) s

/-- POOL_WAIT_RESUME. -/
def execPoolWaitResume (pool : Fin 64) (s : State) : Host.Outcome State Fault Refusal := run (opPoolWaitResume pool.val) s

end Sys2Proof.Machine
end

