-- ==== Sys2Proof/Machine/Encoder.lean ====
section
/-! DEFINITION. The deck encoder: rounds written in the order of their positions (R74, R158), tricks fixed one ahead (R178), rewrites
placed (R184, R185), run-in (R145), end-of-data (R168, R195), the closing reserve (R435), wrap turns (R192). -/

namespace Sys2Proof.Machine

/-! ### Write streams -/

/-- Word a precedes word b in modulo 2^32 order (R309). -/
def precedes (a b : Word) : Bool := decide (0 < signed 32 (b - a).toNat)

/-- The channel bit at which the next trick of the tape begins, counted from column 0: right after the last one (R137), or, where a column
that holds the end of that one has been filled up and sent, after that column (R305, R308). -/
def tapeEnd (k : Deck) : Nat :=
  match k.tape.getLast? with
  | some (t, b) =>
    let e := b + (fmtOf t.format).trickBits
    if k.padded then 16 * ((e + 15) / 16) else e
  | none => 16 * k.nextCol.toNat

/-- The first column after the tricks of the tape (R308). -/
def nextColumn (k : Deck) : Word := word ((tapeEnd k + 15) / 16)

/-- The wrap and tape position at which writing goes on: the append point, or where it was interrupted (R168, R172). -/
def writePoint (k : Deck) : Nat × Word := k.resumeAt.getD (k.appendWrap, k.appendAt)

/-- The wrap under the head ends for the Loupe: the summary of a wrap that has been written on goes to the Scorepad with event 64d + 25, then
every track returns to GOOD, its window is emptied and the counts restart (R172, R192). -/
def endWrap (d : Nat) (s : State) : State :=
  let k := s.deckAt d
  let counts := (List.range 4).map (fun x => s.reg (Reg.dkLoupeWrap d x))
  let s1 := if k.wrote then raiseKept (64 * d + 25) ([word k.motion.wrap, word k.retired.length] ++ counts) s else s
  let s2 := forEach (List.range 4) (fun x a => a.setReg (Reg.dkLoupeWrap d x) 0) s1
  let fresh := fun (t : Track) => ({ sq := t.sq, samples := t.samples, sqRun := t.sqRun } : Track)
  s2.onDeck d (fun k => { k with tracks := Sparse.remap (fun _ => ({} : Track)) (fun _ t => fresh t) k.tracks, retired := [], wrote := false })

/-- The wrap under the head changes, which ends the wrap before for the Loupe (R192); LATERAL seeks the new one (R252). -/
def gotoWrap (d w : Nat) (s : State) : State :=
  if (s.deckAt d).motion.wrap = w then s
  else (endWrap d s).onMotion d (fun m => { m with wrap := w, follow := false, locked := false, lockRun := 0 })

/-- A write stream is opened where none is open: MODE 1 with the next column's index and the place where writing goes on (R172, R308). What was
read from tape before no longer serves, since the tape changes. -/
def openWrite (d : Nat) (s : State) : State :=
  let k := s.deckAt d
  if k.streamOpen then s
  else
    let p := writePoint k
    let s1 := gotoWrap d p.1 s
    let k1 := s1.deckAt d
    sendMode d 1 k1.profile (nextColumn k1) p.2 (s1.putDeck d { Deck.forget k1 with tape := [], cursor := [] })

/-- PACE leaves IDLE, or returns from DRAIN, for START (Table 11-5). -/
def startTape (d : Nat) (s : State) : State :=
  (leaveIdle s).onDeck d (fun k => if k.motion.pace = 0 || k.motion.pace = 3 then
    { k with motion := { k.motion with pace := 1, prerolled := k.streamOpen } } else k)

/-- The deck may write: not stopped, its link ACTIVE, no task reads its tape (R194, R197, R318). -/
def mayWrite (s : State) (d : Nat) : Bool :=
  !(s.deckAt d).motion.stopped && !(s.deckAt d).estop && linkState s d == 2 && (s.deckAt d).wanted.isNone && (s.deckAt d).mode != 2

/-- The write stream of the deck goes on: it is not stopped, and its link is ACTIVE. A task that needs the tape waits for the stream's end (R199). -/
def writesOn (s : State) (d : Nat) : Bool :=
  let k := s.deckAt d
  k.streamOpen && !k.motion.stopped && !k.estop && linkState s d == 2 && k.mode != 2

/-! ### Rounds -/

/-- The first closed round of deck d that is not begun and not kept back (R74, R199). -/
def nextRound (k : Deck) : Option Round := k.rounds.find? (fun r => !r.started && !r.keptBack)

/-- The trick is of a script: one that frames a partition or a cartridge, or a run-in trick of the medium lead region (R171). -/
def Trick.ofScript (t : Trick) : Bool :=
  match t.body with
  | .special _ _ => true
  | .runIn => t.number != noTrick
  | _ => false

/-- A script is being written: tricks of it are left, fixed, or under the write element (R168, R171). -/
def scriptOpen (k : Deck) : Bool :=
  !k.script.isEmpty || k.eodScript || k.segmentDue || (k.redo ++ k.fixed.toList ++ k.writing.toList).any Trick.ofScript

/-- CTX_SEAT of the contexts that a SEAT task concerns, and its completion (R63). A context of the old plan that has since been bound to
another table keeps its seat there. -/
def completeSeat (td p q : Nat) (s : State) : State :=
  let t := s.tableAt td p
  match t.seatPending with
  | some (q', _, old) =>
    if q' = q then
      let s1 := forEach (old.filter (fun e => (boundTo s td p).contains e.1)) (fun e a => a.setReg (Reg.ctxSeat e.1) 0) s
      let l := if t.mode = 0 then [] else List.zip (List.range t.plan.length) t.plan
      let s2 := forEach l (fun e a =>
        (a.setFld (Reg.ctxSeat e.2.1) Fld.ctxSeatSeated 1).setFld (Reg.ctxSeat e.2.1) Fld.ctxSeatSeat e.1) s1
      finish 0 q (status 0) (s2.onTable td p (fun t => { t with seatPending := none }))
    else s
  | none => s

/-- The tasks of context n that wait for round `id` of a table wait for it no longer; a SYNC that waits for no other completes, and so
does a SEAT of the table (R63, R75). -/
def wakeWaiters (td p id n : Nat) (s : State) : State :=
  let l := (s.ctxAt n).tasks.filter (fun t => t.waitRounds.contains id
    && (if t.opcode = 0x16 then t.field 8 1 == td && t.field 9 1 == p else bindDeck s n == td && bindPart s n == p))
  forEach l (fun t a =>
    let left := t.waitRounds.filter (fun x => x != id)
    let b := a.onTask n t.seq (fun u => { u with waitRounds := left })
    if left.isEmpty then (if t.opcode = 0x16 then completeSeat td p t.seq b else finish n t.seq (status 0) b) else b) s

/-- The streams of a table go back to the first object and BSN that these entries carry (R174). -/
def lowerEntries (l : List Entry) (t : Table) : Table :=
  l.foldl (fun a e => a.onStream e.stream (fun i => { i with objects := min i.objects e.firstObj, nextBsn := word (min i.nextBsn.toNat e.bsn.toNat) })) t

/-- What the encoder has not begun of a table goes with the end of the partition (R174): the closed rounds that no deck of the group has begun
and what is open take a deferred error with cause 3, and they leave the logical image. The SYNCs and the SEAT that wait for such a round wait
for it no longer; a SYNC that waits for no other completes, its context's loss being the deferred error's to tell (DESIGN CHOICE, log entry
120). -/
def endZoneMet (td p : Nat) (s : State) : State :=
  let t := s.tableAt td p
  let g := groupOf s td
  let begun := g.flatMap (fun d => ((s.deckAt d).rounds.filter (fun r => r.started)).map (fun r => r.id))
  let gone := fun (r : Round) => r.partition == p && !begun.contains r.id
  let rounds := g.flatMap (fun d => (s.deckAt d).rounds.filter gone)
  let hands := rounds.flatMap (fun r => r.hands) ++ t.openRound
  let tricks := hands.flatMap (fun h => h.tricks) ++ t.openHand
  let entries := tricks.flatMap Trick.entries ++ t.openEntries
  let refs := entries.map Entry.ref
  let next := leastOf (t.nextTrick :: hands.map (fun h => h.firstTrick) ++ t.openHand.map (fun x => x.number))
  let s1 := forEach ((refs.map (fun x => (x.1, x.2.1))).dedup) (fun k a =>
    let lo := leastOf ((refs.filter (fun x => x.1 == k.1 && x.2.1 == k.2)).map (fun x => x.2.2))
    let total := ((a.tableAt td p).stream k.2).objects
    if lo < total then deferError k.1 3 lo (total - 1) a else a) s
  let s2 := freeList 2 (deckOfTrick (dataDecks s td) t.openHand.length) t.openChips (forEach tricks freeImage s1)
  let s3 := forEach g (fun d a => a.onDeck d (fun k => { k with rounds := k.rounds.filter (fun r => !gone r) })) s2
  let s4 := s3.onTable td p (fun t =>
    { lowerEntries entries t with
      openEntries := [], openChips := [], openHand := [], openRound := [], nextTrick := next, roundWait := false
      directory := t.directory.filter (fun e => decide (beAt e 0 5 < next)), formats := t.formats.filter (fun e => decide (e.1 < next)) })
  let ids := (rounds.map (fun r => r.id)).dedup
  let s5 := forEach ids (fun i a => forEach (a.ctx.map (fun e => e.1)) (wakeWaiters td p i) a) s4
  refuseEndZone td p s5

/-- ROUND_WRITE_START: the encoder begins a closed round once the round before it has been written (R74, R158, R308); after an end-of-data the
tape stops first, and writing goes on at the append point (R168). A round that would begin inside the end zone is not written, unless
another deck of the group has begun it (R174, R227). -/
def opRoundWriteStart (d : Nat) (s : State) : State :=
  let k := s.deckAt d
  if mayWrite s d && k.toWrite.isNone && !scriptOpen k && !(k.streamOpen && k.eodWritten) then
    match nextRound k with
    | none => s
    | some r =>
      let inZone := match k.left with
        | some l => decide (l < 8192)
        | none => false
      let begun := (groupOf s d).any (fun x => (s.deckAt x).rounds.any (fun y => y.id == r.id && y.started))
      if inZone && !begun then endZoneMet (tableDeck s d) r.partition s
      else
        let s1 := s.onDeck d (fun k =>
          { k with toWrite := some r.positions, eodWritten := false
                   rounds := k.rounds.map (fun x => if x.id == r.id then { x with started := true } else x) })
        openWrite d (startTape d s1)
  else s

/-- The round begun has been written whole (R74): packing that waited for it goes on. -/
def roundWritten (d : Nat) (s : State) : State :=
  let s1 := s.onDeck d (fun k => { k with toWrite := none, rounds := k.rounds.map (fun r => if r.started then { r with written := true } else r) })
  let td := tableDeck s d
  if (groupOf s1 td).all (fun x => decide (unwrittenRounds s1 x < 2)) then
    match (s1.deckAt td).active with
    | some p => s1.onTable td p (fun t => { t with roundWait := false })
    | none => s1
  else s1

/-! ### End-of-data -/

/-- What of a table is not on tape: the entries and items of each stream. -/
def untaped (s : State) (td p : Nat) : List Entry :=
  let t := s.tableAt td p
  let kept := (s.deckAt td).rounds.flatMap (fun r => r.tricks)
  (kept ++ t.openRound.flatMap (fun h => h.tricks) ++ t.openHand).flatMap Trick.entries ++ t.openEntries

/-- The first logical trick number that no trick on tape carries (R149, R199). -/
def tapedNext (s : State) (td p : Nat) : Nat :=
  let t := s.tableAt td p
  let kept := (s.deckAt td).rounds.flatMap (fun r => r.hands.map (fun h => h.firstTrick))
  let open' := t.openRound.map (fun h => h.firstTrick) ++ (t.openHand.head?.map (fun x => x.number)).toList
  leastOf (kept ++ open' ++ [t.nextTrick])

/-- NEXT_BSN and NEXT_OBJECT of each stream on tape, ascending (Table 07-5). -/
def tapedStreams (s : State) (td p : Nat) : List (Word × Word × Nat) :=
  let t := s.tableAt td p
  let es := untaped s td p
  t.streams.map (fun x =>
    let mine := es.filter (fun e => e.stream.toNat == x.1)
    let refs := t.items.filterMap (fun i => i.ref.bind (fun r => if r.2.1.toNat = x.1 then some r.2.2 else none))
    let bsns := t.items.filterMap (fun i => match i with
      | .block b _ => if b.stream.toNat = x.1 then some b.bsn.toNat else none
      | .mark _ sid b _ _ _ _ => if sid.toNat = x.1 then some b.toNat else none
      | _ => none)
    (word x.1, word (leastOf (mine.map (fun e => e.bsn.toNat) ++ bsns ++ [x.2.nextBsn.toNat])),
      leastOf (mine.map (fun e => e.firstObj) ++ refs ++ [x.2.objects])))

/-- A trick that frames a partition, and its repeat (R165, R167). -/
def framed (format : List Byte) (p d number type image : Nat) (user : List Byte) : List Trick :=
  let t : Trick := { number := number, body := .special type user, format := format, partition := p, deck := d, image := image }
  [t, { t with isRepeat := true }]

/-- End-of-data and directory tricks of the table as deck d writes them, each with its repeat, numbered from the deck's count of
images (R167, R168). -/
def eodTricks (s : State) (d p : Nat) : List Trick :=
  let td := tableDeck s d
  let t := s.tableAt td p
  let fmt := deckFormat s d
  let f := fmtOf fmt
  let n := tapedNext s td p
  let hands := t.directory.filter (fun e => decide (beAt e 0 5 < n))
  let dirs := dirTricks f hands.length
  let id := match (t.formats.filter (fun e => decide (e.1 < n))).getLast? with
    | some e => e.2
    | none => formatId fmt
  let im := (s.deckAt d).images
  let eod := framed fmt p d n 7 im (recordUser f.userBytes 5 (eodRecord id n dirs hands.length (tapedStreams s td p)))
  eod ++ (List.range dirs).flatMap (fun i => framed fmt p d (n + 1 + i) 8 (im + 1 + i) (directoryUser f.userBytes i dirs hands))

/-- Every closed round that is to be written has been written and released, and end-of-data is not on tape (R168), or R195 asks for
one. -/
def eodDue (s : State) (d p : Nat) : Bool :=
  let k := s.deckAt d
  let t := s.tableAt (tableDeck s d) p
  t.known && k.toWrite.isNone && !scriptOpen k && k.rounds.all (fun r => r.keptBack) && (!k.eodWritten || t.needsEod)

/-- END_OF_DATA_WRITE: the end-of-data tricks are to be written next (R168, R195). -/
def opEndOfDataWrite (d : Nat) (s : State) : State :=
  match activePart s d with
  | some p =>
    if mayWrite s d && eodDue s d p then
      let l := eodTricks s d p
      let s1 := s.onDeck d (fun k => { k with script := l, eodScript := true, images := k.images + l.length })
      openWrite d (startTape d s1)
    else s
  | none => s

/-! ### Fixing a trick -/

/-- Track n of deck d. -/
def trackAt (k : Deck) (n : Nat) : Track := Sparse.get {} k.tracks n

/-- The slots of a track that may take a copy in a trick (R184). -/
def bandSlots (f : Fmt) (t : Trick) : List Nat :=
  match t.body with
  | .rewriteOnly => List.range f.slots
  | .runIn => []
  | _ => (List.range f.nB).map (fun i => f.nS + i)

/-- A free slot of track c in the trick. -/
def freeSlot (f : Fmt) (t : Trick) (c : Nat) : Option Nat := (bandSlots f t).find? (fun q => (t.copyAt c q).isNone)

/-- The trick of an image among the tricks on tape and in the rounds: the one whose facets are copied (R183). -/
def imageTrick (k : Deck) (i : Nat) : Option Trick := (k.held.find? (fun h => h.trick.image == i)).map (fun h => h.trick)

/-- The format of the trick whose facet waits: its own, not that of the trick that carries the copy (R184). -/
def Rewrite.fmt (k : Deck) (t : Trick) (r : Rewrite) : Fmt := fmtOf ((imageTrick k r.image).getD t).format

/-- Places of the pending facets in a trick, in queue order (R184): the trick with its copies and the facets left. -/
def placeCopies (k : Deck) (t : Trick) : List Rewrite → Trick × List Rewrite
  | [] => (t, [])
  | r :: l =>
    let f := fmtOf t.format
    let n := ((r.fmt k t).place r.tile r.facet).1
    let start := (n + 517 * r.attempts) % f.nT
    match (List.range f.nT).findSome? (fun k' =>
      let c := (start + k') % f.nT
      if (trackAt k c).state = 0 then (freeSlot f t c).map (fun q => (c, q)) else none) with
    | some p => placeCopies k { t with copies := t.copies ++ [(p, r)] } l
    | none =>
      let x := placeCopies k t l
      (x.1, r :: x.2)

/-- Grade a of a facet comes before grade b: by position, then slot, then track (R184). -/
def gradedBefore (a b : Nat × Nat × Nat) : Bool :=
  decide (a.1 < b.1) || (a.1 == b.1 && (decide (a.2.1 < b.2.1) || (a.2.1 == b.2.1 && decide (a.2.2 < b.2.2))))

/-- A facet takes its place in the queue, in the order of the latest grades (R184). DESIGN CHOICE (log entry 119): the instant of a grade is
the position and slot in which the facet passed, so that facets graded on several tracks in one slot interval are of one instant. -/
def Rewrite.insert (r : Rewrite) : List Rewrite → List Rewrite
  | [] => [r]
  | e :: l => if gradedBefore r.graded e.graded then r :: e :: l else e :: Rewrite.insert r l

/-- The pending facets that have not been placed exceed the backlog limit (R185). -/
def backlogDue (k : Deck) (f : Fmt) : Bool := decide (4 * f.nT * f.nB < k.queue.length)

/-- The partition of the table that a deck is writing: that of what it writes next or wrote last (R131). -/
def writtenPart (s : State) (d : Nat) : Nat :=
  let k := s.deckAt d
  let next := k.redo ++ k.fixed.toList ++ k.script ++ k.writing.toList
  match (next.filter (fun t => t.ofRound || t.ofScript)).head? with
  | some t => t.partition
  | none =>
    match (k.held.map (fun h => h.trick)).getLast? with
    | some t => t.partition
    | none => (activePart s d).getD 0

/-- A rewrite-only trick of a deck (R142). -/
def rewriteOnlyTrick (s : State) (d : Nat) : Trick :=
  { number := noTrick, body := .rewriteOnly, format := deckFormat s d, partition := writtenPart s d, deck := d }

/-- A run-in trick of a deck (R145). -/
def runInTrick (s : State) (d : Nat) : Trick := { rewriteOnlyTrick s d with body := .runIn }

/-- A wrap counter of the Loupe counts (DKd_LOUPE_WRAP_x). -/
def countWrap (d x n : Nat) (s : State) : State := s.addFld (Reg.dkLoupeWrap d x) Fld.dkLoupeWrapCount n

/-- The trick that falls due next (R185): repeats, oldest first; a rewrite-only trick due for backlog; the next position; the
script; a rewrite-only trick while facets are unreleased and no later round is closed (R76). -/
def dueTrick (d : Nat) (s : State) : Option Trick × State :=
  let k := s.deckAt d
  match k.repeatsDue with
  | i :: l =>
    ((imageTrick k i).map (fun t => { t with isRepeat := true, copies := [] }), s.onDeck d (fun k => { k with repeatsDue := l }))
  | [] =>
    if backlogDue k (deckFmt s d) then (some (rewriteOnlyTrick s d), raiseDeck d 21 [] s)
    else
      match k.toWrite with
      | some (t :: l) => (some t, s.onDeck d (fun k => { k with toWrite := some l }))
      | _ =>
        match k.script with
        | t :: l => (some t, s.onDeck d (fun k => { k with script := l }))
        | [] => (if !k.held.isEmpty && (nextRound k).isNone then some (rewriteOnlyTrick s d) else none, s)

/-- The trick that is written next: one that was fixed or not wholly written before an interruption (R172), the repeat that follows at once on
a lead, end-of-data or directory trick (R165), else the one that falls due (R185). -/
def chooseTrick (d : Nat) (s : State) : Option Trick × State :=
  let k := s.deckAt d
  match k.redo, k.script with
  | t :: l, _ => (some t, s.onDeck d (fun k => { k with redo := l }))
  | [], t :: l => if t.isRepeat then (some t, s.onDeck d (fun k => { k with script := l })) else dueTrick d s
  | [], [] => dueTrick d s

/-- The next trick is fixed, its rewrites placed (R178, R184). -/
def fixNext (d : Nat) (s : State) : State :=
  let r := chooseTrick d s
  match r.1 with
  | none => r.2
  | some t =>
    let k := r.2.deckAt d
    let q := placeCopies k t k.queue
    r.2.onDeck d (fun k => { k with fixed := some q.1, queue := q.2 })

/-- State of a facet of a held trick; none while it has not been graded. -/
def Held.state (h : Held) (tile j : Nat) : Option FacetState := Sparse.find h.facets (128 * tile + j)

/-- The facet of a copy is still pending (R183). -/
def Rewrite.isPending (k : Deck) (r : Rewrite) : Bool :=
  match (k.held.find? (fun h => h.trick.image == r.image)).bind (fun h => h.state r.tile r.facet) with
  | some (.pending _ _) => true
  | _ => false

/-- Tricks that are to be fixed anew: they come first, and the facets copied in them that are still pending wait in the queue again (R172,
R178, R186). -/
def unfix (l : List Trick) (k : Deck) : Deck :=
  let copies := (l.flatMap (fun t => t.copies.map (fun c => c.2))).filter (Rewrite.isPending k)
  { k with redo := l.map (fun t => { t with copies := [] }) ++ k.redo, queue := copies.foldl (fun q r => Rewrite.insert r q) k.queue }

/-! ### Beginning a trick -/

/-- Facets of slots 0 to N_S − 1 of a trick. -/
def facetsOf (f : Fmt) : Nat := f.nT * f.nS

/-- A held trick with a facet's state set. -/
def Held.setState (h : Held) (tile j : Nat) (v : FacetState) : Held := { h with facets := Sparse.put h.facets (128 * tile + j) v }

/-- The facets of a held trick that lie on track n and are not verified count as retired (R191). -/
def Held.retireOn (n : Nat) (h : Held) : Held :=
  let f := fmtOf h.trick.format
  (List.range f.nS).foldl (fun h q =>
    let p := f.facetAt n q
    if h.state p.1 p.2 = some .verified then h else h.setState p.1 p.2 .retired) h

/-- A trick with tiles that begins to be written is held until its release (R193); its facets on the retired tracks count as retired
unless they are verified (R191). -/
def holdTrick (retired : List Nat) (t : Trick) (l : List Held) : List Held :=
  match t.body with
  | .rewriteOnly | .runIn => l
  | _ =>
    let l1 := if l.any (fun h => h.trick.image == t.image) then l else l ++ [{ trick := t }]
    l1.map (fun h => if h.trick.image = t.image then retired.foldl (fun a n => Held.retireOn n a) h else h)

/-- The rounds whose facets a trick carries: its own, and those of the copies in it (R195). -/
def carriedRounds (k : Deck) (t : Trick) : List Nat :=
  let of' := fun (x : Trick) => if x.ofRound then [x.round] else []
  (of' t ++ t.copies.flatMap (fun c => ((imageTrick k c.2.image).map of').getD [])).dedup

/-- A tape position n tenths of a millimetre further along a wrap (R170). -/
def alongWrap (wrap : Nat) (p : Word) (n : Nat) : Word := if towardsEot wrap then p + word n else p - word n

/-- The state of PACE as a trick begins: DRAIN once the encoder has found no closed round at the end of one, else STREAM (Table 11-5). -/
def writingPace (k : Deck) (t : Trick) : Nat :=
  let drains := !t.ofRound && (k.toWrite.getD []).isEmpty && (nextRound k).isNone && k.admin.isNone
  if k.motion.pace = 1 || k.motion.pace = 2 || k.motion.pace = 3 then (if drains then 3 else 2) else k.motion.pace

/-- Deck d begins to write a trick at tape position `tpc` (R178). The first end-of-data copy begins at the append point (R168). -/
def beginWriting (d : Nat) (t : Trick) (tpc : Word) (s : State) : State :=
  let s1 := s.onDeck d (fun k =>
    let w := k.motion.wrap
    let t' := { t with begun := tpc, ordinal := k.writings }
    let at' := match t.body with
      | .special 7 _ => if t.isRepeat then (k.appendWrap, k.appendAt) else (w, tpc)
      | _ => (k.appendWrap, k.appendAt)
    let x : Laid := { wrap := w, begun := tpc, past := alongWrap w tpc (fmtOf t.format).trickLength, rounds := carriedRounds k t }
    { k with writing := some t', tape := k.tape ++ [(t', tapeEnd k)], held := holdTrick k.retired t' k.held, writings := k.writings + 1
             appendWrap := at'.1, appendAt := at'.2, laid := k.laid ++ [x], trial := [], wrote := true, padded := false
             motion := { k.motion with gate := true, gateOff := false, pace := writingPace k t } })
  let s2 := countWrap d 0 t.copies.length (if t.isRepeat then countWrap d 1 1 s1 else s1)
  match t.body with
  | .rewriteOnly => countWrap d 2 1 s2
  | _ => s2

/-- Deck d is to write these tricks from a tape position of a wrap on: a write stream of their own, after a run-in (R145, R171, R173). -/
def beginSegment (d : Nat) (seg : Nat × Word × List Trick) (s : State) : State :=
  let k := s.deckAt d
  let m := { k.motion with gate := false, pace := if k.motion.pace = 2 then 1 else k.motion.pace }
  let s1 := s.putDeck d { k with script := seg.2.2, resumeAt := some (seg.1, seg.2.1), needRunIn := true, segmentDue := false, motion := m }
  openWrite d (startTape d (if k.streamOpen then sendMode d 0 k.profile 0 0 s1 else s1))

/-- The tricks of a deck's segment have been written and released: the next one begins, or the cartridge is as the administration task
leaves it, and once that is so on every deck of the group the task completes (R173, R182). -/
def segmentDone (d : Nat) (s0 : State) : State :=
  let s := s0.onDeck d (fun k => { k with segmentDue := false })
  let k := s.deckAt d
  match k.admin with
  | some (.writing n q c (seg :: l) parts label) => beginSegment d seg (s.putDeck d { k with admin := some (.writing n q c l parts label) })
  | some (.writing n q c [] parts label) =>
    let s1 := s.putDeck d { k with admin := none, parts := parts, label := label, loaded := true, blank := false, active := none
                                   dataParts := k.dataParts.filter (fun p => (Sparse.find parts p).isSome) }
    if (groupOf s d).all (fun x => (s1.deckAt x).admin.isNone) then finish n q c s1 else s1
  | _ => s

/-- The last trick of a script has been written: an end-of-data stands on tape, and writing goes on at the append point (R168), or a segment of
an administration task is to be verified (R173, R182). -/
def scriptDone (d : Nat) (s : State) : State :=
  let k := s.deckAt d
  let s1 := if k.eodScript then
      let s2 := s.onDeck d (fun k => { k with eodWritten := true, eodScript := false, resumeAt := none, laid := [] })
      match activePart s d with
      | some p => s2.onTable (tableDeck s d) p (fun t => { t with needsEod := false })
      | none => s2
    else s
  match k.admin with
  | some (.writing _ _ _ _ _ _) => s1.onDeck d (fun k => { k with segmentDue := true })
  | _ => s1

/-- The trick that was being written has been written whole (R74, R172). -/
def finishWriting (d : Nat) (s : State) : State :=
  let k := s.deckAt d
  match k.writing with
  | none => s
  | some t =>
    let next := k.redo ++ k.fixed.toList
    let s1 := s.onDeck d (fun k => { k with writing := none, trial := [] })
    let lastOfRound := k.toWrite == some [] && t.ofRound && !t.isRepeat && !next.any (fun x => x.ofRound && !x.isRepeat)
    let lastOfScript := k.script.isEmpty && t.ofScript && !next.any Trick.ofScript
    let s2 := if lastOfRound then roundWritten d s1 else s1
    if lastOfScript then scriptDone d s2 else s2

/-- Trick lengths of the closing reserve (R435). -/
def closingReserve (s : State) (d : Nat) : Nat :=
  match activePart s d with
  | some p => 2 * (1 + dirTricks (deckFmt s d) (s.tableAt (tableDeck s d) p).directory.length) + 66
  | none => 0

/-- The trick may end inside the closing reserve: end-of-data, directory and lead tricks, and up to 64 rewrite-only tricks that they need
(R168, R435). -/
def mayEnterReserve (k : Deck) (t : Trick) : Bool :=
  match t.body with
  | .special _ _ => true
  | .rewriteOnly => (k.eodScript || k.eodWritten || k.segmentDue) && decide (k.reserveUsed < 64)
  | .runIn => k.eodScript
  | _ => false

/-- Nothing is left to write: the write stream ends and the tape goes to rest through DRAIN (R168, Table 11-5). Where no end-of-data stands on
tape yet, writing goes on here. -/
def endStream (d : Nat) (s : State) : State :=
  let k := s.deckAt d
  let m := { k.motion with gate := false, pace := if k.motion.pace = 2 then 3 else k.motion.pace }
  let at' := if k.eodWritten then k.resumeAt else some (k.motion.wrap, k.motion.tpc)
  sendMode d 0 k.profile 0 0 (s.putDeck d { k with motion := m, needRunIn := true, resumeAt := at' })

/-- The fixed trick begins to be written, and the trick after it is fixed (R178); the deck stops where it would enter the closing
reserve (R435). With nothing fixed and everything released, a segment is done (R173), or the stream ends. -/
def beginFixed (d : Nat) (tpc : Word) (left : Nat) (s : State) : State :=
  let k := s.deckAt d
  let inside := decide (left < closingReserve s d + 1)
  match k.fixed with
  | some t =>
    if !mayEnterReserve k t && inside then controlledStop d 12 3 s
    else
      let used := match t.body with
        | .rewriteOnly => if inside then k.reserveUsed + 1 else 0
        | _ => if inside then k.reserveUsed else 0
      fixNext d (beginWriting d t tpc (s.putDeck d { k with fixed := none, reserveUsed := used }))
  | none =>
    if k.streamOpen && k.held.isEmpty then (if k.segmentDue then segmentDone d (endStream d s) else endStream d s) else s

/-! ### Interruption -/

/-- What one grade of the trick being written changed is as it was before (R186). -/
def undoGrade (k : Deck) (x : Trial) : Deck :=
  let key := 128 * x.tile + x.facet
  let back := fun (h : Held) =>
    { h with
      facets := if h.state x.tile x.facet = some .retired then h.facets
        else match x.state with
          | some v => Sparse.put h.facets key v
          | none => Sparse.erase h.facets key
      graded := h.graded - bit x.own }
  let rest := k.queue.filter (fun e => !(e.image == x.image && e.tile == x.tile && e.facet == x.facet))
  { k with
    held := k.held.map (fun h => if h.trick.image = x.image then back h else h)
    queue := match x.queued with
      | some r => Rewrite.insert r rest
      | none => rest }

/-- The grades of the trick being written are discarded, and copies in it count as no attempt; a trick at its first writing is held no longer
(R186). -/
def discardGrades (k : Deck) : Deck :=
  let k1 := k.trial.foldl undoGrade k
  match k.writing with
  | some t =>
    let first := fun (h : Held) => h.trick.image == t.image && !t.isRepeat && (t.ofRound || t.ofScript)
    { k1 with
      held := k1.held.filter (fun h => !first h), trial := []
      repeatsDue := if k1.held.any first then k1.repeatsDue.filter (fun i => i != t.image) else k1.repeatsDue
      queue := if k1.held.any first then k1.queue.filter (fun e => e.image != t.image) else k1.queue }
  | none => k1

/-- Writing is interrupted: the trick being written and the one fixed after it are to be written whole, in that order, from the start of the first
on, after a run-in, and grades of an interrupted writing count for nothing (R172, R186). A run-in trick is no such trick. -/
def interruptWriting (d : Nat) (s : State) : State :=
  let k := s.deckAt d
  let back := (k.writing.toList ++ k.fixed.toList).filter (fun t => match t.body with
    | .runIn => t.number != noTrick
    | _ => true)
  let whole := match k.writing with
    | some _ => k.tape.dropLast
    | none => k.tape
  let laid := match k.writing with
    | some _ => k.laid.dropLast
    | none => k.laid
  let k1 := unfix back (discardGrades k)
  let slots := (deckFmt s d).slots * whole.length
  s.putDeck d { k1 with
    writing := none, fixed := none, needRunIn := true, tape := whole, laid := laid, cursor := k.cursor.map (fun e => (e.1, min e.2 slots))
    resumeAt := match k.writing, k.laid.getLast? with
      | some t, _ => some (k.motion.wrap, t.begun)
      | none, some x => if k.tape.isEmpty then k.resumeAt else some (x.wrap, x.past)
      | none, none => k.resumeAt }

/-- Every deck of the group is locked (R253, R254). -/
def groupLocked (s : State) (d : Nat) : Bool := (groupOf s d).all (fun x => (s.deckAt x).motion.locked)

/-- Another deck of the group is not locked: the trick being written is finished, and writing is held as if interrupted (R172, R254). -/
def holdForGroup (d : Nat) (tpc : Word) (left : Nat) (s : State) : State :=
  let s1 := finishWriting d (s.onDeck d (fun k => { k with left := some left, motion := { k.motion with tpc := tpc } }))
  if (s.deckAt d).needRunIn then s else interruptWriting d (s1.onMotion d (fun m => { m with gate := false }))

/-- TRICK_BEGIN: every deck of the group locked (R253, R254), the encoder begins a trick at tape position `tpc`, `left` trick lengths before the end of the partition's last wrap
and `leftInWrap` before the end of this one (R145, R178, R435). -/
def opTrickBegin (d : Nat) (tpc : Word) (left leftInWrap : Nat) (s : State) : State :=
  let k := s.deckAt d
  if writesOn s d && k.motion.locked && !groupLocked s d then holdForGroup d tpc left s
  else if writesOn s d && groupLocked s d then
    let s0 := finishWriting d (s.onDeck d (fun k => { k with left := some left, motion := { k.motion with tpc := tpc } }))
    if leftInWrap = 0 then s0
    else
      let s1 := if (s0.deckAt d).fixed.isNone then fixNext d s0 else s0
      if (s1.deckAt d).needRunIn && (s1.deckAt d).fixed.isSome then
        let t := runInTrick s1 d
        if !mayEnterReserve (s1.deckAt d) t && decide (left < closingReserve s1 d + 1) then controlledStop d 12 3 s1
        else beginWriting d t tpc (s1.onDeck d (fun k => { k with needRunIn := false }))
      else beginFixed d tpc left s1
  else s

/-! ### Wrap turns -/

/-- Every facet of the tricks on tape has passed the read element of every track (R186, R192). -/
def allGraded (s : State) (d : Nat) : Bool :=
  let k := s.deckAt d
  let f := deckFmt s d
  (List.range f.nT).all (fun n => Sparse.get 0 k.cursor n == f.slots * k.tape.length)

/-- The partition has a further wrap (R170). -/
def nextWrapInPart (s : State) (d : Nat) : Bool :=
  match activePart s d with
  | some p =>
    match Sparse.find (s.deckAt d).parts p with
    | some (w, n) => decide ((s.deckAt d).motion.wrap + 1 < w + n)
    | none => false
  | none => false

/-- WRAP_TURN: within the partition (R170, R435), the summary of the wrap is written, every track returns to GOOD and the counts restart; the
tape turns and LATERAL seeks the next wrap (R186, R192, R249, R252). Writing resumes after a run-in (R172), and the trick after it is fixed
when that run-in begins (R178). A deck that reads goes on along the next wrap. -/
def opWrapTurn (d : Nat) (s : State) : State :=
  let k := s.deckAt d
  if !nextWrapInPart s d then s
  else if k.streamOpen && k.mode == 1 && k.writing.isNone && allGraded s d then
    let s1 := s.onDeck d (fun k => { unfix k.fixed.toList k with fixed := none, needRunIn := true, tape := [], cursor := [] })
    let s2 := (gotoWrap d (k.motion.wrap + 1) s1).onMotion d (fun m => { m with gate := false })
    sendMode d 1 k.profile (nextColumn k) k.motion.tpc s2
  else if k.mode = 2 then
    let s1 := (gotoWrap d (k.motion.wrap + 1) s).onDeck d Deck.nextRead
    sendMode d 2 k.profile 0 k.motion.tpc s1
  else s

/-- ROUND_WRITE_START. -/
def execRoundWriteStart (d : Fin 4) (s : State) : Host.Outcome State Fault Refusal := run (opRoundWriteStart d.val) s

/-- TRICK_BEGIN. -/
def execTrickBegin (d : Fin 4) (tpc : Word) (left leftInWrap : Nat) (s : State) : Host.Outcome State Fault Refusal :=
  run (opTrickBegin d.val tpc left leftInWrap) s

/-- END_OF_DATA_WRITE. -/
def execEndOfDataWrite (d : Fin 4) (s : State) : Host.Outcome State Fault Refusal := run (opEndOfDataWrite d.val) s

/-- WRAP_TURN. -/
def execWrapTurn (d : Fin 4) (s : State) : Host.Outcome State Fault Refusal := run (opWrapTurn d.val) s

end Sys2Proof.Machine
end

