-- ==== Sys2Proof/Machine/Loupe.lean ====
section
/-! DEFINITION. The Loupe (R177 to R196): facets found among the bits read back, graded and rewritten, tile accounting, repeats, track
health, release of tricks, hands and rounds with what waits on them (R63, R75, R401). -/

namespace Sys2Proof.Machine

/-! ### Facets among the bits of a track -/

/-- The bits received of a track from channel bit a to b, counted from column 0 (R307, R312). -/
def received (r : RxTrack) (a b : Nat) : List (Bool × Bool) :=
  let lo := 16 * r.base
  (r.bits.drop (a - lo)).take (b - max a lo)

/-- The channel bit after the last one received of a track. -/
def receivedEnd (r : RxTrack) : Nat := 16 * r.base + r.bits.length

/-- The bytes of a facet body that are flagged: an erasure at one of their bits or at the select bit of their word (R200). -/
def flaggedBytes (words : Nat) (bits : List (Bool × Bool)) : List Nat :=
  (List.range (4 * words)).filter (fun i =>
    let w := 33 * (i / 4)
    (bits.getD w (false, false)).2 || (slice bits (w + 1 + 8 * (i % 4)) 8).any (fun b => b.2))

/-- The facet body that follows a sync word at the first bit: its bytes and the flagged ones (R127, R135, R200). -/
def bodyAt (f : Fmt) (n : Nat) (bits : List (Bool × Bool)) : Option (List Byte × List Nat) :=
  if f.facetBits ≤ bits.length && (bits.take 33).map (fun b => b.1) == bitsMsb 33 (paveSync f.pave) then
    let body := slice bits 33 (33 * f.bodyWords)
    some (demodulate f n (body.map (fun b => b.1)), flaggedBytes f.bodyWords body)
  else none

/-- CRC of a facet header holds (R130). -/
def headerValid (body : List Byte) : Bool := crc16 (body.take 10) == beAt body 10 2

/-- The sync words in an interval, each with the body that follows it. -/
def syncsIn (f : Fmt) (n : Nat) (bits : List (Bool × Bool)) : List (List Byte × List Nat) :=
  (List.range (bits.length + 1 - f.facetBits)).filterMap (fun o => bodyAt f n (bits.drop o))

/-- The facet found in its expected interval, one channel word longer at each end than the one written (R180). -/
def findFacet (f : Fmt) (n : Nat) (bits : List (Bool × Bool)) : Option (List Byte × List Nat) :=
  (syncsIn f n bits).find? (fun x => headerValid x.1)

/-- The codeword of C1 with the flagged bytes as erasures, and its load 2e + f, at most p1 (R125, R200). -/
def decodeC1 (f : Fmt) (code : List Byte) (flagged : List Nat) : Option (List Byte × Nat) :=
  let errors := fun (c : List Byte) => ((List.range code.length).filter (fun i => code.getD i 0 != c.getD i 0 && !flagged.contains i)).length
  if flagged.length ≤ f.p1 then (rsDecode f.p1 code flagged).map (fun c => (c, 2 * errors c + flagged.length)) else none

/-- The codeword of C1 for a reader: with the flagged bytes as erasures, then with none (R200). -/
def readC1 (f : Fmt) (code : List Byte) (flagged : List Nat) : Option (List Byte) :=
  ((decodeC1 f code flagged).or (decodeC1 f code [])).map (fun r => r.1)

/-- Flagged code bytes: those of body bytes 12 on (R200). -/
def codeFlags (flagged : List Nat) : List Nat := (flagged.filter (fun i => decide (12 ≤ i))).map (fun i => i - 12)

/-! ### Grades -/

/-- The grade of a facet found, against the body that was written (Table 08-1): 0 CLEAN, 1 MARGIN, 2 MARGINAL, 3 FAILED. -/
def gradeFacet (f : Fmt) (tOk : Nat) (found : Option (List Byte × List Nat)) (written : List Byte) : Nat :=
  match found with
  | none => 3
  | some (body, flagged) =>
    match decodeC1 f (body.drop 12) (codeFlags flagged) with
    | none => 3
    | some (code, load) =>
      if body.take 12 != written.take 12 || crc32c code != crc32c (written.drop 12) then 3
      else if 2 * tOk < load then 2 else if 0 < load then 1 else 0

/-- DKd_LOUPE_CTRL fields. -/
def loupeCtrl (s : State) (d : Nat) (f : Fld) : Nat := s.fld (Reg.dkLoupeCtrl d) f

/-- DKd_LOUPE_HEALTH fields. -/
def loupeHealth (s : State) (d : Nat) (f : Fld) : Nat := s.fld (Reg.dkLoupeHealth d) f

/-- The track's latest signal-quality figure received before channel bit `past` had been read is below SQ_DOWN (R181). -/
def sqLow (s : State) (d n past : Nat) : Bool :=
  match (trackAt (s.deckAt d) n).samples.find? (fun x => decide (x.1 < past)) with
  | some x => decide (x.2 < loupeCtrl s d Fld.dkLoupeCtrlSqDown)
  | none => false

/-- The samples of a track that may still count for a facet that ends at channel bit `past` or later: those after it and the latest before
it (R181). -/
def Track.trim (past : Nat) (t : Track) : Track :=
  { t with samples := t.samples.takeWhile (fun x => decide (past ≤ x.1)) ++ (t.samples.find? (fun x => decide (x.1 < past))).toList }

/-! ### Track health -/

/-- Track n of deck d changed. -/
def onTrack (d n : Nat) (f : Track → Track) (s : State) : State :=
  s.onDeck d (fun k => { k with tracks := Sparse.modify {} k.tracks n f })

/-- FAILED grades in the window (R191). -/
def Track.failed (t : Track) : Nat := (t.window.filter (fun g => g == 3)).length

/-- A grade enters the window and the counts of a track (R190, DKd_LOUPE_TRACK_CNT_g). -/
def Track.take (g : Nat) (t : Track) : Track :=
  { t with window := (g :: t.window).take 16, counts := setAt t.counts g (satAt 0xFFFFFFFF (t.counts.getD g 0 + 1)) }

/-- SQ_RUN, where 0 acts as 1. -/
def sqRunLimit (s : State) (d : Nat) : Nat := max 1 (loupeHealth s d Fld.dkLoupeHealthSqRun)

/-- A GOOD track enters WATCH (R190). -/
def mustWatch (s : State) (d : Nat) (t : Track) : Bool :=
  decide (loupeHealth s d Fld.dkLoupeHealthWatchN ≤ t.bad) || decide (sqRunLimit s d ≤ t.sqRun)

/-- A WATCH track returns to GOOD (R190). -/
def mayReturn (s : State) (d : Nat) (t : Track) : Bool :=
  t.bad == 0 && (match t.sq with
    | some v => decide (loupeHealth s d Fld.dkLoupeHealthSqWatch ≤ v)
    | none => false)

/-- A track between GOOD and WATCH: events 64d + 17 and 64d + 26 (R190). -/
def watchTrack (d n : Nat) (s : State) : State :=
  let t := trackAt (s.deckAt d) n
  if t.state = 0 && mustWatch s d t then raiseDeck d 17 [word n] (onTrack d n (fun t => { t with state := 1 }) s)
  else if t.state = 1 && mayReturn s d t then raiseDeck d 26 [word n] (onTrack d n (fun t => { t with state := 0 }) s)
  else s

/-- A signal-quality sample of a track, taken down with how far the track has been read (R181, R190). -/
def sampleTrack (d n v : Nat) (s : State) : State :=
  let low := decide (v < loupeHealth s d Fld.dkLoupeHealthSqWatch)
  let at' := receivedEnd (Sparse.get {} (s.deckAt d).rx n)
  watchTrack d n (onTrack d n (fun t => { t with sq := some v, samples := (at', v) :: t.samples, sqRun := if low then t.sqRun + 1 else 0 }) s)

/-- Deck d stops with the Loupe's cause (R189, R192). -/
def loupeStop (d b cause : Nat) (s : State) : State :=
  controlledStop d b cause (s.setFld (Reg.dkLoupeStatus d) Fld.dkLoupeStatusStopped 1)

/-- A track is retired for the wrap: its facets that are not verified leave the queue and count as retired (R191). -/
def retireTrack (d n : Nat) (s : State) : State :=
  let s1 := onTrack d n (fun t => { t with state := 2 }) s
  let s2 := s1.onDeck d (fun k =>
    { k with retired := k.retired ++ [n], held := k.held.map (Held.retireOn n)
             queue := k.queue.filter (fun e =>
               match imageTrick k e.image with
               | some t => ((fmtOf t.format).place e.tile e.facet).1 != n
               | none => true) })
  raiseDeck d 18 [word n] s2

/-- A track whose window meets the condition of R191 is retired, the ninth of a wrap stops the deck (R191, R192). -/
def checkRetire (d n : Nat) (s : State) : State :=
  let t := trackAt (s.deckAt d) n
  if t.state != 2 && loupeCtrl s d Fld.dkLoupeCtrlRetireEn == 1 && decide (loupeHealth s d Fld.dkLoupeHealthRetireN ≤ t.failed) then
    if (s.deckAt d).retired.length < 8 then retireTrack d n s
    else loupeStop d 8 2 (raiseDeck d 19 [word n] s)
  else s

/-- The health of a track after a grade (R190 to R192). -/
def healthAfter (d n g : Nat) (s : State) : State := checkRetire d n (watchTrack d n (onTrack d n (Track.take g) s))

/-! ### Facets -/

/-- Copies that a facet may have (R183). -/
def maxRewrites (s : State) (d : Nat) : Nat := loupeCtrl s d Fld.dkLoupeCtrlMaxRewrites

/-- The entry is that of a facet of a held trick. -/
def Rewrite.isOf (h : Held) (tile j : Nat) (r : Rewrite) : Bool := r.image == h.trick.image && r.tile == tile && r.facet == j

/-- A facet graded at `at'` is pending with `a` attempts: it waits in the queue, or is unrecovered at the limit (R183, R184). -/
def pendFacet (limit a : Nat) (ofRepeat : Bool) (at' : Nat × Nat × Nat) (h : Held) (tile j : Nat) (queue : List Rewrite) :
    Held × List Rewrite :=
  let q := queue.filter (fun e => !e.isOf h tile j)
  let r : Rewrite := { image := h.trick.image, tile := tile, facet := j, attempts := a, ofRepeat := ofRepeat, graded := at' }
  if a < limit then (h.setState tile j (.pending a ofRepeat), r.insert q) else (h.setState tile j .unrecovered, q)

/-- A facet verified: it leaves the queue (R183). -/
def verifyFacet (h : Held) (tile j : Nat) (queue : List Rewrite) : Held × List Rewrite :=
  (h.setState tile j .verified, queue.filter (fun e => !e.isOf h tile j))

/-- A facet of slots 0 to N_S − 1 has been graded, in its trick or in a repeat of it (R183, R188). -/
def gradeOwn (limit : Nat) (good isRepeat : Bool) (at' : Nat × Nat × Nat) (h : Held) (tile j : Nat) (queue : List Rewrite) :
    Held × List Rewrite :=
  if h.state tile j = some .verified then (h, queue)
  else if good then verifyFacet h tile j queue
  else if h.carrying && !isRepeat then (h.setState tile j .carried, queue)
  else pendFacet limit 0 isRepeat at' h tile j queue

/-- A copy of a facet has been graded (R183). -/
def gradeCopy (limit : Nat) (good : Bool) (at' : Nat × Nat × Nat) (h : Held) (tile j : Nat) (queue : List Rewrite) : Held × List Rewrite :=
  if good then verifyFacet h tile j queue
  else
    match h.state tile j with
    | some (.pending a r) => pendFacet limit (a + 1) r at' h tile j queue
    | _ => (h, queue)

/-- A copy has passed ungraded on a retired track: its facet, where it is still pending, waits again (R191). -/
def requeueCopy (limit : Nat) (at' : Nat × Nat × Nat) (h : Held) (tile j : Nat) (queue : List Rewrite) : Held × List Rewrite :=
  match h.state tile j with
  | some (.pending a r) => pendFacet limit a r at' h tile j queue
  | _ => (h, queue)

/-- The held trick of an image changed by `f`, together with the queue, for a grade of facet j of one of its tiles; where the facet passed
in the trick that is still being written, what the grade changes is kept in mind (R186). -/
def Deck.onHeld (i tile j : Nat) (own trial : Bool) (f : Held → List Rewrite → Held × List Rewrite) (k : Deck) : Deck :=
  match k.held.find? (fun h => h.trick.image == i) with
  | some h =>
    let r := f h k.queue
    let x : Trial := { image := i, tile := tile, facet := j, own := own, state := h.state tile j, queued := k.queue.find? (Rewrite.isOf h tile j) }
    { k with held := k.held.map (fun y => if y.trick.image == i then r.1 else y), queue := r.2, trial := if trial then x :: k.trial else k.trial }
  | none => k

/-- What lies in slot q of track n of a trick: nothing to account for, a facet of its own, or a copy (R139, R182). -/
inductive SlotUse where
  /-- filler, or a run-in -/
  | filler
  /-- facet `j` of tile `tile` -/
  | own (tile j : Nat)
  /-- a copy of a facet of image `i` -/
  | copy (i tile j : Nat)
  deriving DecidableEq, Repr, Inhabited

/-- Use of slot q of track n (Table 08-2). -/
def slotUse (f : Fmt) (t : Trick) (n q : Nat) : SlotUse :=
  let copy := match t.copyAt n q with
    | some r => SlotUse.copy r.image r.tile r.facet
    | none => .filler
  match t.body with
  | .runIn => .filler
  | .rewriteOnly => copy
  | _ => if q < f.nS then .own (f.facetAt n q).1 (f.facetAt n q).2 else copy

/-- One more facet of a held trick has passed the read elements. -/
def Held.passOne (h : Held) : Held := { h with graded := h.graded + 1 }

/-- The trick on tape is the one that is still being written. -/
def isWriting (s : State) (d : Nat) (t : Trick) : Bool := (s.deckAt d).writing.any (fun x => x.ordinal == t.ordinal)

/-- A graded facet is put to its use (R182, R183). -/
def useGrade (d n q : Nat) (t : Trick) (good : Bool) (s : State) : State :=
  let limit := maxRewrites s d
  let at' := (t.ordinal, q, n)
  let trial := isWriting s d t
  match slotUse (fmtOf t.format) t n q with
  | .filler => s
  | .own tile j => s.onDeck d (Deck.onHeld t.image tile j true trial (fun h l =>
      let r := gradeOwn limit good t.isRepeat at' h tile j l
      (r.1.passOne, r.2)))
  | .copy i tile j => s.onDeck d (Deck.onHeld i tile j false trial (fun h l => gradeCopy limit good at' h tile j l))

/-- A facet passes on a retired track (R191). -/
def passRetired (d n q : Nat) (t : Trick) (s : State) : State :=
  let trial := isWriting s d t
  match slotUse (fmtOf t.format) t n q with
  | .filler => s
  | .own tile j => s.onDeck d (Deck.onHeld t.image tile j true trial (fun h l =>
      ((if h.state tile j = some .verified then h else h.setState tile j .retired).passOne, l)))
  | .copy i tile j => s.onDeck d (Deck.onHeld i tile j false trial (fun h l => requeueCopy (maxRewrites s d) (t.ordinal, q, n) h tile j l))

/-! ### Tile accounting -/

/-- U_t, R_t and the number of facets not yet verified of tile t, of those that have a state (R187, R188). -/
def Held.counts (h : Held) (f : Fmt) (t : Nat) : Nat × Nat × Nat :=
  (List.range f.nF).foldl (fun a j =>
    match h.state t j with
    | some .unrecovered => (a.1 + 1, a.2.1, a.2.2 + 1)
    | some .retired => (a.1, a.2.1 + 1, a.2.2 + 1)
    | some (.pending _ _) | some .carried => (a.1, a.2.1, a.2.2 + 1)
    | some .verified | none => a) (0, 0, 0)

/-- The tile is within budget (R187). -/
def withinBudget (f : Fmt) (c : Nat × Nat × Nat) : Bool := decide (c.1 ≤ f.p2 / 4) && decide (c.1 + c.2.1 ≤ f.p2 - f.p2 / 4)

/-- Every tile of a held trick is within budget. -/
def Held.inBudget (h : Held) (f : Fmt) : Bool := (List.range f.tiles).all (fun t => withinBudget f (h.counts f t))

/-- Facets that pass before a held trick can be released: those of the trick and of each repeat (R193); the tricks that frame a
partition have a repeat of their own (R165). -/
def Held.expected (h : Held) (f : Fmt) : Nat := facetsOf f * ((if h.trick.ofRound then 1 else 2) + h.repeats)

/-- Every facet of the trick and of its repeats has passed. -/
def Held.complete (h : Held) (f : Fmt) : Bool := decide (h.expected f ≤ h.graded)

/-- No facet of the trick is pending (R193). -/
def Held.settled (h : Held) : Bool :=
  h.facets.all (fun e => match e.2 with
    | .pending _ _ | .carried => false
    | _ => true)

/-- The tile for which a repeat is due, and whether it has more than p2 facets not verified (R188). -/
def Held.repeatDue (h : Held) (f : Fmt) : Option (Nat × Bool) :=
  let l := List.range f.tiles
  match l.find? (fun t => decide (f.p2 < (h.counts f t).2.2)) with
  | some t => some (t, true)
  | none => (l.find? (fun t => !withinBudget f (h.counts f t))).map (fun t => (t, false))

/-- REPEAT_MAX, where 0 acts as 1 (R189). -/
def repeatMax (s : State) (d : Nat) : Nat := max 1 (loupeCtrl s d Fld.dkLoupeCtrlRepeatMax)

/-- A repeat of the trick is scheduled; it carries the pending facets where a tile has too many (R188). -/
def scheduleRepeat (d : Nat) (h : Held) (tile : Nat) (many : Bool) (s : State) : State :=
  let i := h.trick.image
  let carry := fun (v : FacetState) => match v with
    | .pending _ _ => FacetState.carried
    | x => x
  let h1 := { h with repeats := h.repeats + 1, carrying := many
                     facets := if many then h.facets.map (fun e => (e.1, carry e.2)) else h.facets }
  let s1 := s.onDeck d (fun k =>
    { k with held := k.held.map (fun x => if x.trick.image == i then h1 else x), repeatsDue := k.repeatsDue ++ [i]
             queue := if many then k.queue.filter (fun e => e.image != i) else k.queue })
  raiseDeck d 20 (words2 h.trick.number ++ [word tile]) s1

/-! ### Release -/

/-- The hands that deck d still keeps of hand set `index` of round `id`. -/
def keptHands (s : State) (d id index : Nat) : List Hand :=
  ((s.deckAt d).rounds.filter (fun r => r.id == id)).flatMap (fun r => r.hands.filter (fun h => h.index == index))

/-- FACETS of the contexts whose fragments a released hand set carries (R401). -/
def shareFacets (d id index : Nat) (s : State) : State :=
  let hands := (groupOf s d).flatMap (fun x => keptHands s x id index)
  if hands.all (fun h => h.released) then
    let f := deckFmt s d
    let total := (hands.map (fun h => h.tricks.length)).sum * f.nT * (f.nS + f.nB)
    let frags := hands.flatMap (fun h => h.tricks.flatMap (fun t => t.entries.filter (fun e => e.kind == 1)))
    let sum := (frags.map (fun e => e.data.length)).sum
    if sum = 0 then s
    else
      forEach ((frags.map (fun e => (e.ctx, e.stream))).dedup) (fun k a =>
        let b := ((frags.filter (fun e => (e.ctx, e.stream) == k)).map (fun e => e.data.length)).sum
        a.onCtx k.1 (fun c =>
          let v := b * total + c.facetRem
          { c with facets := c.facets + BitVec.ofNat 64 (v / sum), facetRem := v % sum, metersChanged := true })) s
  else s

/-- Most anchors of a position map (R213). -/
def maxAnchors : Nat := 1048576

/-- Anchors of a hand's data tricks: the first item of each stream (R213). -/
def handAnchors (tricks : List Trick) (tpc : Word) : List (Word × Nat × Nat × Nat × Nat × Word) :=
  let all := tricks.flatMap (fun t => (List.zip (List.range t.entries.length) t.entries).map (fun e => (t, e)))
  let ids := (all.map (fun x => x.2.2.stream)).dedup
  ids.filterMap (fun sid =>
    (all.find? (fun x => x.2.2.stream == sid && (x.2.2.first || x.2.2.kind == 2))).map (fun x =>
      (sid, x.2.2.firstObj, x.2.2.bsn.toNat, x.1.number, x.2.1, tpc)))

/-- Bytes of the Shoe that an anchor takes: the spec does not say. DESIGN CHOICE (log entry 125). -/
def anchorBytes : Nat := 32

/-- The chips of deck d's position map for n anchors, from the restore pool: false where there are none to be had (R213, R273). -/
def mapChips (d n : Nat) (s : State) : Bool × State :=
  let mine := (s.shoe.tags.filter (fun e => e.2.cls == 4 && e.2.id == d)).map (fun e => e.1)
  let need := chipsFor (anchorBytes * n)
  if need ≤ mine.length then (true, freeList 4 d (mine.drop need) s)
  else
    let r := allocate (need - mine.length) (restorePool s d) 4 d s
    (r.1.isSome, r.2)

/-- A hand's anchors and truncation records enter the position map of deck d; a truncation removes the earlier anchors of its stream
at or above START (R213). No anchor is added for which the pool has no chip. -/
def addAnchors (d : Nat) (l : List (Word × Nat × Nat × Nat × Nat × Word)) (truncs : List (Word × Nat × Nat × Nat)) (s : State) : State :=
  let k := s.deckAt d
  let past := fun (a : Word × Nat × Nat × Nat × Nat × Word) (t : Word × Nat × Nat × Nat) => a.1 == t.1 && decide (t.2.1 ≤ a.2.1)
    && (decide (a.2.2.2.1 < t.2.2.1) || (a.2.2.2.1 == t.2.2.1 && decide (a.2.2.2.2.1 < t.2.2.2)))
  let kept := k.anchors.filter (fun a => !(truncs.any (past a)))
  let same := fun (a b : Word × Nat × Nat × Nat × Nat × Word) => a.1 == b.1 && a.2.2.2.1 == b.2.2.2.1 && a.2.2.2.2.1 == b.2.2.2.2.1
  let new := (l.filter (fun a => !(kept.any (same a)))).take (maxAnchors - kept.length)
  let r := mapChips d (kept.length + new.length) s
  r.2.onDeck d (fun k => { k with anchors := if r.1 then kept ++ new else kept, truncs := truncs.foldl (fun l t => addNew t l) k.truncs })

/-- A round is released on deck d: event 64d + 24; once every deck of the group has released its part, the round goes and the tasks
that wait for it may complete (R193, R63, R75). -/
def releaseRound (d : Nat) (r : Round) (s : State) : State :=
  let s1 := raiseDeck d 24 [] (s.onDeck d (fun k => { k with lastReleased := some (match k.lastReleased with
    | some x => max x r.id
    | none => r.id) }))
  let parts := (groupOf s1 d).flatMap (fun x => (s1.deckAt x).rounds.filter (fun y => y.id == r.id))
  if parts.all (fun y => y.hands.all (fun h => h.released)) then
    let s2 := forEach (groupOf s1 d) (fun x a => a.onDeck x (fun k => { k with rounds := k.rounds.filter (fun y => y.id != r.id) })) s1
    forEach (s2.ctx.map (fun e => e.1)) (wakeWaiters (tableDeck s d) r.partition r.id) s2
  else s1

/-- Detail words of event 64d + 16 (R155). -/
def handDetails (p : Nat) (h : Hand) : List Word :=
  [word h.firstTrick, word (h.firstTrick / 2 ^ 32 % 256 + h.ndata % 256 * 256 + h.index % 256 * 65536 + p * 16777216)]
    ++ words2 h.digest.toNat

/-- A hand is released with its last trick (R155, R193), and the round with its last hand. -/
def releaseHand (d id index : Nat) (s : State) : State :=
  match (s.deckAt d).rounds.find? (fun r => r.id == id) with
  | none => s
  | some r =>
    match r.hands.find? (fun h => h.index == index) with
    | none => s
    | some h =>
      if h.released || !(h.tricks.all (fun t => t.released)) then s
      else
        let mark := fun (x : Hand) => if x.index == index then { x with released := true } else x
        let s1 := s.onDeck d (fun k => { k with rounds := k.rounds.map (fun y => if y.id == id then { y with hands := y.hands.map mark } else y) })
        let data := h.tricks.take h.ndata
        let s2 := if h.isC4 then s1 else addAnchors d (handAnchors data (h.tricks.headD {}).begun) (truncRecords data) s1
        let s3 := shareFacets d id index (raiseDeck d 16 (handDetails r.partition h) s2)
        match (s3.deckAt d).rounds.find? (fun y => y.id == id) with
        | some y => if y.hands.all (fun x => x.released) then releaseRound d y s3 else s3
        | none => s3

/-- A trick is released: it is held no longer, and the chips that only it holds are freed (R193). -/
def releaseTrick (d : Nat) (h : Held) (s : State) : State :=
  let t := h.trick
  let mark := fun (x : Trick) => if x.image == t.image then { x with released := true, begun := t.begun } else x
  let s1 := s.onDeck d (fun k =>
    { k with
      held := k.held.filter (fun x => x.trick.image != t.image), queue := k.queue.filter (fun e => e.image != t.image)
      rounds := k.rounds.map (fun r => { r with hands := r.hands.map (fun x => { x with tricks := x.tricks.map mark }) }) })
  if t.ofRound then releaseHand d t.round t.hand (freeImage t s1) else s1

/-- A held trick after a change of its facets: a repeat is scheduled (R188), or it is accepted, or the deck stops (R189), or it is
released (R193). -/
def settleTrick (d i : Nat) (s : State) : State :=
  match (s.deckAt d).held.find? (fun h => h.trick.image == i) with
  | none => s
  | some h =>
    let f := fmtOf h.trick.format
    let may := (h.repeats = 0 || h.complete f) && decide (h.repeats < repeatMax s d)
    match (if may then h.repeatDue f else none) with
    | some (tile, many) => scheduleRepeat d h tile many s
    | none =>
      if !(h.complete f && h.settled) then s
      else if h.inBudget f then releaseTrick d h s
      else
        match (List.range f.tiles).find? (fun t => decide (f.p2 < (h.counts f t).1 + (h.counts f t).2.1)) with
        | none => releaseTrick d h (raiseDeck d 22 (words2 h.trick.number) s)
        | some t => loupeStop d 7 1 (raiseDeck d 23 (words2 h.trick.number ++ [word t]) s)

/-! ### FACET_GRADE -/

/-- The bits of a track that the Loupe has done with are dropped: whole columns before channel bit `b`. -/
def dropReceived (d n b : Nat) (s : State) : State :=
  s.onDeck d (fun k =>
    let r := Sparse.get {} k.rx n
    let c := b / 16 - r.base
    { k with rx := Sparse.set {} k.rx n { base := r.base + c, bits := r.bits.drop (16 * c) } })

/-- The facet in slot q of trick t on track n, which begins at channel bit `start`, is graded (R179 to R191). -/
def gradeNow (d n q start : Nat) (t : Trick) (s : State) : State :=
  let k := s.deckAt d
  let f := fmtOf t.format
  let bits := received (Sparse.get {} k.rx n) (start - 33) (start + f.facetBits + 33)
  let srcs := k.held.map (fun h => h.trick) ++ k.tape.map (fun x => x.1)
  let g := gradeFacet f (loupeCtrl s d Fld.dkLoupeCtrlTOk) (findFacet f n bits) (t.slotBody srcs n q)
  let past := start + f.facetBits
  let down := decide (g ≤ 1) && sqLow s d n past
  let g' := if down then 2 else g
  let s1 := onTrack d n (Track.trim past) (if down then countWrap d 3 1 s else s)
  let s2 := useGrade d n q t (decide (g' ≤ 1)) s1
  healthAfter d n g' s2

/-- The images whose accounting a facet's passage may have changed: all of them where a track has just been retired. -/
def touched (before after : Deck) (t : Trick) (n q : Nat) : List Nat :=
  if before.retired.length < after.retired.length then after.held.map (fun h => h.trick.image)
  else
    match slotUse (fmtOf t.format) t n q with
    | .filler => []
    | .own _ _ => [t.image]
    | .copy i _ _ => [i]

/-- FACET_GRADE: the next facet of the track, once its expected interval has been received (R177, R180); nothing once the deck has begun
a controlled stop (R194). -/
def opFacetGrade (d n : Nat) (s : State) : State :=
  let k := s.deckAt d
  let f := deckFmt s d
  let i := Sparse.get 0 k.cursor n
  match k.tape[i / f.slots]? with
  | none => s
  | some (t, first) =>
    let q := i % f.slots
    let start := first + q * f.facetBits
    if decide (f.nT ≤ n) || decide (receivedEnd (Sparse.get {} k.rx n) < start + f.facetBits + 33) then s
    else
      let s1 := s.onDeck d (fun k => { k with cursor := Sparse.set 0 k.cursor n (i + 1) })
      let s2 := if (trackAt k n).state = 2 then passRetired d n q t s1 else gradeNow d n q start t s1
      let s3 := dropReceived d n (start + f.facetBits - 33) s2
      forEach (touched k (s3.deckAt d) t n q) (fun i a => if (a.deckAt d).motion.stopped then a else settleTrick d i a) s3

/-- FACET_GRADE. -/
def execFacetGrade (d : Fin 4) (track : Fin 1024) (s : State) : Host.Outcome State Fault Refusal := run (opFacetGrade d.val track.val) s

end Sys2Proof.Machine
end

