-- ==== Sys2Proof/Machine/Restore.lean ====
section
/-! DEFINITION. The restore path of a deck (R197 to R207, R211, R213): facets read and placed (R144, R166, R200, R201), tricks missing
(R202), hands recovered by C3 and C4 and checked (R203 to R205), their items in logical order (R208, R211), retries (R206, R207); the
medium lead (R173) and end-of-data (R169); front-end registers and read profiles (R317). -/

namespace Sys2Proof.Machine

/-! ### Front-end registers -/

/-- A register access leaves for the front-end; one at a time (R317, R320). -/
def sendRegister (d : Nat) (write : Bool) (addr : BitVec 16) (v : Word) (host : Bool) (s : State) : State :=
  let k := s.deckAt d
  let tag := k.feTag
  let rec0 := if write then [0x85, tag, 0, 0] ++ be 2 addr.toNat ++ be 4 v.toNat else [0x86, tag, 0, 0] ++ be 2 addr.toNat
  sendRecord d rec0 (s.putDeck d { k with feTag := tag + 1, feAccess := some (tag, write, addr, v, 0, host) })

/-- The next register access that waits is sent; after the last one the MODE record that waited for them (R317). -/
def nextRegister (d : Nat) (s : State) : State :=
  let k := s.deckAt d
  if k.feAccess.isSome then s
  else
    match k.feQueue with
    | (w, a, v, host) :: l => sendRegister d w a v host (s.putDeck d { k with feQueue := l })
    | [] =>
      match k.modeDue with
      | some (m, p, b, t) => sendMode d m p b t (s.putDeck d { k with modeDue := none })
      | none => s

/-- The registers of read profile p (R317). -/
def profilePairs (s : State) (d p : Nat) : List (Nat × Word) :=
  match deckImage s d with
  | some i => i.profiles.getD p []
  | none => []

/-- A MODE record with a profile: where it differs from the one last written, its registers are written first (R317). -/
def selectMode (d mode profile : Nat) (base start : Word) (s : State) : State :=
  let k := s.deckAt d
  if profile = k.profile then sendMode d mode profile base start s
  else
    let l := (profilePairs s d profile).map (fun x => (true, BitVec.ofNat 16 x.1, x.2, false))
    nextRegister d (s.putDeck d { k with feQueue := k.feQueue ++ l, modeDue := some (mode, profile, base, start) })

/-! ### Repositioning -/

/-- Speed limit in mm/s (0: as the first reading), lateral offset and read profile of a retry pass (Table 09-1). -/
def retrySettings : Nat → Nat × Int × Nat
  | 1 => (0, 0, 1)
  | 2 => (5000, 0, 0)
  | 3 => (5000, 2, 0)
  | 4 => (5000, -2, 0)
  | 5 => (2500, 0, 2)
  | 6 => (2500, 4, 2)
  | 7 => (2500, -4, 2)
  | 8 => (1000, 0, 3)
  | _ => (0, 0, 0)

/-- A read stream begins from a position reached: what has been decoded stays, cells and the tricks missing count anew (R202, R206). -/
def Deck.rewound (k : Deck) : Deck :=
  { k with found := [], seen := [], unplaced := [], origin := none, cellBase := 0, readTo := 0, skipped := []
           buffer := k.buffer.map (fun x => { x with missing := false, cell := none }) }

/-- REPOSITION_COMPLETE: the tape is at its target: a REWIND completes, and a deck whose tape is wanted starts to read (Table 11-5,
R206). -/
def opRepositionComplete (d : Nat) (s : State) : State :=
  let k := s.deckAt d
  if !(k.motion.target.isSome && (k.motion.pace == 1 || k.motion.pace == 5)) then s
  else
    match k.wanted with
    | some t =>
      let r := retrySettings k.retry
      let s1 := (gotoWrap d t.1 s).onMotion d (fun m => { m with pace := 1, target := none, offset := r.2.1 })
      selectMode d 2 r.2.2 0 t.2 (s1.onDeck d Deck.rewound)
    | none =>
      let s1 := (gotoWrap d 0 s).onMotion d (fun m => { m with pace := 0, target := none })
      match k.admin with
      | some (.rewind n q) =>
        let s2 := s1.onDeck d (fun k => { k with admin := none })
        if (groupOf s d).all (fun x => (s2.deckAt x).admin.isNone) then finish n q (status 0) s2 else s2
      | _ => s1

/-! ### Facets read -/

/-- A sync word among the bits of a track under one of these formats, with the format, its place, and the body that follows it. -/
def nextSync (formats : List (List Byte)) (n : Nat) (bits : List (Bool × Bool)) : Option (List Byte × Nat × List Byte × List Nat) :=
  (List.range bits.length).findSome? (fun o =>
    let l := formats.filterMap (fun b => (bodyAt (fmtOf b) n (bits.drop o)).map (fun x => (b, o, x.1, x.2)))
    match l.find? (fun x => headerValid x.2.2.1 && beAt x.2.2.1 9 1 == formatByte x.1) with
    | some x => some x
    | none => l.head?)

/-- Where a facet belongs: logical trick number, TYPE of the trick where the facet tells it, tile and facet. -/
structure FacetPlace where
  /-- TRICK -/
  trick : Nat
  /-- TYPE, none for C2 parity -/
  type : Option Nat
  /-- TILE -/
  tile : Nat
  /-- FACET -/
  facet : Nat
  /-- the channel bit of its trick's slot 0 on its track, where the facet stands at its placement -/
  start : Option Nat
  /-- REWRITE -/
  rewrite : Bool
  /-- neither REWRITE nor REPEAT -/
  original : Bool
  deriving DecidableEq, Repr, Inhabited

/-- TYPEs of facets that belong to a trick (Table 06-3). -/
def trickTypes : List Nat := [1, 2, 3, 4, 6, 7, 8]

/-- REWRITE of a facet header (Table 06-2). -/
def rewriteOf (body : List Byte) : Bool := bitAt (beAt body 7 1) 7

/-- The facet stands in a repeat, rewrite-only or run-in trick (Table 06-4). -/
def besideCount (body : List Byte) : Bool :=
  let v := beAt body 0 1
  bitAt v 2 || bitAt v 1 || (bitAt v 3 && !rewriteOf body)

/-- The place that a good header gives to a facet on track n at channel bit `at'`: none for a filler or a reserved TYPE (R128, R131). -/
def placeByHeader (f : Fmt) (n at' : Nat) (body : List Byte) : Option FacetPlace :=
  let ty := beAt body 0 1 / 16
  if trickTypes.contains ty then
    let tile := beAt body 6 1 % 64
    let j := beAt body 7 1 % 128
    let start := if !rewriteOf body && (f.place tile j).1 == n then some (at' - (f.place tile j).2 * f.facetBits) else none
    some { trick := beAt body 1 5, type := if ty = 2 then none else some ty, tile := tile, facet := j, start := start
           rewrite := rewriteOf body, original := !rewriteOf body && !bitAt (beAt body 0 1) 3 }
  else none

/-- The place of a facet on track n whose header fails, in slots 0 to N_S − 1 of a trick that another facet of the track has told (R137,
R144). -/
def placeByPosition (f : Fmt) (n at' : Nat) (seen : List (Nat × Nat × Nat)) : Option FacetPlace :=
  seen.findSome? (fun x =>
    let off := (at' + 33) - x.2.2
    let q := off / f.facetBits
    if x.1 = n ∧ x.2.2 ≤ at' + 33 ∧ q < f.nS ∧ off % f.facetBits ≤ 66 then
      let p := f.facetAt n q
      some { trick := x.2.1, type := none, tile := p.1, facet := p.2, start := none, rewrite := false, original := false }
    else none)

/-- A counter of DKd_RESTORE_CNT_x. -/
def countRestore (d x n : Nat) (s : State) : State := s.addFld (Reg.dkRestoreCnt d x) Fld.dkRestoreCntCount n

/-- A trick of the round buffer by number. -/
def Deck.trick (k : Deck) (n : Nat) : Option ReadTrick := k.buffer.find? (fun t => t.number == n)

/-- A trick of the round buffer changed, or begun. -/
def Deck.onTrick (n : Nat) (f : ReadTrick → ReadTrick) (k : Deck) : Deck :=
  if k.buffer.any (fun t => t.number == n) then { k with buffer := k.buffer.map (fun t => if t.number == n then f t else t) }
  else { k with buffer := k.buffer ++ [f { number := n, type := 0 }] }

/-- The cell of a channel bit of the read stream: cells of one trick length count from the first trick found in it. DESIGN CHOICE (log entry
122): they are what R202 counts as positions. -/
def Deck.cellOf (f : Fmt) (b : Nat) (k : Deck) : Nat :=
  match k.origin with
  | some o => if o ≤ b + 33 then k.cellBase + 1 + (b + 33 - o) / f.trickBits else k.cellBase
  | none => k.cellBase

/-- Where a channel bit stands in tape order (R166, R170). -/
def Deck.tapeOrder (b : Nat) (k : Deck) : Nat :=
  let w := k.motion.wrap
  let from' := if towardsEot w then k.startTpc.toNat else 2 ^ 32 - k.startTpc.toNat
  w * 2 ^ 48 + 4000 * from' + b

/-- Tape position of a channel bit of the read stream (R146, R312). -/
def tpcOfBit (k : Deck) (b : Nat) : Word := if towardsEot k.motion.wrap then k.startTpc + word (b / 4000) else k.startTpc - word (b / 4000)

/-- C2 of a tile over the facets decoded: its user bytes, at body byte positions 12 on (R201). -/
def decodeTile (f : Fmt) (t : ReadTrick) (tile : Nat) : Option (List Byte) :=
  let fs := (List.range f.nF).map (fun j => (Sparse.find t.facets (128 * tile + j)).map (fun x => x.2))
  let lost := (List.range f.nF).filter (fun j => (fs.getD j none).isNone)
  if f.p2 < lost.length then none
  else
    let cols := (List.range f.facetData).map (fun b => rsDecode f.p2 (fs.map (fun x => (x.getD []).getD b 0)) lost)
    if cols.all (fun c => c.isSome) then
      some ((List.range f.msgFacets).flatMap (fun j => cols.map (fun c => (c.getD []).getD j 0)))
    else none

/-- C2 is tried on a tile; one recovered before stays as it was where it now fails (R201, R206). -/
def ReadTrick.tryTile (f : Fmt) (tile : Nat) (t : ReadTrick) : ReadTrick :=
  match decodeTile f t tile with
  | some u => { t with tiles := Sparse.put t.tiles tile u }
  | none => t

/-- C2 is tried on every tile of a trick that has facets and none of its facets' places before it to come (R201). -/
def ReadTrick.tryAll (f : Fmt) (t : ReadTrick) : ReadTrick :=
  (List.range f.tiles).foldl (fun t i => if (Sparse.find t.tiles i).isSome then t else t.tryTile f i) t

/-- Every facet of a tile has decoded. -/
def ReadTrick.fullTile (f : Fmt) (tile : Nat) (t : ReadTrick) : Bool :=
  (List.range f.nF).all (fun j => (Sparse.find t.facets (128 * tile + j)).isSome)

/-- A facet's code bytes join its trick: of two copies the last in tape order counts (R166). C2 is tried on its tile once the trick has passed
or all of the tile's facets are there, and again with each further copy (R201). -/
def ReadTrick.take (f : Fmt) (fb readTo key : Nat) (x : FacetPlace) (code : List Byte) (t : ReadTrick) : ReadTrick :=
  let i := 128 * x.tile + x.facet
  let old := Sparse.find t.facets i
  let takes := match old with
    | some c => decide (c.1 ≤ key)
    | none => true
  let t1 := { t with facets := if takes then Sparse.put t.facets i (key, code) else t.facets, type := x.type.getD t.type, format := fb }
  let passed := match t.cell with
    | some c => decide (c < readTo)
    | none => true
  if takes && old.map (fun c => c.2) != some code && (passed || t1.fullTile f x.tile) then t1.tryTile f x.tile else t1

/-- All tiles of a trick have decoded (R201). -/
def ReadTrick.complete (f : Fmt) (t : ReadTrick) : Bool := (List.range f.tiles).all (fun i => (Sparse.find t.tiles i).isSome)

/-- The user area of a complete trick. -/
def ReadTrick.user (f : Fmt) (t : ReadTrick) : List Byte := (List.range f.tiles).flatMap (fun i => Sparse.get [] t.tiles i)

/-! ### Hands -/

/-- A trailer as read (Table 07-1). -/
structure TrailerInfo where
  /-- FLAGS.C4 -/
  isC4 : Bool
  /-- DATA_TRICKS -/
  n : Nat
  /-- FIRST_TRICK -/
  first : Nat
  /-- HAND_IN_ROUND -/
  index : Nat
  /-- FLAGS.SHORT -/
  short : Bool
  /-- DIGEST -/
  digest : Nat
  /-- FORMAT_ID -/
  format : List Byte
  /-- key runs -/
  runs : List KeyRun
  /-- truncation records: stream, START, trick, entry -/
  truncs : List (Word × Nat × Nat × Nat)
  deriving DecidableEq, Repr, Inhabited

/-- A truncation record as read (Table 07-2). -/
def truncOf (b : List Byte) : Word × Nat × Nat × Nat := (word (beAt b 0 4), beAt b 4 8, beAt b 12 5, beAt b 17 1)

/-- The trailer that these bytes spell; none where its MAGIC or CHECK fails (R153, R205). -/
def trailerOf (b : List Byte) : Option TrailerInfo :=
  let nr := beAt b 56 2
  let nt := beAt b 58 2
  let recs := slice b 64 (32 * (nr + nt))
  if beAt b 0 4 == 0x48414E44 && beAt b 60 4 == (crc32c (b.take 60 ++ recs)).toNat then
    some { isC4 := bitAt (beAt b 5 1) 6, short := bitAt (beAt b 5 1) 7, n := beAt b 6 2, first := beAt b 8 5, index := beAt b 13 1
           digest := beAt b 16 8, format := slice b 24 32, runs := (chunks 32 (recs.take (32 * nr))).map keyRunOf
           truncs := (chunks 32 (recs.drop (32 * nr))).map truncOf }
  else none

/-- The trailer copy in a parity trick whose tiles that hold it have decoded. -/
def ReadTrick.trailer (f : Fmt) (t : ReadTrick) : Option TrailerInfo :=
  let a := f.userBytes - f.trailerBytes
  let tiles := (List.range f.tiles).filter (fun i => decide (a < (i + 1) * f.tileBytes))
  if t.type = 3 && tiles.all (fun i => (Sparse.find t.tiles i).isSome) then
    trailerOf ((tiles.flatMap (fun i => Sparse.get [] t.tiles i)).drop (a - (tiles.headD 0) * f.tileBytes))
  else none

/-- The trailer of the hand set's hand on a deck, of data or of C4, where the deck has read it. -/
def handTrailer (f : Fmt) (k : Deck) (c4 : Bool) (first : Nat) : Option TrailerInfo :=
  k.buffer.findSome? (fun t => (t.trailer f).bind (fun x => if x.first = first ∧ x.isC4 = c4 then some x else none))

/-- The tiles of a trick by number: none for each that has not decoded, and for every tile of a trick that was not found. -/
def Deck.tilesOf (f : Fmt) (k : Deck) (n : Nat) : List (Option (List Byte)) :=
  match k.trick n with
  | some t => (List.range f.tiles).map (fun i => Sparse.find t.tiles i)
  | none => (List.range f.tiles).map (fun _ => none)

/-- The trick is complete or has been declared missing (R201, R202). -/
def Deck.ready (f : Fmt) (k : Deck) (n : Nat) : Bool :=
  match k.trick n with
  | some t => t.missing || t.complete f
  | none => false

/-- A trick all of whose tiles are there. -/
def whole (t : List (Option (List Byte))) : Bool := t.all (fun x => x.isSome)

/-- Bytes of a trick's user area, where the tiles that hold them are there. -/
def fieldAt (f : Fmt) (tiles : List (Option (List Byte))) (off len : Nat) : Option (List Byte) :=
  if len = 0 then some []
  else
    let a := off / f.tileBytes
    let part := slice tiles a ((off + len - 1) / f.tileBytes + 1 - a)
    if whole part then some (slice (part.flatMap (fun x => x.getD [])) (off - a * f.tileBytes) len) else none

/-- Tile i of the tricks of a hand after C3: the punctured places are erased too, and what they carried is not recovered (R203). -/
def c3Tile (f : Fmt) (hand : List (List (Option (List Byte)))) (i : Nat) : List (Option (List Byte)) :=
  let col := hand.map (fun t => t.getD i none)
  let lost := (List.range col.length).filter (fun a => (col.getD a none).isNone)
  let last := (List.range f.trailerCopies).map (fun q => col.length - 1 - q)
  let trailerFrom := f.userBytes - f.trailerBytes
  let one := fun (b : Nat) =>
    let er := if trailerFrom ≤ i * f.tileBytes + b then (lost ++ last).dedup else lost
    rsDecode f.p3 (col.map (fun t => (t.getD []).getD b 0)) er
  let bytes := (List.range f.tileBytes).map one
  if lost.isEmpty || !(bytes.all (fun c => c.isSome)) then col
  else (List.range col.length).map (fun a => match col.getD a none with
    | some t => some t
    | none =>
      if last.contains a && decide (trailerFrom < (i + 1) * f.tileBytes) then none
      else some (bytes.map (fun c => (c.getD []).getD a 0)))

/-- The tricks of a hand after C3, which runs where one of them is incomplete (R203). -/
def c3Hand (f : Fmt) (hand : List (List (Option (List Byte)))) : List (List (Option (List Byte))) :=
  if hand.all whole then hand
  else
    let cols := (List.range f.tiles).map (c3Tile f hand)
    (List.range hand.length).map (fun a =>
      let t := hand.getD a []
      if whole t then t else cols.map (fun c => c.getD a none))

/-- Message trick i of each data hand of a hand set after C4, tile by tile (R204). -/
def c4Trick (f : Fmt) (parity : Nat) (data : List (Option (List (Option (List Byte))))) (c4 : List (List (Option (List Byte)))) :
    List (List (Option (List Byte))) :=
  let zero := fun (_ : Nat) => some (zeros f.tileBytes)
  let cols := (List.range f.tiles).map (fun i =>
    let col := data.map (fun t => match t with
      | some x => x.getD i none
      | none => zero i) ++ c4.map (fun t => t.getD i none)
    let lost := (List.range col.length).filter (fun a => (col.getD a none).isNone)
    let bytes := (List.range f.tileBytes).map (fun b => rsDecode parity (col.map (fun t => (t.getD []).getD b 0)) lost)
    if bytes.all (fun c => c.isSome) then (List.range col.length).map (fun a => some (bytes.map (fun c => (c.getD []).getD a 0))) else col)
  (List.range data.length).map (fun a => cols.map (fun c => c.getD a none))

/-- The C3 parity tricks of a rebuilt hand, tile by tile: what the punctured places carry, its trailer copies, is not rebuilt (R152, R204). -/
def reencode (f : Fmt) (users : List (List Byte)) : List (List (Option (List Byte))) :=
  let par := columnParity f.p3 f.userBytes users
  (List.range f.p3).map (fun k =>
    let trailer := decide (f.p3 ≤ k + f.trailerCopies)
    (List.range f.tiles).map (fun i =>
      if trailer && decide (f.userBytes - f.trailerBytes < (i + 1) * f.tileBytes) then none
      else some ((slice par (i * f.tileBytes) f.tileBytes).map (fun b => b.getD k 0))))

/-- The logical numbers of a hand set's tricks (R149, R163): of each data deck its data and C3 tricks, of each parity deck its C4 and
C3 tricks, and the number after them. -/
structure SetLayout where
  /-- data tricks, then parity tricks, of each data deck -/
  data : List (List Nat)
  /-- C4 tricks, then parity tricks, of each parity deck -/
  parity : List (List Nat)
  /-- the number after the hand set -/
  next : Nat
  deriving DecidableEq, Repr, Inhabited

/-- The layout of a hand set that begins at `first`, whose data hands have these numbers of data tricks (R161 to R163). -/
def setLayout (f : Fmt) (first parityDecks : Nat) (ns : List Nat) : SetLayout :=
  let dn := ns.length
  let total := ns.sum
  let data := (List.zip (List.range dn) ns).map (fun e =>
    (List.range e.2).map (fun i => first + i * dn + e.1) ++ (List.range f.p3).map (fun k => first + total + e.1 * f.p3 + k))
  let start := first + total + dn * f.p3
  let each := ns.headD 0 + f.p3
  { data := data, parity := (List.range parityDecks).map (fun k => (List.range each).map (fun i => start + k * each + i))
    next := start + parityDecks * each }

/-- What a deck has found fits these numbers of a hand set: data and C4 tricks first, C3 parity tricks last. -/
def fitsHand (f : Fmt) (first next : Nat) (k : Deck) (l : List Nat) : Bool :=
  k.buffer.all (fun t => decide (t.number < first) || decide (next ≤ t.number) || t.facets.isEmpty ||
    (if t.type = 3 then (l.drop (l.length - f.p3)).contains t.number
     else if t.type = 1 || t.type = 4 then (l.take (l.length - f.p3)).contains t.number
     else true))

/-- The numbers of data tricks of a hand set's hands where not every trailer has been read: those that the trailers read, of data and of C4
hands, and the tricks found allow (R161 to R163). DEDUCED (log entry 123). -/
def inferSizes (f : Fmt) (ds ps : List Deck) (first : Nat) : Option (List Nat) :=
  let dn := ds.length
  let known := ds.map (fun k => (handTrailer f k false first).map (fun x => x.n))
  let c4 := ps.map (fun k => (handTrailer f k true first).map (fun x => x.n))
  let agrees := fun (a : Option Nat) (n : Nat) => match a with
    | some m => decide (m = n)
    | none => true
  if (known ++ c4).all (fun a => a.isNone) then none
  else
    (List.range (dn * f.fullHand)).findSome? (fun i =>
      let ns := (List.range dn).map (fun d => (i + dn - d) / dn)
      let lay := setLayout f first ps.length ns
      let fit := fun (ks : List Deck) (rows : List (List Nat)) => (List.zip ks rows).all (fun e => fitsHand f first lay.next e.1 e.2)
      if (List.zip known ns).all (fun e => agrees e.1 e.2) && c4.all (fun a => agrees a (ns.headD 0)) && fit ds lay.data && fit ps lay.parity
      then some ns else none)

/-- Most tricks that a hand set can have. -/
def Fmt.setLength (f : Fmt) (decks : Nat) : Nat := f.hand * decks

/-- Positions after which an absent trick is declared missing: R_H × the hand length (R202). -/
def Fmt.missingAfter (f : Fmt) : Nat := f.rh * f.hand

/-- A complete end-of-data trick has been read (R169). -/
def Deck.endRead (f : Fmt) (k : Deck) : Option ReadTrick := k.buffer.find? (fun t => t.type == 7 && t.complete f)

/-- DIR_TRICKS of a complete end-of-data trick (Table 07-5). -/
def dirTricksOf (t : ReadTrick) : Nat := beAt (Sparse.get [] t.tiles 0) 76 2

/-- Facets that a reader which has read the end-of-data does not read: neither of that trick and its directory, nor copies in rewrite-only
tricks of what stands before (R169). -/
def Deck.beyondEnd (f : Fmt) (x : FacetPlace) (k : Deck) : Bool :=
  match k.endRead f with
  | some t => decide (t.number + dirTricksOf t < x.trick) || (!x.rewrite && decide (x.trick < t.number))
  | none => false

/-- An absent trick L may be declared missing: enough positions have been read past the first trick found with a greater number, or end-of-data
has been reached (R202). -/
def Deck.past (f : Fmt) (k : Deck) (l : Nat) : Bool :=
  (match k.found.find? (fun x => decide (l < x.1)) with
   | some x => decide (f.missingAfter + (k.skipped.filter (fun c => decide (x.2 < c) && decide (c < k.readTo))).length < k.readTo - x.2)
   | none => false) || (k.endRead f).isSome

/-! ### Items of a hand -/

/-- Next object number of a stream as read so far. -/
def Deck.nextObject (k : Deck) (sid : Word) : Nat :=
  match (k.restored.filter (fun i => i.stream == sid)).getLast? with
  | some i => i.last
  | none => 0

/-- A content entry as a trick table spells it: KIND, FIRST, LAST, stream, BSN, offset, length (Table 03-3). -/
structure TableEntry where
  /-- KIND -/
  kind : Nat
  /-- FIRST -/
  first : Bool
  /-- LAST -/
  last : Bool
  /-- STREAM_ID -/
  stream : Word
  /-- BSN -/
  bsn : Word
  /-- OFFSET -/
  off : Nat
  /-- LENGTH -/
  len : Nat
  deriving DecidableEq, Repr, Inhabited

/-- The entry of a trick table that 16 bytes spell (Table 03-3). -/
def tableEntryOf (b : List Byte) : TableEntry :=
  let v := beAt b 0 1
  { kind := v / 16, first := bitAt v 3, last := bitAt v 2, stream := word (beAt b 2 4), bsn := word (beAt b 6 4), off := beAt b 10 3
    len := beAt b 13 3 }

/-- The entries of a trick's table, where the tiles that hold it are there (R67). -/
def tableOf (f : Fmt) (tiles : List (Option (List Byte))) : Option (List TableEntry) :=
  (fieldAt f tiles 0 2).bind (fun n => (fieldAt f tiles 2 (16 * beAt n 0 2)).map (fun b => (chunks 16 b).map tableEntryOf))

/-- The block headers that a trick's entries begin or carry on are there; `short` holds the bytes met so far of each header begun before
(R214). -/
def headersIn (f : Fmt) (tiles : List (Option (List Byte))) : List TableEntry → Sparse Nat → Option (Sparse Nat)
  | [], short => some short
  | e :: l, short =>
    if e.kind != 1 then headersIn f tiles l short
    else
      let have' := if e.first then 0 else (Sparse.find short e.stream.toNat).getD 32
      let n := min (32 - have') e.len
      if (fieldAt f tiles e.off n).isSome then headersIn f tiles l (Sparse.put short e.stream.toNat (have' + n)) else none

/-- The trick tables and clear block headers of data tricks are there (R214). -/
def fieldsThere (f : Fmt) : List (List (Option (List Byte))) → Sparse Nat → Bool
  | [], _ => true
  | t :: l, short =>
    match (tableOf f t).bind (fun es => headersIn f t es short) with
    | some more => fieldsThere f l more
    | none => false

/-- An item read from tape in logical order. -/
def addRestored (td : Nat) (i : Restored) (s : State) : State := s.onDeck td (fun k => { k with restored := k.restored ++ [i] })

/-- A fragment joins what has been read of its block: its bytes, or where those are not all recovered what it has of the block's header
(R208, R214). -/
def gather (f : Fmt) (tiles : List (Option (List Byte))) (before : List Byte × Bool) (e : TableEntry) : List Byte × Bool :=
  match (if before.2 then fieldAt f tiles e.off e.len else none) with
  | some b => (before.1 ++ b, true)
  | none => (before.1 ++ (fieldAt f tiles e.off (min e.len (32 - before.1.length))).getD [], false)

/-- The truncation records of the position map that lie past an entry of its stream: what they supersede of the item is not read (R211,
R213). -/
def supersededBy (truncs : List (Word × Nat × Nat × Nat)) (trick idx : Nat) (i : Restored) : List Restored :=
  (truncs.filter (fun t => decide (trick < t.2.2.1) || (t.2.2.1 == trick && decide (idx < t.2.2.2)))).foldl (fun a t => dropFrom t.1 t.2.1 a) [i]

/-- One content entry of a hand, read in logical order (R109, R157, R208, R211); `usable` where the hand's blocks may be opened (R205, R214). -/
def readEntry (td p trick idx : Nat) (f : Fmt) (tiles : List (Option (List Byte))) (usable : Bool) (runs : List KeyRun)
    (truncs : List (Word × Nat × Nat × Nat)) (e : TableEntry) (s0 : State) : State :=
  let s := match truncs.find? (fun t => t.1 == e.stream && t.2.2.1 == trick && t.2.2.2 == idx) with
    | some t => meetTruncation td p e.stream t.2.1 s0
    | none => s0
  let k := s.deckAt td
  let obj := k.nextObject e.stream
  let add := fun (i : Restored) (a : State) => forEach (supersededBy k.truncs trick idx i) (addRestored td) a
  if e.kind = 2 then add (.mark e.stream obj e.len trick idx) s
  else if e.kind != 1 then s
  else
    let begun : Option (Entry × List Byte × Bool × Bool) :=
      if e.first then
        let run := runs.find? (fun r => r.covers e.stream e.bsn)
        let o := run.getD { stream := 0, bsn := 0, count := 0, label := 0, salt := 0, ctr := 0 }
        let g := gather f tiles ([], usable) e
        some ({ stream := e.stream, bsn := e.bsn, firstObj := obj, salt := o.salt, label := o.label
                ctr := o.ctr + BitVec.ofNat 64 (e.bsn.toNat - o.bsn.toNat) }, g.1, run.isSome, g.2)
      else (Sparse.find k.joining e.stream.toNat).map (fun x =>
        let g := gather f tiles (x.2.1, x.2.2.2 && usable) e
        (x.1, g.1, x.2.2.1, g.2))
    match begun with
    | none => s
    | some (o, bytes, keyed, all) =>
      if e.last then
        let b : Sealed := { bytes := if all then bytes else [], stream := o.stream, bsn := o.bsn, label := o.label, salt := o.salt, ctr := o.ctr
                            firstObj := obj, nrec := (headerOf bytes).nrec }
        add (.block b keyed trick idx) (s.onDeck td (fun k => { k with joining := Sparse.erase k.joining e.stream.toNat }))
      else s.onDeck td (fun k => { k with joining := Sparse.put k.joining e.stream.toNat (o, bytes, keyed, all) })

/-- The entries of one data trick (R208). -/
def readTable (td p trick : Nat) (f : Fmt) (tiles : List (Option (List Byte))) (usable : Bool) (runs : List KeyRun)
    (truncs : List (Word × Nat × Nat × Nat)) (s : State) : State :=
  let es := (tableOf f tiles).getD []
  forEach (List.zip (List.range es.length) es) (fun e a => readEntry td p trick e.1 f tiles usable runs truncs e.2 a) s

/-- Anchors of a hand set read (R213): the first item of each stream that begins in it, with the tape position `pos` of the first position of
the hand that holds it. -/
def readAnchors (f : Fmt) (tricks : List (Nat × List (Option (List Byte)))) (pos : Nat → Word) (truncs : List (Word × Nat × Nat × Nat))
    (k : Deck) : List (Word × Nat × Nat × Nat × Nat × Word) :=
  let all := tricks.flatMap (fun t =>
    let es := (tableOf f t.2).getD []
    (List.zip (List.range es.length) es).filterMap (fun e => if (e.2.kind == 1 && e.2.first) || e.2.kind == 2 then some (t.1, e) else none))
  ((all.map (fun x => x.2.2.stream)).dedup).filterMap (fun sid =>
    (all.find? (fun x => x.2.2.stream == sid)).map (fun x =>
      let obj := match truncs.find? (fun t => t.1 == sid && t.2.2.1 == x.1 && t.2.2.2 == x.2.1) with
        | some t => t.2.1
        | none => k.nextObject sid
      (sid, obj, x.2.2.bsn.toNat, x.1, x.2.1, pos x.1)))

/-! ### Recovery of a hand set -/

/-- A hand set as recovered, or what makes it unrecovered. -/
structure RecoveredSet where
  /-- number of each data trick with its tiles, in logical order -/
  tricks : List (Nat × List (Option (List Byte)))
  /-- tricks that C3 recovered, each with its deck -/
  byC3 : List (Nat × Nat)
  /-- hands that C4 rebuilt: deck, numbers and tiles of its tricks, C3 parity encoded again -/
  byC4 : List (Nat × List (Nat × List (Option (List Byte))))
  /-- data tricks that cannot be recovered, each with its deck -/
  lost : List (Nat × Nat)
  /-- decks the digest of whose hand fails -/
  digest : List Nat

/-- The numbers of a hand's tricks that C3 has made whole, each with the hand's deck. -/
def madeWhole (d : Nat) (numbers : List Nat) (raw after : List (List (Option (List Byte)))) : List (Nat × Nat) :=
  ((List.zip numbers (List.zip raw after)).filter (fun e => !whole e.2.1 && whole e.2.2)).map (fun e => (d, e.1))

/-- C3, then C4 where it is needed, then the digests (R203 to R205). `ds` and `ps` are the data and parity decks, `digests` what the trailers
read say. -/
def recoverSet (f : Fmt) (s : State) (ds ps : List Nat) (lay : SetLayout) (ns : List Nat) (digests : List (Option Nat)) : RecoveredSet :=
  let tilesOf := fun (d : Nat) (l : List Nat) => l.map (Deck.tilesOf f (s.deckAt d))
  let raw := List.zipWith tilesOf ds lay.data
  let c3 := raw.map (c3Hand f)
  let data := List.zipWith (fun h n => h.take n) c3 ns
  let needs := data.any (fun h => h.any (fun t => !whole t)) && !ps.isEmpty
  let rawC4 := if needs then List.zipWith tilesOf ps lay.parity else []
  let c4 := rawC4.map (c3Hand f)
  let final := if needs then
      let cols := (List.range (ns.headD 0)).map (fun i => c4Trick f ps.length (data.map (fun h => h[i]?)) (c4.map (fun h => h.getD i [])))
      (List.zip (List.range data.length) data).map (fun h => (List.range h.2.length).map (fun i => (cols.getD i []).getD h.1 []))
    else data
  let numbered := (List.zip ds (List.zip lay.data final)).map (fun e => (e.1, List.zip e.2.1 e.2.2))
  let user := fun (t : List (Option (List Byte))) => t.flatMap (fun x => x.getD [])
  let rebuilt := ((List.zip numbered (List.zip lay.data data)).filter (fun e => e.2.2.any (fun t => !whole t) && e.1.2.all (fun t => whole t.2)))
  { tricks := (numbered.flatMap (fun e => e.2)).mergeSort (fun a b => decide (a.1 ≤ b.1))
    byC3 := (List.zip ds (List.zip lay.data (List.zip raw c3))).flatMap (fun e => madeWhole e.1 e.2.1 e.2.2.1 e.2.2.2)
      ++ (List.zip ps (List.zip lay.parity (List.zip rawC4 c4))).flatMap (fun e => madeWhole e.1 e.2.1 e.2.2.1 e.2.2.2)
    byC4 := rebuilt.map (fun e => (e.1.1, List.zip e.2.1 (e.1.2.map (fun t => t.2) ++ reencode f (e.1.2.map (fun t => user t.2)))))
    lost := numbered.flatMap (fun e => (e.2.filter (fun t => !whole t.2)).map (fun t => (e.1, t.1)))
    digest := ((List.zip numbered digests).filter (fun e => e.1.2.all (fun t => whole t.2) && (match e.2 with
      | some v => crc64 (e.1.2.flatMap (fun t => user t.2)) != v
      | none => false))).map (fun e => e.1.1) }

/-- A trick's tiles that were not there are taken from its rebuilt image. -/
def ReadTrick.fill (tiles : List (Option (List Byte))) (t : ReadTrick) : ReadTrick :=
  { t with tiles := (List.zip (List.range tiles.length) tiles).foldl (fun m e =>
      match Sparse.find m e.1, e.2 with
      | none, some u => Sparse.put m e.1 u
      | _, _ => m) t.tiles }

/-- Tiles of the tricks found whose C2 failed, which now go to C3 (DKd_RESTORE_CNT_1). -/
def failedTiles (f : Fmt) (k : Deck) (l : List Nat) : Nat :=
  (l.map (fun n => if (k.trick n).isSome then ((Deck.tilesOf f k n).filter (fun t => t.isNone)).length else 0)).sum

/-- What C3 and C4 did: counts and events 64d + 32 and 64d + 33 of the deck of each trick and hand; the rebuilt hands join the round buffer
(R203, R204, R219). -/
def noteRecovery (f : Fmt) (ds ps : List Nat) (lay : SetLayout) (r : RecoveredSet) (s : State) : State :=
  let rows := List.zip ds lay.data ++ (if r.byC4.isEmpty then [] else List.zip ps lay.parity)
  let s1 := forEach rows (fun e a => countRestore e.1 1 (failedTiles f (s.deckAt e.1) e.2) a) s
  let s2 := forEach r.byC3 (fun e a => raiseDeck e.1 32 [] (countRestore e.1 2 1 a)) s1
  forEach r.byC4 (fun h a =>
    let b := raiseDeck h.1 33 [] (countRestore h.1 3 1 a)
    b.onDeck h.1 (fun k => h.2.foldl (fun k t => if whole t.2 then k.onTrick t.1 (ReadTrick.fill t.2) else k) k)) s2

/-! ### Going on through the partition -/

/-- A READ needs the tape of a table (R199). -/
def readNeeded (s : State) (td p : Nat) : Bool :=
  (boundTo s td p).any (fun n => match (s.ctxAt n).reader with
    | some r => r.needsTape
    | none => false)

/-- A task needs the tape of a table: one that reads, seeks or waits for the end-of-data (R199, R214, R59). -/
def tapeNeeded (s : State) (td p : Nat) : Bool :=
  readNeeded s td p || (boundTo s td p).any (fun n =>
    let c := s.ctxAt n
    c.tasks.any (fun t => decide (t.stage = .running) && (t.opcode == 6 || t.opcode == 7))
    || (!(s.tableAt td p).known && c.tasks.any (fun t => t.waits && dataOpcodes.contains t.opcode)))

/-- The deck reads no more: the tape goes to rest (R218). -/
def stopReading (d : Nat) (s : State) : State :=
  let k := s.deckAt d
  if k.mode = 2 then
    let m := { k.motion with pace := if k.motion.pace = 1 || k.motion.pace = 2 then 3 else k.motion.pace, offset := 0 }
    selectMode d 0 k.profile 0 0 (s.putDeck d { k with wanted := none, motion := m })
  else s.putDeck d { k with wanted := none }

/-- The decks of a group read no more. -/
def stopGroup (td : Nat) (s : State) : State := forEach (groupOf s td) stopReading s

/-- The streams of an end-of-data record, each with the context that wrote it where it is known (Table 07-5). -/
def endStreamsOf (r : List Byte) : List (Word × Word × Nat) :=
  (chunks 16 (slice r 64 (16 * beAt r 48 2))).map (fun b => (word (beAt b 0 4), word (beAt b 4 4), beAt b 8 8))

/-- The directory entries of a directory trick (Table 07-6). -/
def entriesOf (u : List Byte) : List (List Byte) := chunks 16 (slice u 32 (16 * beAt u 8 4))

/-- The partition's end-of-data `e` and its directory have been read: the table's end is known, each deck's append point is the place of its own
end-of-data, and every restore task goes on (R59, R168, R169). -/
def meetEnd (td p e : Nat) (user : List Byte) (dirs : List (List Byte)) (s : State) : State :=
  let r := user.drop 34
  let l := endStreamsOf r
  let known := (s.tableAt td p).known
  let s1 := forEach (groupOf s td) (fun d a => a.onDeck d (fun k =>
    let at' := ((k.trick e).bind (fun t => t.begun)).getD (k.motion.wrap, k.motion.tpc)
    if known then { k with endMet := true, eodWritten := true }
    else { k with endMet := true, eodWritten := true, appendWrap := at'.1, appendAt := at'.2 })) s
  let s2 := s1.onTable td p (fun t =>
    if t.known then t
    else { t with known := true, nextTrick := beAt r 36 5, formats := addFormat (beAt r 36 5 - 1) (slice r 4 32) t.formats
                  directory := if dirs.isEmpty then t.directory else dirs.flatMap entriesOf
                  streams := l.foldl (fun m x => Sparse.put m x.1.toNat { objects := x.2.2, nextBsn := x.2.1, ctx := (Sparse.get {} t.streams x.1.toNat).ctx }) t.streams })
  pumpTable td p (stopGroup td s2)

/-- The next number to deliver becomes `next`: tricks below it leave the round buffer, but for those of the round being read once no restore
task needs tape (R202, R218). -/
def dropBefore (td next roundFirst : Nat) (keep : Bool) (s : State) : State :=
  forEach (groupOf s td) (fun d a => a.onDeck d (fun k =>
    let left := k.buffer.filter (fun t => decide ((if keep then roundFirst else next) ≤ t.number))
    let gone := (k.buffer.filter (fun t => decide (k.nextDeliver ≤ t.number) && decide (t.number < next))).length
    { k with buffer := left, nextDeliver := next, roundFirst := roundFirst, motion := { k.motion with delivered := k.motion.delivered + gone } })) s

/-- The hand set is unrecovered for this pass: events 64d + 35 of the deck of each lost trick and 64d + 36 of each deck whose hand fails a check
(R205). -/
def handFails (td first : Nat) (lost : List (Nat × Nat)) (checks : List Nat) (s : State) : State :=
  let s1 := forEach lost (fun e a => raiseDeck e.1 35 (words2 e.2) (countRestore e.1 5 1 a)) s
  let s2 := forEach checks (fun d a => raiseDeck d 36 [] (countRestore d 6 1 a)) s1
  s2.onDeck td (fun k => { k with unrecovered := some (if checks.isEmpty then leastOf (lost.map (fun e => e.2)) else first) })

/-- The tape position of the first position of the hand that holds a trick (R213). -/
def handPos (s : State) (ds : List Nat) (lay : SetLayout) (n : Nat) : Word :=
  match (List.zip ds lay.data).find? (fun e => e.2.contains n) with
  | some (d, l) => (((s.deckAt d).trick (l.headD 0)).bind (fun t => t.begun.map (fun b => b.2))).getD (s.deckAt d).motion.tpc
  | none => 0

/-- The items of a hand set, and its directory entry where the table's end is not known yet (R167, R208, R211, R213); `usable` tells of each
trick whether the blocks in it may be opened. -/
def deliverSet (td p : Nat) (f : Fmt) (trailers : List TrailerInfo) (tricks : List (Nat × List (Option (List Byte)))) (usable : Nat → Bool)
    (lay : SetLayout) (s : State) : State :=
  let truncs := trailers.flatMap (fun x => x.truncs)
  let runs := trailers.flatMap (fun x => x.runs)
  let s1 := addAnchors td (readAnchors f tricks (handPos s (dataDecks s td) lay) truncs (s.deckAt td)) truncs s
  let s2 := forEach tricks (fun t a => readTable td p t.1 f t.2 (usable t.1) runs truncs a) s1
  match trailers with
  | x :: _ =>
    let e := be 5 x.first ++ [byte x.n, byte (bit x.short * 128), 0] ++ be 8 x.digest
    let first := if x.index = 0 then x.first else (s.deckAt td).roundFirst
    let s3 := s2.onTable td p (fun t =>
      if t.known then t else { t with directory := t.directory ++ [e], formats := addFormat x.first x.format t.formats })
    dropBefore td lay.next first (!tapeNeeded s3 td p) s3
  | [] => s2

/-- The reading has come to the end of a round: hand `i` is its last, or no trick of a further hand has been found (R218). -/
def roundEnds (f : Fmt) (s : State) (td i next : Nat) : Bool :=
  i + 1 == f.rh || (groupOf s td).all (fun d => (s.deckAt d).found.all (fun x => decide (x.1 < next)))

/-- A hand set has been delivered: the restore tasks go on, and where none needs tape any more the reading ends with the round (R218). -/
def afterSet (td p : Nat) (f : Fmt) (trailers : List TrailerInfo) (lay : SetLayout) (needed : Bool) (s : State) : State :=
  let s1 := pumpTable td p (forEach (groupOf s td) (fun d a => a.onDeck d (fun k => { k with retry := 0 }))
    (s.onDeck td (fun k => { k with unrecovered := none })))
  let i := (trailers.headD default).index
  if !tapeNeeded s1 td p && (roundEnds f s1 td i lay.next || (!needed && i == 0)) then stopGroup td s1 else s1

/-- A hand set all of whose tricks are ready is recovered and delivered, or fails this pass (R203 to R205, R287). A task that only seeks needs its
trick tables, block headers and trailers (R214). True where it was delivered. -/
def settleSet (td p first : Nat) (f : Fmt) (trailers : List TrailerInfo) (lay : SetLayout) (s : State) : Bool × State :=
  let ds := dataDecks s td
  let ps := parityDecks s td
  let ns := trailers.map (fun x => x.n)
  let reads := readNeeded s td p
  let needed := tapeNeeded s td p
  if trailers.any (fun x => !((loadedFormats s td).any (fun b => formatId b == x.format))) then
    (false, forEach (boundTo s td p) (fun n a =>
      match (a.ctxAt n).reader with
      | some r => if r.needsTape then keepRead n 10 a else a
      | none => a) (s.onDeck td (fun k => { k with gaveUp := true })))
  else
    let raw := ((List.zip ds (List.zipWith (fun l n => l.take n) lay.data ns)).flatMap (fun e =>
      e.2.map (fun n => (n, Deck.tilesOf f (s.deckAt e.1) n)))).mergeSort (fun a b => decide (a.1 ≤ b.1))
    if !reads && raw.any (fun t => !whole t.2) && fieldsThere f (raw.map (fun t => t.2)) [] then
      (true, afterSet td p f trailers lay needed (deliverSet td p f trailers raw (fun _ => false) lay s))
    else
      let r := recoverSet f s ds ps lay ns (trailers.map (fun x => some x.digest))
      let s1 := noteRecovery f ds ps lay r s
      if r.lost.isEmpty && r.digest.isEmpty then
        (true, afterSet td p f trailers lay needed (deliverSet td p f trailers r.tricks (fun _ => true) lay s1))
      else if !reads && fieldsThere f (r.tricks.map (fun t => t.2)) [] then
        (true, afterSet td p f trailers lay needed (deliverSet td p f trailers r.tricks (fun _ => false) lay s1))
      else if !needed then (false, stopGroup td s1)
      else (false, handFails td first r.lost r.digest s1)

/-- A hand set one of whose trailers cannot be read: where the sizes of its hands can be told C3 and C4 run all the same, and the hand set is
unrecovered (R204, R205, R207). -/
def loseSet (td p first : Nat) (f : Fmt) (s : State) : State :=
  let ds := dataDecks s td
  let ps := parityDecks s td
  let tr := ds.map (fun d => handTrailer f (s.deckAt d) false first)
  let missing := ((List.zip ds tr).filter (fun e => e.2.isNone)).map (fun e => e.1)
  if !tapeNeeded s td p then stopGroup td s
  else
    match inferSizes f (ds.map s.deckAt) (ps.map s.deckAt) first with
    | some ns =>
      let lay := setLayout f first ps.length ns
      let r := recoverSet f s ds ps lay ns (tr.map (fun t => t.map (fun x => x.digest)))
      handFails td first r.lost (missing ++ r.digest) (noteRecovery f ds ps lay r s)
    | none => handFails td first [] missing s

/-- The format section with this FORMAT byte, else the one in force (R128, R159). -/
def formatNamed (s : State) (d fb : Nat) : List Byte := ((loadedFormats s d).find? (fun x => formatByte x == fb)).getD (deckFormat s d)

/-- The lowest-numbered trick at or above `first` that a list holds. -/
def lowestFrom (first : Nat) (l : List ReadTrick) : Option ReadTrick :=
  l.foldl (fun a t => if t.number < first ∨ t.facets.isEmpty then a
    else match a with
      | some b => if t.number < b.number then some t else a
      | none => some t) none

/-- The format of the next hand: that of its trailer once it has been read, till then that of the headers of its first trick found, else the one in
force (R159). -/
def formatOfNext (s : State) (td first : Nat) : Fmt :=
  match lowestFrom first ((groupOf s td).flatMap (fun d => (s.deckAt d).buffer)) with
  | some t =>
    let l := (loadedFormats s td).filter (fun x => formatByte x == t.format)
    match l.find? (fun b => (dataDecks s td).any (fun d => match handTrailer (fmtOf b) (s.deckAt d) false first with
        | some x => x.format == formatId b
        | none => false)) with
    | some b => fmtOf b
    | none => fmtOf (l.headD (deckFormat s td))
  | none => deckFmt s td

/-- The end-of-data's directory: none while one of its tricks is still to come, else the user areas of those that decoded, in order (R169). -/
def directoryRead (f : Fmt) (ks : List Deck) (e dirs : Nat) : Option (List (List Byte)) :=
  let l := (List.range dirs).map (fun i => ks.findSome? (fun k => (k.trick (e + 1 + i)).bind (fun t =>
    if t.complete f then some (some (t.user f)) else if t.missing then some none else none)))
  if l.all (fun x => x.isSome) then (let us := l.filterMap (fun x => x.getD none); some (if us.length = dirs then us else [])) else none

/-- One more step through the partition: the lead, the next hand set, or the end-of-data (R169, R202 to R205); false where the tape must
bring more first. -/
def advanceOne (td p : Nat) (s : State) : Bool × State :=
  let k := s.deckAt td
  let first := k.nextDeliver
  let f := formatOfNext s td first
  let ks := (groupOf s td).map s.deckAt
  if k.endMet || k.unrecovered.isSome && !k.gaveUp then (false, s)
  else
    match ks.findSome? (fun x => (x.trick first).bind (fun t => if t.type = 7 && t.complete f then some t else none)) with
    | some t =>
      let met := ks.all (fun x => match x.trick first with
        | some y => y.begun.isSome || y.missing
        | none => false)
      match (if met then directoryRead f ks first (dirTricksOf t) else none) with
      | some dirs => (false, meetEnd td p first (t.user f) dirs s)
      | none => (false, s)
    | none =>
      if first = 0 then
        match ks.findSome? (fun x => (x.trick 0).bind (fun t => if t.missing || t.complete f then some (t.complete f, t.user f) else none)) with
        | some (good, u) =>
          let s1 := s.onTable td p (fun t => if t.known || !good || !t.directory.isEmpty then t else { t with formats := [(0, slice (u.drop 34) 4 32)] })
          (true, dropBefore td 1 1 false s1)
        | none => (false, s)
      else
        let ds := dataDecks s td
        let tr := ds.map (fun d => handTrailer f (s.deckAt d) false first)
        if tr.all (fun x => x.isSome) then
          let trailers := tr.filterMap id
          let lay := setLayout f first (parityDecks s td).length (trailers.map (fun x => x.n))
          let all := (List.zip (ds ++ parityDecks s td) (lay.data ++ lay.parity)).all (fun e => e.2.all (Deck.ready f (s.deckAt e.1)))
          if k.gaveUp then (true, dropBefore td lay.next first false s)
          else if all then settleSet td p first f trailers lay s else (false, s)
        else
          let far := first + f.setLength (groupOf s td).length - 1
          if ks.all (fun x => x.past f far) || ks.any (fun x => (x.endRead f).isSome) then
            if k.gaveUp then
              let next := leastOf ((ks.flatMap (fun x => x.buffer.filterMap (fun t =>
                if t.type = 7 || decide (far < t.number) then some t.number else none))))
              (decide (first < next), dropBefore td next next false s)
            else (false, loseSet td p first f s)
          else (false, s)

/-- As far through the partition as what has been read allows. -/
def advanceRead (td p : Nat) : Nat → State → State
  | 0, s => s
  | fuel + 1, s =>
    let r := advanceOne td p s
    if r.1 then advanceRead td p fuel r.2 else r.2

/-! ### The medium lead -/

/-- TRICK of the medium lead (R173). -/
def mediumLead : Nat := 0xFFFFFFFFFE

/-- The PART_MAP of a medium lead (Table 07-4). -/
def partsOf (r : List Byte) : Sparse (Nat × Nat) :=
  (List.range 64).filterMap (fun q =>
    let b := slice r (48 + 8 * q) 8
    if bitAt (beAt b 4 1) 7 then some (q, (beAt b 0 2, beAt b 2 2)) else none)

/-- A LOAD is done with the medium lead: the cartridge is loaded, or no copy decodes (R173). -/
def endLoad (d n q : Nat) (c : Completion) (f : Deck → Deck) (s : State) : State :=
  let decks := groupOf s d
  finish n q c (forEach decks stopReading (forEach decks (fun x a => a.onDeck x (fun k => f { Deck.forget k with admin := none })) s))

/-- The medium lead has been read (R173, Table 07-4). Which of its partitions hold a data trick is a fact of the cartridge that no command
tells before their tape is read: a free value (R56). -/
def meetMediumLead (d n q : Nat) (user : List Byte) (s : State) : State :=
  let r := user.drop 34
  endLoad d n q (status 0) (fun k =>
    { k with loaded := true, blank := false, parts := partsOf r, label := slice r 564 (beAt r 560 4)
             dataParts := ((partsOf r).map (fun e => e.1)).filter (Config.holdsAtLoad s.tick) }) s.ticked

/-- What a deck has read goes on: the medium lead for a LOAD, else the active partition. -/
def goOn (d : Nat) (s : State) : State :=
  let k := s.deckAt d
  match k.admin with
  | some (.load n q true) =>
    match (k.trick mediumLead).bind (fun t =>
        let f := fmtOf (formatNamed s d t.format)
        if t.complete f then some (t.user f) else none) with
    | some u => meetMediumLead d n q u s
    | none => s
  | _ =>
    match activePart s d with
    | some p => advanceRead (tableDeck s d) p (k.buffer.length + 2) s
    | none => s

/-! ### FACET_DECODE -/

/-- The first bits of a track up to place `o` have been dealt with. -/
def dropBits (d n o : Nat) (s : State) : State :=
  let r := Sparse.get {} (s.deckAt d).rx n
  dropReceived d n (16 * r.base + o) s

/-- The deck reads for a trick of this number: the medium lead for a LOAD, else what the partition has not yet delivered (R173, R202). -/
def Deck.seeks (n : Nat) (k : Deck) : Bool :=
  match k.admin with
  | some (.load _ _ true) => n == mediumLead
  | _ => decide (k.nextDeliver ≤ n) && n != mediumLead

/-- A facet with its place is decoded by C1 and joins its trick (R200, R201). -/
def takeFacet (d at' : Nat) (b : List Byte) (x : FacetPlace) (body : List Byte) (flagged : List Nat) (s : State) : State :=
  let f := fmtOf b
  match readC1 f (body.drop 12) (codeFlags flagged) with
  | none => countRestore d 0 1 s
  | some code =>
    let k := s.deckAt d
    if !k.seeks x.trick || k.beyondEnd f x then s
    else
      let c := k.cellOf f at'
      let k1 := if k.found.any (fun y => y.1 == x.trick) then k else { k with found := k.found ++ [(x.trick, c)] }
      let place := fun (t : ReadTrick) =>
        if x.rewrite then t
        else { t with cell := t.cell.or (some c)
                      begun := t.begun.or (if x.original then x.start.map (fun o => (k.motion.wrap, tpcOfBit k o)) else none) }
      s.putDeck d (k1.onTrick x.trick (fun t => ReadTrick.take f (formatByte b) k.readTo (k.tapeOrder at') x code (place t)))

/-- The tape has been read as far as a channel bit: the tricks of the cells passed are decoded with what there is of them (R201, R202). -/
def reachCell (d at' : Nat) (f : Fmt) (start : Option Nat) (skip : Bool) (s : State) : State :=
  s.onDeck d (fun k =>
    let k1 := { k with origin := k.origin.or start }
    let c := k1.cellOf f at'
    let k2 := { k1 with skipped := if skip then addNew c k1.skipped else k1.skipped }
    if c ≤ k.readTo then k2
    else
      { k2 with readTo := c, buffer := k2.buffer.map (fun t => match t.cell with
        | some x => if k.readTo ≤ x ∧ x < c then t.tryAll f else t
        | none => t) })

/-- A trick's start is met on a track: the facets there that had no place get theirs (R144). -/
def meetStart (d n trick start : Nat) (s : State) : State :=
  let k := s.deckAt d
  if k.seen.any (fun y => y.1 == n && y.2.1 == trick && y.2.2 == start) then s
  else
    let seen := (n, trick, start) :: k.seen.filter (fun y => y.1 != n)
    let mine := k.unplaced.filter (fun u => u.1 == n)
    let s1 := s.putDeck d { k with seen := seen, unplaced := k.unplaced.filter (fun u => u.1 != n) }
    forEach mine (fun u a => match placeByPosition (fmtOf u.2.2.1) n u.2.1 seen with
      | some x => takeFacet d u.2.1 u.2.2.1 x u.2.2.2.1 u.2.2.2.2 a
      | none => a) s1

/-- A facet whose header fails: placed by its position, or kept until the start of its trick is met (R144). -/
def takeUnheaded (d n at' : Nat) (b : List Byte) (body : List Byte) (flagged : List Nat) (s : State) : State :=
  match placeByPosition (fmtOf b) n at' (s.deckAt d).seen with
  | some x => takeFacet d at' b x body flagged s
  | none => s.onDeck d (fun k => { k with unplaced := k.unplaced ++ [(n, at', b, body, flagged)] })

/-- A facet whose header is good (R128, R131, R200). -/
def takeHeaded (d n at' : Nat) (b : List Byte) (body : List Byte) (flagged : List Nat) (s : State) : State :=
  let f := fmtOf b
  let ty := beAt body 0 1 / 16
  let x := placeByHeader f n at' body
  let s1 := reachCell d at' f (x.bind (fun x => x.start)) (besideCount body) s
  let s2 := if ty = 0 || decide (9 ≤ ty) then countRestore d 7 1 s1 else s1
  match x with
  | none => s2
  | some x =>
    let s3 := takeFacet d at' b x body flagged s2
    match x.start with
    | some o => meetStart d n x.trick o s3
    | none => s3

/-- FACET_DECODE: the next facet of the track while the deck reads (R197, R200, R201). -/
def opFacetDecode (d n : Nat) (s : State) : State :=
  let k := s.deckAt d
  if k.mode != 2 || k.motion.target.isSome || k.motion.pace == 6 then s
  else
    let r := Sparse.get {} k.rx n
    match nextSync (loadedFormats s d) n r.bits with
    | none => s
    | some (b, o, body, flagged) =>
      let good := headerValid body
      let s0 := s.onDeck d (fun k => { k with synced := true, motion := { k.motion with pace := if k.motion.pace = 1 then 2 else k.motion.pace } })
      let s1 := dropBits d n (o + if good then (fmtOf b).facetBits else 33) s0
      goOn d ((if good then takeHeaded else takeUnheaded) d n (16 * r.base + o) b body flagged s1)

/-! ### TRICK_MISSING -/

/-- TRICK_MISSING: trick L is declared missing (R202); for a LOAD, the medium lead region ends without a copy that decodes: blank where
no sync word was found in it (R173). -/
def opTrickMissing (d l : Nat) (s : State) : State :=
  let k := s.deckAt d
  match k.admin with
  | some (.load n q true) =>
    if k.mode = 2 && l = mediumLead then
      if (groupOf s d).all (fun x => !(s.deckAt x).synced) then
        endLoad d n q (status 0) (fun k => { k with loaded := true, blank := true, parts := [], label := [], dataParts := [] }) s
      else endLoad d n q { status := 0x14, info1 := BitVec.ofNat 64 mediumLead } id s
    else s
  | _ =>
    let f := formatOfNext s (tableDeck s d) k.nextDeliver
    let past := k.past f l || (groupOf s d).any (fun x => ((s.deckAt x).endRead f).isSome)
    if k.mode = 2 && decide (k.nextDeliver ≤ l) && !k.ready f l && past then
      goOn d (s.putDeck d (k.onTrick l (fun t => { t with missing := true })))
    else s

/-! ### RETRY_PASS -/

/-- Retry passes that a hand may have: values above 8 act as 8 (DKd_RESTORE_CTRL). -/
def retryLimit (s : State) (d : Nat) : Nat := min 8 (s.fld (Reg.dkRestoreCtrl d) Fld.dkRestoreCtrlRetries)

/-- The wrap and tape position from which a deck reads its round again: 32 trick lengths before the first position of the round that it has met
(R206). -/
def roundStart (s : State) (d p : Nat) : Nat × Word :=
  let k := s.deckAt d
  let order := fun (b : Nat × Word) => if towardsEot b.1 then b.1 * 2 ^ 32 + b.2.toNat else (b.1 + 1) * 2 ^ 32 - b.2.toNat
  let mine := (k.buffer.filter (fun t => decide (k.roundFirst ≤ t.number))).filterMap (fun t => t.begun)
  let first := mine.foldl (fun a b => match a with
    | some c => if order b < order c then some b else a
    | none => some b) none
  match first with
  | some (w, t) =>
    let run := (32 * (deckFmt s d).trickBits + 3999) / 4000
    (w, if towardsEot w then word (t.toNat - run) else t + word run)
  | none => (partWrap s d p, partStart s d p)

/-- The tape goes back for another pass over the round: what was decoded stays (R206). -/
def rereadRound (td p : Nat) (s : State) : State :=
  forEach (groupOf s td) (fun d a =>
    let k := a.deckAt d
    let t := roundStart a d p
    let m := { k.motion with pace := 5, target := some t.2 }
    sendMode d 0 k.profile 0 0 (a.putDeck d { Deck.rewound k with wanted := some t, motion := m })) s

/-- The READs that read the tape of a table are cut off at trick L (R207). -/
def cutReads (td p l : Nat) (s : State) : State :=
  forEach (boundTo s td p) (fun n a => a.onCtx n (fun c => { c with reader := c.reader.map (fun r =>
    if r.needsTape || r.block.isSome then { r with cutOff := some l } else r) })) s

/-- The seeks of a table that still run end MEDIUM_ERROR at trick L (R207). -/
def failSeeks (td p l : Nat) (s : State) : State :=
  forEach (boundTo s td p) (fun n a =>
    forEach ((a.ctxAt n).tasks.filter (fun t => decide (t.stage = .running) && (t.opcode == 6 || t.opcode == 7)))
      (fun t x => finish n t.seq { status := 0x14, info1 := BitVec.ofNat 64 l } x) a) s

/-- The restore ends at the hand: records below trick L are delivered, then the READs end MEDIUM_ERROR (R207); the seeks go on where the hand's
trick tables, block headers and trailers are there (R214), and end likewise elsewhere. -/
def endRestore (td p l : Nat) (s : State) : State :=
  let k := s.deckAt td
  let first := k.nextDeliver
  let f := formatOfNext s td first
  let ds := dataDecks s td
  let trailers := (ds.map (fun d => handTrailer f (s.deckAt d) false first)).filterMap id
  let lay := setLayout f first (parityDecks s td).length (trailers.map (fun x => x.n))
  let r := recoverSet f s ds (parityDecks s td) lay (trailers.map (fun x => x.n)) (trailers.map (fun x => some x.digest))
  let has := decide (trailers.length = ds.length)
  let s1 := cutReads td p l (forEach (groupOf s td) (fun d a => a.onDeck d (fun k => { k with retry := 0 })) s)
  let usable := fun (n : Nat) => decide (first < l) && decide (n < l)
  if has && fieldsThere f (r.tricks.map (fun t => t.2)) [] then
    let s2 := afterSet td p f trailers lay true (deliverSet td p f trailers r.tricks usable lay s1)
    if tapeNeeded s2 td p then goOn td s2 else stopGroup td s2
  else
    let s2 := s1.onDeck td (fun k => { k with gaveUp := true })
    let low := if has then r.tricks.filter (fun t => usable t.1) else []
    let runs := trailers.flatMap (fun x => x.runs)
    let truncs := trailers.flatMap (fun x => x.truncs)
    let s3 := failSeeks td p l (pumpTable td p (forEach low (fun t a => readTable td p t.1 f t.2 true runs truncs a) s2))
    if tapeNeeded s3 td p then goOn td s3 else stopGroup td s3

/-- RETRY_PASS: the next pass over the round of an unrecovered hand, with event 64d + 34, or the end of the restore after the last one
(R206, R207). -/
def opRetryPass (d : Nat) (s : State) : State :=
  let k := s.deckAt d
  match k.unrecovered, activePart s d with
  | some l, some p =>
    if k.gaveUp then s
    else if k.retry < retryLimit s d then
      let s1 := raiseDeck d 34 [word (k.retry + 1)] (countRestore d 4 1 s)
      let s2 := forEach (groupOf s d) (fun x a => a.onDeck x (fun y => { y with retry := k.retry + 1 })) s1
      rereadRound d p (s2.onDeck d (fun y => { y with unrecovered := none }))
    else endRestore d p l s
  | _, _ => s

/-- FACET_DECODE. -/
def execFacetDecode (d : Fin 4) (track : Fin 1024) (s : State) : Host.Outcome State Fault Refusal := run (opFacetDecode d.val track.val) s

/-- TRICK_MISSING. -/
def execTrickMissing (d : Fin 4) (trick : BitVec 40) (s : State) : Host.Outcome State Fault Refusal := run (opTrickMissing d.val trick.toNat) s

/-- RETRY_PASS. -/
def execRetryPass (d : Fin 4) (s : State) : Host.Outcome State Fault Refusal := run (opRetryPass d.val) s

/-- REPOSITION_COMPLETE. -/
def execRepositionComplete (d : Fin 4) (s : State) : Host.Outcome State Fault Refusal := run (opRepositionComplete d.val) s

end Sys2Proof.Machine
end

