-- ==== Sys2Proof/Machine/Loops.lean ====
section
/-! DEFINITION. Jasper's number formats (R236, R237), the stages of a loop (R238, R239, Table 11-3), the slew procedure (R247),
hand-over between modes and chains (R243, R251), the sampling of trace buffers (R258). -/

namespace Sys2Proof.Machine

/-! ### Node words -/

/-- 2 to the power e. -/
def pow2 (e : Int) : Rat :=
  match e with
  | .ofNat n => mkRat (2 ^ n : Nat) 1
  | .negSucc n => mkRat 1 (2 ^ (n + 1))

/-- The mantissa of x under exponent e (R236). -/
def mantissa (x : Rat) (e : Int) : Int := roundAway (x * pow2 (-e))

/-- The mantissa is one of 24 bits (R236). -/
def fits24 (m : Int) : Bool := decide (-8388608 ≤ m) && decide (m ≤ 8388607)

/-- The smallest exponent that holds x within 24 bits (R237). -/
def nodeExp (x : Rat) : Int :=
  if x = 0 then -128
  else
    let e0 : Int := max (-128) ((Nat.log2 x.num.natAbs : Int) - (Nat.log2 x.den : Int) - 24)
    let k := ((List.range 5).find? (fun k => fits24 (mantissa x (e0 + (k : Int))))).getD 5
    min 127 (e0 + (k : Int))

/-- x rounded under exponent e, saturated at the greatest exponent (R237). -/
def nodeAt (x : Rat) (e : Int) : Rat :=
  let m := mantissa x e
  let m1 := if e = 127 then max (-8388607) (min 8388607 m) else m
  (m1 : Rat) * pow2 e

/-- x rounded once to the nearest node value (R237). -/
def nodeRound (x : Rat) : Rat := nodeAt x (nodeExp x)

/-- Values rounded under the smallest exponent that holds them all (R236, R237). -/
def stateRound (l : List Rat) : List Rat :=
  let e := (l.map nodeExp).foldl max (-128)
  l.map (fun x => nodeAt x e)

/-- The node word of a value (R236). -/
def nodeWord (x : Rat) : Word :=
  let e := nodeExp x
  word (unsigned 24 (mantissa (nodeAt x e) e) * 256 + unsigned 8 e)

/-- The value of a node word (R236). -/
def nodeVal (w : Word) : Rat := (signed 24 (w.toNat / 256) : Rat) * pow2 (signed 8 (w.toNat % 256))

/-! ### Stages -/

/-- Coefficients that a type of stage has (Table 11-3). -/
def coefCount : Nat → Nat
  | 1 => 5
  | 2 => 5
  | 3 => 2
  | 4 => 2
  | 5 => 3
  | 6 => 1
  | 7 => 4
  | _ => 0

/-- The value of a coefficient: m × 2^−s (R236). -/
def coefVal (c : Word × BitVec 5) : Rat := (signed 32 c.1.toNat : Rat) * pow2 (-(c.2.toNat : Int))

/-- Coefficient i of a stage. -/
def JStage.coef (g : JStage) (i : Nat) : Rat := coefVal (g.coefs.getD i (0, 0))

/-- `x` held between two bounds. -/
def clampRat (lo hi x : Rat) : Rat := max lo (min hi x)

/-- The magnitude of a number. -/
def absRat (x : Rat) : Rat := if x < 0 then -x else x

/-- The sign of a number: −1, 0 or 1. -/
def signRat (x : Rat) : Int := if x < 0 then -1 else if 0 < x then 1 else 0

/-- One evaluation of the slew procedure at interval `ts`: the new output and acceleration. With J_MAX = 0 nothing is lost while
the acceleration returns to 0, and the jerk condition of the arrival holds (R247). -/
def slewStep (aMax jMax ts target v a : Rat) : Rat × Rat :=
  let dv := target - v
  let brake := if jMax = 0 then 0 else a * absRat a / (2 * jMax)
  if absRat dv ≤ absRat a * ts ∧ (jMax = 0 ∨ absRat a ≤ jMax * ts) then (target, 0)
  else
    let goal := if 0 < dv - brake then aMax else -aMax
    let a1 := if jMax = 0 then goal else a + clampRat (-(jMax * ts)) (jMax * ts) (goal - a)
    (v + a1 * ts, a1)

/-- What a stage takes from around it in a sample. -/
structure StageEnv where
  /-- interval of the loop's samples, in seconds (Table 11-1) -/
  ts : Rat
  /-- present mode (R251) -/
  mode : Nat
  /-- hand-over ramp of the MODE stage: held value, step, length (R251) -/
  ramp : Option (Rat × Nat × Nat)
  /-- value of a node of another loop: loop, stage, node (R238) -/
  other : Nat → Nat → Nat → Rat
  /-- value of a named source (R238) -/
  source : Nat → Rat
  /-- bounds that a LIMIT stage takes in place of its coefficients (R246) -/
  limit : Option (Rat × Rat)
  /-- output and state of a SLEW stage that is evaluated elsewhere (R246) -/
  slewed : Option (Rat × List Rat)
  /-- nothing is rounded or limited: used only to solve for a preload, which a limit is not to hide (R243, R251) -/
  exact : Bool

/-- The values of a stage in a sample: x, y, aux, state and the sign in which it limited, or 0 (R238, R239). -/
structure StageOut where
  /-- chain input -/
  x : Rat
  /-- output -/
  y : Rat
  /-- auxiliary input -/
  aux : Rat
  /-- state values after the sample -/
  st : List Rat
  /-- −1 or 1 where a LIMIT, SAT or SLEW stage limited (R239) -/
  lim : Int

/-- A value on a hand-over ramp: y_h + (y_new − y_h) × k / N (R251). -/
def ramped (r : Option (Rat × Nat × Nat)) (y : Rat) : Rat :=
  match r with
  | some (yh, k, n) => yh + (y - yh) * mkRat k n
  | none => y

/-- The ramp after one more sample (R251). -/
def nextRamp (r : Option (Rat × Nat × Nat)) : Option (Rat × Nat × Nat) :=
  match r with
  | some (yh, k, n) => if k < n then some (yh, k + 1, n) else none
  | none => none

/-- The values of a stage with chain input x and auxiliary input aux: output, new state and limiting sign (Table 11-3). `node`
gives the value of a MODE stage's source; `held` holds a PID's integrator (R239). -/
def stageFunction (env : StageEnv) (held : Bool) (node : JNode → Rat) (g : JStage) (x aux : Rat) (st : List Rat) : Rat × List Rat × Int :=
  let q := fun i => st.getD i 0
  match g.type with
  | 1 =>
    let i := q 0
    let next := if held then i else clampRat (g.coef 3) (g.coef 4) (i + g.coef 1 * x)
    (g.coef 0 * x + i + g.coef 2 * (x - q 1), [next, x], 0)
  | 2 =>
    let y := g.coef 0 * x + g.coef 1 * q 0 + g.coef 2 * q 1 - g.coef 3 * q 2 - g.coef 4 * q 3
    (y, [x, q 0, y, q 2], 0)
  | 3 =>
    let b := env.limit.getD (g.coef 0, g.coef 1)
    if env.exact then (x, [], 0) else (clampRat b.1 b.2 x, [], if b.2 < x then 1 else if x < b.1 then -1 else 0)
  | 4 =>
    match env.slewed with
    | some v => (v.1, v.2, 0)
    | none =>
      let r := slewStep (g.coef 0) (g.coef 1) env.ts x (q 0) (q 1)
      if env.exact then (x, [], 0) else (r.1, [r.1, r.2], signRat (x - r.1))
  | 5 =>
    let y := roundAway (g.coef 0 * x)
    let lo := max (-32768) (roundAway (g.coef 1))
    let hi := min 32767 (roundAway (g.coef 2))
    if env.exact then (g.coef 0 * x, [], 0) else ((max lo (min hi y) : Int), [], if hi < y then 1 else if y < lo then -1 else 0)
  | 6 => (x + g.coef 0 * aux, [], 0)
  | 7 =>
    let y := ramped env.ramp (node (g.srcs.getD env.mode .none))
    (y, match env.ramp with
        | some (yh, k, _) => [yh, mkRat k 1]
        | none => [y, 0], 0)
  | _ => (x, [], 0)

/-- The value of a node reference, given the outputs of the earlier stages (R238). -/
def nodeValue (env : StageEnv) (outs : List Rat) : JNode → Rat
  | .prev => outs.getLast?.getD 0
  | .none => 0
  | .stage k => outs.getD k 0
  | .loop l k n => env.other l k n
  | .source k => env.source k

/-- A PID stage k holds its integrator: a later stage limited in the previous sample, and the increment has the sign that drives it
further into the limit (R239). -/
def heldPid (limited : List (Nat × Int)) (k : Nat) (inc : Rat) : Bool :=
  limited.any (fun e => decide (k < e.1) && decide (e.2 ≠ 0) && decide (signRat inc = e.2))

/-- The stages of a chain in order, each with the outputs of those before it (R238). -/
def evalStages (env : StageEnv) (limited : List (Nat × Int)) : List JStage → List (List Rat) → List StageOut → List StageOut
  | [], _, done => done
  | g :: rest, sts, done =>
    let outs := done.map StageOut.y
    let x := nodeValue env outs g.x
    let aux := nodeValue env outs g.aux
    let held := g.type == 1 && heldPid limited done.length (g.coef 1 * x)
    let r := stageFunction env held (nodeValue env outs) g x aux (sts.headD [])
    let o : StageOut :=
      if env.exact then { x := x, y := r.1, aux := aux, st := r.2.1, lim := r.2.2 }
      else { x := x, y := nodeRound r.1, aux := aux, st := stateRound r.2.1, lim := r.2.2 }
    evalStages env limited rest sts.tail (done ++ [o])

/-! ### Preloading -/

/-- The stage of a chain that a reference of stage i names, if it is one of the chain (R238). -/
def nodeStage (i : Nat) : JNode → List Nat
  | .prev => if i = 0 then [] else [i - 1]
  | .stage k => if k < i then [k] else []
  | _ => []

/-- The stages on which a set of stages rests, itself among them: the branch of a source (R251). -/
def branchOf (chain : List JStage) (roots : List Nat) : List Nat :=
  ((List.range chain.length).reverse).foldl
    (fun acc i =>
      if acc.contains i then
        let g := chain.getD i {}
        acc ++ nodeStage i g.x ++ nodeStage i g.aux ++ (if g.type = 7 then g.srcs.flatMap (nodeStage i) else [])
      else acc)
    roots

/-- The states with the integrator of stage k at v. -/
def withIntegrator (sts : List (List Rat)) (k : Nat) (v : Rat) : List (List Rat) :=
  sts.set k [v, (sts.getD k []).getD 1 0]

/-- The integrator of PID stage k for which the output `out` equals the target, within I_MIN and I_MAX; unchanged where the output
does not depend on it (R243, R251). -/
def preloadOne (env : StageEnv) (chain : List JStage) (out : List StageOut → Rat) (target : Rat) (sts : List (List Rat)) (k : Nat) :
    List (List Rat) :=
  let g := chain.getD k {}
  if g.type ≠ 1 then sts
  else
    let f := fun v => out (evalStages { env with exact := true } [] chain (withIntegrator sts k v) [])
    let slope := f 1 - f 0
    if slope = 0 then sts
    else withIntegrator sts k (nodeRound (clampRat (g.coef 3) (g.coef 4) ((target - f 0) / slope)))

/-- Every PID integrator of a branch preloaded, in chain order (R243, R251). -/
def preload (env : StageEnv) (chain : List JStage) (branch : List Nat) (out : List StageOut → Rat) (target : Rat)
    (sts : List (List Rat)) : List (List Rat) :=
  ((List.range chain.length).filter (fun k => branch.contains k)).foldl (preloadOne env chain out target) sts

/-! ### A sample of a loop -/

/-- Samples per second of a loop (Table 11-1). -/
def loopRate : Nat → Nat
  | 0 => 500
  | 3 => 64000
  | _ => 16000

/-- A named source of Jasper, by the model's numbers: 0 FILL_ERR, 1 RATE (Table 11-4), 2 + c telemetry channel c (Table 14-5), 9 the
LATERAL set-point (R252), 10 the measured speed. -/
def namedSource (s : State) (d k : Nat) : Rat :=
  let m := (s.deckAt d).motion
  if k = 0 then m.fillErr
  else if k = 1 then m.rate
  else if k = 9 then ((wrapOffset (deckFormat s d) m.wrap + m.offset : Int) : Rat)
  else if k = 10 then (signed 16 m.measured.toNat : Rat)
  else ((Sparse.get (0 : Int) m.tlm (k - 2) : Int) : Rat)

/-- The value of node n of stage k in a loop's last sample: 0 chain input, 1 output, 2 auxiliary input, then the state values (R238,
JAS_Dd_TRc_SRC.NODE). -/
def Loop.node (p : Loop) (k : Nat) : Nat → Rat
  | 0 => (p.ins.getD k (0, 0)).1
  | 1 => p.outs.getD k 0
  | 2 => (p.ins.getD k (0, 0)).2
  | n + 3 => (p.states.getD k []).getD n 0

/-- The environment of loop l of deck d. In a dealt group loop 0 is that of the first deck (R254). -/
def envOf (s : State) (d l : Nat) : StageEnv :=
  { ts := mkRat 1 (loopRate l), mode := (s.loopAt d l).mode, ramp := (s.loopAt d l).ramp,
    other := fun l' k n => (s.loopAt (if l' = 0 then tableDeck s d else d) l').node k n, source := namedSource s d, limit := none, slewed := none,
    exact := false }

/-- The MODE stage of a chain, where it has one. -/
def modeStage (chain : List JStage) : Option Nat := chain.findIdx? (fun g => g.type == 7)

/-- HANDOVER_TOL of a loop: 1/4,096 of the command range of its SAT stage, TOL times (R251). -/
def handoverTol (s : State) (d l : Nat) (chain : List JStage) : Rat :=
  match chain.find? (fun g => g.type == 5) with
  | some g => (s.fld (Reg.jasHandover d l) Fld.jasHandoverTol : Rat) * mkRat 1 4096 * (g.coef 2 - g.coef 1)
  | none => 0

/-- HANDOVER_TIME of a loop; 0 acts as 1. -/
def handoverTime (s : State) (d l : Nat) : Nat := max 1 (s.fld (Reg.jasHandover d l) Fld.jasHandoverTime)

/-- The output of a chain. -/
def chainOut (l : List StageOut) : Rat := (l.getLast?.map StageOut.y).getD 0

/-- The input of a chain's last stage: the request of a PACE chain, which ends in a SLEW stage (R243, R246). -/
def chainIn (l : List StageOut) : Rat := (l.getLast?.map StageOut.x).getD 0

/-- The output of stage k. -/
def stageOut (k : Nat) (l : List StageOut) : Rat := (l[k]?.map StageOut.y).getD 0

/-- A hand-over ramp from y_h begins where the new output differs from it by more than the tolerance; event 64d + 52 carries the
loop (R243, R251). -/
def rampFrom (s : State) (d l : Nat) (chain : List JStage) (yh new : Rat) : Option (Rat × Nat × Nat) :=
  if handoverTol s d l chain < absRat (new - yh) then some (yh, 1, handoverTime s d l) else none

/-- Event 64d + 52 where a ramp begins (R251). -/
def rampEvent (d l : Nat) (r : Option (Rat × Nat × Nat)) (s : State) : State := if r.isSome then raiseDeck d 52 [word l] s else s

/-- Every loop of a deck has its new chain: event 435; with the last deck the activation's task completes GOOD, and
the activation may be over (R294). -/
def chainsReplaced (d : Nat) (s : State) : State :=
  let s1 := if (List.range 4).all (fun l => (s.loopAt d l).newChain.isNone) then raise 435 [] s else s
  if s1.loops.all (fun e => e.2.newChain.isNone) then
    let s2 := match s1.img.activating with
      | some (n, q, k) =>
        finish n q { status := 0, info2 := word k, info3 := s1.reg Reg.cfgActiveId } { s1 with img := { s1.img with activating := none } }
      | none => s1
    settleActivation s2
  else s1

/-- A chain with coefficient `i` of stage `k` set; a SRC coefficient of a MODE stage also names its node (R242, Table 11-3). -/
def setCoef (chain : List JStage) (k i : Nat) (c : Word × BitVec 5) : List JStage :=
  match chain[k]? with
  | none => chain
  | some g =>
    let n := coefCount g.type
    let l := (g.coefs ++ List.replicate (n - g.coefs.length) (0, 0)).set i c
    let srcs := if g.type = 7 then (g.srcs ++ List.replicate (4 - g.srcs.length) JNode.none).set i (Config.nodeOf c.1) else g.srcs
    chain.set k { g with coefs := l, srcs := srcs }

/-- The chain of a loop with its whole shadow bank in it (R241). -/
def shadowed (p : Loop) : List JStage := p.shadow.foldl (fun c e => setCoef c e.1 e.2.1 e.2.2) p.chain

/-- The chains that wait for a sample of a deck's loops are in force at once, where no sample comes: the link is down (R294). -/
def adoptAtOnce (d : Nat) (s : State) : State :=
  let take := fun (l : Nat) (a : State) =>
    match (a.loopAt d l).newChain with
    | some c => a.putLoop d l { (a.loopAt d l) with
        chain := c, states := [], outs := [], ins := [], limited := [], shadow := [], newChain := none, ramp := none, chainRamp := none, switched := none }
    | none => a
  if (List.range 4).any (fun l => (s.loopAt d l).newChain.isSome) then chainsReplaced d (forEach (List.range 4) take s) else s

/-- A loop takes the chain that waits for its next sample, its integrators preloaded (R243). -/
def adoptChain (d l : Nat) (env0 : StageEnv) (s : State) : State :=
  let p := s.loopAt d l
  match p.newChain with
  | none => s
  | some chain =>
    let env := { env0 with ramp := none }
    let out := if l = 0 then chainIn else chainOut
    let blank := chain.map (fun _ => ([] : List Rat))
    let sts := preload env chain (List.range chain.length) out (if l = 0 then absRat p.lastOut else p.lastOut) blank
    let r := if l = 0 then none else rampFrom s d l chain p.lastOut (out (evalStages env [] chain sts []))
    chainsReplaced d (rampEvent d l r (s.putLoop d l
      { p with chain := chain, states := sts, outs := [], ins := [], limited := [], shadow := [], newChain := none, switched := none, ramp := none, chainRamp := r }))

/-- The source of a loop's MODE stage changes: the incoming branch is preloaded, and a ramp begins where that is not enough (R251). -/
def adoptMode (d l : Nat) (env0 : StageEnv) (s : State) : State :=
  let p := s.loopAt d l
  match p.switched, modeStage p.chain with
  | some y, some k =>
    let env := { env0 with ramp := none }
    let src := ((p.chain.getD k {}).srcs.getD p.mode .none)
    let sts := preload env p.chain (branchOf p.chain (nodeStage k src)) (stageOut k) y p.states
    let r := rampFrom s d l p.chain y (stageOut k (evalStages env p.limited p.chain sts []))
    rampEvent d l r (s.putLoop d l { p with states := sts, switched := none, ramp := r })
  | some _, none => s.putLoop d l { p with switched := none }
  | none, _ => s

/-- The value that a trace buffer records of a stage (JAS_Dd_TRc_SRC.NODE). -/
def tracedValue (l : List StageOut) (k node : Nat) : Rat :=
  match l[k]? with
  | none => 0
  | some o =>
    match node with
    | 0 => o.x
    | 1 => o.y
    | 2 => o.aux
    | n + 3 => o.st.getD n 0

/-- One sample of a traced node enters the buffer (R258). -/
def Trace.take (t : Trace) (v : Rat) (decim : Nat) (ring : Bool) : Trace :=
  let n := t.count + 1
  let t1 := { t with count := n, prev := t.last, last := some v }
  if n % 2 ^ decim ≠ 0 ∨ t.left = some 0 then t1
  else
    let all := t.entries ++ [nodeWord v]
    let kept := if ring && decide (8192 < all.length) then all.drop (all.length - 8192) else all
    { t1 with entries := kept, left := t.left.map (fun x => x - 1) }

/-- The trace buffers of deck d that record a node of loop l take its sample (R258). -/
def sampleTraces (d l : Nat) (outs : List StageOut) (s : State) : State :=
  forEach (List.range 4) (fun c a =>
    let t := a.traceAt d c
    let src := Reg.jasTrSrc d c
    let ctrl := Reg.jasTrCtrl d c
    if t.recording && a.flag ctrl Fld.jasTrCtrlEnable && a.fld src Fld.jasTrSrcLoop == l then
      a.putTrace d c (t.take (tracedValue outs (a.fld src Fld.jasTrSrcStage) (a.fld src Fld.jasTrSrcNode))
        (a.fld ctrl Fld.jasTrCtrlDecim) (a.flag ctrl Fld.jasTrCtrlRing))
    else a) s

/-- One computed sample of loop l of deck d, its stages taking `limit` and `slewed` in place of a LIMIT stage's bounds and a SLEW
stage's output: the values of its stages, and the loop's output (R238, R251). -/
def runLoop (d l : Nat) (limit : Option (Rat × Rat)) (slewed : Option (Rat × List Rat)) (s : State) : List StageOut × Rat × State :=
  let env := fun (a : State) => { envOf a d l with limit := limit, slewed := slewed }
  let s1 := adoptChain d l (env s) s
  let s2 := adoptMode d l (env s1) s1
  let p := s2.loopAt d l
  let outs := evalStages (env s2) p.limited p.chain p.states []
  let y := nodeRound (ramped p.chainRamp (chainOut outs))
  let lims := (List.range outs.length).filterMap (fun k =>
    match outs[k]? with
    | some o => if o.lim = 0 then none else some (k, o.lim)
    | none => none)
  let p1 := { p with states := outs.map StageOut.st, outs := outs.map StageOut.y, ins := outs.map (fun o => (o.x, o.aux)), limited := lims, ramp := nextRamp p.ramp,
                     chainRamp := nextRamp p.chainRamp, lastOut := y }
  (outs, y, sampleTraces d l outs (s2.putLoop d l p1))

/-- Loop l of deck d has a chain, so that its samples give commands: an image is in force (R292). -/
def loopRuns (s : State) (d l : Nat) : Bool := !(s.loopAt d l).chain.isEmpty || (s.loopAt d l).newChain.isSome

/-- The 16-bit command of an output (Table 11-3). -/
def commandOf (y : Rat) : Nat := unsigned 16 (max (-32768) (min 32767 (roundAway y)))

end Sys2Proof.Machine
end

