-- ==== Sys2Proof/Machine/Jasper.lean ====
section
/-! DEFINITION. Jasper's commands: PACE (R244 to R250), the reel loops and LATERAL (R251 to R254), telemetry checks (R255), stops
(R256, R257), coefficients (R240 to R242), trace buffers (R258). -/

namespace Sys2Proof.Machine

/-! ### Samples -/

/-- The control lane of deck d carries records: the link is ACTIVE, or in training from step 4 on, or in FAULT while the deck still makes
its controlled stop (R318, R321). -/
def laneCarries (s : State) (d : Nat) : Bool :=
  linkState s d == 2 || (linkState s d == 1 && decide (4 ≤ (s.deckAt d).trainStep)) || (linkState s d == 3 && (s.deckAt d).motion.stopping)

/-- A sample was replaced while it was pending and is never used (R234). -/
def noteOverrun (d l : Nat) (s : State) : State :=
  let p := s.loopAt d l
  let s1 := (s.putLoop d l { p with overrun := true }).addFld (Reg.jasTiming d) Fld.jasTimingOverrun 1
  if p.overrun then s1 else raiseDeck d 55 [] s1

/-- A sample that was used ends a run of overruns; a late command is counted, and one in time ends the run of late ones (R234, R235). -/
def noteTiming (d l : Nat) (late : Bool) (s : State) : State :=
  let p := s.loopAt d l
  let s1 := s.putLoop d l { p with overrun := false, late := late }
  if late then
    let s2 := s1.addFld (Reg.jasTiming d) Fld.jasTimingLate 1
    if p.late then s2 else raiseDeck d 56 [] s2
  else s1

/-- A mode of loop l: its MODE stage takes another source from the loop's next sample on (R251). -/
def setMode (d l m : Nat) (s : State) : State :=
  let p := s.loopAt d l
  if p.mode = m then s
  else
    let y := match modeStage p.chain with
      | some k => p.outs[k]?
      | none => none
    s.putLoop d l { p with mode := m, switched := y, ramp := none }

/-! ### Telemetry -/

/-- The limits of a telemetry channel: low, high, greatest jump (R255). -/
def channelLimits (s : State) (c : Nat) : Option (Int × Int × Int) :=
  match s.img.inForce with
  | some i => i.limits[c]?
  | none => none

/-- A value of channel c lies within its limits; the jump check is left out while `free` (R255). -/
def acceptable (s : State) (d c : Nat) (v : Int) (free : Bool) : Bool :=
  match channelLimits s c with
  | none => true
  | some (lo, hi, jump) =>
    decide (lo ≤ v) && decide (v ≤ hi) &&
      (free || (match Sparse.find (s.deckAt d).motion.tlm c with
                | some u => decide (v - u ≤ jump) && decide (u - v ≤ jump)
                | none => true))


/-- A chain names the telemetry channel c among its inputs (R238, R316). -/
def usesChannel (chain : List JStage) (c : Nat) : Bool :=
  chain.any (fun g => ([g.x, g.aux] ++ g.srcs).contains (.source (c + 2)))

/-- The jump check on a channel is suspended: a loop that uses it, by Table 14-5 or in its chain, is in SEEK or THREAD (R255). -/
def jumpFree (s : State) (d c : Nat) : Bool :=
  let m := (s.deckAt d).motion
  let uses := fun (l : Nat) => usesChannel (s.loopAt d l).chain c || (l == 3 && c == 0) || (l == 1 && (c == 2 || c == 3)) || (l == 2 && (c == 4 || c == 5))
  (uses 1 && m.modes.1 == 3) || (uses 2 && m.modes.2 == 3) || (uses 3 && !m.follow)

/-- A telemetry value is accepted, or discarded, counted and, where it is the first of a run, reported (R255). -/
def takeTelemetry (d c : Nat) (v : Int) (s : State) : State :=
  let reg := Reg.jasTlmDiscard d
  if acceptable s d c v (jumpFree s d c) then
    let s1 := s.onMotion d (fun m => { m with tlm := Sparse.put m.tlm c v, discards := Sparse.erase m.discards c })
    if s1.fld reg Fld.jasTlmDiscardChannel = c then s1.setFld reg Fld.jasTlmDiscardRun 0 else s1
  else
    let n := Sparse.get 0 (s.deckAt d).motion.discards c + 1
    let s1 := s.onMotion d (fun m => { m with discards := Sparse.put m.discards c n })
    let s2 := ((s1.addFld reg Fld.jasTlmDiscardCount 1).setFld reg Fld.jasTlmDiscardChannel c).setFld reg Fld.jasTlmDiscardRun (satAt 255 n)
    if n = 1 then raiseDeck d 49 [word c] s2 else s2

/-- The last accepted value of a channel (R255). -/
def telemetry (s : State) (d c : Nat) : Int := Sparse.get 0 (s.deckAt d).motion.tlm c

/-! ### Limits -/

/-- VMAX in m/s (JAS_Dd_SPEED_LIMITS). -/
def vMax (s : State) (d : Nat) : Rat :=
  mkRat (max 1000 (min 10000 (s.fld (Reg.jasSpeedLimits d) Fld.jasSpeedLimitsVmax)) : Nat) 1000

/-- VMIN in m/s (JAS_Dd_SPEED_LIMITS). -/
def vMin (s : State) (d : Nat) : Rat :=
  min (vMax s d) (mkRat (max 1000 (s.fld (Reg.jasSpeedLimits d) Fld.jasSpeedLimitsVmin) : Nat) 1000)

/-- A_MAX in m/s² (JAS_Dd_SLEW). -/
def aMax (s : State) (d : Nat) : Rat := mkRat (max 10 (min 1000 (s.fld (Reg.jasSlew d) Fld.jasSlewAMax)) : Nat) 10

/-- J_MAX in m/s³ (JAS_Dd_SLEW). -/
def jMax (s : State) (d : Nat) : Rat := (s.fld (Reg.jasSlew d) Fld.jasSlewJMax : Rat)

/-- STOP_DECEL in m/s² (JAS_Dd_TENSION_WIN). -/
def stopDecel (s : State) (d : Nat) : Rat := (max 10 (min 100 (s.fld (Reg.jasTensionWin d) Fld.jasTensionWinStopDecel)) : Nat)

/-- The speed that CAP allows, in m/s (R25, R246). -/
def capSpeed (s : State) : Rat := mkRat (10 * s.fld Reg.glbSlackStatus Fld.glbSlackStatusCap) 256

/-- Distance in which the tape comes to rest from a speed, in m (Table 11-5, R436). -/
def stoppingDistance (s : State) (d : Nat) (v : Rat) : Rat :=
  let a := aMax s d
  let j := jMax s d
  let w := absRat v
  w * w / (2 * a) + (if j = 0 then 0 else w * a / (2 * j))

/-- GLB_SLACK_STATUS.CAPPING follows whether CAP lies below what PACE requests for any deck; a change raises event 465 (R25). -/
def settleCapping (s : State) : State :=
  let cap := s.decks.any (fun e => decide (capSpeed s < e.2.motion.wants))
  let reg := Reg.glbSlackStatus
  if s.flag reg Fld.glbSlackStatusCapping = cap then s
  else
    let s1 := s.setFld reg Fld.glbSlackStatusCapping (bit cap)
    raise 465 [word (bit cap), word (s1.fld reg Fld.glbSlackStatusCap)] s1

/-! ### PACE -/

/-- Positions of tape that a number of sealed bytes fills: divided by U, times the hand length over its data tricks (R244). -/
def positionsOf (f : Fmt) (bytes : Nat) : Rat := mkRat (bytes * f.hand) (f.userBytes * f.fullHand)

/-- The sealed bytes that an item waiting at a table has still to be packed (R244). -/
def Item.waiting : Item → Nat
  | .block b packed => b.bytes.length - packed
  | _ => 0

/-- The write fill S of deck d (R244). -/
def writeFill (s : State) (d : Nat) : Rat :=
  let k := s.deckAt d
  let td := tableDeck s d
  let packed := ((k.toWrite.getD []) ++ (k.fixed.toList ++ k.redo).filter Trick.ofRound).length + ((k.rounds.filter (fun r => !r.started && !r.keptBack)).map (fun r => r.tricks.length)).sum
  match activePart s d with
  | none => (packed : Rat)
  | some p =>
    let t := s.tableAt td p
    let own := (t.openRound.flatMap (fun h => h.tricks) ++ t.openHand).filter (fun x => x.deck == d)
    positionsOf (deckFmt s d) ((t.items.map Item.waiting).sum) + ((packed + own.length : Nat) : Rat)

/-- The least of a list of numbers, 0 for the empty list. -/
def leastRat (l : List Rat) : Rat := l.tail.foldl min (l.headD 0)

/-- A trick's length in m (R146). -/
def trickMetres (f : Fmt) : Rat := mkRat f.trickBits 40000000

/-- The state of PACE, or the one that ordered the reversal (Table 11-5). -/
def Motion.state (m : Motion) : Nat := if m.pace = 6 then m.resume else m.pace

/-- Metres from tape position `a` to `b`, positive towards EOT (R175). -/
def metresTo (a b : Word) : Rat := mkRat (signed 32 (b - a).toNat) 10000

/-- The tape can come to rest from speed v within x metres under A_MAX and J_MAX: through two jerk phases and one at A_MAX between them, or
through the jerk phases alone where they do not reach A_MAX (R436). -/
def restsWithin (s : State) (d : Nat) (v x : Rat) : Bool :=
  let a := aMax s d
  let j := jMax s d
  if j = 0 ∨ a * a ≤ v * j then decide (stoppingDistance s d v ≤ x) else decide (v * v * v ≤ x * x * j)

/-- The whole part of a number that is not negative. -/
def floorNat (x : Rat) : Nat := x.num.toNat / x.den

/-- The greatest of the numbers from lo to hi − 1 that satisfies q, which holds below some number and not from it on; lo where none does. -/
def greatestBelow (q : Nat → Bool) : Nat → Nat → Nat → Nat
  | 0, lo, _ => lo
  | fuel + 1, lo, hi =>
    let m := (lo + hi) / 2
    if hi ≤ lo + 1 then lo else if q m then greatestBelow q fuel m hi else greatestBelow q fuel lo m

/-- Request of a move over the distance `rem` that is left: the greatest speed up to VMAX from which the tape still comes to rest there, the way
to the next sample counted in (R436). DESIGN CHOICE (log entry 127): the request is in whole mm/s. -/
def trajectory (s : State) (d : Nat) (rem : Rat) : Rat :=
  let left := absRat rem - absRat (s.deckAt d).motion.v / 500
  let speed := greatestBelow (fun n => restsWithin s d (mkRat n 1000) left) 14 0 (floorNat (1000 * vMax s d) + 1)
  (signRat rem : Rat) * mkRat speed 1000

/-- What is left of the way to the pre-roll point in START, from which `speed` is reached at START_TPC; none once the tape has been there (Table
11-5). -/
def toPreroll (s : State) (d : Nat) (dir speed : Rat) : Option Rat :=
  let k := s.deckAt d
  let along := dir * metresTo k.motion.tpc k.startTpc
  let pre := stoppingDistance s d speed + 32 * trickMetres (deckFmt s d)
  if k.motion.prerolled || decide (pre ≤ along) then none else some (dir * (along - pre))

/-- Speed that a retry pass sets, in m/s; none for the settings of the first reading (Table 09-1). -/
def retrySpeed (k : Deck) : Option Rat :=
  let v := (retrySettings k.retry).1
  if v = 0 then none else some (mkRat v 1000)

/-- FILL_ERR and RATE of a PACE sample (R244, R245), where `rate` is what is measured, or of a move while the deck repositions. -/
def paceSources (s : State) (d : Nat) (fill rate : Rat) (move : Option Rat) : Rat × Rat :=
  let k := s.deckAt d
  let perMetre := 1 / trickMetres (deckFmt s d)
  match move with
  | some v => (0, absRat v * perMetre)
  | none =>
    if k.mode = 2 then
      let err := (s.fld (Reg.jasPaceRef d) Fld.jasPaceRefBRef : Rat) - fill
      match retrySpeed k with
      | some v => (min 0 err, v * perMetre)
      | none => (err, rate)
    else (fill - (s.fld (Reg.jasPaceRef d) Fld.jasPaceRefSRef : Rat), rate)

/-- LO and HI of the LIMIT stage: where CAP lies below VMIN the limit of R25 holds (R26), and a deck that repositions runs at up to VMAX (R246). -/
def paceLimits (s : State) (d : Nat) (moves : Bool) : Rat × Rat :=
  let hi := min (vMax s d) (capSpeed s)
  if moves then (0, vMax s d) else (min (vMin s d) hi, hi)

/-- The output and state of PACE's SLEW stage, which is evaluated at the SUPPLY samples (R246). -/
def slewed (s : State) (d : Nat) : Rat × List Rat :=
  let m := (s.deckAt d).motion
  ((s.loopAt d 0).outs.getLast?.getD m.v, [m.v, m.a])

/-- The start speed: what PACE would request with the present fill and rate (Table 11-5). -/
def startSpeed (s : State) (d : Nat) (src : Rat × Rat) : Rat :=
  let p := s.loopAt d 0
  let env := { envOf s d 0 with limit := some (paceLimits s d false), slewed := some (slewed s d)
                                source := fun k => if k = 0 then src.1 else if k = 1 then src.2 else namedSource s d k }
  min (capSpeed s) (chainIn (evalStages env p.limited p.chain p.states []))

/-- The fill of PACE: S, the smallest of a group's decks, while writing, B while reading (R244, R245, R254). -/
def paceFill (s : State) (d : Nat) : Rat :=
  if (s.deckAt d).mode = 2 then ((s.deckAt d).buffer.length : Rat) else leastRat ((groupOf s d).map (writeFill s))

/-- The other decks of a group have no PACE samples of their own: a new chain of theirs is in force with the first deck's (R243, R254). -/
def followPace (d x : Nat) (s : State) : State :=
  let p := s.loopAt x 0
  match p.newChain with
  | some c => if x = d then s else chainsReplaced x (s.putLoop x 0 { p with chain := c, states := [], outs := [], ins := [], limited := [], shadow := [], newChain := none })
  | none => s

/-- A computed PACE sample of deck d, whose request every deck of its group follows (R244 to R246, R254). The limit of R25 holds whatever the
chain and its bounds give. DESIGN CHOICE (log entry 105): what PACE requests, for CAPPING, is the input of the stage that limits. -/
def computePace (d : Nat) (s : State) : State :=
  let k := s.deckAt d
  let fill := paceFill s d
  let rate := if k.mode = 2 then ((500 * k.motion.delivered : Nat) : Rat) else 500 * positionsOf (deckFmt s d) k.motion.arrived
  let dir : Rat := if towardsEot k.motion.wrap then 1 else -1
  let st := k.motion.state
  let start := if st = 1 then toPreroll s d dir (startSpeed s d (paceSources s d fill rate none)) else none
  let move := match k.motion.target with
    | some t => some (trajectory s d (metresTo k.motion.tpc t))
    | none => start.map (trajectory s d)
  let src := paceSources s d fill rate move
  let s1 := s.onMotion d (fun m => { m with fillErr := src.1, rate := src.2, arrived := 0, delivered := 0, supplyCount := 0 })
  let reg := Reg.jasFill d
  let s2 := (s1.setFld reg Fld.jasFillRead (bit (k.mode == 2))).setFld reg Fld.jasFillFill (satAt 0xFFFFFF (floorNat fill))
  let r := runLoop d 0 (some (paceLimits s2 d move.isSome)) (some (slewed s2 d)) s2
  let speed := chainIn r.1
  let wanted := match r.1.find? (fun o => o.lim ≠ 0) with
    | some o => o.x
    | none => speed
  let running := move.isNone && (st == 1 || st == 2 || (st == 3 && k.mode != 0))
  let req := match move with
    | some v => (signRat v : Rat) * min (vMax s d) speed
    | none => if running then dir * min (capSpeed s) speed else 0
  settleCapping (forEach (groupOf s d) (fun x a =>
    followPace d x (a.onMotion x (fun m =>
      { m with request := nodeRound req, capped := decide (capSpeed s < vMax s d), wants := if running then wanted else 0
               prerolled := st == 1 && k.motion.target.isNone && start.isNone }))) r.2.2)

/-- PACE_SAMPLE: due on every 32nd SUPPLY sample (R233); in a dealt group deck 0's drives every deck (R254). -/
def opPaceSample (d : Nat) (timing : SampleTiming) (s : State) : State :=
  if tableDeck s d = d ∧ (s.deckAt d).motion.supplyCount = 32 ∧ loopRuns s d 0 = true then
    match timing with
    | .replaced => noteOverrun d 0 (s.onMotion d (fun m => { m with supplyCount := 0, arrived := 0, delivered := 0 }))
    | .onTime => noteTiming d 0 false (computePace d s)
    | .late => noteTiming d 0 true (computePace d s)
  else s

/-! ### The reels -/

/-- The direction in which the reels' roles stand: 1 towards EOT, where the takeup reel is in VELOCITY, −1 towards BOT, 0 where neither
is (R251). -/
def roleSign (m : Motion) : Int := if m.modes.2 = 0 then 1 else if m.modes.1 = 0 then -1 else 0

/-- The modes of the reels for a direction of motion (R251). -/
def modesFor (dir : Int) : Nat × Nat := if dir < 0 then (0, 1) else (1, 0)

/-- The deck loads a cartridge, so its reels are in THREAD (R251). -/
def threading (k : Deck) : Bool :=
  match k.admin with
  | some (.load _ _ _) => true
  | _ => false

/-- The set-point has the sign against which the reels' roles stand: the tape is to go to rest and the roles are to be exchanged first (R249). -/
def Motion.opposed (m : Motion) : Bool := decide (roleSign m ≠ 0) && decide (signRat m.request = -(roleSign m))

/-- The modes of the reels after a SLEW evaluation: roles once taken stand until the tape is at rest (R249, R251, R256). -/
def reelModes (k : Deck) (m : Motion) : Nat × Nat :=
  if m.stopping || m.pace == 6 || m.opposed then m.modes
  else if threading k && m.v = 0 then (3, 3)
  else if m.v = 0 ∧ m.a = 0 ∧ m.request = 0 then (2, 2)
  else if roleSign m = 0 then modesFor (signRat (if m.v = 0 then m.request else m.v))
  else m.modes

/-- What the tape's coming to rest means for PACE: the end of DRAIN, or the wait that a reversal begins with (R249, Table 11-5); `to'` is the state
in which it goes to where tape is wanted. -/
def atRest (k : Deck) (to' : Nat) (m : Motion) : Motion :=
  if m.stopping ∨ m.pace = 6 ∨ ¬(m.v = 0 ∧ m.a = 0) then m
  else if m.opposed then { m with pace := 6, resume := m.pace, tensionRun := 0 }
  else if m.pace = 3 ∧ k.mode = 0 then
    match k.wanted with
    | some t => { m with pace := to', target := some t.2 }
    | none => { m with pace := 0 }
  else m

/-- A reversal ends where the set-point returns to the old sign before the roles are exchanged (R249). -/
def endReversal (m : Motion) : Motion := if m.pace = 6 ∧ m.opposed = false then { m with pace := m.resume } else m

/-- What one evaluation of the SLEW stage means for a deck of the group (R249, R251): its speed and acceleration, the state of PACE, the reels'
modes. -/
def followSlew (va : List Rat) (x : Nat) (s : State) : State :=
  s.onDeck x (fun k =>
    let m := atRest k (wantedState s x) { endReversal k.motion with v := va.getD 0 0, a := va.getD 1 0 }
    { k with motion := { m with modes := reelModes k m } })

/-- The SLEW stage of PACE is evaluated for one SUPPLY sample: of the first deck of a group, for every deck of it (R246, R247, R249, R254, R256).
Against the sign of the reels' roles the tape goes to rest first. Its output and its state are each rounded once from the exact result (R237). -/
def slewTape (d : Nat) (s : State) : State :=
  let ts := mkRat 1 16000
  let m := endReversal (s.deckAt d).motion
  let target := if m.opposed then 0 else m.request
  let r := if m.stopping then slewStep (stopDecel s d) 0 ts 0 m.v m.a else if m.pace = 6 then (0, 0) else slewStep (aMax s d) (jMax s d) ts target m.v m.a
  let p := s.loopAt d 0
  let last := p.outs.length - 1
  let lim := signRat (if r.1 < 0 ∨ target < 0 then r.1 - target else target - r.1)
  let p1 := if p.outs.isEmpty then p else
    { p with outs := p.outs.set last (nodeRound r.1), states := p.states.set last (stateRound [r.1, r.2])
             limited := p.limited.filter (fun e => e.1 != last) ++ (if lim = 0 then [] else [(last, lim)]) }
  (forEach (groupOf s d) (followSlew (stateRound [r.1, r.2])) s).putLoop d 0 p1

/-- A tension sample lies within the reversal window, or the run of those that do ends (R249, R254). -/
def noteTension (d : Nat) (v : Int) (s : State) : State :=
  let reg := Reg.jasTensionWin (tableDeck s d)
  let ok := decide ((s.fld reg Fld.jasTensionWinLo : Int) ≤ v) && decide (v ≤ (s.fld reg Fld.jasTensionWinHi : Int))
  s.onMotion d (fun m => { m with tensionRun := if ok then satAt 16 (m.tensionRun + 1) else 0 })

/-- Measured speed from the supply reel's encoder (JAS_Dd_SPEED.ACTUAL; log entry 11). -/
def noteCount (d : Nat) (takeup : Bool) (s : State) : State :=
  s.onMotion d (fun m =>
    if takeup then { m with counts := (m.counts.1, word (unsigned 32 (Sparse.get 0 m.tlm 4))) }
    else
      let c := word (unsigned 32 (Sparse.get 0 m.tlm 2))
      { m with counts := (c, m.counts.2), measured := Config.measuredSpeed m.counts.1 c })

/-- The telemetry of a REEL record (R255, Table 14-5). -/
def reelTelemetry (d : Nat) (takeup : Bool) (count : Word) (tension : BitVec 16) (s : State) : State :=
  let c := if takeup then 4 else 2
  let s1 := takeTelemetry d (c + 1) (signed 16 tension.toNat) (takeTelemetry d c count.toNat s)
  noteCount d takeup (noteTension d (telemetry s1 d (c + 1)) s1)

/-- A computed sample of a reel loop, its command sent as a REEL_CMD record (R233, R315). -/
def computeReel (d : Nat) (counter : Byte) (takeup : Bool) (count : Word) (tension : BitVec 16) (s : State) : State :=
  let l := if takeup then 2 else 1
  let s1 := reelTelemetry d takeup count tension s
  let s2 := if takeup then s1
    else (if tableDeck s1 d = d && loopRuns s1 d 0 then slewTape d s1 else s1).onMotion d (fun m => { m with supplyCount := min 32 (m.supplyCount + 1) })
  let modes := (s2.deckAt d).motion.modes
  let s3 := setMode d l (if takeup then modes.2 else modes.1) s2
  if loopRuns s3 d l then
    let r := runLoop d l none none s3
    sendRecord d ([0x82, counter, byte (bit takeup), 0] ++ be 2 (commandOf r.2.1)) r.2.2
  else s3

/-- REEL_RECORD: a sample of the SUPPLY or TAKEUP loop (R233). -/
def opReelRecord (d : Nat) (counter : Byte) (takeup : Bool) (count : Word) (tension : BitVec 16) (timing : SampleTiming) (s : State) : State :=
  let l := if takeup then 2 else 1
  if laneCarries s d then
    match timing with
    | .replaced => noteOverrun d l s
    | .onTime => noteTiming d l false (computeReel d counter takeup count tension s)
    | .late => noteTiming d l true (computeReel d counter takeup count tension s)
  else s

/-- REVERSAL_TENSION_MET: the window has been met for 16 reel samples on every deck of the group; the reels exchange roles and the tape
takes its new set-point (R249 to R251). -/
def opReversalTensionMet (d : Nat) (s : State) : State :=
  let g := groupOf s d
  if (s.deckAt d).motion.pace = 6 ∧ g.all (fun x => (s.deckAt x).motion.pace == 6 && (s.deckAt x).motion.tensionRun == 16) = true then
    forEach g (fun x a => a.onMotion x (fun m => { m with pace := m.resume, modes := modesFor (signRat m.request) })) s
  else s

/-- REVERSAL_TIMEOUT: the window was not met within WAIT_MS: event 64d + 53 and a controlled stop (R250). -/
def opReversalTimeout (d : Nat) (s : State) : State :=
  if (s.deckAt d).motion.pace = 6 then controlledStop d 9 1 (raiseDeck d 53 [] s) else s

/-! ### LATERAL -/

/-- The position error of LATERAL, in 1/1,024 of the track pitch: the head's offset from the wrap centre less the retry offset (R252,
Table 14-3). -/
def positionError (s : State) (d : Nat) : Int := telemetry s d 0 - 32 * (s.deckAt d).motion.offset

/-- The magnitude of an error is at most a tolerance in 1/64 of the track pitch (Table 13-3). -/
def withinTol (e : Int) (tol : Nat) : Bool := decide (e.natAbs ≤ 16 * tol)

/-- What the position error means for SEEK, FOLLOW and the lock (R252, R253). DEDUCED (log entry 124): an error beyond LOCK_TOL ends the lock where
GATE is not asserted; while it is, the lock holds up to OFFTRACK_TOL. -/
def followWrap (d : Nat) (s : State) : State :=
  let ok := withinTol (positionError s d) (deckFmt s d).lockTol
  s.onMotion d (fun m => { m with follow := m.follow || ok, locked := m.locked && (ok || m.gate), lockRun := if ok then satAt 64 (m.lockRun + 1) else 0 })

/-- The error is beyond OFFTRACK_TOL while GATE is asserted: GATE clears, writing stops until LATERAL is locked again (R253). -/
def offTrack (d : Nat) (s : State) : State :=
  if (s.deckAt d).motion.gate && !withinTol (positionError s d) (deckFmt s d).offTol then
    interruptWriting d (raiseDeck d 54 [] (s.onMotion d (fun m => { m with gate := false, gateOff := true, locked := false, lockRun := 0 })))
  else s

/-- A computed sample of LATERAL, its command sent as a LATERAL record (R233, R315). -/
def computeLateral (d : Nat) (counter : Byte) (posErr : BitVec 24) (tpc : Word) (s : State) : State :=
  let s2 := takeTelemetry d 0 (signed 24 posErr.toNat) (takeTelemetry d 1 tpc.toNat s)
  let s3 := s2.onMotion d (fun m => { m with tpc := word (unsigned 32 (Sparse.get (0 : Int) m.tlm 1)) })
  let s4 := offTrack d (followWrap d s3)
  let s5 := setMode d 3 (bit (s4.deckAt d).motion.follow) s4
  if loopRuns s5 d 3 then
    let r := runLoop d 3 none none s5
    sendRecord d ([0x81, counter] ++ be 2 (commandOf r.2.1)) r.2.2
  else s5

/-- SERVO_RECORD: a sample of the LATERAL loop (R233). -/
def opServoRecord (d : Nat) (counter : Byte) (posErr : BitVec 24) (tpc : Word) (timing : SampleTiming) (s : State) : State :=
  if laneCarries s d then
    match timing with
    | .replaced => noteOverrun d 3 s
    | .onTime => noteTiming d 3 false (computeLateral d counter posErr tpc s)
    | .late => noteTiming d 3 true (computeLateral d counter posErr tpc s)
  else s

/-- Writing that was interrupted goes on with a new write stream (R172, R253). -/
def resumeWriting (d : Nat) (s : State) : State :=
  let k := s.deckAt d
  if k.streamOpen && (k.motion.gateOff || (k.needRunIn && k.resumeAt.isSome && !k.tape.isEmpty)) then
    sendMode d 1 k.profile (nextColumn k) (writePoint k).2 (s.onMotion d (fun m => { m with gateOff := false }))
  else s.onMotion d (fun m => { m with gateOff := false })

/-- LATERAL_LOCK: the error has stayed within LOCK_TOL for 64 samples: LATERAL is locked, and once every deck of the group is, the writing that
an off-track had stopped resumes under R172 (R253, R254). -/
def opLateralLock (d : Nat) (s : State) : State :=
  let k := s.deckAt d
  if k.motion.lockRun = 64 ∧ k.motion.locked = false then
    let s1 := s.onMotion d (fun m => { m with locked := true })
    if groupLocked s1 d then forEach (groupOf s1 d) resumeWriting s1 else s1
  else s

/-! ### Stops -/

/-- TELEMETRY_DISCARD_LIMIT: eight consecutive discards on one channel: event 64d + 48, MOTOR_EN falls and the deck stops as for islands
14 to 17 (R255, Table 01-4). -/
def opTelemetryDiscardLimit (d : Nat) (s : State) : State :=
  let m := (s.deckAt d).motion
  if m.discards.any (fun e => decide (8 ≤ e.2)) && !m.motorFault then
    controlledStop d 5 1 (raiseDeck d 48 [] (motorOff d (s.onMotion d (fun m => { m with motorFault := true }))))
  else s

/-- JAS_STOP_REQUEST: JAS_Dd_CONTROL.STOP is set and the deck makes a controlled stop (R256); on a deck already stopped it is complete. -/
def opJasStopRequest (d : Nat) (s : State) : State :=
  let s1 := controlledStop d 0 1 s
  s1.setFld (Reg.jasControl d) Fld.jasControlStop (bit (s1.deckAt d).motion.stopping)

/-- DECK_ESTOP: DECK_ESTOP_N low for 1 µs: event 64d + 51 and a controlled stop (R257). -/
def opDeckEstop (d : Nat) (s : State) : State :=
  if (s.deckAt d).estop then s else controlledStop d 2 1 (raiseDeck d 51 [] (s.onDeck d (fun k => { k with estop := true })))

/-- DECK_ESTOP_RELEASED: the pin returns high; the deck stays stopped until a DECK reset (R257). -/
def opDeckEstopReleased (d : Nat) (s : State) : State := s.onDeck d (fun k => { k with estop := false })

/-! ### Coefficients -/


/-- A coefficient that may be committed under HOLD only: A1 and A2 of a BIQUAD, SRC of a MODE stage (R242). -/
def holdOnly (type i : Nat) : Bool := (type == 2 && decide (3 ≤ i)) || type == 7

/-- A commit is refused: RESULT 2 and event 64d + 58 (R242). -/
def refuseCommit (d : Nat) (s : State) : State := raiseDeck d 58 [] (s.setFld (Reg.jasCoefShift d) Fld.jasCoefShiftResult 2)

/-- COEF_COMMIT: the staged mantissa and the shift written are committed together, to the shadow bank under HOLD, or refused (R240 to
R242). -/
def opCoefCommit (d : Nat) (v : Word) (s : State) : State :=
  let sel := Reg.jasCoefSel d
  let reg := Reg.jasCoefShift d
  let l := s.fld sel Fld.jasCoefSelLoop
  let k := s.fld sel Fld.jasCoefSelStage
  let i := s.fld sel Fld.jasCoefSelIndex
  let c : Word × BitVec 5 := (s.reg (Reg.jasCoefMant d), BitVec.ofNat 5 v.toNat)
  let p := s.loopAt d l
  match p.chain[k]? with
  | none => refuseCommit d s
  | some g =>
    if coefCount g.type ≤ i then refuseCommit d s
    else
      let s0 := s.setFld reg Fld.jasCoefShiftShift v.toNat
      if bitAt (s.fld (Reg.jasControl d) Fld.jasControlHold) l then
        let sh := p.shadow.filter (fun e => !(e.1 == k && e.2.1 == i)) ++ [(k, i, c.1, c.2)]
        (s0.putLoop d l { p with shadow := sh }).setFld reg Fld.jasCoefShiftResult 1
      else if holdOnly g.type i then refuseCommit d s
      else (s0.putLoop d l { p with chain := setCoef p.chain k i c }).setFld reg Fld.jasCoefShiftResult 0

/-- The whole shadow bank of a loop becomes active (R241). -/
def takeShadow (d l : Nat) (s : State) : State :=
  let p := s.loopAt d l
  s.putLoop d l { p with chain := shadowed p, shadow := [] }

/-- HOLD_WRITE: JAS_Dd_CONTROL.HOLD is written; a loop whose bit is cleared takes its shadow bank (R241). -/
def opHoldWrite (d : Nat) (hold : Nat) (s : State) : State :=
  let reg := Reg.jasControl d
  let old := s.fld reg Fld.jasControlHold
  let freed := (List.range 4).filter (fun l => bitAt old l && !bitAt hold l)
  forEach freed (takeShadow d) (s.setFld reg Fld.jasControlHold hold)

/-! ### Trace buffers -/

/-- Trace registers answer: debug level D1 or higher (R258). -/
def tracesOpen (s : State) : Bool := decide (1 ≤ s.sec.debug)

/-- TRACE_ARM: the buffer is emptied and records; below D1 the write is discarded with a refused-write event (R258). -/
def opTraceArm (d c : Nat) (s : State) : State :=
  let ctrl := Reg.jasTrCtrl d c
  if tracesOpen s then
    let ring := s.flag ctrl Fld.jasTrCtrlRing
    let t : Trace := { entries := [], recording := true, left := if ring then none else some 8192, count := 0, last := none }
    ((s.putTrace d c t).setFld ctrl Fld.jasTrCtrlArm 1).setReg (Reg.jasTrStatus d c) 0
  else refuseWrite ctrl s

/-- The trigger of a buffer: recording goes on until 8,192 − PRE entries have been taken, DBG_TRIG_OUT pulses, event 64d + 57 is raised and
the time is latched (R258). -/
def trigger (d c : Nat) (stamp : Nat) (s : State) : State :=
  let t := s.traceAt d c
  let ctrl := Reg.jasTrCtrl d c
  let left := if s.flag ctrl Fld.jasTrCtrlRing then some (8192 - s.fld ctrl Fld.jasTrCtrlPre) else t.left
  let s1 := (s.putTrace d c { t with left := left }).setFld (Reg.jasTrStatus d c) Fld.jasTrStatusTriggered 1
  emit .trigOut (raiseDeck d 57 [] (s1.setPair (Reg.jasTrStampLo d c) (Reg.jasTrStampHi d c) stamp))

/-- The buffer is enabled and armed, and has not been triggered since (R258). -/
def awaitsTrigger (s : State) (d c : Nat) : Bool :=
  (s.traceAt d c).recording && s.flag (Reg.jasTrCtrl d c) Fld.jasTrCtrlEnable && !s.flag (Reg.jasTrStatus d c) Fld.jasTrStatusTriggered

/-- The island 25 time of a trigger by software; it stands still from a fault of that island to its recovery (R258, Table 01-4). -/
def traceTime (s : State) : Nat := (Config.islandTime (if s.pwr.recovering.contains 25 then s.pwr.stopTick else s.tick)).toNat

/-- TRACE_FIRE: a software trigger; below D1 the write is discarded with a refused-write event (R258). -/
def opTraceFire (d c : Nat) (s : State) : State :=
  if tracesOpen s then (if awaitsTrigger s d c then trigger d c (traceTime s) s.ticked else s)
  else refuseWrite (Reg.jasTrTrig d c) s

/-- The traced node has crossed LEVEL between its last two samples (R258). -/
def crossed (s : State) (d c : Nat) (up : Bool) : Bool :=
  let t := s.traceAt d c
  let v := nodeVal (s.reg (Reg.jasTrLevel d c))
  match t.prev, t.last with
  | some a, some b => if up then decide (a < v) && decide (v ≤ b) else decide (v < a) && decide (b ≤ v)
  | _, _ => false

/-- The trigger source that a buffer is set to has come (JAS_Dd_TRc_TRIG). -/
def sourceMatches (s : State) (d c : Nat) (src : TraceSource) : Bool :=
  let reg := Reg.jasTrTrig d c
  let n := s.fld reg Fld.jasTrTrigSource
  match src with
  | .level up => n == (if up then 1 else 2) && crossed s d c up
  | .pin => n == 3
  | .event e => n == 4 && s.fld reg Fld.jasTrTrigEvent == e.val
  | .buffer o => n == 5 && s.fld reg Fld.jasTrTrigOther == o.val && s.flag (Reg.jasTrStatus d o.val) Fld.jasTrStatusTriggered

/-- TRACE_TRIGGER: the source that the buffer is set to triggers it (R258). -/
def opTraceTrigger (d c : Nat) (src : TraceSource) (stamp : BitVec 64) (s : State) : State :=
  if awaitsTrigger s d c && sourceMatches s d c src then trigger d c stamp.toNat s else s

/-- TRACE_DONE: the entries after the trigger have been taken, or a one-shot buffer is full: DONE, and recording ends (R258). -/
def opTraceDone (d c : Nat) (s : State) : State :=
  let t := s.traceAt d c
  if t.recording ∧ t.left = some 0 then
    ((s.putTrace d c { t with recording := false, left := none }).setFld (Reg.jasTrStatus d c) Fld.jasTrStatusDone 1).setFld
      (Reg.jasTrCtrl d c) Fld.jasTrCtrlArm 0
  else s

/-- TRACE_READ: the entry at CURSOR is returned and CURSOR moves on; 0 at or past COUNT, and below D1 (R258). -/
def opTraceRead (d c : Nat) (s : State) : State :=
  let st := Reg.jasTrStatus d c
  let port := Reg.jasTrData d c
  if tracesOpen s then
    let i := s.fld st Fld.jasTrStatusCursor
    emit (.read port ((s.traceAt d c).entries.getD i 0)) (s.setFld st Fld.jasTrStatusCursor (i + 1))
  else emit (.read port 0) s

/-! ### The commands -/

/-- PACE_SAMPLE (R233, R244 to R246, R254). -/
def execPaceSample (d : Fin 4) (timing : SampleTiming) (s : State) : Host.Outcome State Fault Refusal := run (opPaceSample d.val timing) s

/-- SERVO_RECORD (R233 to R235, R252, R253, R255). -/
def execServoRecord (d : Fin 4) (counter : Byte) (posErr : BitVec 24) (tpc : Word) (_qual : Byte) (_locked _towardsEot : Bool) (timing : SampleTiming)
    (s : State) : Host.Outcome State Fault Refusal := run (opServoRecord d.val counter posErr tpc timing) s

/-- LATERAL_LOCK (R253). -/
def execLateralLock (d : Fin 4) (s : State) : Host.Outcome State Fault Refusal := run (opLateralLock d.val) s

/-- REEL_RECORD (R233 to R235, R246, R247, R249, R251, R255). -/
def execReelRecord (d : Fin 4) (counter : Byte) (takeup : Bool) (count : Word) (tension _current : BitVec 16) (timing : SampleTiming) (s : State) :
    Host.Outcome State Fault Refusal := run (opReelRecord d.val counter takeup count tension timing) s

/-- TELEMETRY_DISCARD_LIMIT (R255). -/
def execTelemetryDiscardLimit (d : Fin 4) (s : State) : Host.Outcome State Fault Refusal := run (opTelemetryDiscardLimit d.val) s

/-- REVERSAL_TENSION_MET (R249 to R251). -/
def execReversalTensionMet (d : Fin 4) (s : State) : Host.Outcome State Fault Refusal := run (opReversalTensionMet d.val) s

/-- REVERSAL_TIMEOUT (R250). -/
def execReversalTimeout (d : Fin 4) (s : State) : Host.Outcome State Fault Refusal := run (opReversalTimeout d.val) s

/-- COEF_COMMIT (R240 to R242). -/
def execCoefCommit (d : Fin 4) (v : Word) (s : State) : Host.Outcome State Fault Refusal := run (opCoefCommit d.val v) s

/-- HOLD_WRITE (R241). -/
def execHoldWrite (d : Fin 4) (hold : BitVec 4) (s : State) : Host.Outcome State Fault Refusal := run (opHoldWrite d.val hold.toNat) s

/-- JAS_STOP_REQUEST (R256). -/
def execJasStopRequest (d : Fin 4) (s : State) : Host.Outcome State Fault Refusal := run (opJasStopRequest d.val) s

/-- DECK_ESTOP (R257). -/
def execDeckEstop (d : Fin 4) (s : State) : Host.Outcome State Fault Refusal := run (opDeckEstop d.val) s

/-- DECK_ESTOP_RELEASED (R257). -/
def execDeckEstopReleased (d : Fin 4) (s : State) : Host.Outcome State Fault Refusal := run (opDeckEstopReleased d.val) s

/-- TRACE_ARM (R258). -/
def execTraceArm (d c : Fin 4) (s : State) : Host.Outcome State Fault Refusal := run (opTraceArm d.val c.val) s

/-- TRACE_FIRE (R258). -/
def execTraceFire (d c : Fin 4) (s : State) : Host.Outcome State Fault Refusal := run (opTraceFire d.val c.val) s

/-- TRACE_TRIGGER (R258). -/
def execTraceTrigger (d c : Fin 4) (source : TraceSource) (stamp : BitVec 64) (s : State) : Host.Outcome State Fault Refusal :=
  run (opTraceTrigger d.val c.val source stamp) s

/-- TRACE_DONE (R258). -/
def execTraceDone (d c : Fin 4) (s : State) : Host.Outcome State Fault Refusal := run (opTraceDone d.val c.val) s

/-- TRACE_READ (R258). -/
def execTraceRead (d c : Fin 4) (s : State) : Host.Outcome State Fault Refusal := run (opTraceRead d.val c.val) s

end Sys2Proof.Machine
end

