-- ==== Sys2Proof/Machine/Memory.lean ====
section
/-! DEFINITION. Regions, pools and host chips (R264 to R274), the window (R274), fill (R268), corrections, hard faults and uncorrectable
reads (R276 to R280), the Polisher (R281), the stacks' own reports (R262, R263). -/

namespace Sys2Proof.Machine

/-! ### Error completions -/

/-- An error completion is counted with its offset, and event 265 raised (R334). -/
def countMmioError (off : Nat) (s : State) : State :=
  raise 265 [] ((s.addFld Reg.lnkMmioErr Fld.lnkMmioErrCount 1).setFld Reg.lnkMmioErr Fld.lnkMmioErrOffset off)

/-- An access to the window is answered with an error completion (R274, R334). -/
def refuseWindow (off : Nat) (s : State) : State := countMmioError off (emit (.portError off) s)

/-! ### The stacks -/

/-- Every deck makes a controlled stop (Table 01-4). -/
def stopAll (b cause : Nat) (s : State) : State :=
  forEach (List.range 4) (controlledStop · b cause) s

/-- HBM_CATTRIP: commands to the stack stop, event 378, and the action of islands 4 and 5: every deck stops, with deferred errors of cause
4 (R262, Table 01-4, Table 02-9). -/
def opHbmCattrip (k : Nat) (s : State) : State :=
  let s1 := { s with shoe := { s.shoe with tripped := k :: s.shoe.tripped } }.setFld (Reg.micHbmStatus k) Fld.micHbmStatusCattrip 1
  if s.shoe.tripped.contains k then s.setFld (Reg.micHbmStatus k) Fld.micHbmStatusCattrip 1 else stopAll 6 4 (raise 378 [] s1)

/-- HBM_ECC_POLL: the stack's corrected count and temperature are read (R262, R263); not while it is untrained, unpowered or under HBMs_1500
(R410). -/
def opHbmEccPoll (k corrected temp : Nat) (s : State) : State :=
  let reg := Reg.micHbmStatus k
  if s.flag reg Fld.micHbmStatusTrained && decide (s.pwr.state < 3) && !s.shoe.tripped.contains k && s.tap.ir.toNat != 0x10 + k then
    let hot := bit (decide (85 < temp))
    let was := s.fld reg Fld.micHbmStatusHot
    let s1 := ((s.addFld reg Fld.micHbmStatusEcc corrected).setFld reg Fld.micHbmStatusTemp temp).setFld reg Fld.micHbmStatusHot hot
    let s2 := if corrected = 0 then s1 else raise 376 [] s1
    if was = hot then s2 else raise 381 [] s2
  else s

/-! ### Regions -/

/-- The bits of MIC_REGION_CFG. -/
def regionBits (v : Word) : Word :=
  putBits (putBits (putBits 0 Fld.micRegionCfgEnable (getBits v Fld.micRegionCfgEnable)) Fld.micRegionCfgCode (getBits v Fld.micRegionCfgCode))
    Fld.micRegionCfgSize (getBits v Fld.micRegionCfgSize)

/-- Units that an enabled region takes (R264). -/
def regionUnits (w : Word) : Nat := if getBits w Fld.micRegionCfgEnable = 1 then getBits w Fld.micRegionCfgSize else 0

/-- A configuration of region r of stack k keeps R264: a size of 1 to 384 units where it is enabled, and no more units in all than the
trained stack has (R264, R266). -/
def regionFits (s : State) (k r : Nat) (w : Word) : Bool :=
  let others := (((List.range 16).filter (fun i => i != r)).map (fun i => regionUnits (regionCfg s k i))).sum
  getBits w Fld.micRegionCfgEnable == 0 ||
    (s.flag (Reg.micHbmStatus k) Fld.micHbmStatusTrained && decide (1 ≤ getBits w Fld.micRegionCfgSize)
      && decide (others + getBits w Fld.micRegionCfgSize ≤ stackUnits s k))

/-- A pool in a region of stack k is enabled (R266). -/
def poolOnStack (s : State) (k : Nat) : Bool := s.shoe.pools.any (fun e => e.2.enabled && e.2.first / 2 ^ 19 == k)

/-- REGION_CFG_WRITE: the selected region is set, and every word of the stack's regions returns to the never-written state; or the write is
discarded with event 356 (R264, R266, R267). -/
def opRegionCfgWrite (v : Word) (s : State) : State :=
  let k := (selRegion s).1
  let r := (selRegion s).2
  let w := regionBits v
  if poolOnStack s k || !regionFits s k r w then raise 356 [] s
  else unwriteStack k { s with shoe := { s.shoe with regions := Sparse.set 0 s.shoe.regions (16 * k + r) w } }

/-! ### Fill -/

/-- The chips of a range. -/
def chipRange (first count : Nat) : List Nat := (List.range count).map (fun i => first + i)

/-- A fill of a range is refused: it crosses a region boundary or names chips that do not exist, or a chip of it lies in an enabled pool and
is not the host's (R268). -/
def fillRefused (s : State) (first count : Nat) : Bool :=
  let l := chipRange first count
  l.any (fun i => (chipRegion s i).isNone || chipRegion s i != chipRegion s first)
    || l.any (fun i => s.shoe.pools.any (fun e => e.2.enabled && decide (e.2.first ≤ i) && decide (i < e.2.first + e.2.count))
        && (match chipTag s i with
            | some t => t.cls != 6
            | none => true))

/-- MIC_FILL: a write of MIC_FILL_COUNT, whose GO starts a fill unless one is in progress (R268). -/
def opMicFill (v : Word) (s : State) : State :=
  let reg := Reg.micFillCount
  let n := getBits v Fld.micFillCountCount
  let s1 := s.setFld reg Fld.micFillCountCount n
  if getBits v Fld.micFillCountGo = 1 ∧ s.shoe.fill = none then
    let first := s1.fld Reg.micFillFirst Fld.micFillFirstIndex
    if fillRefused s1 first n || s1.shoe.tripped.contains (first / 2 ^ 19) then s1.setFld reg Fld.micFillCountError 1
    else
      let s2 := (s1.setFld reg Fld.micFillCountGo 1).setFld reg Fld.micFillCountError 0
      { s2 with shoe := { s2.shoe with fill := some (first, n, s2.reg Reg.micFillPattern) } }
  else s1

/-- The listed bytes of `count` chips from `first`, filled with a pattern (R268). -/
def fillBytes (first count : Nat) (pattern : Word) : Sparse Byte :=
  let p := le 4 pattern.toNat
  (List.range (65536 * count)).filterMap (fun i =>
    let b := p.getD (i % 4) 0
    if b = 0 then none else some (65536 * first + i, b))

/-- Bytes of memory with the range from `lo` to below `hi` replaced. -/
def replaceRange (lo hi : Nat) (new m : Sparse Byte) : Sparse Byte :=
  Sparse.keep (fun i => decide (i < lo)) m ++ new ++ Sparse.keep (fun i => decide (hi ≤ i)) m

/-- MIC_FILL_COMPLETE: every word of the range holds the pattern; GO clears and event 380 is raised (R268). -/
def opMicFillComplete (s : State) : State :=
  match s.shoe.fill with
  | none => s
  | some (first, n, pattern) =>
    let words := (List.range (2048 * n)).map (fun i => 2048 * first + i)
    let others := s.shoe.written.filter (fun w => !(decide (2048 * first ≤ w) && decide (w < 2048 * (first + n))))
    let sh := { s.shoe with fill := none, written := words ++ others
                            mem := replaceRange (65536 * first) (65536 * (first + n)) (fillBytes first n pattern) s.shoe.mem }
    raise 380 [] ({ s with shoe := sh }.setFld Reg.micFillCount Fld.micFillCountGo 0)

/-! ### Pools -/

/-- The bits of SHO_POOL_CFG. -/
def poolBits (enable host : Nat) (v : Word) : Word :=
  putBits (putBits (putBits 0 Fld.shoPoolCfgEnable enable) Fld.shoPoolCfgHost host) Fld.shoPoolCfgLow (getBits v Fld.shoPoolCfgLow)

/-- A pool's range is valid: at least two chips, all of one enabled region, none of another enabled pool (R269). -/
def poolFits (s : State) (k : Nat) (p : Pool) : Bool :=
  decide (2 ≤ p.count) && (chipRegion s p.first).isSome
    && (chipRegion s (p.first + p.count - 1) == chipRegion s p.first)
    && s.shoe.pools.all (fun e => e.1 == k || !e.2.enabled || decide (p.first + p.count ≤ e.2.first) || decide (e.2.first + e.2.count ≤ p.first))

/-- A pool built as at enabling: every allocatable chip in its ring (R269, R275). -/
def rebuiltPool (p : Pool) : Pool := { p with ready := false, cache := 0, errs := 0, failing := false, low := false, withheld := [] }

/-- POOL_CFG_WRITE: the selected pool is enabled, disabled or refused (R269). -/
def opPoolCfgWrite (v : Word) (s : State) : State :=
  let k := selPool s
  let p := s.poolAt k
  let en := getBits v Fld.shoPoolCfgEnable
  let host := getBits v Fld.shoPoolCfgHost
  if p.enabled then
    let oldHost := getBits p.cfg Fld.shoPoolCfgHost
    let idle := poolFree s k == p.count - p.ring
    let s1 := s.putPool k { p with cfg := poolBits (if en = 0 ∧ idle = true then 0 else 1) oldHost v, ready := p.ready && !(en == 0 && idle) }
    if host ≠ oldHost ∨ (en = 0 ∧ idle = false) then raise 356 [] s1 else s1
  else
    let q := { p with cfg := poolBits en host v }
    if en = 0 then s.putPool k q
    else if poolFits s k q then s.putPool k (rebuiltPool q)
    else raise 356 [] (s.putPool k { p with cfg := poolBits 0 host v })

/-- POOL_READY: the ring of an enabled pool has been built: READY, and event 357 (R269). -/
def opPoolReady (k : Nat) (s : State) : State :=
  let p := s.poolAt k
  if p.enabled && !p.ready then raise 357 [] (s.putPool k { p with ready := true, cache := min 128 (p.count - p.ring) }) else s

/-- SHO_HOST_RESULT after a host command. -/
def hostResult (code index : Nat) (s : State) : State :=
  (s.setFld Reg.shoHostResult Fld.shoHostResultResult code).setFld Reg.shoHostResult Fld.shoHostResultIndex index

/-- HOST_CHIP_ALLOCATE: a chip of the selected pool for the host (R274). -/
def opHostChipAllocate (s : State) : State :=
  let k := selPool s
  let p := s.poolAt k
  if !p.enabled || !p.host || !p.ready then hostResult 2 0 s
  else
    let r := allocate 1 k 6 0 s
    match r.1 with
    | some l => hostResult 0 (l.headD 0) r.2
    | none => hostResult 1 0 r.2

/-- HOST_CHIP_FREE: the host frees a chip; a double or foreign free is refused (R272, R274). -/
def opHostChipFree (i : Nat) (s : State) : State :=
  match chipTag s i with
  | some t => if t.cls = 6 then hostResult 0 0 (freeChip 6 0 i s) else hostResult 3 0 (freeChip 6 0 i s)
  | none => hostResult 3 0 (freeChip 6 0 i s)

/-! ### Corrections and hard faults -/

/-- One access to a word of a stack (0, 1) or group (2 + g): a watch on it has one access less (R279). -/
def noteAccess (u w : Nat) (s : State) : State :=
  let l := s.shoe.watches.filterMap (fun e =>
    if e.1 = u ∧ e.2.1 = w then (if e.2.2 ≤ 1 then none else some (e.1, e.2.1, e.2.2 - 1)) else some e)
  { s with shoe := { s.shoe with watches := l } }

/-- The word is watched for a hard fault (R279). -/
def watched (s : State) (u w : Nat) : Bool := s.shoe.watches.any (fun e => e.1 == u && e.2.1 == w)

/-- A word is watched over its next 16 accesses; each stack and each group watches at most 16 (R279). -/
def watchWord (u w : Nat) (s : State) : State :=
  let own := s.shoe.watches.filter (fun e => e.1 == u)
  let rest := s.shoe.watches.filter (fun e => e.1 != u)
  let kept := if 16 ≤ own.length then own.drop (own.length - 15) else own
  { s with shoe := { s.shoe with watches := rest ++ kept ++ [(u, w, 16)] } }

/-- A hard fault is remapped with event 373, or, the table being full, the word stays in service with event 374 once (R279). -/
def remapWord (u w : Nat) (s : State) : State :=
  let s1 := { s with shoe := { s.shoe with watches := s.shoe.watches.filter (fun e => !(e.1 == u && e.2.1 == w)) } }
  if remapUsed s u < spares u then
    raise 373 [] { s1 with shoe := { s1.shoe with remapped := s1.shoe.remapped ++ [(u, if u < 2 then w / 8 else w)] } }
  else if s.shoe.fullAlerted.contains u then s1
  else raise 374 [] { s1 with shoe := { s1.shoe with fullAlerted := u :: s1.shoe.fullAlerted } }

/-- The place of a stack or group among the counts of MIC_ERR_CNT: STRONG SRAM counts together. -/
def errIndex (u : Nat) : Nat := if u < 2 then u else 2

/-- A STRONG checker has corrected a read: it is counted and reported, written back, and the word watched or remapped (R278, R279). -/
def noteCorrection (u w : Nat) (s : State) : State :=
  let hard := watched s u w
  let s1 := raise (if u < 2 then 369 else 371) [] ((noteAccess u w s).addFld (Reg.micErrCnt (errIndex u)) Fld.micErrCntCorr 1)
  if hard then remapWord u w s1 else watchWord u w s1

/-! ### Uncorrectable reads -/

/-- The words of MIC_LAST_ERR for a word of memory. -/
def recordError (word : MemWord) (never : Bool) (s : State) : State :=
  let r := match word with
    | .hbm c w => (putBits (putBits 0 Fld.micLastErrLoIndex c.toNat) Fld.micLastErrLoWord w.toNat,
                   putBits (putBits 0 Fld.micLastErrHiValid 1) Fld.micLastErrHiNever (bit never))
    | .sram g a => (putBits 0 Fld.micLastErrLoWord a.toNat,
                    putBits (putBits (putBits (putBits 0 Fld.micLastErrHiValid 1) Fld.micLastErrHiSram 1) Fld.micLastErrHiGroup g.val)
                      Fld.micLastErrHiAddrHi (a.toNat >>> 11))
  (s.setReg Reg.micLastErrLo r.1).setReg Reg.micLastErrHi r.2

/-- An uncorrectable read of HBM is reported, counted and recorded (R280); event 375 too for a never-written word (R267, R274). -/
def reportHbm (chip : BitVec 20) (w : BitVec 11) (never : Bool) (s : State) : State :=
  let s1 := if never then raise 375 [] s else s
  raise 370 [] (recordError (.hbm chip w) never (s1.addFld (Reg.micErrCnt (chip.toNat / 2 ^ 19)) Fld.micErrCntUncorr 1))

/-- A chip is withheld from its pool until WARM, and LOST counts it (Tables 12-4 and 12-5). -/
def withhold (k i : Nat) (s : State) : State :=
  let p := s.poolAt k
  if p.withheld.contains i then s
  else s.putPool k { p with withheld := i :: p.withheld, errs := putBits p.errs Fld.shoPoolErrsLost (satAt 255 (getBits p.errs Fld.shoPoolErrsLost + 1)) }

/-- The pool among whose ring chips a chip lies (R269). -/
def ringPool (s : State) (i : Nat) : Option Nat :=
  (s.shoe.pools.find? (fun e => e.2.enabled && decide (e.2.first ≤ i) && decide (i < e.2.first + e.2.ring))).map (fun e => e.1)

/-- A trick of a deck's round buffer counts as incomplete; which one lies in the word is not given (R203, log entry 13). -/
def spoilTrick (d : Nat) (s : State) : State :=
  let l := (s.deckAt d).buffer
  let i := Config.chipPick s.tick % l.length
  let spoil := fun (t : ReadTrick) => { t with facets := [], tiles := [], missing := true }
  s.ticked.onDeck d (fun k => { k with buffer := l.take i ++ ((l.drop i).take 1).map spoil ++ l.drop (i + 1) })

/-- An anchor of a deck's position map is discarded; which one lies in the word is not given (R213, log entry 13). -/
def spoilAnchor (d : Nat) (s : State) : State :=
  let i := Config.chipPick s.tick % (s.deckAt d).anchors.length
  s.ticked.onDeck d (fun k => { k with anchors := k.anchors.take i ++ k.anchors.drop (i + 1) })

/-- The effect of an uncorrectable HBM read for the chip's owner (Table 12-5). -/
def uncorrectableHbm (i : Nat) (s : State) : State :=
  match chipTag s i with
  | some t =>
    match t.cls with
    | 1 => controlledStop (bindDeck s t.id) 6 4 s
    | 2 => controlledStop t.id 6 4 s
    | 3 => spoilTrick t.id s
    | 4 => spoilAnchor t.id s
    | 5 => endJob t.id (notReady 9) s
    | _ => s
  | none =>
    match ringPool s i with
    | some k =>
      let l := freeChips s k
      match l[Config.chipPick s.tick % l.length]? with
      | some x => withhold k x s.ticked
      | none => s
    | none => s

/-- A context is reset with a deferred error of cause 4: its exposed objects, or its position where there are none (Table 12-4). -/
def resetContext (n : Nat) (s : State) : State :=
  let d := bindDeck s n
  let refs := (exposed s d).filter (fun r => r.1 == n)
  let total := streamObjects s d (streamId s n)
  let lo := leastOf (refs.map (fun r => r.2.2))
  opCtxReset n (if refs.isEmpty || decide (total ≤ lo) then deferError n 4 (position s n) (position s n) s else deferError n 4 lo (total - 1) s)

/-- A facet of a trick held on a deck is graded FAILED; which one is not given (Table 12-4, log entry 13). -/
def failFacet (x : Nat) (s : State) : State :=
  let d := x % 4
  let h := ((s.deckAt d).held.getD (x / 4 % (s.deckAt d).held.length) {})
  let f := fmtOf h.trick.format
  let n := f.tiles * f.nF
  let q := x / 4 % n
  let p := f.place (q / f.nF) (q % f.nF)
  s.onDeck d (Deck.onHeld h.trick.image (q / f.nF) (q % f.nF) true false (fun h l =>
    gradeOwn (maxRewrites s d) false false (h.trick.ordinal, p.2, p.1) h (q / f.nF) (q % f.nF) l))

/-- The effect of an uncorrectable error in a STRONG macro group (Table 12-4); what the word holds is not given (log entry 13). -/
def uncorrectableSram (g a : Nat) (s : State) : State :=
  let x := Config.sramOwner g a
  match g with
  | 0 => resetContext (x % 4096) s
  | 1 => zeroiseSlot (x % 4096) s
  | 2 | 3 => controlledStop (x % 4) 6 4 s
  | 4 =>
    let i := x % s.evt.records.length
    { s with evt := { s.evt with records := s.evt.records.take i ++ s.evt.records.drop (i + 1), dropped := word (satAt 0xFFFFFFFF (s.evt.dropped.toNat + 1)) } }
  | 5 => withhold (poolOfChip s (x % 2 ^ 20)) (x % 2 ^ 20) s
  | 6 => failFacet x s
  | 7 => uncorrectableHbm (x % 2 ^ 20) s
  | _ => s

/-! ### The window -/

/-- Whole place of a word in HBM. -/
def wordPlace (chip w : Nat) : Nat := 2048 * chip + w

/-- The host or a fill has written the word since an engine last had its chip (R267). -/
def hostWrote (s : State) (chip w : Nat) : Bool := s.shoe.written.contains (wordPlace chip w)

/-- The word has left the never-written state (R267). -/
def wordWritten (s : State) (chip w : Nat) : Bool := hostWrote s chip w || (Sparse.find s.shoe.filled chip).isSome

/-- A byte of a chip that has been written: what the host or a fill wrote, or what an engine left there (R267, log entry 128). -/
def chipByte (s : State) (chip off : Nat) : Byte :=
  let a := 65536 * chip + off
  match hostWrote s chip (off / 32), Sparse.find s.shoe.filled chip with
  | false, some n => Config.engineByte n a
  | _, _ => Sparse.get (0 : Byte) s.shoe.mem a

/-- Bytes written at byte `off` of a chip, within a word; the rest of a never-written word is set to 0 (R267, R274). -/
def writeChip (chip off : Nat) (bytes : List Byte) (s : State) : State :=
  let w := off / 32
  let old := if wordWritten s chip w then (List.range 32).map (fun i => chipByte s chip (32 * w + i)) else List.replicate 32 0
  let new := old.take (off % 32) ++ bytes ++ old.drop (off % 32 + bytes.length)
  let m := (List.range 32).foldl (fun m i => Sparse.set (0 : Byte) m (65536 * chip + 32 * w + i) (new.getD i 0)) s.shoe.mem
  let ws := if hostWrote s chip w then s.shoe.written else wordPlace chip w :: s.shoe.written
  { s with shoe := { s.shoe with mem := m, written := ws } }

/-- Four bytes of a chip, as a word. -/
def readChip (s : State) (chip off : Nat) : Word := word (leVal ((List.range 4).map (fun i => chipByte s chip (off + i))))

/-- The chip's stack takes commands (R262, R410). -/
def stackServes (s : State) (chip : Nat) : Bool :=
  !s.shoe.tripped.contains (chip / 2 ^ 19) && s.tap.ir.toNat != 0x10 + chip / 2 ^ 19

/-- SHOE_WINDOW_ACCESS: word `k` of the window is read or written, the checker of a read reporting `err` (R274, R278, R280). -/
def opShoeWindowAccess (k : Nat) (write : Option Word) (err : MemError) (s : State) : State :=
  let port := Reg.shoWin k
  let chip := s.fld Reg.shoWinSel Fld.shoWinSelIndex
  let off := 4096 * s.fld Reg.shoWinSel Fld.shoWinSelPage + 4 * k
  let w := off / 32
  let u := chip / 2 ^ 19
  let own := match chipTag s chip with
    | some t => t.cls == 6
    | none => false
  if !own || !stackServes s chip then refuseWindow port s
  else
    match write with
    | some v => writeChip chip off (le 4 v.toNat) (noteAccess u (wordPlace chip w) s)
    | none =>
      if !wordWritten s chip w then refuseWindow port (reportHbm (BitVec.ofNat 20 chip) (BitVec.ofNat 11 w) true s)
      else
        match err with
        | .uncorrectable => refuseWindow port (reportHbm (BitVec.ofNat 20 chip) (BitVec.ofNat 11 w) false (noteAccess u (wordPlace chip w) s))
        | .corrected => emit (.read port (readChip s chip off)) (noteCorrection u (wordPlace chip w) s)
        | .none => emit (.read port (readChip s chip off)) (noteAccess u (wordPlace chip w) s)

/-! ### The Polisher -/

/-- The code of the region that holds a chip is STRONG (R264). -/
def strongChip (s : State) (i : Nat) : Bool :=
  match chipRegion s i with
  | some (k, r) => getBits (regionCfg s k r) Fld.micRegionCfgCode == 1
  | none => false

/-- The Polisher reads a word: a STRONG word that has been written (R281). -/
def polishWord (word : MemWord) (err : MemError) (s : State) : State :=
  match word with
  | .hbm chip w =>
    let i := chip.toNat
    let u := i / 2 ^ 19
    let q := wordPlace i w.toNat
    if !strongChip s i || !wordWritten s i w.toNat || !stackServes s i then s
    else
      match err with
      | .none => noteAccess u q s
      | .corrected => noteCorrection u q s
      | .uncorrectable => uncorrectableHbm i (reportHbm chip w false (noteAccess u q s))
  | .sram g a =>
    let u := 2 + g.val
    if 8 ≤ g.val then s
    else
      match err with
      | .none => noteAccess u a.toNat s
      | .corrected => noteCorrection u a.toNat s
      | .uncorrectable =>
        let s1 := recordError word false ((noteAccess u a.toNat s).addFld (Reg.micErrCnt 2) Fld.micErrCntUncorr 1)
        uncorrectableSram g.val a.toNat (raise 372 [] s1)

/-- A lap of the Polisher has ended after `ms` milliseconds (R281). -/
def endLap (ms : Nat) (s : State) : State :=
  let alert := s.fld Reg.micPolishCtrl Fld.micPolishCtrlAlertS
  let s1 := (s.setFld Reg.micPolishStatus Fld.micPolishStatusLastMs (satAt 0xFFFFFF (ms / 1024))).setFld Reg.micPolishStatus Fld.micPolishStatusPercent 0
  if alert ≠ 0 ∧ 1000 * alert < ms then raise 377 [] s1 else s1

/-- POLISHER_ACCESS: the Polisher reads a word, and perhaps ends a lap; it stops in DOZE and SLEEP (R281). -/
def opPolisherAccess (word : MemWord) (err : MemError) (lapEnd : Option Nat) (s : State) : State :=
  if s.flag Reg.micPolishCtrl Fld.micPolishCtrlEnable && decide (s.pwr.state < 2) then
    let s1 := polishWord word err s
    match lapEnd with
    | some ms => endLap ms s1
    | none => s1
  else s

/-! ### The commands -/

/-- HBM_CATTRIP (R262). -/
def execHbmCattrip (k : Fin 2) (s : State) : Host.Outcome State Fault Refusal := run (opHbmCattrip k.val) s

/-- HBM_ECC_POLL (R262, R263). -/
def execHbmEccPoll (k : Fin 2) (corrected : Nat) (temp : Byte) (s : State) : Host.Outcome State Fault Refusal :=
  run (opHbmEccPoll k.val corrected temp.toNat) s

/-- REGION_CFG_WRITE (R264, R266, R267). -/
def execRegionCfgWrite (v : Word) (s : State) : Host.Outcome State Fault Refusal := run (opRegionCfgWrite v) s

/-- MIC_FILL (R268). -/
def execMicFill (v : Word) (s : State) : Host.Outcome State Fault Refusal := run (opMicFill v) s

/-- MIC_FILL_COMPLETE (R268). -/
def execMicFillComplete (s : State) : Host.Outcome State Fault Refusal := run opMicFillComplete s

/-- POOL_CFG_WRITE (R269). -/
def execPoolCfgWrite (v : Word) (s : State) : Host.Outcome State Fault Refusal := run (opPoolCfgWrite v) s

/-- POOL_READY (R269, R270). -/
def execPoolReady (pool : Fin 64) (s : State) : Host.Outcome State Fault Refusal := run (opPoolReady pool.val) s

/-- HOST_CHIP_ALLOCATE (R274). -/
def execHostChipAllocate (s : State) : Host.Outcome State Fault Refusal := run opHostChipAllocate s

/-- HOST_CHIP_FREE (R272, R274). -/
def execHostChipFree (index : BitVec 20) (s : State) : Host.Outcome State Fault Refusal := run (opHostChipFree index.toNat) s

/-- SHOE_WINDOW_ACCESS (R274). -/
def execShoeWindowAccess (off : BitVec 10) (write : Option Word) (err : MemError) (s : State) : Host.Outcome State Fault Refusal :=
  run (opShoeWindowAccess off.toNat write err) s

/-- POLISHER_ACCESS (R278 to R281). -/
def execPolisherAccess (word : MemWord) (err : MemError) (lapEnd : Option Nat) (s : State) : Host.Outcome State Fault Refusal :=
  run (opPolisherAccess word err lapEnd) s

end Sys2Proof.Machine
end

