-- ==== Sys2Proof/Machine/Nvm.lean ====
section
/-! DEFINITION. Settings flash: contents (R370, R371), reads (R373, R374), host commands (R375, R376), parking (R377), protection (R378),
the journal (R379, R380), settings records and STORE (R381, R382). -/

namespace Sys2Proof.Machine

/-! ### Contents -/

/-- The bytes of a page (R370). -/
def pageBytes (s : State) (bank sector page : Nat) : List Byte := (List.range 512).map (fun i => flashByte s bank sector (512 * page + i))

/-- The page reads as erased (R370). -/
def pageErased (s : State) (bank sector page : Nat) : Bool := (pageBytes s bank sector page).all (fun b => b == 0xFF)

/-- Bytes programmed from an address of the flash on; an erased byte is not listed. -/
def programBytes (a : Nat) (bytes : List Byte) (m : Sparse Byte) : Sparse Byte :=
  (List.range bytes.length).foldl (fun m i => Sparse.set (0xFF : Byte) m (a + i) (bytes.getD i 0xFF)) m

/-- A sector is erased: every byte reads 0xFF (R370). -/
def eraseSector (bank sector : Nat) (s : State) : State :=
  let lo := 8388608 * bank + 65536 * sector
  let nv := s.nvm
  { s with nvm := { nv with
    bytes := Sparse.keep (fun i => decide (i < lo) || decide (lo + 65536 ≤ i)) nv.bytes
    shipped := if bank = 0 then nv.shipped.filter (fun x => x != sector) else nv.shipped
    torn := nv.torn.filter (fun p => p / 128 != sectorOf bank sector)
    halfErased := nv.halfErased.filter (fun x => x != sectorOf bank sector) } }

/-! ### The journal -/

/-- An erase intent of the journal, or a copy of one carried forward. -/
def JEntry.kind (e : JEntry) : Nat := if e.type = 7 then e.carries else e.type

/-- The journal's entries after one that matter: an intent is open until a done entry of its sector follows (R380). -/
def openIntents (l : List JEntry) : List (Nat × Nat) :=
  l.foldl (fun acc e =>
    if e.kind = 1 then (if acc.contains (e.bank, e.sector) then acc else acc ++ [(e.bank, e.sector)])
    else if e.kind = 2 then acc.filter (fun x => x != (e.bank, e.sector))
    else acc) []

/-- The journal holds a tamper entry without a later acknowledgement (R350). -/
def tamperOpen (l : List JEntry) : Bool :=
  l.foldl (fun acc e => if e.kind = 5 then true else if e.kind = 6 then false else acc) false

/-- The approvals in force by the journal: slot, IMAGE_LEN, CHECK (R288, R379). -/
def journalApprovals (l : List JEntry) : List (Nat × Nat × Word) :=
  l.foldl (fun acc e =>
    if e.kind = 3 then (e.slot, e.len, e.check) :: acc.filter (fun x => x.1 != e.slot)
    else if e.kind = 4 then acc.filter (fun x => x.1 != e.slot)
    else acc) []

/-- An entry is still needed: an approval in force, an unacknowledged tamper entry, an open intent (R379). -/
def liveEntry (l : List JEntry) (e : JEntry) : Bool :=
  (e.kind == 3 && (journalApprovals l).contains (e.slot, e.len, e.check)) || (e.kind == 5 && tamperOpen l)
    || (e.kind == 1 && (openIntents l).contains (e.bank, e.sector))

/-- An entry with the next SEQ. -/
def appendEntry (e : JEntry) (s : State) : State :=
  { s with nvm := { s.nvm with journal := s.nvm.journal ++ [{ e with seq := s.nvm.jseq }], jseq := s.nvm.jseq + 1 } }

/-- An entry is programmed. Where it begins a journal sector, the next sector is freed: its live entries are carried forward (R379). -/
def journalAdd (e : JEntry) (s : State) : State :=
  let s1 := appendEntry e s
  let q := (s1.nvm.jseq - 1).toNat
  if q % 64 ≠ 0 then s1
  else
    let l := s1.nvm.journal
    let old := l.filter (fun x => decide (x.seq.toNat + 448 ≤ q))
    let kept := l.filter (fun x => !decide (x.seq.toNat + 448 ≤ q))
    forEach (old.filter (liveEntry l)) (fun x a => appendEntry { x with type := 7, carries := x.kind } a)
      { s1 with nvm := { s1.nvm with journal := kept } }

/-- A sector is erased under the journal (R380). -/
def journalErase (bank sector : Nat) (s : State) : State :=
  journalAdd { type := 2, bank := bank, sector := sector }
    (eraseSector bank sector (journalAdd { type := 1, bank := bank, sector := sector } s))

/-! ### Persistence and hours -/

/-- The sector of a ring of eight that page q begins is erased before it is used again (R380, R393, R394). -/
def reuseSector (bank first q : Nat) (s : State) : State :=
  if q % 64 = 0 ∧ 512 ≤ q then journalErase bank (first + q / 64 % 8) s else s

/-- Page p of a ring of eight sectors still stands once page q has been begun. -/
def standsAt (q p : Nat) : Bool := decide (q / 64 < p / 64 + 8)

/-- Up to seven records are written to the next page of the persistence sectors (R393). -/
def persistPage (l : List SpRecord) (s : State) : State :=
  let q := s.evt.persistPage
  let s1 := reuseSector 0 112 q s
  { s1 with evt := { s1.evt with persisted := s1.evt.persisted.filter (fun e => standsAt q e.1) ++ l.map (fun r => (q, r)), persistPage := q + 1 } }

/-- Records are persisted in their order, seven to a page (R393). -/
def persistRecords (l : List SpRecord) (s : State) : State := forEach (chunks 7 l) persistPage s

/-- A checkpoint is programmed into the next page of the hours ring; the page is passed over where that fails (R394). -/
def addCheckpoint (h c : Word) (ok : Bool) (s : State) : State :=
  let q := s.evt.hourPage
  let s1 := reuseSector 1 80 q s
  let kept := s1.evt.checkpoints.filter (fun e => standsAt q e.1)
  { s1 with evt := { s1.evt with checkpoints := if ok then (q, (h, c)) :: kept else kept, hourPage := q + 1 } }

/-! ### Reads -/

/-- A read of the bank's sector is a bus fault (R374). -/
def busFault (s : State) (bank sector : Nat) : Bool :=
  bankBusy s bank || (match Sparse.find s.nvm.suspended bank with
    | some o => o.sector == sector
    | none => false)

/-- A bus fault: an error completion and event 405 (R374). -/
def refuseRead (off : Nat) (s : State) : State := raise 405 [] (countMmioError off (emit (.portError off) s))

/-- NVM_WIN_READ: word k of the part that NVM_WIN_SEL selects, the page showing `errors` bit errors (R370, R374). -/
def opNvmWinRead (k errors : Nat) (s : State) : State :=
  let port := Reg.nvmWin k
  let bank := s.fld Reg.nvmWinSel Fld.nvmWinSelBank
  let sector := s.fld Reg.nvmWinSel Fld.nvmWinSelSector
  let x := 4096 * s.fld Reg.nvmWinSel Fld.nvmWinSelPart + 4 * k
  if busFault s bank sector then refuseRead port s
  else if errors ≤ 4 then
    emit (.read port (word (leVal ((List.range 4).map (fun i => flashByte s bank sector (x + i)))))) s.ticked
  else
    let s1 := raise 410 [] (s.addFld Reg.nvmStatus Fld.nvmStatusUncorr 1)
    emit (.read port (word (leVal ((List.range 4).map (fun i => Config.brokenByte (s.tick + i)))))) s1.ticked

/-- Bytes 0 to 4,091 of the calibration row (Table 17-2). -/
def calibrationBody : List Byte :=
  le 4 1 ++ (List.range 1020).map (fun i => Config.calByte (4 + i)) ++ List.replicate 3068 0xFF

/-- The calibration row (Table 17-2). -/
def calibrationRow : List Byte := calibrationBody ++ le 4 (crc32c calibrationBody).toNat

/-- NVM_CAL_READ: word k of the calibration row; a bus fault while bank A is busy (R372, R374). -/
def opNvmCalRead (k : Nat) (s : State) : State :=
  let port := Reg.nvmCal k
  if bankBusy s 0 then refuseRead port s else emit (.read port (word (leVal (slice calibrationRow (4 * k) 4)))) s

/-- The least safe read-strobe delay of a VDD_CORE and Tj band (Table 17-3). -/
def minDelay (b : Nat × Nat) : Nat := 12 - 2 * b.1 + b.2

/-- RD_DELAY_WRITE: the host's value takes effect at once; event 411 where it is below the table (R373). -/
def opRdDelayWrite (v : Nat) (s : State) : State :=
  let s1 := s.setFld Reg.nvmRdDelay Fld.nvmRdDelayDelay v
  if v < minDelay s.pwr.band then raise 411 [] s1 else s1

/-- The operating point is in another band of Table 17-3: the steward sets the delay (R373). -/
def takeBand (b : Nat × Nat) (s : State) : State :=
  if b = s.pwr.band then s
  else { s with pwr := { s.pwr with band := b } }.setFld Reg.nvmRdDelay Fld.nvmRdDelayDelay (minDelay b)

/-! ### Protection -/

/-- The protection bit of a sector (R378). -/
def protectedSector (s : State) (bank sector : Nat) : Bool := bitAt (s.reg (Reg.nvmWp (4 * bank + sector / 32))).toNat (sector % 32)

/-- WP_SET: the bits written as 1 protect their sectors (R378). -/
def opWpSet (k : Nat) (v : Word) (s : State) : State := s.setReg (Reg.nvmWp k) (s.reg (Reg.nvmWp k) ||| v)

/-- WP_CLR: the bits written as 1 end the protection, while a presence window is open; otherwise a write that would clear a bit is refused
(R10, R344, R378). -/
def opWpClr (k : Nat) (v : Word) (s : State) : State :=
  if s.window then s.setReg (Reg.nvmWp k) (s.reg (Reg.nvmWp k) &&& ~~~v)
  else if v = 0 then s
  else refuseWrite (Reg.nvmWpClr k) s

/-! ### Host commands -/

/-- The steward is parked (R377). -/
def parked (s : State) : Bool := s.flag Reg.nvmPark Fld.nvmParkParked

/-- NVM_RESULT after a command: a new SEQ. -/
def nvmStarted (code : Nat) (s : State) : State :=
  (s.incFld Reg.nvmResult Fld.nvmResultSeq 1).setFld Reg.nvmResult Fld.nvmResultResult code

/-- A command is refused with a RESULT and event 406 (R375). -/
def nvmRefuse (code : Nat) (s : State) : State :=
  let s1 := nvmStarted code s
  let s2 := if s.fld Reg.nvmAddr Fld.nvmAddrBank = 0 then s1.setFld Reg.nvmStatus Fld.nvmStatusBankLocked (bit (code == 4)) else s1
  raise 406 [word code] s2

/-- The first RESULT of a list whose condition holds. -/
def firstCode (l : List (Bool × Nat)) : Option Nat := (l.find? (fun e => e.1)).map (fun e => e.2)

/-- Bank, sector and page of NVM_ADDR. -/
def nvmTarget (s : State) : Nat × Nat × Nat :=
  (s.fld Reg.nvmAddr Fld.nvmAddrBank, s.fld Reg.nvmAddr Fld.nvmAddrSector, s.fld Reg.nvmAddr Fld.nvmAddrPage)

/-- The refusals common to every command (Table 17-4). -/
def commonRefusals (s : State) (wants : Bool) : List (Bool × Nat) :=
  let t := nvmTarget s
  [(stewardOwned t.1 t.2.1, 2), (wants && protectedSector s t.1 t.2.1, 3), (t.1 == 0 && !parked s, 4)]

/-- A command runs on the bank of NVM_ADDR. -/
def bankTaken (s : State) : Bool := (Sparse.find s.nvm.running (nvmTarget s).1).isSome

/-- A flash command starts: the bank runs it (R375). -/
def nvmStart (op : FlashOp) (s : State) : State :=
  let bank := (nvmTarget s).1
  let s1 := nvmStarted 1 s
  let s2 := if bank = 0 then s1.setFld Reg.nvmStatus Fld.nvmStatusBankLocked 0 else s1
  { s2 with nvm := { s2.nvm with running := Sparse.put s2.nvm.running bank op } }

/-- A command completes at once with RESULT 0 and event 407 (R375). -/
def nvmDone (s : State) : State := raise 407 [] (s.setFld Reg.nvmResult Fld.nvmResultResult 0)

/-- The 512 bytes of NVM_PAGE (R375). -/
def pageBuffer (s : State) : List Byte := bytesOf ((List.range 128).map (fun k => s.reg (Reg.nvmPage k)))

/-- The suspended erase of the bank is of this sector (R376). -/
def suspendedSector (s : State) (bank sector : Nat) : Bool :=
  match Sparse.find s.nvm.suspended bank with
  | some o => o.sector == sector
  | none => false

/-- NVM_PROGRAM: the page is programmed from NVM_PAGE, or the command refused (R375, R376). -/
def opNvmProgram (s : State) : State :=
  let t := nvmTarget s
  let bad := !pageErased s t.1 t.2.1 t.2.2 || (t.2.2 % 2 == 1 && pageErased s t.1 t.2.1 (t.2.2 - 1)) || suspendedSector s t.1 t.2.1
  match firstCode (commonRefusals s true ++ [(bankTaken s, 5), (bad, 6)]) with
  | some c => nvmRefuse c s
  | none => nvmStart { op := 1, sector := t.2.1, page := t.2.2, data := pageBuffer s } s

/-- NVM_ERASE: the sector is erased under the journal, or the command refused (R375, R376, R380). -/
def opNvmErase (s : State) : State :=
  let t := nvmTarget s
  let erasing := (match Sparse.find s.nvm.running t.1 with
    | some o => o.op == 2 && o.host
    | none => false) || (Sparse.find s.nvm.suspended t.1).isSome
  match firstCode (commonRefusals s true ++ [(bankTaken s && !erasing, 5), (erasing, 8)]) with
  | some c => nvmRefuse c s
  | none => nvmStart { op := 2, sector := t.2.1 } (journalAdd { type := 1, bank := t.1, sector := t.2.1 } s)

/-- NVM_SUSPEND: the bank's erase is suspended, or the command refused (R375, R376). -/
def opNvmSuspend (s : State) : State :=
  let t := nvmTarget s
  match firstCode (commonRefusals s false) with
  | some c => nvmRefuse c s
  | none =>
    match Sparse.find s.nvm.running t.1 with
    | some o =>
      if !o.host then nvmRefuse 5 s
      else if o.op ≠ 2 ∨ 16 ≤ o.suspensions then nvmRefuse 7 s
      else
        let nv := { s.nvm with running := Sparse.erase s.nvm.running t.1, suspended := Sparse.put s.nvm.suspended t.1 { o with suspensions := o.suspensions + 1 } }
        nvmDone (nvmStarted 0 { s with nvm := nv })
    | none => nvmRefuse 7 s

/-- NVM_RESUME: the suspended erase goes on, or the command is refused (R375, R376). -/
def opNvmResume (s : State) : State :=
  let t := nvmTarget s
  match firstCode (commonRefusals s false ++ [((Sparse.find s.nvm.suspended t.1).isNone || bankTaken s, 7)]) with
  | some c => nvmRefuse c s
  | none =>
    match Sparse.find s.nvm.suspended t.1 with
    | some o =>
      let nv := { s.nvm with running := Sparse.put s.nvm.running t.1 o, suspended := Sparse.erase s.nvm.suspended t.1 }
      nvmDone (nvmStarted 0 { s with nvm := nv })
    | none => s

/-- A margin read starts, or is refused (R375). -/
def startMargin (op : Nat) (s : State) : State :=
  let t := nvmTarget s
  match firstCode (commonRefusals s false ++ [(bankTaken s, 5)]) with
  | some c => nvmRefuse c s
  | none => nvmStart { op := op, sector := t.2.1, page := t.2.2 } s

/-- NVM_MARGIN_PV (R375). -/
def opNvmMarginPv (s : State) : State := startMargin 5 s

/-- NVM_MARGIN_EV (R375). -/
def opNvmMarginEv (s : State) : State := startMargin 6 s

/-- The image slot that holds a sector (Table 17-1). -/
def slotOfSector (bank sector : Nat) : Option Nat :=
  if bank = 0 then (if 32 ≤ sector ∧ sector < 64 then some 0 else if 64 ≤ sector ∧ sector < 96 then some 1 else none)
  else if sector < 32 then some 2 else if sector < 64 then some 3 else none

/-- A host write of its own to a slot's sector leaves its approval entry unmatched: the slot reads BAD (R371, R288). -/
def spoilSlot (bank sector : Nat) (s : State) : State :=
  match slotOfSector bank sector with
  | some k =>
    let w := if s.img.written.contains k then s.img.written else k :: s.img.written
    let b := if approvedEntry s k && !s.img.bad.contains k then k :: s.img.bad else s.img.bad
    { s with img := { s.img with written := w, bad := b } }
  | none => s

/-! ### Settings records -/

/-- The newest valid record (R381). -/
def newestSettings (l : List Settings) : Option Settings :=
  (l.filter (fun r => r.valid)).foldl (fun a r =>
    match a with
    | none => some r
    | some b => if b.seq.toNat < r.seq.toNat then some r else some b) none

/-- A register with a field of class NV. -/
def RegSpec.hasNv (r : RegSpec) : Bool := r.fields.any (fun f => decide (f.cls = .nv))

/-- The stored registers with NV fields that differ from their reset values (R381). -/
def nvRegisters (s : State) : Sparse Word :=
  s.regs.filter (fun e =>
    match findReg e.1 with
    | some r => r.hasNv
    | none => false)

/-- The settings shadow: every NV field (R381). -/
def shadow (s : State) : Settings :=
  { nv := nvRegisters s, srcs := s.evt.srcs, pools := s.shoe.pools.map (fun e => (e.1, (e.2.cfg, e.2.first, e.2.count))), regions := s.shoe.regions }

/-- The place where a record goes: the copy that does not hold the newest valid one, in the sector after that copy's latest (R382). -/
def nextPlace (l : List Settings) (copy : Nat) : Nat :=
  match (l.filter (fun r => r.copy == copy)).foldl (fun (a : Option Settings) r =>
      match a with
      | none => some r
      | some b => if b.seq.toNat < r.seq.toNat then some r else some b) none with
  | some r => (r.sector + 1) % 8
  | none => 0

/-- The flash sector of a settings record: bank and sector (Table 17-1). -/
def recordSector (r : Settings) : Nat × Nat := (r.copy, if r.copy = 0 then 96 + r.sector else 64 + r.sector)

/-- The steward begins to write a record: the sector is erased under the journal, and its pages are programmed (R382). -/
def beginRecord (n q : Nat) (r : Settings) (second : Bool) (s : State) : State :=
  let p := recordSector r
  let s1 := journalErase p.1 p.2 s
  let l := s1.nvm.settings.filter (fun x => !(x.copy == r.copy && x.sector == r.sector))
  { s1 with nvm := { s1.nvm with settings := l, storing := some (n, q, r, second), storeWaits := false
                                 running := Sparse.put s1.nvm.running p.1 { op := 1, sector := p.2, host := false } } }

/-- A STORE that has taken its snapshot goes on once its bank is free (R382). -/
def settleStore (s : State) : State :=
  match s.nvm.storing with
  | some (n, q, r, second) =>
    if s.nvm.storeWaits && (Sparse.find s.nvm.running r.copy).isNone && (Sparse.find s.nvm.suspended r.copy).isNone then beginRecord n q r second s
    else s
  | none => s

/-- STORE: a snapshot of the shadow is written as a record of the other copy, once its bank is free (R382). -/
def opStore (n : Nat) (s : State) : State :=
  beginTask 0x18 n (fun t a =>
    let newest := newestSettings a.nvm.settings
    let copy := match newest with
      | some r => 1 - r.copy
      | none => 0
    let seq := match newest with
      | some r => r.seq + 1
      | none => 1
    if copy = 0 ∧ parked a = true then finish n t.seq (notReady 15) a
    else if a.nvm.storing.isSome then a
    else
      let r := { shadow a with copy := copy, sector := nextPlace a.nvm.settings copy, seq := seq }
      let b := commence n t.seq a
      settleStore { b with nvm := { b.nvm with storing := some (n, t.seq, r, false), storeWaits := true } }) s

/-- The record that STORE wrote has been margin-verified (R382). -/
def recordDone (fail : Nat) (s : State) : State :=
  match s.nvm.storing with
  | none => s
  | some (n, q, r, second) =>
    if fail = 0 then
      let s1 := { s with nvm := { s.nvm with settings := s.nvm.settings ++ [r], storing := none } }
      finish n q { status := 0, info0 := BitVec.ofNat 64 r.seq.toNat } (raise 400 [r.seq, word r.copy] (s1.setReg Reg.nvmStoreSeq r.seq))
    else if second then
      finish n q (notReady 14) (raise 401 [] { s with nvm := { s.nvm with storing := none } })
    else beginRecord n q { r with sector := (r.sector + 1) % 8 } true s

/-! ### Completion -/

/-- What a finished host operation has done to the flash (R370, R380). -/
def applyFlashOp (bank : Nat) (o : FlashOp) (s : State) : State :=
  match o.op with
  | 1 =>
    let a := 8388608 * bank + 65536 * o.sector + 512 * o.page
    spoilSlot bank o.sector { s with nvm := { s.nvm with bytes := programBytes a o.data s.nvm.bytes } }
  | 2 => spoilSlot bank o.sector (journalAdd { type := 2, bank := bank, sector := o.sector } (eraseSector bank o.sector s))
  | _ => s

/-- NVM_OPERATION_COMPLETE: the bank's operation ends with `fail` bits in its margin read; the host's shows RESULT 0 and event 407, the
steward's belongs to a STORE (R375, R382). -/
def opNvmOperationComplete (bank fail : Nat) (s : State) : State :=
  match Sparse.find s.nvm.running bank with
  | none => s
  | some o =>
    let s1 := { s with nvm := { s.nvm with running := Sparse.erase s.nvm.running bank } }
    if o.host then
      let s2 := applyFlashOp bank o s1
      settleStore (nvmDone (if o.op = 5 ∨ o.op = 6 then s2.setFld Reg.nvmResult Fld.nvmResultFailBits (satAt 0xFFFFF fail) else s2))
    else if s.nvm.storing.isSome && !s.nvm.storeWaits then recordDone fail s1
    else s

/-! ### Parking -/

/-- PARK_REQUEST: the steward is to leave bank A; nothing while it is parked (R377). -/
def opParkRequest (s : State) : State := if parked s then s else s.setFld Reg.nvmPark Fld.nvmParkRequest 1

/-- STEWARD_PARKED: its own operations on bank A are finished, a STORE that waits for it among them: PARKED, and event 409 (R377). -/
def opStewardParked (s : State) : State :=
  let waits := match s.nvm.storing with
    | some (_, _, r, _) => s.nvm.storeWaits && r.copy == 0
    | none => false
  let own := waits || (match Sparse.find s.nvm.running 0 with
    | some o => !o.host
    | none => false)
  if s.flag Reg.nvmPark Fld.nvmParkRequest && !own then
    raise 409 [] ((s.setFld Reg.nvmPark Fld.nvmParkRequest 0).setFld Reg.nvmPark Fld.nvmParkParked 1)
  else s

/-- Parking ends: event 409 (R377). -/
def unpark (s : State) : State := if parked s then raise 409 [] (s.setFld Reg.nvmPark Fld.nvmParkParked 0) else s

/-- PARK_RELEASE (R377). -/
def opParkRelease (s : State) : State := unpark s

/-- PARK_TIMEOUT: 60 s after the last host command on bank A has ended, with no host erase of it running or suspended (R377). -/
def opParkTimeout (s : State) : State :=
  if (Sparse.find s.nvm.running 0).isSome || (Sparse.find s.nvm.suspended 0).isSome then s else unpark s

/-! ### The commands -/

/-- STORE (R382). -/
def execStore (n : Fin 4096) (s : State) : Host.Outcome State Fault Refusal := run (opStore n.val) s

/-- NVM_PROGRAM (R375, R376). -/
def execNvmProgram (s : State) : Host.Outcome State Fault Refusal := run opNvmProgram s

/-- NVM_ERASE (R375, R376, R380). -/
def execNvmErase (s : State) : Host.Outcome State Fault Refusal := run opNvmErase s

/-- NVM_SUSPEND (R375, R376). -/
def execNvmSuspend (s : State) : Host.Outcome State Fault Refusal := run opNvmSuspend s

/-- NVM_RESUME (R375, R376). -/
def execNvmResume (s : State) : Host.Outcome State Fault Refusal := run opNvmResume s

/-- NVM_MARGIN_PV (R375). -/
def execNvmMarginPv (s : State) : Host.Outcome State Fault Refusal := run opNvmMarginPv s

/-- NVM_MARGIN_EV (R375). -/
def execNvmMarginEv (s : State) : Host.Outcome State Fault Refusal := run opNvmMarginEv s

/-- NVM_OPERATION_COMPLETE (R375, R380, R382). -/
def execNvmOperationComplete (bank : Fin 2) (failBits : Nat) (s : State) : Host.Outcome State Fault Refusal :=
  run (opNvmOperationComplete bank.val failBits) s

/-- PARK_REQUEST (R377). -/
def execParkRequest (s : State) : Host.Outcome State Fault Refusal := run opParkRequest s

/-- STEWARD_PARKED (R377). -/
def execStewardParked (s : State) : Host.Outcome State Fault Refusal := run opStewardParked s

/-- PARK_RELEASE (R377). -/
def execParkRelease (s : State) : Host.Outcome State Fault Refusal := run opParkRelease s

/-- PARK_TIMEOUT (R377). -/
def execParkTimeout (s : State) : Host.Outcome State Fault Refusal := run opParkTimeout s

/-- RD_DELAY_WRITE (R373). -/
def execRdDelayWrite (delay : BitVec 4) (s : State) : Host.Outcome State Fault Refusal := run (opRdDelayWrite delay.toNat) s

/-- WP_SET (R378). -/
def execWpSet (k : Fin 8) (v : Word) (s : State) : Host.Outcome State Fault Refusal := run (opWpSet k.val v) s

/-- WP_CLR (R378). -/
def execWpClr (k : Fin 8) (v : Word) (s : State) : Host.Outcome State Fault Refusal := run (opWpClr k.val v) s

/-- NVM_WIN_READ (R370, R374). -/
def execNvmWinRead (off : BitVec 10) (bitErrors : Nat) (s : State) : Host.Outcome State Fault Refusal := run (opNvmWinRead off.toNat bitErrors) s

/-- NVM_CAL_READ (R372, R374). -/
def execNvmCalRead (off : BitVec 10) (s : State) : Host.Outcome State Fault Refusal := run (opNvmCalRead off.toNat) s

end Sys2Proof.Machine
end

