-- ==== Sys2Proof/Machine/Images.lean ====
section
/-! DEFINITION. Tabjo images (R283 to R287, R291), slots (R288 to R290), boot (R292), activation in epochs (R293 to R296). -/

namespace Sys2Proof.Machine

/-! ### The container -/

/-- A format section lies within Tables 13-3, 06-10 and 06-11 (R147, R148, R285). -/
def formatOk (b : List Byte) : Bool :=
  let f := fmtOf b
  let within := fun (lo hi v : Nat) => decide (lo ≤ v) && decide (v ≤ hi)
  within 256 1024 f.nT && f.nT % 64 == 0 && within 4 16 f.nS && within 0 2 f.nB && within 32 128 f.nF && within 4 32 f.p2
    && within 8 32 f.p1 && within 0 3 f.pave && within 16 128 f.hand && within 1 8 f.p3 && within 1 32 f.rh && within 0 2 f.c4
    && within 0 1 (leAt b 17 1) && within 1000 4000 f.gapUm && within 1 16 f.lockTol && within (f.lockTol + 1) 32 f.offTol
    && within 2 512 f.wraps && leAt b 24 4 == 0 && decide (28 + 4 * f.wraps ≤ b.length) && (b.drop (28 + 4 * f.wraps)).all (fun x => x == 0)
    && f.nT % f.nF == 0 && decide (f.groups * f.nS ≤ 64) && f.n1 % 4 == 0 && decide (64 + f.p1 ≤ f.n1)
    && decide ((f.nF + f.nS - 1) / f.nS ≤ f.p2) && decide (f.p2 + 16 ≤ f.nF) && decide (65536 ≤ f.userBytes)

/-- The types of a directory are as R284 requires: 1 to 6 once each, then up to seven of type 7. -/
def typesOk (l : List Nat) : Bool := l.take 6 == [1, 2, 3, 4, 5, 6] && (l.drop 6).all (fun t => t == 7) && decide (l.length ≤ 13)

/-- Every section stands inside the image on a 16-byte boundary after the one before it (R283, R284). -/
def placesOk (limit : Nat) : Nat → List DirEntry → Bool
  | _, [] => true
  | lo, e :: l => e.offset % 16 == 0 && decide (lo ≤ e.offset) && decide (e.offset + e.length ≤ limit) && placesOk limit (e.offset + e.length) l

/-- The first check of Table 13-4 that an image fails, `expect` bytes long, with a byte offset where one applies; none where it passes
(R291). -/
def imageFault (b : List Byte) (expect : Nat) : Option (Nat × Nat) :=
  let len := leAt b 8 4
  let dir := imageDir b
  let formats := sectionsOf b 1 ++ sectionsOf b 7
  let checks : List (Bool × Nat × Nat) :=
    [(leAt b 0 4 == 0x4A424154, 1, 0), (leAt b 4 2 == 1, 1, 4), (decide (len ≤ 2097152) && len == expect && decide (len ≤ b.length) && len % 16 == 0, 1, 8),
     (decide (leAt b 6 1 ≤ 0x10), 2, 6),
     (leAt b (len - 16) 4 == 0x444E4554 && leAt b (len - 12) 8 == 0, 3, len - 16),
     (leAt b (len - 4) 4 == (crc32 (b.take (len - 4))).toNat, 3, len - 4),
     (typesOk (dir.map DirEntry.type) && placesOk (len - 16) (64 + 16 * dir.length) dir, 4, 64)]
    ++ dir.map (fun e => (e.crc == (crc32 (sectionBytes b e)).toNat, 4, e.offset))
    ++ dir.map (fun e => (e.version == 1, 5, e.offset))
    ++ (dir.filter (fun e => e.type == 1 || e.type == 7)).map (fun e => (formatOk (sectionBytes b e), 6, e.offset))
    ++ [(decide ((formats.map formatId).dedup.length = formats.length), 6, 0)]
    ++ (dir.filter (fun e => decide (2 ≤ e.type) && decide (e.type ≤ 6))).map (fun e => (Config.sectionOk e.type (sectionBytes b e), 7, e.offset))
    ++ [((fmtOf (sectionOf b 1)).c4 == 0 || Config.routesAll (sectionOf b 2), 8, 0)]
  (checks.find? (fun c => !c.1)).map (fun c => c.2)

/-- What the sections of an image set (Table 13-2; log entry 16). -/
def parseImage (b : List Byte) : Image :=
  let part := fun t => Config.sectionImage t (sectionOf b t)
  { format := sectionOf b 1, legacy := sectionsOf b 7, routing := (part 2).routing, profiles := (part 2).profiles, limit := (part 3).limit,
    predSet := (part 3).predSet, version := (part 3).version, versions := (part 3).versions, loupe := (part 4).loupe, chains := (part 5).chains,
    limits := (part 5).limits, jasReset := (part 5).jasReset, eventMap := (part 6).eventMap, length := leAt b 8 4,
    check := word (leAt b (leAt b 8 4 - 4) 4) }

/-- The PACE chain of Garnet-1 (Table 11-4). -/
def garnetPace : List JStage :=
  [{ type := 1, x := .source 0, coefs := [(1275605, 28), (0, 0), (0, 0), (0, 0), (0, 0)] },
   { type := 6, x := .prev, aux := .source 1, coefs := [(1020484, 31)] },
   { type := 3, x := .prev, coefs := [(0, 0), (0, 0)] }, { type := 4, x := .prev, coefs := [(0, 0), (0, 0)] }]

/-- The Garnet-1 image that slot 0 holds at shipment (R288; log entry 14). -/
def garnetImage : Image :=
  let rest := Config.garnetRest
  { rest with
    format := garnetSection, legacy := [], routing := [], limit := 262144, predSet := 15, version := 1, versions := [1]
    loupe := (List.range 4).map (fun d => (resetOf (Reg.dkLoupeCtrl d), resetOf (Reg.dkLoupeHealth d)))
    chains := (List.range 4).foldl (fun m d => Sparse.put m (4 * d) garnetPace) rest.chains
    jasReset := [], length := Config.shippedTrailer.1, check := Config.shippedTrailer.2 }

/-! ### Slots -/

/-- The image of a slot, or the check that it fails (R291). -/
def slotImage (s : State) (k : Nat) : Except (Nat × Nat) Image :=
  if slotShipped s k then .ok garnetImage
  else
    let b := slotBytes s k
    let expect := match approval s k with
      | some a => a.1
      | none => leAt b 8 4
    match imageFault b expect with
    | some f => .error f
    | none => .ok (parseImage b)

/-- The contents match the approval entry (R288). -/
def matchesEntry (s : State) (k : Nat) (i : Image) : Bool :=
  match approval s k with
  | some a => decide (a = (i.length, i.check))
  | none => false

/-- CFG_RESULT at a command's end. -/
def cfgResult (code : Nat) (fault : Nat × Nat) (mismatch : Bool) (s : State) : State :=
  let w := s.reg Reg.cfgResult
  s.setReg Reg.cfgResult (putBits (putBits (putBits (putBits w Fld.cfgResultResult code) Fld.cfgResultCheck fault.1)
    Fld.cfgResultOffset (fault.2 / 32)) Fld.cfgResultMismatch (bit mismatch))

/-- A new slot command unless one runs, which gives RESULT 5 (R290). -/
def slotCommand (f : Nat → State → State) (s : State) : State :=
  if s.img.cmd.isSome then s.setFld Reg.cfgResult Fld.cfgResultResult 5
  else f (s.fld Reg.cfgSlotSel Fld.cfgSlotSelSlot) (s.incFld Reg.cfgResult Fld.cfgResultSeq 1)

/-- The next piece of the image is read by DMA (R289, R335). -/
def fetchImage (s : State) : State :=
  match s.img.cmd with
  | some (1, _, (a, len), got) =>
    if got.length < len then hostRead (4096, 0) (a + got.length) (readPiece (a + got.length) (len - got.length)) s else s
  | _ => s

/-- A slot's approval entry is removed, with a revoke entry in the journal (R289, R290). -/
def removeApproval (k : Nat) (s : State) : State :=
  if approvedEntry s k then
    let i := { s.img with approved := s.img.approved.filter (fun e => e.1 != k), shippedOk := s.img.shippedOk && k != 0 }
    journalAdd { type := 4, slot := k } { s with img := i }
  else s

/-- The image read is checked, and where it passes the slot is erased and programmed (R289); it waits while the bank is taken. -/
def programSlot (s : State) : State :=
  match s.img.cmd with
  | some (1, k, (a, len), got) =>
    match imageFault got len with
    | some f => cfgResult 3 f false { s with img := { s.img with cmd := none } }
    | none =>
      let p := slotSectors k
      if (Sparse.find s.nvm.running p.1).isSome || (Sparse.find s.nvm.suspended p.1).isSome || (k < 2 && parked s) then s
      else
        let s1 := forEach (List.range 32) (fun i b => journalErase p.1 (p.2 + i) b) (removeApproval k s)
        let nv := { s1.nvm with bytes := programBytes (8388608 * p.1 + 65536 * p.2) got s1.nvm.bytes
                                running := Sparse.put s1.nvm.running p.1 { op := 1, sector := p.2, host := false } }
        let im := { s1.img with cmd := some (2, k, (a, len), got), bad := s1.img.bad.filter (fun x => x != k)
                                written := if s1.img.written.contains k then s1.img.written else k :: s1.img.written }
        ({ s1 with nvm := nv, img := im }).setReg (Reg.nvmWp (4 * p.1 + p.2 / 32)) 0
  | _ => s

/-- A piece of the image has come (R289, R335). -/
def takeImageBytes (bytes : List Byte) (s : State) : State :=
  match s.img.cmd with
  | some (1, k, (a, len), got) =>
    let all := got ++ bytes
    let s1 := { s with img := { s.img with cmd := some (1, k, (a, len), all) } }
    if all.length < len then fetchImage s1 else programSlot s1
  | _ => s

/-- The DMA of a slot command has failed: RESULT 6 (R335). -/
def failImageRead (s : State) : State :=
  match s.img.cmd with
  | some (1, _, _, _) => cfgResult 6 (0, 0) false { s with img := { s.img with cmd := none } }
  | _ => s

/-- WRITE_SLOT: under presence the image is read into the selected slot (R289). -/
def opWriteSlot (s : State) : State :=
  slotCommand (fun k a =>
    if !a.window then refuseWrite Reg.cfgCommand (cfgResult 2 (0, 0) false a)
    else
      let addr := a.pair Reg.cfgSrcLo Reg.cfgSrcHi % 2 ^ 52
      let len := a.fld Reg.cfgSrcLen Fld.cfgSrcLenLen
      let a1 := cfgResult 1 (0, 0) false { a with img := { a.img with cmd := some (1, k, (addr, len), []) } }
      if len = 0 then programSlot a1 else fetchImage a1) s

/-- SLOT_WRITE_DONE: the margin verify of a programmed slot: it is APPROVED with event 438, or BAD with event 439 (R289). -/
def opSlotWriteDone (ok : Bool) (s : State) : State :=
  match s.img.cmd with
  | some (2, k, (_, len), got) =>
    let p := slotSectors k
    let s1 := { s with img := { s.img with cmd := none }, nvm := { s.nvm with running := Sparse.erase s.nvm.running p.1 } }
    let s2 := s1.setReg (Reg.nvmWp (4 * p.1 + p.2 / 32)) 0xFFFFFFFF
    settleStore (if ok then
      let check := word (leAt got (len - 4) 4)
      let s3 := journalAdd { type := 3, slot := k, len := len, check := check } { s2 with img := { s2.img with approved := (k, len, check) :: s2.img.approved } }
      raise 438 [] (cfgResult 0 (0, 0) false s3)
    else raise 439 [] (cfgResult 4 (0, 0) false { s2 with img := { s2.img with bad := k :: s2.img.bad } }))
  | some (1, _, (_, len), got) => if got.length = len then programSlot s else s
  | _ => s

/-- VERIFY: the selected slot is checked against Table 13-4 and its approval entry; nothing changes but CFG_RESULT (R290). -/
def opVerify (s : State) : State :=
  slotCommand (fun k a =>
    match slotImage a k with
    | .error f => cfgResult 3 f (!approvedEntry a k || !slotShipped a k) a
    | .ok i => cfgResult 0 (0, 0) (!matchesEntry a k i) a) s

/-- REVOKE: the selected slot's approval entry is removed, with event 441 (R290). -/
def opRevoke (s : State) : State :=
  slotCommand (fun k a => cfgResult 0 (0, 0) false (if approvedEntry a k then raise 441 [] (removeApproval k a) else a)) s

/-! ### An image comes into force -/

/-- The Loupe section: DKd_LOUPE_CTRL and DKd_LOUPE_HEALTH of every deck (Table 13-2). -/
def applyLoupe (i : Image) (s : State) : State :=
  forEach (List.range 4) (fun d a =>
    match i.loupe[d]? with
    | some (c, h) => (a.setReg (Reg.dkLoupeCtrl d) c).setReg (Reg.dkLoupeHealth d) h
    | none => a) s

/-- Low 32 bits of an image's format identity (R286). -/
def imageId (i : Image) : Word := word (formatLow i.format)

/-- The registers that show the image in force (R292, R294). -/
def showImage (k : Nat) (i : Image) (s : State) : State :=
  (((s.setFld Reg.cfgStatus Fld.cfgStatusSlot k).setFld Reg.cfgStatus Fld.cfgStatusNoImage 0).setReg Reg.cfgActiveId (imageId i)).setReg
    Reg.cfgActiveCheck i.check

/-- The chains of an image in the loops of a deck, at once. -/
def setChains (i : Image) (d : Nat) (s : State) : State :=
  forEach (List.range 4) (fun l a => a.putLoop d l { (a.loopAt d l) with
    chain := Sparse.get [] i.chains (4 * d + l), states := [], outs := [], ins := [], limited := [], shadow := [], newChain := none, ramp := none
    chainRamp := none, switched := none }) s

/-- A slot passes the checks of boot and of its approval entry (R292). -/
def bootable (s : State) (k : Nat) : Option Image :=
  if slotState s k = 2 then
    match slotImage s k with
    | .ok i => if matchesEntry s k i then some i else none
    | .error _ => none
  else none

/-- A slot of the list that boots, the first one. -/
def firstBootable (s : State) (l : List Nat) : Option (Nat × Image) := l.findSome? (fun k => (bootable s k).map (fun i => (k, i)))

/-- The value of a register in the newest settings record (R381). -/
def storedReg (s : State) (off : Nat) : Word :=
  match newestSettings s.nvm.settings with
  | some r => (Sparse.find r.nv off).getD (resetOf off)
  | none => resetOf off

/-- An image is put in force without epochs (R292). -/
def bootWith (k : Nat) (i : Image) (s : State) : State :=
  let s1 := { s with img := { s.img with inForce := some i, staged := none, deckPending := [], deckImage := [], noisy := [], activating := none } }
  let s2 := forEach (List.range 4) (setChains i) (applyLoupe i (showImage k i s1))
  forEach i.jasReset (fun e a => a.setReg e.1 e.2) s2

/-- No image is in force (R292). -/
def bootNone (s : State) : State :=
  { s with img := { s.img with inForce := none, staged := none, deckPending := [], deckImage := [], noisy := [], activating := none } }.setFld
    Reg.cfgStatus Fld.cfgStatusNoImage 1

/-- The steward boots the slot that the stored CFG_BOOT names, slot 0 in its place where BOOT_SEL is 1, or falls back; none where BOOT_SEL is
2. FALLBACK_USED shows a slot other than CFG_BOOT.SLOT (R292, Table 19-3). -/
def bootImage (s : State) : State :=
  let sel := s.fld Reg.glbStraps Fld.glbStrapsBootSel
  let cfg := storedReg s Reg.cfgBoot
  let k := if sel = 1 then 0 else getBits cfg Fld.cfgBootSlot
  let boot := fun (x : Nat) (i : Image) => (bootWith x i s).setFld Reg.cfgStatus Fld.cfgStatusFallbackUsed (bit (x != getBits cfg Fld.cfgBootSlot))
  if sel = 2 then bootNone s
  else
    match bootable s k with
    | some i => boot k i
    | none =>
      let others := (List.range 4).filter (fun x => x != k && slotState s x == 2)
      match (if getBits cfg Fld.cfgBootFallback = 1 then firstBootable s others else none) with
      | some (x, i) => raise 442 [word x] (boot x i)
      | none => bootNone s

/-! ### Epochs -/

/-- The front-end is told the head gap of the format in force (Table 14-6). -/
def sendGap (d : Nat) (s : State) : State :=
  if linkState s d = 2 then
    nextRegister d (s.onDeck d (fun k => { k with feQueue := k.feQueue ++ [(true, 0x000C, word (deckFmt s d).gapUm, false)] }))
  else s

/-- A deck, or a dealt group, takes the pending format, fabric and legacy sections: the count and event 433 of each deck, EPOCH where it
was not quiet (R226, R294). -/
def takeFormatEpoch (td : Nat) (s : State) : State :=
  let g := groupOf s td
  let trick := match (s.deckAt td).active with
    | some p => (s.tableAt td p).nextTrick
    | none => 0
  let noisy := s.img.noisy.filter (fun t => t / 64 == td)
  let im := { s.img with deckPending := s.img.deckPending.filter (fun d => !g.contains d), noisy := s.img.noisy.filter (fun t => t / 64 != td)
                         deckImage := Sparse.keep (fun d => !g.contains d) s.img.deckImage }
  let s1 := forEach g (fun d a =>
    let b := a.addFld (Reg.cfgDeckEpoch d) Fld.cfgDeckEpochCount 1
    sendGap d (raise 433 ([word d, b.reg (Reg.cfgDeckEpoch d)] ++ words2 trick) b)) { s with img := im }
  settleActivation (forEach noisy (fun t a => setGuarantee (t / 64) (t % 64) 5 a) s1)

/-- A task reads the tape of a deck's group (R294). -/
def restoreUnderWay (s : State) (d : Nat) : Bool := (groupOf s d).any (fun x => (s.deckAt x).wanted.isSome || (s.deckAt x).mode == 2)

/-- FORMAT_EPOCH: the pending epoch of a deck takes effect at its round boundary (R294). -/
def opFormatEpoch (d : Nat) (s : State) : State :=
  let td := tableDeck s d
  let due := match (s.deckAt td).active with
    | some p => epochBoundary s td p
    | none => true
  if s.img.deckPending.contains d && due && !restoreUnderWay s td then takeFormatEpoch td s else s

/-- CUTTER_EPOCH: the pending epoch of a context takes effect: its open block has closed (R294). -/
def opCutterEpoch (n : Nat) (s : State) : State := dueEpoch n s

/-! ### Activation -/

/-- A data task is in flight on a context bound to a deck (R226, R293). -/
def deckDataInFlight (s : State) (d : Nat) : Bool :=
  (boundToDeck s d).any (fun n => (s.ctxAt n).tasks.any (fun t => dataOpcodes.contains t.opcode))

/-- A deck's active table has an open trick (R293). -/
def openTrick (s : State) (td : Nat) : Bool :=
  match (s.deckAt td).active with
  | some p => !(s.tableAt td p).openEntries.isEmpty
  | none => false

/-- The active table of a deck has a hand or round open, whose round keeps its format (R159). -/
def roundOpen (s : State) (td : Nat) : Bool :=
  match (s.deckAt td).active with
  | some p => !((s.tableAt td p).openHand.isEmpty && (s.tableAt td p).openRound.isEmpty)
  | none => false

/-- A change of C4 while a deck has a data task in flight, an open trick or an unreleased round (R293). -/
def dealBusy (s : State) (i : Image) : Bool :=
  let new := (fmtOf i.format).c4
  (List.range 4).any (fun d => (deckFmt s d).c4 != new
    && (List.range 4).any (fun x => deckDataInFlight s x || openTrick s x || roundOpen s x || !((s.deckAt x).rounds).isEmpty))

/-- A deck's active table holds a hand and would not be usable under the new image (R287, R293). -/
def tableLost (s : State) (i : Image) : Bool :=
  (List.range 4).any (fun d =>
    match (s.deckAt d).active with
    | some p => !usableUnder (i.format :: i.legacy) (s.tableAt d p)
    | none => false)

/-- Why an activation cannot run (R293). -/
def activationRefusal (s : State) (k : Nat) : Option Completion :=
  if s.sec.state = 2 then some (securityState 2)
  else if slotState s k ≠ 2 then some (fieldRange 8 k)
  else if s.img.staged.isSome || s.img.cmd.isSome then some (notReady 12)
  else
    match slotImage s k with
    | .ok i => if dealBusy s i || tableLost s i then some (notReady 5) else none
    | .error _ => none

/-- A context takes the new Cutter section, at once or at its next block boundary: whether at once (R226, R294). -/
def cutterUnit (old : Nat × Nat × Nat) (r : Nat × State) (n : Nat) : Nat × State :=
  let s := r.2
  let c := s.ctxAt n
  if blockOpen c.inq then (r.1, s.putCtx n { c with oldCutter := some (c.oldCutter.getD old) })
  else
    let s1 := s.incFld (Reg.ctxEpoch n) Fld.ctxEpochCount 1
    let loud := bound s n && c.tasks.any (fun t => t.opcode == 1 || t.opcode == 2)
    (r.1 + 1, if loud then setGuarantee (bindDeck s n) (bindPart s n) 5 s1 else s1)

/-- A format epoch of a deck's group is quiet (R226). -/
def quietDeck (s : State) (td : Nat) : Bool :=
  !openTrick s td && !(groupOf s td).any (deckDataInFlight s)
    && (match (s.deckAt td).active with
        | some p => (s.tableAt td p).items.isEmpty
        | none => true)

/-- The tables that a format epoch of a deck's group concerns, by 64 × deck + partition: the active one, else those of the data tasks in flight
(R226). -/
def epochTables (s : State) (td : Nat) : List Nat :=
  match (s.deckAt td).active with
  | some p => [64 * td + p]
  | none => ((boundToDeck s td).filter (fun n => (s.ctxAt n).tasks.any (fun t => dataOpcodes.contains t.opcode))).map (fun n => 64 * td + bindPart s n)


/-- A deck's group takes the new format section at once, or keeps the old image until its round boundary (R159, R294). -/
def formatUnit (old : Image) (td : Nat) (s : State) : State :=
  let g := groupOf s td
  let waits := openTrick s td || roundOpen s td || g.any (fun d => (s.deckAt d).rounds.any (fun r => !r.started)) || restoreUnderWay s td
  let noisy := if quietDeck s td then s.img.noisy else s.img.noisy ++ (epochTables s td).dedup
  let im := { s.img with deckPending := s.img.deckPending ++ g, noisy := noisy
                         deckImage := g.foldl (fun m d => Sparse.put m d old) s.img.deckImage }
  let s1 := { s with img := im }
  if waits then s1 else takeFormatEpoch td s1

/-- The Jasper chains of a deck: each loop takes its own at its next sample, or at once where no samples come (R243, R294). -/
def jasperUnit (i : Image) (d : Nat) (s : State) : State :=
  if laneCarries s d && (s.deckAt d).motorEn then
    forEach (List.range 4) (fun l a => a.putLoop d l { (a.loopAt d l) with newChain := some (Sparse.get [] i.chains (4 * d + l)) }) s
  else
    let s1 := setChains i d s
    if (s.deckAt d).present then raise 435 [] s1 else s1

/-- The images' part of the state changed by `f`. -/
def State.onImg (s : State) (f : ImgUnit → ImgUnit) : State := { s with img := f s.img }

/-- The activation of a checked image in epochs (R294, Table 13-5). -/
def activate (n q k : Nat) (i : Image) (s : State) : State :=
  let old := s.img.inForce.getD {}
  let s1 := commence n q (s.addFld Reg.cfgActCount Fld.cfgActCountCount 1)
  let heads := (List.range 4).filter (fun d => tableDeck s1 d == d && (s1.deckAt d).present)
  let r := (List.range 4096).foldl (cutterUnit (old.limit, old.predSet, old.version)) (0, s1)
  let s2 := raise 432 [word k, word r.1] r.2
  let keep := (List.range 4).foldl (fun m d => Sparse.put m d ((deckImage s1 d).getD old)) []
  let s3 := s2.onImg (fun g => { g with inForce := some i, staged := some i, activating := some (n, q, k), deckImage := keep })
  let s4 := raise 436 [] (applyLoupe i (showImage k i s3))
  let s5 := forEach heads (formatUnit old) s4
  let s6 := s5.onImg (fun g => { g with deckImage := Sparse.keep (fun d => g.deckPending.contains d) g.deckImage })
  let s7 := forEach (List.range 4) (jasperUnit i) s6
  if s7.loops.all (fun e => e.2.newChain.isNone) then chainsReplaced 4 s7 else s7

/-- IMAGE_ACTIVATE: an approved slot is read, checked and applied in epochs (R293, R294). -/
def opImageActivate (n : Nat) (s : State) : State :=
  beginTask 0x19 n (fun t a =>
    let k := t.field 8 1
    unlessRefused n t.seq (activationRefusal a k) (fun a =>
      match slotImage a k with
      | .error f => finish n t.seq (notReady 13) (raise 440 [word f.1] a)
      | .ok i => activate n t.seq k i a) a) s

/-- Every pending epoch takes effect, as a WARM reset makes them (R296). -/
def applyPending (s : State) : State :=
  let s1 := forEach (List.range 4) (fun d a => if a.img.deckPending.contains d && tableDeck a d == d then takeFormatEpoch d a else a) s
  let s2 := forEach ((s1.ctx.filter (fun e => e.2.oldCutter.isSome)).map (fun e => e.1)) takeCutterEpoch s1
  let s3 := forEach (List.range 4) (fun d a =>
    forEach (List.range 4) (fun l b =>
      match (b.loopAt d l).newChain with
      | some c => b.putLoop d l { (b.loopAt d l) with chain := c, states := [], outs := [], ins := [], limited := [], newChain := none }
      | none => b) a) s2
  settleActivation { s3 with img := { s3.img with activating := none } }

/-! ### The commands -/

/-- WRITE_SLOT (R289). -/
def execWriteSlot (s : State) : Host.Outcome State Fault Refusal := run opWriteSlot s

/-- SLOT_WRITE_DONE (R289). -/
def execSlotWriteDone (marginOk : Bool) (s : State) : Host.Outcome State Fault Refusal := run (opSlotWriteDone marginOk) s

/-- VERIFY (R290). -/
def execVerify (s : State) : Host.Outcome State Fault Refusal := run opVerify s

/-- REVOKE (R290). -/
def execRevoke (s : State) : Host.Outcome State Fault Refusal := run opRevoke s

/-- FORMAT_EPOCH (R294). -/
def execFormatEpoch (d : Fin 4) (s : State) : Host.Outcome State Fault Refusal := run (opFormatEpoch d.val) s

/-- CUTTER_EPOCH (R294). -/
def execCutterEpoch (n : Fin 4096) (s : State) : Host.Outcome State Fault Refusal := run (opCutterEpoch n.val) s

/-- IMAGE_ACTIVATE (R293, R294). -/
def execImageActivate (n : Fin 4096) (s : State) : Host.Outcome State Fault Refusal := run (opImageActivate n.val) s

end Sys2Proof.Machine
end

