-- ==== Sys2Proof/Machine/Admin.lean ====
section
/-! DEFINITION. The administration tasks of decks and tables (R55, R56, R173): LOAD, UNLOAD, REWIND, PART_CREATE, PART_DELETE,
MEDIUM_FORMAT, and SEAT (R62, R63). -/

namespace Sys2Proof.Machine

/-! ### When they may run -/

/-- A task of another context than the task's own that is bound to one of these contexts' decks or tables is in flight (R55). -/
def othersInFlight (s : State) (n : Nat) (l : List Nat) : Bool := l.any (fun m => m != n && !(s.ctxAt m).tasks.isEmpty)

/-- A cartridge lies threaded in every deck of the group (R173, R314). -/
def threadedIn (s : State) (d : Nat) : Bool := (groupOf s d).all (fun x => (s.deckAt x).cartridge && (s.deckAt x).threaded)

/-- Why a task that names deck d cannot run: the reasons of Table 02-10 in rising order (log entry 10). -/
def adminReason (s : State) (d : Nat) (noCartridge inUse : Bool) : Option Nat :=
  firstReason [(deckAbsent s d, 2), (noCartridge, 3), (deckStopped s d, 4), (inUse, 5)]

/-- Nothing is to be written or read on the decks of a group, and their tapes are at rest. -/
def groupQuiet (s : State) (d : Nat) : Bool :=
  (groupOf s d).all (fun x =>
    let k := s.deckAt x
    k.eodWritten && k.rounds.isEmpty && k.script.isEmpty && k.toWrite.isNone && k.admin.isNone && k.wanted.isNone && !k.streamOpen && k.motion.pace == 0)

/-- The active table of a deck is to be given an end-of-data before anything else (R195). -/
def owesEnd (s : State) (d : Nat) : Bool :=
  match (s.deckAt d).active with
  | some p => (s.tableAt d p).needsEod
  | none => false

/-- The administration task of context n with this opcode: it is refused, waits until the decks are quiet (R168, R195), or runs. -/
def runAdmin (n : Nat) (refusal : State → Nat → Task → Option Completion) (f : Nat → Task → State → State) (t : Task) (s : State) : State :=
  let d := t.field 8 1
  unlessRefused n t.seq (refusal s d t) (fun a => if groupQuiet a d && !owesEnd a d then f d t a else a) s

/-- The decks of a group do an administration task's work. -/
def setAdmin (d : Nat) (w : AdminWork) (s : State) : State := forEach (groupOf s d) (fun x a => a.onDeck x (fun k => { k with admin := some w })) s

/-- The tapes of a group move to BOT (Table 07-7, R436). -/
def moveToStart (d : Nat) (s : State) : State :=
  forEach (groupOf s d) (fun x a => a.onMotion x (fun m => { m with pace := 5, target := some 0 })) (leaveIdle s)

/-- The guarantee bits of every table of the deck, and its restore counters, begin anew with a LOAD (R219, R232). -/
def clearAtLoad (d : Nat) (s : State) : State :=
  let s1 := forEach (List.range 8) (fun x a => a.setReg (Reg.dkRestoreCnt d x) 0) s
  { s1 with tables := Sparse.remap (fun _ => {}) (fun i t => if i / 64 = d then { t with guarantee := 0 } else t) s1.tables }

/-- What the device knows of the tables of a deck's cartridge is forgotten; seating stays (R63). -/
def forgetTables (d : Nat) (s : State) : State :=
  let clear := fun (t : Table) =>
    { t with known := false, directory := [], streams := [], nextTrick := 0, formats := [], full := false, needsEod := false, holder := none }
  { s with tables := Sparse.remap (fun _ => {}) (fun i t => if i / 64 = d then clear t else t) s.tables }

/-- What the device knows of a deck's cartridge is forgotten. -/
def Deck.eject (k : Deck) : Deck :=
  { Deck.forget k with
    loaded := false, blank := false, parts := [], label := [], dataParts := [], active := none, anchors := [], truncs := [], left := none }

/-- The cartridges of a group's decks are known no longer; their position maps' chips are free again (R213). -/
def ejectGroup (d : Nat) (s : State) : State :=
  forgetTables (tableDeck s d) (forEach (groupOf s d) (fun x a => freeOwned (fun t => t.cls == 4 && t.id == x) (a.onDeck x Deck.eject)) s)

/-! ### LOAD, UNLOAD, REWIND -/

/-- The medium lead of a threaded cartridge is read from BOT (R173). -/
def readLead (d n q : Nat) (s : State) : State :=
  forEach (groupOf s d) (fun x a => wantTape x (0, 0) (a.onDeck x (fun k => { k with admin := some (.load n q true) }))) s

/-- Why LOAD cannot run (R55, R173, R292). -/
def loadRefusal (n : Nat) (s : State) (d : Nat) (_t : Task) : Option Completion :=
  let gone := (groupOf s d).any (fun x => !(s.deckAt x).cartridge)
  let r := adminReason s d gone (othersInFlight s n (boundToDeck s d) || activeBusy s d)
  (orElse (r.map notReady) (if noImage s then some (notReady 11) else none))

/-- LOAD: the cartridge is threaded, then its medium lead is read (R173). -/
def opLoad (n : Nat) (s : State) : State :=
  beginTask 0x10 n (runAdmin n (loadRefusal n) (fun d t a =>
    let b := forEach (groupOf a d) clearAtLoad (ejectGroup d (commence n t.seq a))
    if threadedIn b d then readLead d n t.seq b else setAdmin d (.load n t.seq false) b)) s

/-- Why UNLOAD or REWIND cannot run (R55, Table 07-7). -/
def moveRefusal (n : Nat) (s : State) (d : Nat) (_t : Task) : Option Completion :=
  (adminReason s d (!threadedIn s d) (othersInFlight s n (boundToDeck s d) || activeBusy s d)).map notReady

/-- UNLOAD: the tape moves to BOT and is unthreaded (R173, Table 07-7). -/
def opUnload (n : Nat) (s : State) : State :=
  beginTask 0x11 n (runAdmin n (moveRefusal n) (fun d t a => moveToStart d (setAdmin d (.unload n t.seq) (commence n t.seq a)))) s

/-- REWIND: the tape moves to BOT (Table 07-7). -/
def opRewind (n : Nat) (s : State) : State :=
  beginTask 0x12 n (runAdmin n (moveRefusal n) (fun d t a => moveToStart d (setAdmin d (.rewind n t.seq) (commence n t.seq a)))) s

/-- UNLOAD completes when THREADED has cleared; a pending format epoch of the deck takes effect (R173, R296). -/
def endUnload (d n q : Nat) (s : State) : State :=
  let s1 := ejectGroup d (endAdmin d s)
  let td := tableDeck s d
  finish n q (status 0) (if s1.img.deckPending.contains td then takeFormatEpoch td s1 else s1)

/-- What a deck's STATUS record means for a LOAD or UNLOAD at work on it (R173). -/
def threadedNow (d : Nat) (s : State) : State :=
  match (s.deckAt d).admin with
  | some (.load n q false) => if threadedIn s d then readLead (tableDeck s d) n q s else s
  | some (.unload n q) => if (groupOf s d).all (fun x => !(s.deckAt x).threaded) then endUnload d n q s else s
  | _ => s

/-! ### The medium lead and partitions -/

/-- The medium lead cannot be decoded, or the cartridge is blank (R173). -/
def noLead (s : State) (d : Nat) (blankToo : Bool) : Option Completion :=
  let k := s.deckAt d
  if !k.loaded || (blankToo && k.blank) then some { status := 0x14, info1 := BitVec.ofNat 64 mediumLead } else none

/-- The wraps of a deck's cartridge, as STATUS reports them (R170). -/
def cartridgeWraps (s : State) (d : Nat) : Nat := s.fld (Reg.dkLnkFeInfo d) Fld.dkLnkFeInfoWraps

/-- The wraps that no partition uses begin here (Table 07-7). -/
def nextWrap (parts : Sparse (Nat × Nat)) : Nat := greatestOf (parts.map (fun e => e.2.1 + e.2.2))

/-- The next number of a partition: the least that is not PRESENT. -/
def nextPart (parts : Sparse (Nat × Nat)) : Nat := ((List.range 64).find? (fun p => (Sparse.find parts p).isNone)).getD 64

/-- The medium lead region of deck d: a run-in trick comes first by itself, then the medium lead, its repeat and 13 run-in tricks (R171,
Table 07-4). -/
def mediumRegion (s : State) (d : Nat) (parts : Sparse (Nat × Nat)) (label : List Byte) (image : Nat) : Nat × Word × List Trick :=
  let fmt := deckFormat s d
  let f := fmtOf fmt
  let r := leadRecord true fmt 0 f.c4 0 (cartridgeWraps s d) (partMap parts) label
  let fill : Trick := { number := mediumLead, body := .runIn, format := fmt, deck := d }
  (0, 0, framed fmt 0 d mediumLead 6 image (recordUser f.userBytes 4 r) ++ List.replicate 13 fill)

/-- A new partition on deck d: lead and repeat, end-of-data and repeat (R171, Table 07-7). -/
def newPartition (s : State) (d p first wraps : Nat) (label : List Byte) (image : Nat) : Nat × Word × List Trick :=
  let fmt := deckFormat s d
  let f := fmtOf fmt
  let r := leadRecord false fmt p f.c4 first wraps [] label
  let lead := framed fmt p d 0 6 image (recordUser f.userBytes 4 r)
  (first, wrapStart s d first, lead ++ framed fmt p d 1 7 (image + 1) (recordUser f.userBytes 5 (eodRecord (formatId fmt) 1 0 0 [])))

/-- Every deck of the group writes its segments, the last of them the medium lead region; the task completes with `c` (Table 07-7). -/
def writeMedium (td n q : Nat) (c : Completion) (parts : Sparse (Nat × Nat)) (label : List Byte)
    (before : Nat → Nat → State → List (Nat × Word × List Trick)) (s : State) : State :=
  forEach (groupOf s td) (fun d a =>
    let im := (a.deckAt d).images
    let segs := before d im a ++ [mediumRegion a d parts label (im + 2)]
    let b := a.onDeck d (fun k => { k with admin := some (.writing n q c segs parts label), images := im + 3, eodScript := false })
    segmentDone d b) (leaveIdle s)

/-- Why PART_CREATE cannot run (R55, R173). -/
def createRefusal (n : Nat) (s : State) (d : Nat) (t : Task) : Option Completion :=
  let parts := (s.deckAt d).parts
  let p := nextPart parts
  let r := adminReason s d (!threadedIn s d) (othersInFlight s n (boundTo s d p) || activeBusy s d)
  let tight := decide (cartridgeWraps s d < nextWrap parts + t.field 10 2) || decide (64 ≤ parts.length)
  orElse (orElse (r.map notReady) (noLead s d true)) (if tight then some (status 3) else none)

/-- The label of an administration task is read from host memory (Table 02-4). -/
def fetchLabel (n : Nat) (t : Task) (s : State) : State := startFetch n t.seq [(t.field 16 8, t.field 24 4)] s

/-- PART_CREATE: its label is read first (R55, R173). -/
def opPartCreate (n : Nat) (s : State) : State := beginTask 0x13 n (runAdmin n (createRefusal n) (fun _ t a => fetchLabel n t a)) s

/-- PART_CREATE with its label: the partition is written and marked PRESENT (Table 07-7, Table 02-8). -/
def createPart (n : Nat) (t : Task) (s : State) : State :=
  let d := t.field 8 1
  unlessRefused n t.seq (createRefusal n s d t)
    (fun a =>
      let k := a.deckAt d
      let p := nextPart k.parts
      let first := nextWrap k.parts
      let wraps := t.field 10 2
      let parts := Sparse.put k.parts p (first, wraps)
      let b := (commence n t.seq a).onTable d p (fun x => { x with known := false, directory := [], streams := [], full := false, needsEod := false })
      let each := fun (x im : Nat) (y : State) => [newPartition y x p first wraps t.got im]
      writeMedium d n t.seq (result2 0 p first) parts k.label each b) s

/-- The partition last on the cartridge: the one with the highest first wrap (R55). -/
def lastPart (parts : Sparse (Nat × Nat)) (p : Nat) : Bool :=
  match Sparse.find parts p with
  | some (w, _) => parts.all (fun e => decide (e.2.1 ≤ w))
  | none => false

/-- The partition holds a data trick (R56): as its end-of-data says, where that has been met; else as it was when the cartridge was loaded. -/
def holdsData (s : State) (d p : Nat) : Bool :=
  let t := s.tableAt d p
  if t.known then !t.directory.isEmpty || !t.openHand.isEmpty || !t.openRound.isEmpty || !t.openEntries.isEmpty else (s.deckAt d).dataParts.contains p

/-- PRESENCE_REQUIRED where a presence window is needed and none is open; counted and reported (R56, R344). -/
def presenceRefusal (s : State) (need : Bool) : Option Completion := if need && !s.window then some (status 0x1B) else none

/-- A task that R344 refuses is counted and reported (R344). -/
def noteRefusal (op : Nat) (r : Option Completion) (s : State) : State :=
  match r with
  | some c => if c.status = 0x1B then refuseTask op s else s
  | none => s

/-- Why PART_DELETE cannot run (R55, R56, R173). -/
def deleteRefusal (n : Nat) (s : State) (d : Nat) (t : Task) : Option Completion :=
  let p := t.field 9 1
  let r := adminReason s d (!threadedIn s d) (othersInFlight s n (boundTo s d p) || activeBusy s d)
  let last := if lastPart (s.deckAt d).parts p then none else some (fieldRange 9 p)
  orElse (orElse (orElse (r.map notReady) (noLead s d true)) last) (presenceRefusal s (holdsData s d p))

/-- PART_DELETE: the last partition is marked absent (R55, R56, Table 07-7). -/
def opPartDelete (n : Nat) (s : State) : State :=
  beginTask 0x14 n (fun t a =>
    let d := t.field 8 1
    runAdmin n (deleteRefusal n) (fun d t a =>
      let p := t.field 9 1
      let k := a.deckAt d
      let b := (commence n t.seq a).onTable d p (fun x => { x with known := false, directory := [], streams := [], full := false, needsEod := false })
      writeMedium d n t.seq (status 0) (Sparse.erase k.parts p) k.label (fun _ _ _ => []) b) t
      (noteRefusal 0x14 (deleteRefusal n a d t) a)) s

/-- Why MEDIUM_FORMAT cannot run (R55, R56, R173). -/
def formatRefusal (n : Nat) (s : State) (d : Nat) (_t : Task) : Option Completion :=
  let r := adminReason s d (!threadedIn s d) (othersInFlight s n (boundToDeck s d) || activeBusy s d)
  orElse (orElse (r.map notReady) (noLead s d false)) (presenceRefusal s ((s.deckAt d).parts.any (fun e => holdsData s d e.1)))

/-- MEDIUM_FORMAT: its label is read first (R55, R56). -/
def opMediumFormat (n : Nat) (s : State) : State :=
  beginTask 0x15 n (fun t a => runAdmin n (formatRefusal n) (fun _ t a => fetchLabel n t a) t (noteRefusal 0x15 (formatRefusal n a (t.field 8 1) t) a)) s

/-- MEDIUM_FORMAT with its label: the medium lead is written with every partition absent (Table 07-7). The window had to be open when the
task started (R56). -/
def formatMedium (n : Nat) (t : Task) (s : State) : State :=
  let d := t.field 8 1
  let r := adminReason s d (!threadedIn s d) (othersInFlight s n (boundToDeck s d) || activeBusy s d)
  unlessRefused n t.seq (orElse (r.map notReady) (noLead s d false))
    (fun a => writeMedium d n t.seq (status 0) [] t.got (fun _ _ _ => []) (forgetTables d (commence n t.seq a))) s

/-! ### SEAT -/

/-- The first violation of a seating plan in rising order of place, with the value there (R62, Table 03-1). -/
def planFault (s : State) (d p : Nat) (fixed : Bool) : Nat → Nat → List Nat → List (List Byte) → Option (Nat × Nat)
  | _, _, _, [] => none
  | i, sum, seen, b :: l =>
    let base := 0x80000000 + 16 * i
    let c := leAt b 0 2
    let q := leAt b 4 4
    let okCtx := decide (c < 4096) && (boundTo s d p).contains c && !seen.contains c
    let okQuota := if fixed then decide (1 ≤ q) && decide (sum + q ≤ 1601550) else q == 0
    let stray := fun (from' n : Nat) => ((List.range n).find? (fun j => b.getD (from' + j) 0 != 0)).map (fun j => (base + from' + j, (b.getD (from' + j) 0).toNat))
    if !okCtx then some (base, c)
    else
      match stray 2 2 with
      | some x => some x
      | none =>
        if !okQuota then some (base + 4, q)
        else
          match stray 8 8 with
          | some x => some x
          | none => planFault s d p fixed (i + 1) (sum + q) (c :: seen) l

/-- Context and quota of each entry of a plan (Table 03-1). -/
def planOf (b : List Byte) : List (Nat × Nat) := (chunks 16 b).map (fun e => (leAt e 0 2, leAt e 4 4))

/-- Why SEAT cannot run (R55, R160, R434). -/
def seatRefusal (n : Nat) (s : State) (d : Nat) (t : Task) : Option Completion :=
  let gone := (groupOf s d).any (fun x => !(s.deckAt x).cartridge)
  (adminReason s d gone (othersInFlight s n (boundTo s d (t.field 9 1)))).map notReady

/-- The rounds of a partition on the decks of a group that are not released (R63). -/
def openRounds (s : State) (td p : Nat) : List Nat :=
  ((groupOf s td).flatMap (fun d => ((s.deckAt d).rounds.filter (fun r => r.partition == p)).map (fun r => r.id))).dedup

/-- Items of an unseated or openly seated table are still to be packed, in the order of their arrival (R70). -/
def itemsFirst (t : Table) : Bool := t.mode != 2 && !t.items.isEmpty

/-- The new mode and plan of a table from its next trick on; contexts see it when the SEAT completes (R63). -/
def reseat (td p q m : Nat) (plan : List (Nat × Nat)) (s : State) : State :=
  s.onTable td p (fun t =>
    { t with mode := m, plan := plan, seatPending := some (q, t.mode, t.plan), passEnd := [], vacant := [], vacating := [], turn := (0, 0)
             inTurn := false, waiting := none, alerted := false, waitMs := 0, holder := none })

/-- SEAT with its plan: the table's open trick, hand and round close; the task completes once they are on tape and verified (R63). It
waits while a close of the table cannot take place: packing waits under R73 or R74, or a format epoch is due. DESIGN CHOICE (log entry 106):
items of a fixed table that are not packed yet stay queued under the new plan; those of a context with no seat in a new fixed plan wait
until a later SEAT gives it one. -/
def seatTable (n : Nat) (t : Task) (s : State) : State :=
  let d := t.field 8 1
  let p := t.field 9 1
  let m := t.field 10 1
  let fault := if t.checked then none else planFault s d p (m == 2) 0 0 [] (chunks 16 t.got)
  match fault with
  | some (loc, v) => finish n t.seq (fieldRange loc v) s
  | none =>
    unlessRefused n t.seq (seatRefusal n s d t)
      (fun a =>
        let wait := fun (x : State) => x.onTask n t.seq (fun u => { u with stage := .waiting, checked := true })
        let tab := a.tableAt d p
        if itemsFirst tab || tab.seatPending.isSome || tab.poolWait.isSome || packingHeld a d p then wait a
        else
          match closeAll d p a with
          | .error e => wait (settlePack d p a (.error e))
          | .ok b =>
            let c := reseat d p t.seq m (planOf t.got) (commence n t.seq b)
            let l := openRounds c d p
            if l.isEmpty then completeSeat d p t.seq c else c.onTask n t.seq (fun u => { u with waitRounds := l })) s

/-- SEAT: its plan, where it has one, is read and checked before anything else, as WRITE descriptors are (R39, R62, R63). -/
def opSeat (n : Nat) (s : State) : State :=
  beginTask 0x16 n (fun t a =>
    if t.checked || t.field 10 1 = 0 then seatTable n t a else startFetch n t.seq [(t.field 16 8, 16 * t.field 12 2)] a) s

/-! ### The commands -/

/-- LOAD (R55, R173). -/
def execLoad (n : Fin 4096) (s : State) : Host.Outcome State Fault Refusal := run (opLoad n.val) s

/-- UNLOAD (R55, R173). -/
def execUnload (n : Fin 4096) (s : State) : Host.Outcome State Fault Refusal := run (opUnload n.val) s

/-- REWIND (R55, R173). -/
def execRewind (n : Fin 4096) (s : State) : Host.Outcome State Fault Refusal := run (opRewind n.val) s

/-- PART_CREATE (R55, R173). -/
def execPartCreate (n : Fin 4096) (s : State) : Host.Outcome State Fault Refusal := run (opPartCreate n.val) s

/-- PART_DELETE (R55, R56, R173). -/
def execPartDelete (n : Fin 4096) (s : State) : Host.Outcome State Fault Refusal := run (opPartDelete n.val) s

/-- MEDIUM_FORMAT (R55, R56, R173). -/
def execMediumFormat (n : Fin 4096) (s : State) : Host.Outcome State Fault Refusal := run (opMediumFormat n.val) s

/-- SEAT (R62, R63). -/
def execSeat (n : Fin 4096) (s : State) : Host.Outcome State Fault Refusal := run (opSeat n.val) s

end Sys2Proof.Machine
end

