-- ==== Sys2Proof/Machine/Link.lean ====
section
/-! DEFINITION. The Breile deck link (R299 to R324): frames and lanes, columns and credits, records of the control lane, front-end registers,
training, link faults and service pins. -/

namespace Sys2Proof.Machine

/-! ### Frames -/

/-- The 1,200 bits of a frame in order of transmission (R300): bit k of the value is bit k of Table 14-2. -/
def frameBits (b : BitVec 1200) : List Bool := (List.range 1200).map (fun i => b.getLsbD i)

/-- The frame whose bits in order of transmission are given (R300). -/
def frameOf (l : List Bool) : BitVec 1200 := BitVec.ofNat 1200 (natOfBits l.reverse)

/-- The bytes of bits in order of transmission, most significant first (R301). -/
def bytesOfBits (l : List Bool) : List Byte := (chunks 8 l).map (fun b => byte (natOfBits b))

/-- Bits 24 to 1,199 exclusive-ored with the lane's scrambler (R302). -/
def scramble (lane : Nat) (l : List Bool) : List Bool :=
  l.take 24 ++ List.zipWith (fun a b => a ^^ b) (l.drop 24) (laneKey lane (natOfBits (slice l 16 8)))

/-- CRC of a frame before scrambling (R301). -/
def frameCrc (l : List Bool) : Nat := crc24 (bytesOfBits (slice l 16 1160))

/-- A frame as its sender sends it: slot units, each with VALID and GATE (R300 to R302). -/
def sendFrame (lane seq : Nat) (units : List (Bool × Bool × BitVec 16)) : BitVec 1200 :=
  let head := bitsMsb 16 0xF628 ++ bitsMsb 8 seq ++ units.flatMap (fun u => bitsMsb 16 u.2.2.toNat) ++ units.flatMap (fun u => [u.1, u.2.1])
  frameOf (scramble lane (head ++ bitsMsb 24 (frameCrc head)))

/-- The descrambled frame is good: MARKER and CRC hold (R303). -/
def frameGood (l : List Bool) : Bool := natOfBits (l.take 16) == 0xF628 && frameCrc l == natOfBits (slice l 1176 24)

/-- Slot unit k of a descrambled frame: VALID, ERASURE or GATE, and its 16 bits (Table 14-2). -/
def slotUnit (l : List Bool) (k : Nat) : Bool × Bool × BitVec 16 :=
  (l.getD (1048 + 2 * k) false, l.getD (1049 + 2 * k) false, BitVec.ofNat 16 (natOfBits (slice l (24 + 16 * k) 16)))

/-- The records of a control-lane frame, cell by cell (R313). -/
def frameRecords (l : List Bool) : List (List Byte) :=
  (List.range 8).filterMap (fun c => if (slotUnit l (8 * c)).1 then some (bytesOfBits (slice l (24 + 128 * c) 128)) else none)

/-! ### Lanes -/

/-- The receive lane is frame-locked (DKd_LNK_LOCK). -/
def laneLocked (s : State) (d lane : Nat) : Bool := (s.reg (Reg.dkLnkLock d)).toNat.testBit lane

/-- All 17 receive lanes are frame-locked. -/
def allLocked (s : State) (d : Nat) : Bool := (List.range 17).all (laneLocked s d)

/-- Consecutive good and bad frames of a lane (R319). -/
def laneRun (s : State) (d lane : Nat) : Nat × Nat := Sparse.get (0, 0) (s.deckAt d).laneRuns lane

/-- A frame that is bad, on deck d and a lane: it delivers nothing, and is counted (R303, DKd_LNK_ERRS). -/
def badFrame (d lane : Nat) (s : State) : State :=
  let s1 := s.onDeck d (fun k =>
    let q := Sparse.get 0 k.laneSeq lane
    let r := Sparse.get (0, 0) k.laneRuns lane
    { k with laneRuns := Sparse.put k.laneRuns lane (0, satAt 8 (r.2 + 1)), laneSeq := Sparse.put k.laneSeq lane (q + 1)
             rxFrames := Sparse.erase k.rxFrames (256 * lane + q.toNat) })
  s1.addFld (Reg.dkLnkErrs d) Fld.dkLnkErrsRxBad 1

/-- A good frame: its slot units or records are delivered where its lane is in lock (R303, R307, R319). -/
def goodFrame (d lane : Nat) (l : List Bool) (s : State) : State :=
  let q := natOfBits (slice l 16 8)
  let open' := laneLocked s d lane
  s.onDeck d (fun k =>
    let r := Sparse.get (0, 0) k.laneRuns lane
    let units := (List.range 64).map (slotUnit l)
    { k with
      laneRuns := Sparse.put k.laneRuns lane (satAt 4 (r.1 + 1), 0), laneSeq := Sparse.put k.laneSeq lane (byte (q + 1))
      rxFrames := if lane = 16 then k.rxFrames else if open' then Sparse.put k.rxFrames (256 * lane + q) units else Sparse.erase k.rxFrames (256 * lane + q)
      inbox := if lane = 16 && open' then k.inbox ++ frameRecords l else k.inbox })

/-- FRAME_RECEIVE: a frame arrives on a receive lane (R300 to R303). -/
def opFrameReceive (d lane : Nat) (bits : BitVec 1200) (s : State) : State :=
  if (s.deckAt d).feResetN then
    let l := scramble lane (frameBits bits)
    if frameGood l then goodFrame d lane l s else badFrame d lane s
  else s

/-- A record of a TYPE is taken from those that frames have delivered. -/
def takeRecord (d type : Nat) (s : State) : State :=
  s.onDeck d (fun k =>
    match k.inbox.findIdx? (fun b => (b.getD 0 0).toNat == type) with
    | some i => { k with inbox := k.inbox.eraseIdx i }
    | none => k)

/-! ### Training -/

/-- The link waits with FE_RESET_N low: no lane is locked, no access runs, no stream is open (R318, Table 14-8). -/
def resetLink (d : Nat) (s : State) : State :=
  let s1 := (adoptAtOnce d s).onDeck d (fun k =>
    { k with feResetN := false, motorEn := false, trainStep := 0, rxFrames := [], laneRuns := [], laneSeq := [], inbox := [], streamOpen := false
             mode := 0, feAccess := none, feQueue := [], modeDue := none, underrun := false })
  let s2 := s1.setReg (Reg.dkLnkLock d) 0
  if s2.flag (Reg.dkLnkFeCmd d) Fld.dkLnkFeCmdBusy then
    (s2.setFld (Reg.dkLnkFeCmd d) Fld.dkLnkFeCmdBusy 0).setFld (Reg.dkLnkFeCmd d) Fld.dkLnkFeCmdResult 5
  else s2

/-- A LOAD or UNLOAD that waits for the deck ends with its link: NOT_READY with reason 4 (R173). -/
def endThreading (d : Nat) (s : State) : State :=
  match (s.deckAt d).admin with
  | some (.load c q _) | some (.unload c q) => finish c q (notReady 4) (endAdmin d s)
  | _ => s

/-- Training is to begin again from step 1 (R318). -/
def retrain (d : Nat) (s : State) : State :=
  (setLinkState d 1 (resetLink d s)).setFld (Reg.dkLnkState d) Fld.dkLnkStateAttempt 0

/-- The link is disabled: FE_RESET_N low, MOTOR_EN low (R318). A link in FAULT stays in FAULT (R321). -/
def disableLink (d : Nat) (s : State) : State :=
  let s1 := endThreading d (resetLink d s)
  if linkState s d = 3 then s1 else setLinkState d 0 s1

/-- FE_RESET_N may be high: ENABLE is 1, the power state is RUN or IDLE, no supply holds the links off, and no TAP instruction drives the pins
(R318, R361, R405, R420, R423, Table 14-8). -/
def linkAllowed (s : State) (d : Nat) : Bool :=
  s.flag (Reg.dkLnkCtrl d) Fld.dkLnkCtrlEnable && decide (s.pwr.state ≤ 1) && !s.pwr.noLinks && !s.pwr.pfail && !s.pwr.shutdown
    && !(pinDriving.contains s.tap.ir.toNat)

/-- LINK_TRAINING: FE_RESET_N returns high and both ends send training frames: event 64d + 0 with the attempt number (Table 14-7). -/
def opLinkTraining (d : Nat) (s : State) : State :=
  let st := linkState s d
  if linkAllowed s d && (s.deckAt d).present && (st == 0 || (st == 1 && (s.deckAt d).trainStep == 0)) then
    let n := if st = 0 then 1 else s.fld (Reg.dkLnkState d) Fld.dkLnkStateAttempt + 1
    let s1 := (setLinkState d 1 (resetLink d s)).setFld (Reg.dkLnkState d) Fld.dkLnkStateAttempt n
    let s2 := s1.setFld (Reg.dkLnkCtrl d) Fld.dkLnkCtrlRetrain 0
    raiseDeck d 0 [word n] (s2.onDeck d (fun k => { k with trainStep := 1, feResetN := true }))
  else s

/-- TRAINING_STEP_TIMEOUT: a step has not succeeded within its limit: training restarts from step 1 with FE_RESET_N low, and after the third
attempt the link is in FAULT (R318). -/
def opTrainingStepTimeout (d : Nat) (s : State) : State :=
  if linkState s d = 1 ∧ 1 ≤ (s.deckAt d).trainStep then
    if s.fld (Reg.dkLnkState d) Fld.dkLnkStateAttempt < 3 then resetLink d s
    else
      let s1 := setLinkState d 3 (endThreading d (resetLink d s))
      raiseDeck d 2 [0] (s1.setFld (Reg.dkLnkState d) Fld.dkLnkStateCause 0)
  else s

/-- CLOCK_DATA_LOCK: step 2 of Table 14-7. -/
def opClockDataLock (d : Nat) (s : State) : State :=
  if linkState s d = 1 ∧ (s.deckAt d).trainStep = 1 then s.onDeck d (fun k => { k with trainStep := 2 }) else s

/-- Step 5 of Table 14-7 begins: FE_ID, FE_TRACKS and FE_FIFO are read, GAP_UM is written, then MODE 0 is sent. -/
def readFrontEnd (d : Nat) (s : State) : State :=
  let l : List (Bool × BitVec 16 × Word × Bool) :=
    [(false, 0x0000, 0, false), (false, 0x0004, 0, false), (false, 0x0008, 0, false), (true, 0x000C, word (deckFmt s d).gapUm, false)]
  nextRegister d (s.onDeck d (fun k => { k with trainStep := 4, feTracks := 0, feFifo := 0, feQueue := l, modeDue := some (0, 0, 0, 0) }))

/-- LANE_FRAME_LOCK: four consecutive good frames lock a receive lane; the last lane of a training brings it to step 5 (R319, Table
14-7). -/
def opLaneFrameLock (d lane : Nat) (s : State) : State :=
  let training := linkState s d == 1
  if (laneRun s d lane).1 = 4 ∧ laneLocked s d lane = false ∧ (training = false ∨ 2 ≤ (s.deckAt d).trainStep) then
    let s1 := s.setReg (Reg.dkLnkLock d) (s.reg (Reg.dkLnkLock d) ||| word (2 ^ lane))
    if training && allLocked s1 d && (s1.deckAt d).trainStep == 2 then readFrontEnd d s1 else s1
  else s

/-- LANE_LOCK_LOSS: eight consecutive bad frames lose the lane's lock, with event 64d + 3 (R319). -/
def opLaneLockLoss (d lane : Nat) (s : State) : State :=
  if (laneRun s d lane).2 = 8 ∧ laneLocked s d lane = true then
    raiseDeck d 3 [word lane] (s.setReg (Reg.dkLnkLock d) (s.reg (Reg.dkLnkLock d) &&& ~~~(word (2 ^ lane))))
  else s

/-- Step 5 has succeeded but for the STATUS record: every register answered, MODE 0 sent, the front-end fits (Table 14-7). -/
def frontEndReady (s : State) (d : Nat) : Bool :=
  let k := s.deckAt d
  linkState s d == 1 && k.trainStep == 4 && k.feAccess.isNone && k.feQueue.isEmpty && k.modeDue.isNone && allLocked s d
    && decide ((deckFmt s d).nT ≤ k.feTracks) && decide (128 ≤ k.feFifo)

/-- MOTOR_EN may be high: no cause of Table 01-4, R255 or R321 holds (Table 14-8). -/
def motorAllowed (s : State) (d : Nat) : Bool := !(s.deckAt d).motion.motorFault && !s.pwr.recovering.contains (14 + d) && !s.pwr.pfail && !s.pwr.shutdown && linkState s d == 2

/-- The link is ACTIVE: MOTOR_EN rises, event 64d + 1, and the tracks have no signal-quality figure yet (Table 14-7). -/
def linkActive (d : Nat) (s : State) : State :=
  let s1 := setLinkState d 2 s
  let s2 := s1.onDeck d (fun k =>
    { k with trainStep := 5, motorEn := motorAllowed s1 d, tracks := Sparse.remap (fun _ => ({} : Track)) (fun _ t => { t with sq := none, samples := [], sqRun := 0 }) k.tracks })
  raiseDeck d 1 [] s2

/-! ### Columns -/

/-- Lane and slot unit of track n (R304). -/
def trackPlace (s : State) (d n : Nat) : Nat × Nat :=
  match (match deckImage s d with
    | some i => i.routing
    | none => []) with
  | [] => (n / 64, n % 64)
  | l => l.getD n (n / 64, n % 64)

/-- Up to 16 channel bits of track n from bit b of a trick on (R134, R137). -/
def trickBitsAt (srcs : List Trick) (t : Trick) (n b : Nat) : List Bool :=
  let f := fmtOf t.format
  let q := b / f.facetBits
  let bits := facetChannel f n (t.slotBody srcs n q) ++ (if q + 1 < f.slots then facetChannel f n (t.slotBody srcs n (q + 1)) else [])
  slice bits (b % f.facetBits) 16

/-- The 16 channel bits of track n in a column that begins at bit b of trick t: what the trick does not fill is the beginning of the trick
after it (R137, R305). -/
def columnUnit (srcs : List Trick) (t : Trick) (next : Option Trick) (n b : Nat) : BitVec 16 :=
  let own := trickBitsAt srcs t n b
  let bits := own ++ (match next with
    | some x => (trickBitsAt srcs x n 0).take (16 - own.length)
    | none => [])
  BitVec.ofNat 16 (natOfBits (bits ++ List.replicate (16 - bits.length) false))

/-- Each trick of the tape with the one that follows it on the tape, the fixed one after the last (R137, R178). -/
def withNext (fixed : Option Trick) : List (Trick × Nat) → List ((Trick × Nat) × Option Trick)
  | [] => []
  | [e] => [(e, fixed)]
  | e :: x :: l => (e, some x.1) :: withNext fixed (x :: l)

/-- The trick of the tape in which column c begins, the trick after it, and the column's first bit in it (R308). -/
def columnTrick (k : Deck) (c : Word) : Option (Trick × Option Trick × Nat) :=
  match k.tape with
  | [] => none
  | e :: _ =>
    let b := 16 * (e.2 / 16) + 16 * (c - word (e.2 / 16)).toNat
    (withNext k.fixed k.tape).findSome? (fun x =>
      if x.1.2 ≤ b ∧ b < x.1.2 + (fmtOf x.1.1.format).trickBits then some (x.1.1, x.2, b - x.1.2) else none)

/-- The 17 frames that carry column c of a trick, with GATE, and its COLUMN record (R304 to R306, R308, R313). -/
def columnFrames (s : State) (d : Nat) (t : Trick) (next : Option Trick) (b : Nat) (c : Word) : List (BitVec 1200) :=
  let k := s.deckAt d
  let f := fmtOf t.format
  let srcs := k.held.map (fun h => h.trick) ++ k.tape.map (fun x => x.1)
  let gate := k.motion.gate && k.motion.locked
  let seq := k.txSeq.toNat
  let places := (List.range f.nT).map (fun n => (trackPlace s d n, n))
  let lanes := (List.range 16).map (fun lane => sendFrame lane seq ((List.range 64).map (fun slot =>
    match places.find? (fun e => e.1 == (lane, slot)) with
    | some e => (true, gate, columnUnit srcs t next e.2 b)
    | none => (false, false, 0))))
  let cell := padTo 16 ([0x84, 0] ++ be 4 c.toNat)
  let control := (List.range 64).map (fun i => (i == 0, false, BitVec.ofNat 16 (if i < 8 then beAt cell (2 * i) 2 else 0)))
  lanes ++ [sendFrame 16 seq control]

/-- Columns at or below CONSUMED are skipped, counted in UNDERRUN, with event 64d + 4 once per run (R310). -/
def skipColumns (d : Nat) (s : State) : State :=
  let k := s.deckAt d
  if precedes k.consumed k.nextCol then s.putDeck d { k with underrun := false }
  else
    let n := (k.consumed + 1 - k.nextCol).toNat
    let s1 := s.putDeck d { k with nextCol := k.consumed + 1, underrun := true }
    let s2 := s1.addFld (Reg.dkLnkCredit d) Fld.dkLnkCreditUnderrun n
    if k.underrun then s2 else raiseDeck d 4 [k.nextCol] s2

/-- COLUMN_SEND: the next column of the write stream is sent where its index precedes LIMIT (R305, R308 to R310). -/
def opColumnSend (d : Nat) (s : State) : State :=
  if linkState s d = 2 ∧ (s.deckAt d).streamOpen = true then
    let s1 := skipColumns d s
    let k := s1.deckAt d
    match columnTrick k k.nextCol with
    | some (t, next, b) =>
      if precedes k.nextCol k.limit then
        emit (.column d k.nextCol (columnFrames s1 d t next b k.nextCol))
          (s1.putDeck d { k with nextCol := k.nextCol + 1, txSeq := k.txSeq + 1, padded := next.isNone && decide ((fmtOf t.format).trickBits < b + 16) })
      else s1
    | none => s1
  else s

/-- CREDIT: LIMIT and CONSUMED of the open write stream (R309). -/
def opCredit (d : Nat) (limit consumed : Word) (s : State) : State :=
  if laneCarries s d && (s.deckAt d).streamOpen then (takeRecord d 6 s).onDeck d (fun k => { k with limit := limit, consumed := consumed }) else s

/-- The unit of a track in the frames of SEQ: that of a good frame, or an erasure in place of a bad one (R307). -/
def receivedUnit (s : State) (d seq n : Nat) : List (Bool × Bool) :=
  let p := trackPlace s d n
  match Sparse.find (s.deckAt d).rxFrames (256 * p.1 + seq) with
  | some l =>
    let u := l.getD p.2 (false, true, 0)
    if u.1 then (bitsMsb 16 u.2.2.toNat).map (fun b => (b, u.2.1)) else List.replicate 16 (false, true)
  | none => List.replicate 16 (false, true)

/-- The 16 bits of a column join those of their track: after the column before, past a gap that counts as erased, or, where the front-end's
estimate falls back by one column, next in order (R307, R312; log entry 17). -/
def RxTrack.join (index : Word) (bits : List (Bool × Bool)) (r : RxTrack) : RxTrack :=
  if r.bits.isEmpty then { base := index.toNat, bits := bits }
  else
    let cur := r.base + r.bits.length / 16
    let delta := signed 32 (index - word cur).toNat
    if delta < -1 then r
    else { r with bits := r.bits ++ List.replicate (16 * delta.toNat) (false, true) ++ bits }

/-- A data-lane frame of this SEQ is good and carries a column (R307). -/
def carriesColumn (k : Deck) (seq : Nat) : Bool :=
  (List.range 16).any (fun lane => match Sparse.find k.rxFrames (256 * lane + seq) with
    | some l => l.any (fun u => u.1)
    | none => false)

/-- COLUMN: a read column and its record deliver channel bits and ERASURE flags to the Loupe or the decoder (R305, R307, R312). -/
def opColumn (d seq : Nat) (index : Word) (s : State) : State :=
  let s0 := takeRecord d 7 s
  if laneCarries s d && carriesColumn (s0.deckAt d) seq then
    s0.onDeck d (fun k =>
      { k with
        rx := (List.range (deckFmt s d).nT).foldl (fun m n => Sparse.put m n (RxTrack.join index (receivedUnit s0 d seq n) (Sparse.get {} m n))) k.rx
        rxFrames := Sparse.keep (fun i => i % 256 != seq) k.rxFrames })
  else s

/-! ### Other records -/

/-- SQ: signal-quality figures of eight tracks (Table 14-3, R181, R190). -/
def opSq (d first : Nat) (figures : List Byte) (s : State) : State :=
  if laneCarries s d then
    forEach (List.zip (List.range 8) figures) (fun e a =>
      if first + e.1 < (deckFmt a d).nT then sampleTrack d (first + e.1) e.2.toNat a else a) (takeRecord d 3 s)
  else s

/-- HEAD: the head temperature is telemetry channel 6; the front-end's own temperature has no use in the spec (Table 14-3, Table
14-5). -/
def opHead (d : Nat) (headT : BitVec 16) (s : State) : State :=
  if laneCarries s d then takeTelemetry d 6 (signed 16 headT.toNat) (takeRecord d 4 s) else s

/-- The front-end reports a fault: event 64d + 5, and a controlled stop while the link is ACTIVE (Table 14-8, Table 11-7). -/
def frontEndFault (d : Nat) (s : State) : State :=
  let s1 := raiseDeck d 5 [] s
  if linkState s d = 2 then controlledStop d 3 1 s1 else s1

/-- The cartridge went without an UNLOAD: the device knows it no longer. -/
def noteCartridge (d : Nat) (was : Bool) (s : State) : State :=
  let k := s.deckAt d
  if was = k.cartridge then s
  else
    let s1 := if k.cartridge then s else
      match k.admin with
      | none => forgetTables (tableDeck s d) (freeOwned (fun t => t.cls == 4 && t.id == d) (s.onDeck d Deck.eject))
      | some _ => s
    raiseDeck d 7 [] s1

/-- STATUS (Table 14-3): cartridge and wraps, bad frames counted by the front-end, its fault; the first one of step 5 without RX_LOCK_LOST
makes the link ACTIVE (R318). -/
def opStatus (d : Nat) (cartridge threaded fault rxLockLost : Bool) (wraps crcErr : Nat) (s : State) : State :=
  if laneCarries s d then
    let k := s.deckAt d
    let s1 := (takeRecord d 5 s).onDeck d (fun k => { k with cartridge := cartridge, threaded := threaded, feFault := fault })
    let s2 := (s1.setFld (Reg.dkLnkFeInfo d) Fld.dkLnkFeInfoWraps wraps).addFld (Reg.dkLnkErrs d) Fld.dkLnkErrsTxBad crcErr
    let s3 := noteCartridge d k.cartridge s2
    let s4 := if frontEndReady s3 d && !rxLockLost then linkActive d s3 else s3
    let s5 := if fault && !k.feFault then frontEndFault d s4 else s4
    threadedNow d s5
  else s

/-- A host's front-end access ends with a result (DKd_LNK_FE_CMD). -/
def endHostAccess (d result : Nat) (s : State) : State :=
  (s.setFld (Reg.dkLnkFeCmd d) Fld.dkLnkFeCmdBusy 0).setFld (Reg.dkLnkFeCmd d) Fld.dkLnkFeCmdResult result

/-- What the device reads of the front-end in training (Table 14-6). -/
def noteFrontEnd (d : Nat) (addr : BitVec 16) (data : Word) (s : State) : State :=
  match addr.toNat with
  | 0x0000 => s.setFld (Reg.dkLnkFeInfo d) Fld.dkLnkFeInfoFeId data.toNat
  | 0x0004 => s.onDeck d (fun k => { k with feTracks := data.toNat })
  | 0x0008 => s.onDeck d (fun k => { k with feFifo := data.toNat })
  | _ => s

/-- REG_RESP: the answer to the register access under way, by TAG; then the next access or the MODE record that waits is sent (R317,
R318). -/
def opRegResp (d : Nat) (tag result : Byte) (data : Word) (s : State) : State :=
  if laneCarries s d then
    let s0 := takeRecord d 8 s
    match (s.deckAt d).feAccess with
    | some (t, write, addr, _, _, host) =>
      if t = tag then
        let s1 := s0.onDeck d (fun k => { k with feAccess := none })
        let s2 := if host then
            let a := endHostAccess d result.toNat s1
            if write || result != 0 then a else a.setReg (Reg.dkLnkFeData d) data
          else if write || result != 0 then s1 else noteFrontEnd d addr data s1
        nextRegister d s2
      else s0
    | none => s0
  else s

/-- UNKNOWN_RECORD: ignored and counted, with event 64d + 8 (R313). -/
def opUnknownRecord (d : Nat) (type : Byte) (s : State) : State :=
  if laneCarries s d && (type == 0 || decide (8 < type.toNat)) then
    raiseDeck d 8 [] ((takeRecord d type.toNat s).onDeck d (fun k => { k with unknown := k.unknown + 1 }))
  else s

/-! ### Link faults -/

/-- The control lane is among the lanes lost (R321). -/
def controlLost (s : State) (d : Nat) : Bool := !laneLocked s d 16

/-- LANE_LOCK_TIMEOUT: a receive lane has stayed out of lock for 10 µs (R320). -/
def opLaneLockTimeout (d lane : Nat) (s : State) : State := if laneLocked s d lane then s else linkFault d 1 (controlLost s d) s

/-- LINK_ALERT: LINK_ALERT_N has stayed low for 10 µs (R320). -/
def opLinkAlert (d : Nat) (s : State) : State := linkFault d 2 (controlLost s d) s

/-- CREDIT_TIMEOUT: no CREDIT record for 10 µs while a write stream is open (R320). -/
def opCreditTimeout (d : Nat) (s : State) : State := if (s.deckAt d).streamOpen then linkFault d 3 (controlLost s d) s else s

/-- STATUS_TIMEOUT: no STATUS record for 1 ms (R320). -/
def opStatusTimeout (d : Nat) (s : State) : State := linkFault d 4 (controlLost s d) s

/-- REG_RESP_TIMEOUT: a register access went unanswered for 10 µs: event 64d + 9 and a retry, and on the second miss a link fault (R320). -/
def opRegRespTimeout (d : Nat) (s : State) : State :=
  let k := s.deckAt d
  match k.feAccess with
  | none => s
  | some (_, write, addr, v, misses, host) =>
    if misses = 1 && linkState s d == 2 then
      let s1 := if host then endHostAccess d 4 s else s
      linkFault d 6 (controlLost s d) (s1.onDeck d (fun k => { k with feAccess := none, feQueue := [], modeDue := none }))
    else
      let s1 := sendRegister d write addr v host (raiseDeck d 9 [] s)
      s1.onDeck d (fun k => { k with feAccess := k.feAccess.map (fun x => (x.1, x.2.1, x.2.2.1, x.2.2.2.1, 1, x.2.2.2.2.2)) })

/-- DECK_PRESENCE_CHANGE: event 64d + 6; a deck that goes while its link is ACTIVE makes a link fault (R320, Table 14-8). -/
def opDeckPresenceChange (d : Nat) (present : Bool) (s : State) : State :=
  if (s.deckAt d).present = present then s
  else
    let s1 := raiseDeck d 6 [] (s.onDeck d (fun k => { k with present := present }))
    if present then s1 else linkFault d 5 true s1

/-- DECK_FAULT: DECK_FAULT_N low (Table 14-8). -/
def opDeckFault (d : Nat) (s : State) : State := frontEndFault d s

/-! ### Host requests -/

/-- LINK_ENABLE_WRITE: ENABLE 0 disables the link, after a controlled stop where the deck is not idle; ENABLE 1 lets it train (R318). -/
def opLinkEnableWrite (d : Nat) (enable : Bool) (s : State) : State :=
  let reg := Reg.dkLnkCtrl d
  let s1 := s.setFld reg Fld.dkLnkCtrlEnable (bit enable)
  if enable then s1.onDeck d (fun k => { k with trainAfterStop := k.trainAfterStop || k.disableAfterStop, disableAfterStop := false })
  else if deckMoving s d then controlledStop d 0 1 (s1.onDeck d (fun k => { k with disableAfterStop := true, trainAfterStop := false }))
  else disableLink d s1

/-- LINK_RETRAIN: training is requested, after a controlled stop where the deck is not idle (R318). A link that is disabled stays so, and one
in FAULT too (R321). -/
def opLinkRetrain (d : Nat) (s : State) : State :=
  let reg := Reg.dkLnkCtrl d
  if s.flag reg Fld.dkLnkCtrlEnable && linkState s d != 3 then
    let s1 := s.setFld reg Fld.dkLnkCtrlRetrain 1
    if deckMoving s d then controlledStop d 0 1 (s1.onDeck d (fun k => { k with trainAfterStop := true }))
    else retrain d (endThreading d s1)
  else s

/-- A front-end register access of the host is refused with a result, or waits its turn (DKd_LNK_FE_CMD). -/
def hostAccess (d : Nat) (write : Bool) (s : State) : State :=
  let reg := Reg.dkLnkFeCmd d
  if s.flag reg Fld.dkLnkFeCmdBusy then s
  else if linkState s d != 2 then s.setFld reg Fld.dkLnkFeCmdResult 5
  else if write && deckMoving s d then s.setFld reg Fld.dkLnkFeCmdResult 3
  else
    let a := BitVec.ofNat 16 (s.fld (Reg.dkLnkFeAddr d) Fld.dkLnkFeAddrAddr)
    let v := s.reg (Reg.dkLnkFeData d)
    nextRegister d ((s.setFld reg Fld.dkLnkFeCmdBusy 1).onDeck d (fun k => { k with feQueue := k.feQueue ++ [(write, a, v, true)] }))

/-! ### The commands -/

/-- LINK_TRAINING (R318). -/
def execLinkTraining (d : Fin 4) (s : State) : Host.Outcome State Fault Refusal := run (opLinkTraining d.val) s

/-- TRAINING_STEP_TIMEOUT (R318). -/
def execTrainingStepTimeout (d : Fin 4) (s : State) : Host.Outcome State Fault Refusal := run (opTrainingStepTimeout d.val) s

/-- FRAME_RECEIVE (R300 to R303). -/
def execFrameReceive (d : Fin 4) (lane : Fin 17) (bits : BitVec 1200) (s : State) : Host.Outcome State Fault Refusal :=
  run (opFrameReceive d.val lane.val bits) s

/-- LANE_FRAME_LOCK (R318, R319). -/
def execLaneFrameLock (d : Fin 4) (lane : Fin 17) (s : State) : Host.Outcome State Fault Refusal := run (opLaneFrameLock d.val lane.val) s

/-- LANE_LOCK_LOSS (R319). -/
def execLaneLockLoss (d : Fin 4) (lane : Fin 17) (s : State) : Host.Outcome State Fault Refusal := run (opLaneLockLoss d.val lane.val) s

/-- COLUMN_SEND (R304 to R310). -/
def execColumnSend (d : Fin 4) (s : State) : Host.Outcome State Fault Refusal := run (opColumnSend d.val) s

/-- CREDIT (R309). -/
def execCredit (d : Fin 4) (limit consumed : Word) (s : State) : Host.Outcome State Fault Refusal := run (opCredit d.val limit consumed) s

/-- COLUMN (R305, R307, R312). -/
def execColumn (d : Fin 4) (seq : Byte) (index : Word) (s : State) : Host.Outcome State Fault Refusal := run (opColumn d.val seq.toNat index) s

/-- SQ (R314). -/
def execSq (d : Fin 4) (first : BitVec 16) (figures : List Byte) (s : State) : Host.Outcome State Fault Refusal :=
  run (opSq d.val first.toNat figures) s

/-- HEAD (R314, R316). -/
def execHead (d : Fin 4) (headT _feT : BitVec 16) (s : State) : Host.Outcome State Fault Refusal := run (opHead d.val headT) s

/-- STATUS (R314, R318). -/
def execStatus (d : Fin 4) (_state : Byte) (cartridge threaded fault rxLockLost : Bool) (wraps crcErr _underrun _fifo : BitVec 16) (s : State) :
    Host.Outcome State Fault Refusal := run (opStatus d.val cartridge threaded fault rxLockLost wraps.toNat crcErr.toNat) s

/-- REG_RESP (R317, R318). -/
def execRegResp (d : Fin 4) (tag result : Byte) (_addr : BitVec 16) (data : Word) (s : State) : Host.Outcome State Fault Refusal :=
  run (opRegResp d.val tag result data) s

/-- UNKNOWN_RECORD (R313). -/
def execUnknownRecord (d : Fin 4) (type : Byte) (s : State) : Host.Outcome State Fault Refusal := run (opUnknownRecord d.val type) s

/-- LANE_LOCK_TIMEOUT (R320, R321). -/
def execLaneLockTimeout (d : Fin 4) (lane : Fin 17) (s : State) : Host.Outcome State Fault Refusal := run (opLaneLockTimeout d.val lane.val) s

/-- LINK_ALERT (R320, R321). -/
def execLinkAlert (d : Fin 4) (s : State) : Host.Outcome State Fault Refusal := run (opLinkAlert d.val) s

/-- CREDIT_TIMEOUT (R320, R321). -/
def execCreditTimeout (d : Fin 4) (s : State) : Host.Outcome State Fault Refusal := run (opCreditTimeout d.val) s

/-- STATUS_TIMEOUT (R320, R321). -/
def execStatusTimeout (d : Fin 4) (s : State) : Host.Outcome State Fault Refusal := run (opStatusTimeout d.val) s

/-- REG_RESP_TIMEOUT (R320, R321). -/
def execRegRespTimeout (d : Fin 4) (s : State) : Host.Outcome State Fault Refusal := run (opRegRespTimeout d.val) s

/-- DECK_PRESENCE_CHANGE (R320 to R322). -/
def execDeckPresenceChange (d : Fin 4) (present : Bool) (s : State) : Host.Outcome State Fault Refusal := run (opDeckPresenceChange d.val present) s

/-- DECK_FAULT (R322). -/
def execDeckFault (d : Fin 4) (s : State) : Host.Outcome State Fault Refusal := run (opDeckFault d.val) s

/-- LINK_ENABLE_WRITE (R318). -/
def execLinkEnableWrite (d : Fin 4) (enable : Bool) (s : State) : Host.Outcome State Fault Refusal := run (opLinkEnableWrite d.val enable) s

/-- LINK_RETRAIN (R318). -/
def execLinkRetrain (d : Fin 4) (s : State) : Host.Outcome State Fault Refusal := run (opLinkRetrain d.val) s

/-- FE_REGISTER_READ (R317). -/
def execFeRegisterRead (d : Fin 4) (s : State) : Host.Outcome State Fault Refusal := run (hostAccess d.val false) s

/-- FE_REGISTER_WRITE (R317). -/
def execFeRegisterWrite (d : Fin 4) (s : State) : Host.Outcome State Fault Refusal := run (hostAccess d.val true) s

/-- CLOCK_DATA_LOCK (R318). -/
def execClockDataLock (d : Fin 4) (s : State) : Host.Outcome State Fault Refusal := run (opClockDataLock d.val) s

end Sys2Proof.Machine
end

