-- ==== Sys2Proof/Machine/Dma.lean ====
section
/-! DEFINITION. The UCIe attachment (chapter 15): flits, sequence, acknowledgement and replay (R327 to R330), credits (R331, R332), order
(R333), device reads of host memory (R335), and the states of the ports (R326, R337 to R339). -/

namespace Sys2Proof.Machine

/-! ### Ports -/

/-- LNK_PORT_STATUS.STATE: 0 Reset, 1 training, 2 Active, 3 Retrain, 4 L1, 5 L2, 6 DOWN. -/
def portState (s : State) (p : Nat) : Nat := s.fld (Reg.lnkPortStatus p) Fld.lnkPortStatusState

/-- A port in state v. -/
def setPortState (p v : Nat) (s : State) : State := s.setFld (Reg.lnkPortStatus p) Fld.lnkPortStatusState v

/-- LNK_CTRL.PORT_EN of a port (R339). -/
def portEnabled (s : State) (p : Nat) : Bool := bitAt (s.fld Reg.lnkCtrl Fld.lnkCtrlPortEn) p

/-- A port changed by `f`. -/
def State.onPort (s : State) (p : Nat) (f : Port → Port) : State := s.putPort p (f (s.portAt p))

/-! ### Flits -/

/-- Bytes 0 to 239 of a flit (Table 15-2). -/
def flitBody (cls flags tag count addr : Nat) (payload : List Byte) : List Byte :=
  [byte cls, byte flags] ++ le 2 payload.length ++ le 2 tag ++ le 2 count ++ le 7 (addr % 2 ^ 52) ++ [0] ++ padTo 224 payload

/-- The class of a flit (Table 15-2). -/
def flitClass (b : List Byte) : Nat := (b.headD 0).toNat % 16

/-- A flit as it leaves: SEQ, the last SEQ accepted, LFLAGS, the credits released, the check (R327, R329 to R331). -/
def sealFlit (k : Port) (body : List Byte) (seq : Byte) (lflags : Nat) : List Byte :=
  let b := body ++ [seq, k.rxSeq - 1, byte lflags, 0] ++ k.released.flatMap (fun c => le 2 c.toNat)
  b ++ le 4 (crc32c b).toNat

/-- A null flit leaves a port that is Active (R329); with it every acknowledgement that is due. -/
def sendNull (p : Nat) (nak : Bool) (s : State) : State :=
  let k := s.portAt p
  if portState s p = 2 then
    emit (.flit p (sealFlit k (flitBody 0 0 0 0 0 []) k.txSeq (5 + 2 * bit nak))) (s.putPort p { k with ackDue := false })
  else s

/-- A sequenced flit leaves for the first time (R329, R331). -/
def transmit (p : Nat) (body : List Byte) (s : State) : State :=
  let k := s.portAt p
  let c := flitClass body
  let k1 := { k with unacked := k.unacked ++ [body], txSeq := k.txSeq + 1, ackDue := false,
                     credits := setAt k.credits (c - 1) (k.credits.getD (c - 1) 0 - 1),
                     waitAlerted := k.waitAlerted.filter (fun x => x != c) }
  emit (.flit p (sealFlit k body k.txSeq 1)) (s.putPort p k1)

/-- Every unacknowledged flit is sent again, oldest first (R330). -/
def resend (p : Nat) (s : State) : State :=
  let k := s.portAt p
  let first := k.txSeq - byte k.unacked.length
  let out := fun (i : Nat) => Sent.flit p (sealFlit k (k.unacked.getD i []) (first + byte i) 1)
  forEach (List.range k.unacked.length) (fun i a => emit (out i) a) (s.putPort p { k with ackDue := k.ackDue && k.unacked.isEmpty })

/-! ### Messages out -/

/-- A write cut at the 4 KiB boundaries of its address (R328). -/
def writePages : Nat → Nat → List Byte → List (Nat × List Byte)
  | 0, _, _ => []
  | fuel + 1, a, b =>
    if b.isEmpty then []
    else
      let n := 4096 - a % 4096
      (a, b.take n) :: writePages fuel (a + n) (b.drop n)

/-- The flits of one posted write (R327, R328). -/
def writeFlits (a : Nat) (b : List Byte) : List (List Byte) :=
  let cs := chunks 224 b
  (List.range cs.length).map (fun i => flitBody 1 (bit (i == 0) + 2 * bit (i + 1 == cs.length)) 0 0 (a + 224 * i) (cs.getD i []))

/-- LNK_DOORBELL (R336). -/
def doorbellAddr (s : State) : Nat :=
  s.fld Reg.lnkDoorbellLo Fld.lnkDoorbellLoAddr * 8 + s.fld Reg.lnkDoorbellHi Fld.lnkDoorbellHiAddr * 2 ^ 32

/-- The flits of a message (R327, R328, R334 to R336); none for what does not cross the UCIe ports. -/
def messageFlits (s : State) : Sent → List (List Byte)
  | .hostWrite a b | .ringWrite a b => (writePages (b.length / 4096 + 2) a b).flatMap (fun e => writeFlits e.1 e.2)
  | .hostRead t a n => [flitBody 2 3 t.toNat n a []]
  | .mmio t st werr a d => [flitBody 3 (3 + 4 * bit werr) t.toNat st.toNat (a % 4096) (bytesOf d)]
  | .doorbell n c len => [flitBody 4 3 0 0 (doorbellAddr s) (le 4 n.toNat ++ [byte c, byte len, 0, 0])]
  | _ => []

/-- The class of a message; 0 for what does not cross the UCIe ports. -/
def Sent.cls : Sent → Nat
  | .hostWrite _ _ => 1
  | .ringWrite _ _ => 1
  | .hostRead _ _ _ => 2
  | .mmio _ _ _ _ _ => 3
  | .doorbell _ _ _ => 4
  | _ => 0

/-- Completion-ring and meter-ring entries and doorbells, which wait for every posted write before them (R333). -/
def Sent.ordered : Sent → Bool
  | .ringWrite _ _ => true
  | .doorbell _ _ _ => true
  | _ => false

/-- A posted write is not acknowledged, on either port (R333). -/
def postedOpen (s : State) : Bool :=
  [0, 1].any (fun p => ((s.portAt p).unacked ++ (s.portAt p).waiting).any (fun b => flitClass b == 1))

/-- Completion credits that the reads sent reserve (R332). -/
def reservedCredits (s : State) (kept : List Sent) : Nat :=
  let waiting := fun (r : DmaRead) => kept.any (fun m => match m with
    | .hostRead t _ _ => t == r.tag
    | _ => false)
  ((s.lnk.reads.filter (fun r => !waiting r)).map (fun r => (r.count + 223) / 224)).sum

/-- The Active port with the fewest flits waiting or unacknowledged (R333: by load). -/
def leastLoaded (s : State) : Option Nat :=
  let load := fun (p : Nat) => (s.portAt p).unacked.length + (s.portAt p).waiting.length
  match portState s 0 == 2, portState s 1 == 2 with
  | true, true => some (if load 0 ≤ load 1 then 0 else 1)
  | true, false => some 0
  | false, true => some 1
  | false, false => none

/-- A message may go to a port, where the earlier messages `kept` still wait and `later` come after it (R332, R333). -/
def mayGo (s : State) (kept later : List Sent) (m : Sent) : Bool :=
  let before := fun (c : Nat) => kept.any (fun x => x.cls == c)
  let order := !before m.cls && (m.cls == 3 || !before 1) && (!m.ordered || !postedOpen s)
  let room := match m with
    | .hostRead _ _ n => decide (reservedCredits s (kept ++ later) + (n + 223) / 224 ≤ 1024)
    | _ => true
  order && room

/-- The messages of the queue go to the ports, in order of class (R332, R333); those that may not go stay. -/
def placeMessages : List Sent → List Sent → State → State
  | [], kept, s => { s with lnk := { s.lnk with queue := kept } }
  | m :: l, kept, s =>
    match leastLoaded s with
    | some p =>
      if mayGo s kept (m :: l) m then
        placeMessages l kept (s.onPort p (fun k => { k with waiting := k.waiting ++ messageFlits s m }))
      else placeMessages l (kept ++ [m]) s
    | none => placeMessages l (kept ++ [m]) s

/-- The flits waiting at a port leave as far as the window of 128 and the credits allow (R330, R331); no read passes a posted write
before it (R333). `blocked` are the classes of which an earlier flit waits. -/
def sendWaiting (p : Nat) : List (List Byte) → List (List Byte) → List Nat → State → State
  | [], kept, _, s => s.onPort p (fun k => { k with waiting := kept })
  | b :: l, kept, blocked, s =>
    let k := s.portAt p
    let c := flitClass b
    if 128 ≤ k.unacked.length ∨ blocked.contains c ∨ k.credits.getD (c - 1) 0 = 0 then
      sendWaiting p l (kept ++ [b]) (if c = 1 then [1, 2] ++ blocked else c :: blocked) s
    else sendWaiting p l kept blocked (transmit p b s)

/-- A port sends what it may. -/
def pumpPort (p : Nat) (s : State) : State := if portState s p = 2 then sendWaiting p (s.portAt p).waiting [] [] s else s

/-- What the device has put out since is taken, and the ports send what they may (R327, R333). -/
def pumpPorts (s : State) : State :=
  let new := (s.sent.take (s.sent.length - s.lnk.put)).reverse.filter (fun m => m.cls != 0)
  let s1 := placeMessages (s.lnk.queue ++ new) [] s
  let s2 := pumpPort 1 (pumpPort 0 s1)
  { s2 with lnk := { s2.lnk with put := s2.sent.length } }

/-! ### Retraining and replay -/

/-- An Active port, or one in L1, retrains: nothing is reset (R337). -/
def retrainPort (p : Nat) (s : State) : State :=
  if portState s p = 2 ∨ portState s p = 4 then
    ((setPortState p 3 s).addFld (Reg.lnkErr p) Fld.lnkErrRetrains 1).onPort p (fun k => { k with attempts := 0, replays := 0 })
  else s

/-- A replay begins (R330): the ninth in a row from one flit retrains the port in its place, with event 260. -/
def replay (p : Nat) (s : State) : State :=
  let k := s.portAt p
  let first := k.txSeq - byte k.unacked.length
  if k.unacked.isEmpty then s
  else
    let n := if k.replays ≠ 0 ∧ k.replaySeq = first then k.replays else 0
    if n = 8 then raise 260 [] (retrainPort p s)
    else
      let s1 := s.putPort p { k with replays := n + 1, replaySeq := first, replayAlerted := true }
      resend p (if k.replayAlerted then s1 else raise 259 [] s1)

/-! ### Flits in -/

/-- A flit is counted as malformed (R328, R330). -/
def countMalformed (p : Nat) (s : State) : State := s.addFld (Reg.lnkErr p) Fld.lnkErrMalformed 1

/-- A malformed flit: counted, event 266 (R328). -/
def malformed (p : Nat) (s : State) : State := raise 266 [] (countMalformed p s)

/-- The counts of CREDIT_RET that a flit carries. -/
def creditsOf (flit : List Byte) : List (BitVec 16) := [244, 246, 248, 250].map (fun a => BitVec.ofNat 16 (leAt flit a 2))

/-- The credits returned: the differences from the last counts, modulo 2^16 (R331). -/
def takeCredits (p : Nat) (flit : List Byte) (s : State) : State :=
  let new := creditsOf flit
  s.onPort p (fun k =>
    { k with peer := new
             credits := (List.range 4).map (fun i => k.credits.getD i 0 + (new.getD i 0 - k.peer.getD i 0).toNat) })

/-- The acknowledgement that a flit carries, and the replay that its NAK asks for (R330). An ACK outside the window is ignored and
counted. -/
def takeAck (p : Nat) (flit : List Byte) (s : State) : State :=
  let lf := (flit.getD 242 0).toNat
  let k := s.portAt p
  let n := ((flit.getD 241 0) - (k.txSeq - byte k.unacked.length) + 1).toNat
  if !bitAt lf 0 then s
  else if k.unacked.length < n then countMalformed p s
  else
    let s1 := if n = 0 then s else s.putPort p { k with unacked := k.unacked.drop n, replays := 0, replayAlerted := false }
    if bitAt lf 1 then replay p s1 else s1

/-- A flit is discarded: the first of a run is answered with NAK (R330). -/
def discardFlit (p : Nat) (s : State) : State :=
  if (s.portAt p).nakSent then s else sendNull p true (s.onPort p (fun k => { k with nakSent := true }))

/-- The flit keeps Table 15-2, as far as one flit shows. -/
def flitOk (b : List Byte) : Bool :=
  let n := fun (a k : Nat) => leAt b a k
  let c := n 0 1
  let count := n 6 2
  let addr := n 8 7
  decide (c < 4) && decide (n 1 1 < (if c = 3 then 8 else 4)) && decide (n 2 2 ≤ 224) && decide (addr < 2 ^ 52) && n 15 1 == 0
    && (slice b (16 + n 2 2) (224 - n 2 2)).all (fun x => x == 0) && decide (n 242 1 < 8) && n 243 1 == 0
    && (c == 0) == bitAt (n 242 1) 2 && (c != 0 || n 4 2 == 0)
    && (if c = 2 then decide (1 ≤ count) && decide (count ≤ 4096) && decide (addr % 4096 + count ≤ 4096) && n 1 1 == 3
        else if c = 3 then decide (count ≤ 2) && decide (addr < 4096) else count == 0)

/-- Payload bytes of the flits of a message. -/
def payloadLen (l : List (List Byte)) : Nat := (l.map (fun b => leAt b 2 2)).sum

/-- The flit goes on with the message that the flits `l` begin (R328). -/
def follows (l : List (List Byte)) (b : List Byte) : Bool :=
  match l with
  | f :: _ => leAt b 8 7 == leAt f 8 7 + payloadLen l
  | [] => false

/-- The message stays within 4,096 bytes and a 4 KiB page (R328). -/
def pageOk (l : List (List Byte)) : Bool :=
  match l with
  | f :: _ => decide (leAt f 8 7 % 4096 + payloadLen l ≤ 4096)
  | [] => true

/-- A sequenced flit is accepted: its message grows, and is whole at END; a malformed one takes its message with it (R328, R330). -/
def acceptFlit (p : Nat) (flit : List Byte) (s : State) : State :=
  let k := s.portAt p
  let c := flitClass flit
  let start := bitAt (leAt flit 1 1) 0
  let last := bitAt (leAt flit 1 1) 1
  let open_ := Sparse.find k.partialMsg c
  let k1 := { k with rxSeq := k.rxSeq + 1, nakSent := false, ackDue := true
                     released := if 1 ≤ c ∧ c ≤ 3 then setAt k.released (c - 1) (k.released.getD (c - 1) 0 + 1) else k.released }
  let drop := { k1 with partialMsg := if last then Sparse.erase k1.partialMsg c else Sparse.put k1.partialMsg c [] }
  let grown := (open_.getD []) ++ [flit]
  let good := flitOk flit && pageOk grown && (match open_ with
    | some l => !start && follows l flit
    | none => start)
  if open_ = some [] ∧ !start then s.putPort p drop
  else if good ∨ (open_ = some [] ∧ start ∧ flitOk flit ∧ pageOk [flit]) then
    s.putPort p (if last then { k1 with partialMsg := Sparse.erase k1.partialMsg c, inbox := k1.inbox ++ [grown] }
                 else { k1 with partialMsg := Sparse.put k1.partialMsg c grown })
  else malformed p (s.putPort p drop)

/-- A flit whose check holds is used (R329, R330). -/
def useFlit (p : Nat) (flit : List Byte) (s : State) : State :=
  let s1 := takeAck p flit (takeCredits p flit s)
  if bitAt (leAt flit 242 1) 2 then (if flitOk flit then s1 else malformed p s1)
  else if flit.getD 240 0 = (s1.portAt p).rxSeq then acceptFlit p flit s1
  else discardFlit p s1

/-- The check of a flit holds (R327, R330). -/
def flitGood (flit : List Byte) : Bool := flit.length == 256 && leAt flit 252 4 == (crc32c (flit.take 252)).toNat

/-- FLIT_RECEIVE: a flit arrives at a port that is Active, or that it brings back from L1 (R330, R338). -/
def opFlitReceive (p : Nat) (flit : List Byte) (s : State) : State :=
  if portState s p = 2 ∨ portState s p = 4 then
    let s1 := setPortState p 2 s
    pumpPorts (if flitGood flit then useFlit p flit s1 else discardFlit p (s1.addFld (Reg.lnkErr p) Fld.lnkErrCrc 1))
  else s

/-- REPLAY_TIMEOUT: 2 µs without acknowledgement progress (R330). -/
def opReplayTimeout (p : Nat) (s : State) : State := if portState s p = 2 then pumpPorts (replay p s) else s

/-- ACK_DUE: an acknowledgement that is due leaves in a null flit, unless a flit carries it (R330). -/
def opAckDue (p : Nat) (s : State) : State :=
  if portState s p = 2 then
    let s1 := pumpPorts s
    if (s1.portAt p).ackDue then sendNull p false s1 else s1
  else s

/-- CREDIT_WAIT_ALERT: a wait for credits of a class has lasted 1 ms: event 268, once per wait (R332). -/
def opCreditWaitAlert (p c : Nat) (s : State) : State :=
  let k := s.portAt p
  if k.waiting.any (fun b => flitClass b == c) && k.credits.getD (c - 1) 0 == 0 && !k.waitAlerted.contains c then
    raise 268 [] (s.putPort p { k with waitAlerted := c :: k.waitAlerted })
  else s

/-! ### Port states -/

/-- PORT_ACTIVE: an enabled port has trained at a rate not above MAX_RATE, with its repairs; or it has not, and stays DOWN with event 257,
or goes on retraining (R326, R337). Unacknowledged flits are sent again (R330). -/
def opPortActive (p : Nat) (trained : Option PortTraining) (s : State) : State :=
  let st := portState s p
  if !portEnabled s p || !(st == 0 || st == 1 || st == 3) then s
  else
    match trained with
    | some t =>
      let r := Reg.lnkPortStatus p
      let rate := min t.rate.toNat (s.fld Reg.lnkCtrl Fld.lnkCtrlMaxRate)
      let s1 := ((s.setFld r Fld.lnkPortStatusRate rate).setFld r Fld.lnkPortStatusRxRepaired t.rxRepaired.val).setFld r
        Fld.lnkPortStatusTxRepaired t.txRepaired.val
      let s2 := (setPortState p 2 s1).onPort p (fun k => { k with attempts := 0 })
      let s3 := raise 256 [word p, word rate] (s2.setFld Reg.lnkCtrl Fld.lnkCtrlRetrain (s2.fld Reg.lnkCtrl Fld.lnkCtrlRetrain &&& (3 - 2 ^ p)))
      let lanes := (List.range t.rxRepaired.val).map (fun i => Config.repairedLane p i)
        ++ (List.range t.txRepaired.val).map (fun i => Config.repairedLane p (4 + i))
      let s4 := forEach lanes (fun l a => raise 258 [word p, l] a) s3
      pumpPorts (if st = 3 then resend p s4 else s4)
    | none =>
      if st = 3 then s.onPort p (fun k => { k with attempts := k.attempts + 1 }) else raise 257 [] (setPortState p 6 s)

/-- PORT_RETRAIN: a write of 1 to LNK_CTRL.RETRAIN (R337). -/
def opPortRetrain (p : Nat) (s : State) : State :=
  if portState s p = 2 ∨ portState s p = 4 then
    retrainPort p (s.setFld Reg.lnkCtrl Fld.lnkCtrlRetrain (s.fld Reg.lnkCtrl Fld.lnkCtrlRetrain ||| 2 ^ p))
  else s

/-- Flits from the first that starts a message of each class on: messages that can be sent again whole. -/
def wholeMessages (l : List (List Byte)) : List (List Byte) :=
  let go := l.foldl (fun (a : List (List Byte) × List Nat) b =>
    let c := flitClass b
    if a.2.contains c || bitAt (leAt b 1 1) 0 then (a.1 ++ [b], c :: a.2) else a) ([], [])
  go.1

/-- A port is held in Reset; the messages that it had not brought across whole wait at the other port (R339). -/
def holdPort (p : Nat) (s : State) : State :=
  let k := s.portAt p
  let moved := wholeMessages (k.unacked ++ k.waiting)
  (setPortState p 0 (s.putPort p {})).onPort (1 - p) (fun x => { x with waiting := x.waiting ++ moved })

/-- PORT_ENABLE_WRITE: LNK_CTRL.PORT_EN; clearing both bits is discarded (R339). A port enabled again trains from link-up. -/
def opPortEnableWrite (en : Nat) (s : State) : State :=
  if en % 4 = 0 then s
  else
    let change := fun (p : Nat) (a : State) =>
      if portEnabled s p && !bitAt en p then holdPort p a
      else if !portEnabled s p && bitAt en p then setPortState p 1 a
      else a
    pumpPorts (forEach [0, 1] change (s.setFld Reg.lnkCtrl Fld.lnkCtrlPortEn en))

/-! ### Device reads of host memory -/

/-- A task's last fetch is whole: what it fetched for goes on. -/
def fetched (n : Nat) (t : Task) (s : State) : State :=
  match t.opcode with
  | 0x01 => writeDescriptors n t s
  | 0x05 => readDescriptors n t s
  | 0x0B => cutSource n t s
  | 0x0C => uncutSource n t s
  | 0x13 => createPart n t s
  | 0x15 => formatMedium n t s
  | 0x16 => seatTable n t s
  | _ => s

/-- What is left of the ranges once `k` more bytes have come. -/
def advanceRanges (k : Nat) : List (Nat × Nat) → List (Nat × Nat)
  | (a, len) :: l => if len ≤ k then l else (a + k, len - k) :: l
  | [] => []

/-- The bytes of one read have come for task q of context n (R38, R335). -/
def takeData (n q : Nat) (bytes : List Byte) (s : State) : State :=
  match (s.ctxAt n).task q with
  | some t =>
    if t.stage = .fetching then
      let t1 := { t with got := t.got ++ bytes, fetched := t.fetched + bytes.length, ranges := advanceRanges bytes.length t.ranges }
      let s1 := s.onTask n q (fun _ => t1)
      if t1.opcode = 1 ∧ t1.checked then writeData n t1 s1
      else if t1.ranges.isEmpty then fetched n t1 s1
      else fetchNext n q s1
    else s
  | none => s

/-- A READ whose descriptors did not come: its LEN_ADDR entries are zeroed, and the ranges of the descriptors that did come where they pass
the check of R39 (R210). -/
def zeroUnread (n : Nat) (t : Task) (s : State) : State :=
  let ds := descriptorsOf (t.got.take (t.got.length / 16 * 16))
  let good := (checkDescriptors false 0 0 ds).isNone
  let r : Reader := { task := t.seq, dests := if good then ds.map (fun d => (d.addr, d.len)) else [], lens := (t.field 32 8, t.field 20 4) }
  commits n t.seq (zeroFill r s)

/-- The completion of a task for which a read failed: the address and the bytes done (Table 02-7); for a READ the records delivered, none,
in place of the address, as R210 gives for a READ (DEDUCED, log entry 103). -/
def timeoutOf (t : Task) (addr : Nat) : Completion := result2 0x1A (if t.opcode = 5 then 0 else addr) t.fetched

/-- The task for which a read failed ends TIMEOUT with the address and the bytes done (R335, Table 02-7). -/
def timeoutTask (n q addr : Nat) (s : State) : State :=
  match (s.ctxAt n).task q with
  | some t =>
    let s1 := dropReads n q s
    let s2 := if t.opcode = 1 then withdraw n q s1 else dropJob n q s1
    let s3 := match taskDeck s n t with
      | some d => if 0x10 ≤ t.opcode ∧ t.opcode ≤ 0x15 then endAdmin d s2 else s2
      | none => s2
    finish n q (timeoutOf t addr) (if t.opcode = 5 then zeroUnread n t s3 else s3)
  | none => s

/-- A read fails (R335): 1 timeout, 2 error completion, 3 overrun. -/
def failDma (kind : Nat) (r : DmaRead) (s : State) : State :=
  let l := { s.lnk with reads := s.lnk.reads.filter (fun x => x.tag != r.tag), quarantine := s.lnk.quarantine ++ [r.tag] }
  let s1 := { s with lnk := l }.setReg Reg.lnkDmaErrLo (word r.addr)
  let s2 := (s1.setFld Reg.lnkDmaErrHi Fld.lnkDmaErrHiKind kind).setFld Reg.lnkDmaErrHi Fld.lnkDmaErrHiAddr (r.addr / 2 ^ 32)
  let s3 := raise (if kind = 1 then 262 else 263) [] s2
  if r.owner.1 = 4096 then failImageRead s3
  else if r.owner.1 = 4097 then s3
  else timeoutTask r.owner.1 r.owner.2 r.addr s3

/-- A read is answered whole. -/
def readDone (r : DmaRead) (s : State) : State :=
  let s1 := { s with lnk := { s.lnk with reads := s.lnk.reads.filter (fun x => x.tag != r.tag) } }
  if r.owner.1 = 4096 then takeImageBytes r.got s1
  else if r.owner.1 = 4097 then s1
  else takeData r.owner.1 r.owner.2 r.got s1

/-- DMA_COMPLETION_RECEIVE: data of a read in address order; an error or an overrun fails it; a tag that names no read is counted, with
event 264 (R335). -/
def opDmaCompletionReceive (tag st : BitVec 16) (payload : List Byte) (s : State) : State :=
  match s.lnk.reads.find? (fun r => r.tag == tag) with
  | none => raise 264 [] (s.addFld Reg.lnkDmaErrHi Fld.lnkDmaErrHiStray 1)
  | some r =>
    let r1 := { r with got := r.got ++ payload }
    if st ≠ 0 then failDma 2 r s
    else if r.count < r1.got.length then failDma 3 r s
    else if r1.got.length = r.count then readDone r1 s
    else { s with lnk := { s.lnk with reads := s.lnk.reads.map (fun x => if x.tag == tag then r1 else x) } }

/-- DMA_READ_TIMEOUT: completions not complete within 100 µs (R335). -/
def opDmaReadTimeout (tag : BitVec 16) (s : State) : State :=
  match s.lnk.reads.find? (fun r => r.tag == tag) with
  | some r => failDma 1 r s
  | none => s

/-- DMA_TAG_RELEASE: 1 ms after a failed read its tag may be used again (R335). -/
def opDmaTagRelease (tag : BitVec 16) (s : State) : State :=
  { s with lnk := { s.lnk with quarantine := s.lnk.quarantine.filter (fun t => t != tag) } }

/-! ### Commands -/

/-- FLIT_RECEIVE. -/
def execFlitReceive (p : Fin 2) (flit : List Byte) (s : State) : Host.Outcome State Fault Refusal := run (opFlitReceive p.val flit) s

/-- REPLAY_TIMEOUT. -/
def execReplayTimeout (p : Fin 2) (s : State) : Host.Outcome State Fault Refusal := run (opReplayTimeout p.val) s

/-- ACK_DUE. -/
def execAckDue (p : Fin 2) (s : State) : Host.Outcome State Fault Refusal := run (opAckDue p.val) s

/-- DMA_COMPLETION_RECEIVE. -/
def execDmaCompletionReceive (tag status : BitVec 16) (payload : List Byte) (s : State) : Host.Outcome State Fault Refusal :=
  run (opDmaCompletionReceive tag status payload) s

/-- DMA_READ_TIMEOUT. -/
def execDmaReadTimeout (tag : BitVec 16) (s : State) : Host.Outcome State Fault Refusal := run (opDmaReadTimeout tag) s

/-- DMA_TAG_RELEASE. -/
def execDmaTagRelease (tag : BitVec 16) (s : State) : Host.Outcome State Fault Refusal := run (opDmaTagRelease tag) s

/-- CREDIT_WAIT_ALERT; class number cls + 1. -/
def execCreditWaitAlert (p : Fin 2) (cls : Fin 4) (s : State) : Host.Outcome State Fault Refusal := run (opCreditWaitAlert p.val (cls.val + 1)) s

/-- PORT_ACTIVE. -/
def execPortActive (p : Fin 2) (trained : Option PortTraining) (s : State) : Host.Outcome State Fault Refusal := run (opPortActive p.val trained) s

/-- PORT_RETRAIN. -/
def execPortRetrain (p : Fin 2) (s : State) : Host.Outcome State Fault Refusal := run (opPortRetrain p.val) s

/-- PORT_ENABLE_WRITE. -/
def execPortEnableWrite (en : BitVec 2) (s : State) : Host.Outcome State Fault Refusal := run (opPortEnableWrite en.toNat) s

end Sys2Proof.Machine
end

