-- ==== Sys2Proof/Machine/Security.lean ====
section
/-! DEFINITION. Presence, the seal loop, the security states and the debug levels (R342 to R354). -/

namespace Sys2Proof.Machine

/-! ### The presence window -/

/-- The security part of the state changed by `f`. -/
def State.onSec (s : State) (f : SecUnit → SecUnit) : State := { s with sec := f s.sec }

/-- SEC_PRESENCE_CFG.WINDOW_S: 10 to 300 s, other values the nearer bound (R343). -/
def windowSeconds (s : State) : Nat := max 10 (min 300 (s.fld Reg.secPresenceCfg Fld.secPresenceCfgWindowS))

/-- The window opens, with event 416; an open one starts again (R343). -/
def openWindow (s : State) : State :=
  let s1 := s.onSec (fun c => { c with window := true, remain := windowSeconds s })
  if s.sec.window then s1 else raise 416 [] s1

/-- An open window closes with event 417 and its reason: 1 expiry, 2 CLOSE_WINDOW, 3 jumper, 4 TAMPERED, 5 SLEEP (R343). -/
def shutWindow (reason : Nat) (s : State) : State :=
  if s.sec.window then raise 417 [word reason] (s.onSec (fun c => { c with window := false, remain := 0 })) else s

/-- PRES_LED: 0 off, 1 on, 2 blinking at 8 Hz, 3 blinking at 2 Hz (R343). -/
def presLed (s : State) : Nat :=
  if s.sec.state = 2 then (if s.sec.restored then 3 else 2) else bit s.sec.window

/-! ### State and level -/

/-- The security state changes, with event 422 (R351). -/
def enterSecurity (v : Nat) (s : State) : State := if s.sec.state = v then s else raise 422 [] (s.onSec (fun c => { c with state := v }))

/-- The debug level changes, with event 423 (R354). -/
def enterDebug (v : Nat) (s : State) : State := if s.sec.debug = v then s else raise 423 [] (s.onSec (fun c => { c with debug := v }))

/-- TAMPERED is entered (R348): the window closes, the level is D0, every slot is cleared, the state changes (R116), event 420, and the
steward makes its journal entry (R350). -/
def enterTampered (s : State) : State :=
  let s1 := enterSecurity 2 (clearAll 3 (enterDebug 0 (shutWindow 4 (s.onSec (fun c => { c with openPending := false })))))
  journalAdd { type := 5 } ((raise 420 [] s1).addFld Reg.secSeal Fld.secSealTampers 1)

/-- The acknowledgement of a tamper: SEALED, event 421, and its journal entry (R349, R350). -/
def acknowledge (s : State) : State :=
  journalAdd { type := 6 } (raise 421 [] (enterSecurity 0 (s.onSec (fun c => { c with sealFault := false, mismatch := 0 }))))

/-! ### Presence -/

/-- PRESENCE_ACTION: the button has stayed low for 200 ms past its debounce (R342 to R345, R349). -/
def opPresenceAction (s : State) : State :=
  let c := s.sec
  if c.button && c.armed && !c.stuck && !c.void then
    let s1 := s.onSec (fun c => { c with armed := false })
    if !c.jumper then raise 426 [] s1
    else if c.state = 2 then (if c.restored then acknowledge s1 else raise 426 [] s1)
    else openWindow s1
  else s

/-- BUTTON_PRESSED: SVC_BTN_N low for its debounce (R342). -/
def opButtonPressed (s : State) : State := if s.sec.button then s else s.onSec (fun c => { c with button := true, void := false })

/-- BUTTON_RELEASED: SVC_BTN_N high for 20 ms: another action may follow (R342, R345). -/
def opButtonReleased (s : State) : State := s.onSec (fun c => { c with button := false, armed := true, stuck := false, void := false })

/-- BUTTON_STUCK: SVC_BTN_N low for more than 10 s: event 426 once, and no action until it has been high (R345). -/
def opButtonStuck (s : State) : State :=
  if s.sec.button && !s.sec.stuck then raise 426 [] (s.onSec (fun c => { c with stuck := true, armed := false })) else s

/-- JUMPER_FITTED: SVC_JMP_N low for 20 ms (R342). -/
def opJumperFitted (s : State) : State := s.onSec (fun c => { c with jumper := true })

/-- JUMPER_REMOVED: SVC_JMP_N high: a press under way is void, and the window closes (R342, R343). -/
def opJumperRemoved (s : State) : State :=
  if s.sec.jumper then shutWindow 3 (s.onSec (fun c => { c with jumper := false, void := c.button && c.armed })) else s

/-- PRESENCE_WINDOW_EXPIRY (R343). -/
def opPresenceWindowExpiry (s : State) : State := shutWindow 1 s

/-- CLOSE_WINDOW: a write of 1 to SEC_CONTROL.CLOSE_WINDOW (R343). -/
def opCloseWindow (s : State) : State := shutWindow 2 s

/-! ### Requests -/

/-- ENTER_SERVICE: refused without a window; from SEALED only (R344, R351). -/
def opEnterService (s : State) : State :=
  if !s.window then refuseWrite Reg.secControl s else if s.sec.state = 0 then enterSecurity 1 s else s

/-- SERVICE is left for SEALED: D2 falls to D1 (R351). -/
def leaveService (s : State) : State :=
  if s.sec.state = 1 then
    let s1 := enterSecurity 0 s
    if s1.sec.debug = 2 then enterDebug 1 s1 else s1
  else s

/-- LEAVE_SERVICE (R351). -/
def opLeaveService (s : State) : State := leaveService s

/-- OPEN_ARM: refused without a window; in SEALED or SERVICE with CONFIRM = 0x5EC0 OPEN is armed, with event 427 (R344, R351, R352). -/
def opOpenArm (confirm : Nat) (s : State) : State :=
  if !s.window then refuseWrite Reg.secControl s
  else if s.sec.state ≤ 1 ∧ confirm = 0x5EC0 then raise 427 [] (s.onSec (fun c => { c with openPending := true }))
  else s

/-- OPEN_DISARM (R352). -/
def opOpenDisarm (s : State) : State := s.onSec (fun c => { c with openPending := false })

/-- The level is allowed in the security state (Table 16-2). -/
def levelAllowed (state level : Nat) : Bool :=
  match level with
  | 0 => true
  | 1 => state != 2
  | 2 => state == 1 || state == 3
  | _ => state == 3

/-- DEBUG_LEVEL_WRITE (R354). A raise without a window is a refusal under R344 as well. -/
def opDebugLevelWrite (level : Nat) (s : State) : State :=
  let now := s.sec.debug
  if level = now then s
  else if level < now then (if now = 3 then raise 424 [] s else enterDebug level s)
  else if !s.window then raise 424 [] (refuseWrite Reg.secDebug s)
  else if levelAllowed s.sec.state level && (level != 3 || decksIdle s) then
    enterDebug level (if level = 3 then clearAll 5 s else s)
  else raise 424 [] s

/-! ### The seal loop -/

/-- SEC_SEAL.ENABLE (R347). -/
def sealEnabled (s : State) : Bool := s.flag Reg.secSeal Fld.secSealEnable

/-- SEAL_ENABLE_WRITE: cleared in OPEN only, and changed with a window open only (R10, R347). -/
def opSealEnableWrite (enable : Bool) (s : State) : State :=
  if enable == sealEnabled s then s
  else if !enable && s.sec.state != 3 then refuseWrite Reg.secSeal s
  else if !s.window then refuseWrite Reg.secSeal s
  else s.setFld Reg.secSeal Fld.secSealEnable (bit enable)

/-- SEAL_BIT: the next bit of the register and its complement are driven, and both samples compared (R346, R347, R349). -/
def opSealBit (sample1 sample2 : Bool) (s : State) : State :=
  let r := sealNext s.sec.lfsr
  let s1 := emit (.sealBit r.1) (s.onSec (fun c => { c with lfsr := r.2 }))
  if !sealEnabled s then s1
  else if sample1 = r.1 ∧ sample2 = !r.1 then s1.onSec (fun c => { c with mismatch := 0, matching := satAt 1000 (c.matching + 1) })
  else raise 419 [] (s1.onSec (fun c => { c with mismatch := satAt 3 (c.mismatch + 1), matching := 0, restored := false }))

/-- TAMPERED_ENTRY: the third mismatch in a row, or a fault of island 23 (R347, R348). -/
def opTamperedEntry (s : State) : State :=
  if s.sec.state != 2 && (decide (3 ≤ s.sec.mismatch) || s.sec.sealFault) then enterTampered s else s

/-- SEAL_RESTORED: 1,000 consecutive bits have matched (R349). -/
def opSealRestored (s : State) : State := if 1000 ≤ s.sec.matching then s.onSec (fun c => { c with restored := true }) else s

/-! ### Commands -/

/-- PRESENCE_ACTION. -/
def execPresenceAction (s : State) : Host.Outcome State Fault Refusal := run opPresenceAction s

/-- BUTTON_STUCK. -/
def execButtonStuck (s : State) : Host.Outcome State Fault Refusal := run opButtonStuck s

/-- BUTTON_PRESSED. -/
def execButtonPressed (s : State) : Host.Outcome State Fault Refusal := run opButtonPressed s

/-- BUTTON_RELEASED. -/
def execButtonReleased (s : State) : Host.Outcome State Fault Refusal := run opButtonReleased s

/-- JUMPER_FITTED. -/
def execJumperFitted (s : State) : Host.Outcome State Fault Refusal := run opJumperFitted s

/-- JUMPER_REMOVED. -/
def execJumperRemoved (s : State) : Host.Outcome State Fault Refusal := run opJumperRemoved s

/-- PRESENCE_WINDOW_EXPIRY. -/
def execPresenceWindowExpiry (s : State) : Host.Outcome State Fault Refusal := run opPresenceWindowExpiry s

/-- CLOSE_WINDOW. -/
def execCloseWindow (s : State) : Host.Outcome State Fault Refusal := run opCloseWindow s

/-- ENTER_SERVICE. -/
def execEnterService (s : State) : Host.Outcome State Fault Refusal := run opEnterService s

/-- LEAVE_SERVICE. -/
def execLeaveService (s : State) : Host.Outcome State Fault Refusal := run opLeaveService s

/-- OPEN_ARM. -/
def execOpenArm (confirm : BitVec 16) (s : State) : Host.Outcome State Fault Refusal := run (opOpenArm confirm.toNat) s

/-- OPEN_DISARM. -/
def execOpenDisarm (s : State) : Host.Outcome State Fault Refusal := run opOpenDisarm s

/-- DEBUG_LEVEL_WRITE. -/
def execDebugLevelWrite (level : BitVec 2) (s : State) : Host.Outcome State Fault Refusal := run (opDebugLevelWrite level.toNat) s

/-- SEAL_ENABLE_WRITE. -/
def execSealEnableWrite (enable : Bool) (s : State) : Host.Outcome State Fault Refusal := run (opSealEnableWrite enable) s

/-- SEAL_BIT. -/
def execSealBit (sample1 sample2 : Bool) (s : State) : Host.Outcome State Fault Refusal := run (opSealBit sample1 sample2) s

/-- TAMPERED_ENTRY. -/
def execTamperedEntry (s : State) : Host.Outcome State Fault Refusal := run opTamperedEntry s

/-- SEAL_RESTORED. -/
def execSealRestored (s : State) : Host.Outcome State Fault Refusal := run opSealRestored s

end Sys2Proof.Machine
end

