-- ==== Sys2Proof/Machine/Resets.lean ====
section
/-! DEFINITION. Controlled stops that complete (R256), DECK, WARM, COLD and POR resets (R362 to R367), start-up (R363), power states (R355 to
R358), power failure (R361, R383, R420) and the sideband's requests (R340). -/

namespace Sys2Proof.Machine

/-! ### What a stop or a reset leaves on a deck -/

/-- The rounds of the deck's active table that leave the logical image: those after the last that was released (R195). -/
def goneRounds (s : State) (d : Nat) : List Round :=
  let last := groupReleased s d
  (groupOf s d).flatMap (fun x => (s.deckAt x).rounds.filter (fun r => !last.any (fun i => decide (r.id ≤ i))))

/-- The streams go back to the first object that is not in the logical image (R194, R195). -/
def lowerStreams (refs : List (Nat × Word × Nat)) (t : Table) : Table :=
  refs.foldl (fun a r => a.onStream r.2.1 (fun i => { i with objects := min i.objects r.2.2 })) t

/-- The active table of the deck as a DECK reset leaves it: what is not released is superseded, and an end-of-data is to be written before
the table is written on again (R194, R195). The seating stays (R63), and with it the seats that are vacant or become so (R65). DESIGN CHOICE
(log entry 107): what a PASS still covers goes with the items: every seat's pass_end is below the first trick again. -/
def supersede (d : Nat) (s : State) : State :=
  match activePart s d with
  | none => s
  | some p =>
    let td := tableDeck s d
    let t := s.tableAt td p
    let gone := goneRounds s d
    let hands := gone.flatMap (fun r => r.hands) ++ t.openRound
    let tricks := hands.flatMap (fun h => h.tricks) ++ t.openHand
    let refs := (tricks.flatMap Trick.entries ++ t.openEntries).map Entry.ref ++ t.items.filterMap Item.ref
    let next := leastOf (t.nextTrick :: hands.map (fun h => h.firstTrick) ++ t.openHand.map (fun x => x.number))
    let chips := t.items.filterMap (fun i => match i with
      | .block b _ => some (b.ctx, b.chips)
      | _ => none)
    let due := t.needsEod || !refs.isEmpty || (groupOf s d).any (fun x => !(s.deckAt x).eodWritten)
    let t1 := { lowerStreams refs t with
      items := [], passEnd := [], turn := (0, 0), inTurn := false, openEntries := [], openChips := [], openHand := [], openRound := []
      waiting := none, waitMs := 0, alerted := false, holder := none, poolWait := none, sealWait := none, roundWait := false, truncPending := []
      seatPending := none
      cuts := 0, nextTrick := next, needsEod := due, directory := t.directory.filter (fun e => decide (beAt e 0 5 < next))
      formats := t.formats.filter (fun e => decide (e.1 < next)) }
    let s1 := vacate td p (forEach chips (fun e a => freeList 1 e.1 e.2 a) (s.putTable td p t1))
    forEach (groupOf s d) (fun x a => a.onDeck x (fun k => { k with rounds := [], toWrite := none })) s1

/-- What of a deck a DECK reset keeps: its pins, its cartridge, its place on the tape and the active table, which reads ACTIVE again once a
data task has reached it (R12, R195). -/
def keptDeck (k : Deck) : Deck :=
  { present := k.present, estop := k.estop, cartridge := k.cartridge, threaded := k.threaded, loaded := k.loaded, blank := k.blank
    parts := k.parts, label := k.label, dataParts := k.dataParts, active := k.active, dormant := true, lastReleased := k.lastReleased
    eodWritten := k.eodWritten
    appendAt := k.appendAt, appendWrap := k.appendWrap, images := k.images, writings := k.writings, txSeq := k.txSeq
    feTracks := k.feTracks, feFifo := k.feFifo
    motion := { tpc := k.motion.tpc, counts := k.motion.counts, wrap := k.motion.wrap } }

/-- The fields of the classes that satisfy `p` take the values of `v` in place of those of `w`. -/
def mixFields (p : Cls → Bool) (r : RegSpec) (v w : Word) : Word :=
  r.fields.foldl (fun a f => if p f.cls then putBits a f.fld (getBits v f.fld) else a) w

/-- The reset values that the image in force gives the Jasper registers of a deck, in the fields of the classes that satisfy `p` (R12,
Table 13-2). -/
def imageResets (p : Cls → Bool) (d : Nat) (s : State) : State :=
  match s.img.inForce with
  | none => s
  | some i => forEach i.jasReset (fun e a =>
      match findReg e.1 with
      | some r => if decide (r.owner = .deck) && r.index1 e.1 == d then a.setReg e.1 (mixFields p r e.2 (a.reg e.1)) else a
      | none => a) s

/-- The chains of the image in force run on a deck (R364, Table 13-2). -/
def imageChains (d : Nat) (s : State) : State :=
  match s.img.inForce with
  | some i => setChains i d s
  | none => s

/-- What a DECK reset leaves of a loop: its chain, with the shadow bank in it, as HOLD returns to 0 (R12, R241). -/
def keptLoop (p : Loop) : Loop := { chain := shadowed p }

/-- Every chip of a class of the deck is free (R194, Table 12-2). -/
def freeDeckChips (d : Nat) (s : State) : State := freeOwned (fun t => decide (2 ≤ t.cls) && decide (t.cls ≤ 4) && t.id == d) s

/-- The islands of which a DECK reset is the recovery (Table 01-4). -/
def deckIslands (d : Nat) : List Nat := [6 + d, 10 + d, 14 + d]

/-- Islands are recovered: their faults may be raised again (R21). -/
def recover (l : List Nat) (s : State) : State := { s with pwr := { s.pwr with recovering := s.pwr.recovering.filter (fun i => !l.contains i) } }

/-- The deck after its stop: its fields reset, its chips freed, a pending format epoch applied, and its link training again (R296, R365). -/
def clearDeck (d : Nat) (s : State) : State :=
  let s1 := freeDeckChips d (supersede d (stopLoad d s))
  let mine := fun (c : Cls) => decide (c = .deck)
  let s2 := (s1.putDeck d (keptDeck (s1.deckAt d))).resetRegs mine (fun r i => decide (r.owner = .deck) && i == d)
  let cuts := { s2 with tables := Sparse.remap (fun _ => {}) (fun k t => if k / 64 = d then { t with cuts := 0, holder := none } else t) s2.tables }
  let clear := fun (l : Nat) (a : State) => a.putLoop d l (keptLoop (a.loopAt d l))
  let s3 := recover (deckIslands d) (imageResets mine d (forEach (List.range 4) clear (adoptAtOnce d cuts)))
  let s4 := if s3.img.deckPending.contains d && tableDeck s3 d == d then takeFormatEpoch d s3 else s3
  if s4.flag (Reg.dkLnkCtrl d) Fld.dkLnkCtrlEnable && (s4.deckAt d).present then retrain d s4 else setLinkState d 0 (resetLink d s4)

/-- A DECK reset is complete (R365). -/
def finishDeckReset (d : Nat) (s : State) : State :=
  (clearDeck d s).setFld Reg.glbReset Fld.glbResetDeck (s.fld Reg.glbReset Fld.glbResetDeck &&& (15 - 2 ^ d))

/-! ### WARM -/

/-- The SUSTAIN floor for a VDD_CORE request (Table 01-7). -/
def sustainFloor (mv : Nat) : Nat := if 720 ≤ mv then 256 else if 650 ≤ mv then 192 else 141

/-- The VDD_CORE request (R27). -/
def vddRequest (s : State) : Nat := s.fld Reg.glbPaceTarget Fld.glbPaceTargetVddReqMv

/-- SUSTAIN, and CAP from it (R24, R25). -/
def showSustain (v : Nat) (s : State) : State :=
  (s.setFld Reg.glbSlackStatus Fld.glbSlackStatusSustain v).setFld Reg.glbSlackStatus Fld.glbSlackStatusCap (min v 256)

/-- SUSTAIN and CAP until the first measurement: the floor for the request in force (R24). -/
def unmeasured (s : State) : State :=
  let f := sustainFloor (vddRequest s)
  showSustain f { s with pwr := { s.pwr with measured := false } }

/-- GLB_RESET_CAUSE, with event 468: class 1 POR, 2 COLD, 3 WARM and source (R366). -/
def noteReset (cls source : Nat) (s : State) : State :=
  let r := Reg.glbResetCause
  raise 468 [word cls, word source] (((s.setReg r 0).setFld r Fld.glbResetCauseClass cls).setFld r Fld.glbResetCauseSource source)

/-- What of a context a WARM reset keeps: its meters (R364, R400). -/
def keptContext (c : Context) : Context :=
  { hostBytes := c.hostBytes, sealedBytes := c.sealedBytes, facets := c.facets, restoreBytes := c.restoreBytes, activeS := c.activeS
    facetRem := c.facetRem, metersChanged := c.metersChanged, formed := c.formed }

/-- A table unseated, with nothing waiting (R63, R364). -/
def unseat (t : Table) : Table := { t with mode := 0, plan := [], vacant := [], vacating := [], holder := none }

/-- The ports train again from link-up: sequence numbers, credits and doorbells start anew, and what was on its way is lost (R336, R337). -/
def freshPorts (s : State) : State :=
  let s1 := { s with lnk := { s.lnk with ports := [], queue := [], put := s.sent.length }, evt := { s.evt with doorbells := 0 } }
  forEach [0, 1] (fun p a => setPortState p (if portEnabled a p then 1 else 0) a) s1

/-- A WARM reset once every deck has stopped (R296, R364). A reset for another cause than link loss leaves the ports as they are. -/
def finishWarm (source : Nat) (s0 : State) : State :=
  let s := forEach ((s0.ctx.filter (fun e => e.2.oldCutter.isSome)).map (fun e => e.1)) takeCutterEpoch s0
  let ports := (List.range 2).map (fun p => s.reg (Reg.lnkPortStatus p))
  let retrains := s.fld Reg.lnkCtrl Fld.lnkCtrlRetrain
  let s1 := { s with ctx := Sparse.remap (fun _ => ({} : Context)) (fun _ c => keptContext c) s.ctx
                     cut := { mismatches := s.cut.mismatches }
                     lnk := { s.lnk with reads := s.lnk.reads.map (fun r => if r.owner.1 < 4096 then { r with owner := (4097, 0) } else r) }
                     pwr := { s.pwr with warm := none, entering := none, wakeResets := [] } }
  let s2 := applyPending (forEach (List.range 4) clearDeck s1)
  let s3 := { s2 with tables := Sparse.remap (fun _ => ({} : Table)) (fun _ t => unseat t) s2.tables
                      shoe := { s2.shoe with tags := [], fill := none
                                             pools := Sparse.remap (fun _ => ({} : Pool)) (fun _ p => if p.enabled then rebuiltPool p else p) s2.shoe.pools }
                      evt := { s2.evt with chains := [], service := none, lost := [], lostRun := [] } }
  let warmed := fun (d : Nat) (a : State) => imageChains d (imageResets Cls.ofWarm d (forEach (List.range 4) (fun c b => b.putTrace d c {}) a))
  let s4 := forEach (List.range 4) warmed (s3.resetRegs Cls.ofWarm (fun _ _ => true))
  let s5 := forEach (List.range 4) (fun d a => if a.flag (Reg.dkLnkCtrl d) Fld.dkLnkCtrlEnable && (a.deckAt d).present then setLinkState d 1 a else a) s4
  let s6 := noteReset 3 source (unmeasured (recover [19, 21, 25] s5))
  if source = 6 then freshPorts s6
  else
    let put := fun (p : Nat) (a : State) => a.setReg (Reg.lnkPortStatus p) (ports.getD p 0)
    (forEach (List.range 2) put s6).setFld Reg.lnkCtrl Fld.lnkCtrlRetrain retrains

/-- A controlled stop of every deck is under way. -/
def decksStopping (s : State) : Bool := (List.range 4).any (fun d => (s.deckAt d).motion.stopping)

/-! ### Stops that complete -/

/-- The tape of a stopping deck is at rest: both reels in HOLD, event 64d + 50 with the causes (R256, R437). What waited for it follows:
training or disabling (R318), MOTOR_EN (R321), a DECK reset (R365). -/
def completeStop (d : Nat) (s : State) : State :=
  let k := s.deckAt d
  if k.motion.stopping then
    let m := { k.motion with stopping := false, pace := 0, modes := (2, 2), v := 0, a := 0, request := 0, wants := 0, target := none }
    let k1 := { k with motion := m, trainAfterStop := false, disableAfterStop := false, motorOffAfterStop := false, resetAfterStop := false }
    let s1 := raiseDeck d 50 [word k.motion.causes.toNat] (s.putDeck d k1)
    let s2 := settleCapping (s1.setFld (Reg.jasControl d) Fld.jasControlStop 0)
    let s3 := if k.motorOffAfterStop then motorOff d s2 else s2
    let s4 := if k.disableAfterStop then disableLink d s3 else if k.trainAfterStop then retrain d s3 else s3
    if k.resetAfterStop then finishDeckReset d s4 else s4
  else s

/-- A pending WARM reset goes on once no deck still stops (R364). -/
def settleWarm (s : State) : State :=
  match s.pwr.warm with
  | some source => if decksStopping s then s else finishWarm source s
  | none => s

/-- STOP_COMPLETE (R256). -/
def opStopComplete (d : Nat) (s : State) : State := settleWarm (completeStop d s)

/-- A deck that is asked to stop while its tape is at rest has stopped. -/
def settleRest (rest : List Nat) (s : State) : State := forEach rest completeStop s

/-- The decks whose tape is at rest and that are not stopping. -/
def atRestNow (s : State) : List Nat := (List.range 4).filter (fun d => (s.deckAt d).motion.pace = 0 && !(s.deckAt d).motion.stopping)

/-! ### DECK and WARM requests -/

/-- A DECK reset of deck d: a controlled stop, unless the deck has stopped, and then the reset (R365). -/
def resetDeck (d : Nat) (s : State) : State :=
  let rest := atRestNow s
  let s1 := s.setFld Reg.glbReset Fld.glbResetDeck (s.fld Reg.glbReset Fld.glbResetDeck ||| 2 ^ d)
  let s2 := settleRest rest (if (s1.deckAt d).motion.stopped then recordCause d 1 s1 else controlledStop d 1 1 s1)
  if (s2.deckAt d).motion.stopping then s2.onDeck d (fun k => { k with resetAfterStop := true }) else finishDeckReset d s2

/-- A WARM reset is in progress, or asked for in DOZE (R366). -/
def warmAsked (s : State) : Bool := s.pwr.warm.isSome || s.pwr.wakeResets.contains 4

/-- DECK_RESET: discarded while a broader reset is in progress; in DOZE its bit reads 1 while it waits for RUN (R8, R365, R366). -/
def opDeckReset (d : Nat) (s : State) : State :=
  if warmAsked s || s.pwr.state = 3 then s
  else if s.pwr.state = 2 then
    { s with pwr := { s.pwr with wakeResets := addNew d s.pwr.wakeResets } }.setFld Reg.glbReset Fld.glbResetDeck
      (s.fld Reg.glbReset Fld.glbResetDeck ||| 2 ^ d)
  else resetDeck d s

/-- A WARM reset with its source: every deck stops, an entry to DOZE or SLEEP is abandoned, narrower resets in progress are taken over
(R364, R366). -/
def resetWarm (source : Nat) (s : State) : State :=
  let rest := atRestNow s
  let s1 := (s.setFld Reg.glbReset Fld.glbResetWarm 1).setFld Reg.glbReset Fld.glbResetDeck 0
  let s2 := { s1 with pwr := { s1.pwr with warm := some source, entering := none } }
  let stop := fun (d : Nat) (a : State) => stopDeck d 1 1 (a.onDeck d (fun k => { k with resetAfterStop := false }))
  settleWarm (settleRest rest (forEach (List.range 4) stop s2))

/-- WARM_RESET: GLB_RESET.WARM. In DOZE it reads 1 while it waits for RUN, and takes over the narrower resets that wait (R8, R364, R366). -/
def opWarmReset (s : State) : State :=
  if warmAsked s || s.pwr.state = 3 then s
  else if s.pwr.state = 2 then
    ({ s with pwr := { s.pwr with wakeResets := [4] } }.setFld Reg.glbReset Fld.glbResetWarm 1).setFld Reg.glbReset Fld.glbResetDeck 0
  else resetWarm 5 s

/-- LINK_LOSS: an enabled port does not come back to Active, or both ports are DOWN: event 261, and a WARM reset (R337, R339). -/
def opLinkLoss (s : State) : State :=
  let failing := [0, 1].any (fun p => portEnabled s p && portState s p == 3)
  if failing || (portState s 0 == 6 && portState s 1 == 6) then
    if s.pwr.warm.isSome then raise 261 [] { s with pwr := { s.pwr with warm := some 6 } } else resetWarm 6 (raise 261 [] s)
  else s

/-! ### Flash at a reset -/

/-- The operations under way on a bank are abandoned: a page being programmed is torn, and the lower page of its pair may be where it is an upper
page; a sector being erased is half-erased (R370, R380). -/
def abandonBank (bank : Nat) (s : State) : State :=
  let run := Sparse.find s.nvm.running bank
  let torn := match run with
    | some o =>
      let p := 16384 * bank + 128 * o.sector + o.page
      if o.op = 1 ∧ o.host = true then (if o.page % 2 = 1 then [p - 1, p] else [p]) else []
    | none => []
  let half := (run.toList ++ (Sparse.find s.nvm.suspended bank).toList).filterMap (fun o => if o.op = 2 then some o.sector else none)
  let s1 := { s with nvm := { s.nvm with torn := s.nvm.torn ++ torn, halfErased := s.nvm.halfErased ++ half.map (sectorOf bank)
                                         running := Sparse.erase s.nvm.running bank, suspended := Sparse.erase s.nvm.suspended bank } }
  let touched := half ++ torn.map (fun p => p / 128 % 128)
  forEach touched (spoilSlot bank) s1

/-- Every flash operation is abandoned: the record of a STORE is invalid, and a slot being programmed is BAD (R289, R380, R382). -/
def abandonFlash (s : State) : State :=
  let s1 := abandonBank 1 (abandonBank 0 s)
  let bad := match s1.img.cmd with
    | some (2, k, _, _) => addNew k s1.img.bad
    | _ => s1.img.bad
  { s1 with nvm := { s1.nvm with storing := none, storeWaits := false }, img := { s1.img with bad := bad, cmd := none } }

/-- A sector whose erase was not finished is erased again, with event 402: bank, sector, and whether it held unerased bits (R380). -/
def eraseAgain (x : Nat × Nat) (s : State) : State :=
  let clean := (List.range 128).all (fun p => pageErased s x.1 x.2 p)
  raise 402 [word x.1, word x.2, word (bit (!clean))] (journalErase x.1 x.2 s)

/-- The emergency record is moved where it belongs and its sector erased, with event 403; an incomplete one is discarded, with event 404
(R383). -/
def takeEmergency (s : State) : State :=
  match s.nvm.emergency with
  | none => s
  | some (h, c, l, valid) =>
    let s1 := journalErase 1 (72 + (Config.emergencySector s.nvm.jseq.toNat).val) { s with nvm := { s.nvm with emergency := none } }
    if valid then
      let new := l.filter (fun r => !s.evt.persisted.any (fun q => q.2.same (r.cycles, r.seq)))
      raise 403 [] (addCheckpoint h c true (persistRecords new s1))
    else raise 404 [] s1

/-- The records that the Scorepad holds after a start-up: those persisted, and those of a valid emergency record (R383, R393). -/
def loadedRecords (s : State) : List SpRecord :=
  let more := match s.nvm.emergency with
    | some (_, _, l, true) => l.filter (fun r => !s.evt.persisted.any (fun q => q.2.same (r.cycles, r.seq)))
    | _ => []
  (s.evt.persisted.map (fun e => e.2) ++ more).foldl (fun a r => (placeRecord a { r with persisted := true }).getD a) []

/-- The greatest hours recorded, with their power-cycle count (R394). -/
def lastHours (s : State) : Option (Word × Word) :=
  let more := match s.nvm.emergency with
    | some (h, c, _, true) => [(h, c)]
    | _ => []
  (s.evt.checkpoints.map (fun e => e.2) ++ more).foldl (fun a x =>
    match a with
    | none => some x
    | some y => if y.1.toNat < x.1.toNat then some x else some y) none

/-! ### Start-up -/

/-- Everything that neither POR nor COLD nor SLEEP keeps (Table 16-7). The NV configuration of regions, pools and event sources is the
resets' to return (R12, R275). -/
def loseCore (s : State) : State :=
  { s with ctx := [], cut := {}, loops := [], traces := []
           shoe := { tripped := s.shoe.tripped, regions := s.shoe.regions, pools := Sparse.remap (fun _ => ({} : Pool)) (fun _ p => rebuiltPool p) s.shoe.pools }
           tables := Sparse.remap (fun _ => ({} : Table)) (fun _ t => { guarantee := t.guarantee }) s.tables
           lnk := { put := s.sent.length }
           decks := Sparse.remap (fun _ => ({} : Deck)) (fun _ k => { present := k.present, estop := k.estop }) s.decks
           img := { approved := s.img.approved, bad := s.img.bad, written := s.img.written, shippedOk := s.img.shippedOk }
           evt := { s.evt with records := [], held := [], last := none, dropped := 0, dropRun := false, chains := [], service := none, doorbells := 0
                               lost := [], lostRun := [], gap := false, restart := true } }

/-- The checkers' self-test: event 368 where one fails (R277). -/
def selfTest (b : BootInput) (s : State) : State :=
  let r := Reg.micSelftest
  let s1 := ((s.setFld r Fld.micSelftestDone 1).setFld r Fld.micSelftestGroupFail b.groupFail.toNat).setFld r Fld.micSelftestHbmFail b.hbmFail.toNat
  if b.groupFail = 0 ∧ b.hbmFail = 0 then s1 else raise 368 [] s1

/-- A stack is trained and its check areas are written; event 379 where it fails, as a stack does that takes no commands (R262); not with the
no-HBM start-up (R261, R267, R277, Table 19-3). -/
def trainStack (b : BootInput) (k : Nat) (s : State) : State :=
  let r := Reg.micHbmStatus k
  if s.shoe.noHbm then s
  else if bitAt b.trained.toNat k && !bitAt b.hbmFail.toNat k && !s.shoe.tripped.contains k then
    (((s.setFld r Fld.micHbmStatusTrained 1).setFld r Fld.micHbmStatusInitDone 1).setFld r Fld.micHbmStatusRate b.rate.toNat).setFld r
      Fld.micHbmStatusHeight (bit b.tall)
  else raise 379 [] s

/-- The NV fields of a register as a settings record holds them (R381). -/
def restoreReg (off : Nat) (w : Word) (s : State) : State :=
  match findReg off with
  | some r =>
    let old := s.reg off
    s.setReg off (r.fields.foldl (fun a f => if f.cls = .nv then putBits a f.fld (getBits w f.fld) else a) old)
  | none => s

/-- A stored region is taken; one that breaks R264 for the stack as trained stays disabled, with event 356, and no region of an untrained stack
is enabled (R261, R266). -/
def takeStoredRegion (i : Nat) (w : Word) (s : State) : State :=
  let keep := fun (w : Word) (a : State) => { a with shoe := { a.shoe with regions := Sparse.set 0 a.shoe.regions i w } }
  if regionFits s (i / 16) (i % 16) w then keep w s
  else
    let s1 := keep (putBits w Fld.micRegionCfgEnable 0) s
    if s.flag (Reg.micHbmStatus (i / 16)) Fld.micHbmStatusTrained then raise 356 [] s1 else s1

/-- A stored pool is taken as at its enabling; one that breaks R269 is left at ENABLE 0, with event 356 (R269, R363). -/
def takeStoredPool (k : Nat) (p : Pool) (s : State) : State :=
  if !p.enabled || poolFits s k p then s.putPool k p
  else raise 356 [] (s.putPool k { p with cfg := putBits p.cfg Fld.shoPoolCfgEnable 0 })

/-- Regions and pools as configured are taken, in the order of their numbers (R261, R266, R269, R275). -/
def takeStored (regions : Sparse Word) (pools : List (Nat × Pool)) (s : State) : State :=
  let s1 := forEach regions (fun e a => takeStoredRegion e.1 e.2 a) { s with shoe := { s.shoe with pools := [], regions := [] } }
  forEach pools (fun e a => takeStoredPool e.1 e.2 a) s1

/-- The NV fields are restored from the newest valid record; without one they stay, with event 408 (R381). -/
def restoreSettings (s : State) : State :=
  match newestSettings s.nvm.settings with
  | some r =>
    let s1 := forEach r.nv (fun e a => restoreReg e.1 e.2 a) s
    let pools := r.pools.map (fun e => (e.1, ({ cfg := e.2.1, first := e.2.2.1, count := e.2.2.2 } : Pool)))
    let s2 := takeStored r.regions pools { s1 with evt := { s1.evt with srcs := r.srcs } }
    (s2.setFld Reg.nvmStatus Fld.nvmStatusCopy r.copy).setReg Reg.nvmStoreSeq r.seq
  | none => takeStored s.shoe.regions s.shoe.pools (raise 408 [] (s.setFld Reg.nvmStatus Fld.nvmStatusNoSettings 1))

/-- The steward's write protection: NVM_WP takes the policy (R378). -/
def restoreProtection (s : State) : State := forEach (List.range 8) (fun k a => a.setReg (Reg.nvmWp k) (a.reg (Reg.nvmWpPolicy k))) s

/-- Start-up from the checkers' self-test on (R363, R358): self-test, training, image, settings, SETTINGS_READY, ports. `steward` does what
the steward alone does between training and the image. -/
def startUp (b : BootInput) (steward : State → State) (s : State) : State :=
  let bs := s.fld Reg.glbStraps Fld.glbStrapsBootSel
  let s1 := { s with shoe := { s.shoe with noHbm := bs == 3 }, pwr := { s.pwr with state := 0, measured := false } }
  let present := fun (d : Nat) (a : State) => a.onDeck d (fun k => { k with present := bitAt b.present.toNat d })
  let s2 := trainStack b 1 (trainStack b 0 (selfTest b (forEach (List.range 4) present s1)))
  let s3 := restoreSettings (bootImage (steward s2))
  let r := Reg.glbBootStatus
  let s4 := (s3.setFld r Fld.glbBootStatusSettingsReady 1).setFld r Fld.glbBootStatusBootMs b.bootMs.toNat
  let both := s4.flag (Reg.micHbmStatus 0) Fld.micHbmStatusTrained && s4.flag (Reg.micHbmStatus 1) Fld.micHbmStatusTrained
  let s5 := takeBand (0, s4.pwr.band.2) (s4.setFld r Fld.glbBootStatusHbmReady (bit both))
  emit (.avs 720) (freshPorts s5)

/-- What the steward does at POR and COLD before the settings: half-erased sectors and the emergency record (R380, R383), the write
protection once they are restored (R378). -/
def stewardBoot (s : State) : State := takeEmergency (forEach (openIntents s.nvm.journal) eraseAgain s)

/-- The boot banner of the service console (Table 16-2). -/
def sendBanner (s : State) : State := forEach (Config.consoleReply s.tick 0 []) (fun b a => emit (.console b) a) s.ticked

/-- The security state that a COLD reset leads to (R350 to R352). -/
def coldSecurity (s : State) : Nat :=
  if tamperOpen s.nvm.journal then 2
  else if s.sec.state = 3 then 3
  else if s.sec.state ≤ 1 ∧ s.sec.openPending = true then 3
  else if s.sec.state = 2 then 2
  else 0

/-- A COLD reset with its source: 3 COLDRST_N, 4 sideband (R363). -/
def resetCold (source : Nat) (b : BootInput) (s : State) : State :=
  let s1 := abandonFlash (loseCore (keyMidAll s))
  let s2 := s1.resetRegs Cls.ofCold (fun _ _ => true)
  let s3 := { s2 with pwr := { band := s.pwr.band }, shoe := {}
                      evt := { s2.evt with records := loadedRecords s2, toPersist := [], persistRun := false, fatal := false, srcs := [] }
                      sec := { s2.sec with window := false, remain := 0 } }
  let s4 := clearAll 1 (noteReset 2 source s3)
  let state := coldSecurity s4
  let opens := state = 3 ∧ s4.sec.state ≠ 3
  let secure := fun (a : State) =>
    (enterSecurity state (enterDebug 0 (if opens then clearAll 4 a else a))).onSec (fun c => { c with openPending := false })
  let s5 := startUp b (fun a => secure (stewardBoot a)) { s4 with keys := [] }
  sendBanner (restoreProtection s5)

/-- GLB_THERMAL.WARN: 60 to 110 °C, other values the nearer bound (R423). -/
def thermalWarn (s : State) : Int := (max 60 (min 110 (s.fld Reg.glbThermal Fld.glbThermalWarn)) : Nat)

/-- GLB_THERMAL.TJ in °C (R423). -/
def junction (s : State) : Int := signed 8 (s.fld Reg.glbThermal Fld.glbThermalTj)

/-- A COLD reset is accepted: after a thermal shutdown only once TJ is below WARN; by the sideband only once SB_RESET has asked (R340, R362,
R423). -/
def coldAccepted (sideband : Bool) (s : State) : Bool :=
  !(s.pwr.shutdown && decide (thermalWarn s ≤ junction s)) && (!sideband || s.pwr.coldAsked)

/-- Event 470 at a POR with reserved BOOT_SEL, or with TESTMODE or SCAN_EN sampled 1 (R411, R412). -/
def noteStraps (x : Straps) (s : State) : State :=
  let s1 := if 4 ≤ x.bootSel.toNat then raise 470 [] s else s
  if x.testMode || x.scanEn then raise 470 [] s1 else s1

/-- GLB_STRAPS as sampled (R411). -/
def sampleStraps (x : Straps) (s : State) : State :=
  let r := Reg.glbStraps
  (((s.setFld r Fld.glbStrapsBootSel x.bootSel.toNat).setFld r Fld.glbStrapsStrapId x.strapId.toNat).setFld r Fld.glbStrapsTestmode
    (bit x.testMode)).setFld r Fld.glbStrapsScanEn (bit x.scanEn)

/-- Hours resume at the least multiple of 60 above the greatest recorded, with event 454; the power-cycle count moves on (R394). -/
def resumeHours (last : Option (Word × Word)) (s : State) : State :=
  match last with
  | some (h, c) =>
    let h2 := word ((h.toNat / 60 + 1) * 60)
    raise 454 [h, h2] { s with evt := { s.evt with hours := h2, cycles := c + 1 } }
  | none => { s with evt := { s.evt with hours := 0, cycles := 1 } }

/-- POR (R363): `pin` says that PORST_N, and not the supplies, started it; then a change of the security state raises event 422 (R351; DEDUCED,
log entry 130). The seal register takes its seed, 0 giving 0xACE1 (R346). -/
def opPor (pin : Bool) (x : Straps) (seed : BitVec 16) (b : BootInput) (s : State) : State :=
  let s1 := abandonFlash (loseCore s)
  let last := lastHours s1
  let s2 := sampleStraps x (s1.resetRegs Cls.ofPor (fun _ _ => true))
  let cycles := match last with
    | some (_, c) => c + 1
    | none => 1
  let s3 := { s2 with pwr := {}, tap := {}, tables := [], shoe := {}, sec := { lfsr := if seed = 0 then 0xACE1 else seed }
                      evt := { s2.evt with records := loadedRecords s2, toPersist := [], persistRun := false, fatal := false, nextSeq := 0, srcs := []
                                           wallSet := false, cycles := cycles } }
  let s4 := clearAll 1 (noteReset 1 (if pin then 2 else 1) s3)
  let kept := if pin then s.sec.state else 0
  let tamper := fun (a : State) =>
    let v := if tamperOpen a.nvm.journal then 2 else 0
    let b := a.onSec (fun c => { c with state := v })
    if pin && kept != v then raise 422 [] b else b
  let s5 := startUp b (fun a => tamper (resumeHours last (stewardBoot a))) { s4 with keys := [] }
  let s6 := noteStraps x (restoreProtection s5)
  sendBanner (if b.supplyLow then raise 467 [] { s6 with pwr := { s6.pwr with noLinks := true } } else s6)

/-! ### Power states -/

/-- A POWER task to IDLE, DOZE or SLEEP whose decks are at rest is done (R356, R357). -/
def powerRest (n q target : Nat) (s : State) : State :=
  if !decksIdle s then s
  else if target = 1 then
    let s1 := { s with pwr := { s.pwr with entering := none, state := 1 } }
    finish n q (status 0) (if s.pwr.state = 1 then s1 else raise 466 [] s1)
  else finish n q (status 0) s

/-- POWER begins (R57, R356 to R358, R360): DOZE and SLEEP wait until every earlier task is complete, and are refused at D2 and D3. -/
def powerStart (n : Nat) (t : Task) (s : State) : State :=
  let target := t.field 8 1
  if 2 ≤ target ∧ 2 ≤ s.sec.debug then finish n t.seq (securityState s.sec.state) s
  else if target = 0 then finish n t.seq (status 0) (leaveIdle s)
  else if 2 ≤ target ∧ allEarlierDone s t.seq = false then s
  else powerRest n t.seq target (commence n t.seq { s with pwr := { s.pwr with entering := some (n, t.seq, target) } })

/-- POWER: begins, or goes on once the decks are at rest (R356, R357). -/
def opPower (n : Nat) (s : State) : State :=
  match s.pwr.entering with
  | some (m, q, target) =>
    let running := match (s.ctxAt m).task q with
      | some t => decide (t.stage = .running)
      | none => false
    if m = n ∧ running = true then powerRest n q target s else beginTask 0x17 n (powerStart n) s
  | none => beginTask 0x17 n (powerStart n) s

/-- SUSTAIN after a change of the request: until the first measurement the floor for the request, and never below that floor (R24). -/
def settleSustain (s : State) : State :=
  let f := sustainFloor (vddRequest s)
  let v := s.fld Reg.glbSlackStatus Fld.glbSlackStatusSustain
  let w := if s.pwr.measured then max v f else f
  if v = w then s else settleCapping (showSustain w s)

/-- The VDD_CORE request, written over AVSBus (R27, R421), with the read strobe of its band (R373). It stays at its last value from a fault
of island 21 to its recovery (Table 01-4). -/
def requestVdd (mv : Nat) (s : State) : State :=
  let row := if 720 ≤ mv then 0 else if 650 ≤ mv then 1 else 2
  let set := fun (a : State) => settleSustain (emit (.avs mv) (a.setFld Reg.glbPaceTarget Fld.glbPaceTargetVddReqMv mv))
  if s.pwr.recovering.contains 21 then s
  else if row < s.pwr.band.1 then set (takeBand (row, s.pwr.band.2) s)
  else takeBand (row, s.pwr.band.2) (set s)

/-- The last steps into DOZE, with the POWER completion: MOTOR_EN and FE_RESET_N low, L1, 600 mV, event 466 (R357). -/
def enterDoze (s : State) : State :=
  let mv := vddRequest s
  let s1 := forEach (List.range 4) (fun d a => setLinkState d (if linkState a d = 3 then 3 else 0) (resetLink d a)) s
  let s2 := forEach [0, 1] (fun p a => if portState a p = 2 then setPortState p 4 a else a) s1
  requestVdd 600 (raise 466 [] { s2 with pwr := { s2.pwr with entering := none, state := 2, savedMv := mv } })

/-- The steps into SLEEP, with the POWER completion (R358): every window refuses, every key slot is cleared, the window closes, SERVICE
becomes SEALED, D1 becomes D0, L2; the fields of class COLD, WARM, DECK and CTX are reset, and what the core held is lost (R367). -/
def enterSleep (s : State) : State :=
  let s1 := enterDebug 0 (if s.sec.state = 1 then enterSecurity 0 (shutWindow 5 (clearAll 2 s)) else shutWindow 5 (clearAll 2 s))
  let s2 := raise 466 [] s1
  let e := s2.evt
  let s3 := (loseCore s2).resetRegs Cls.ofSleep (fun _ _ => true)
  let s4 := persistRecords e.toPersist { s3 with keys := [], pwr := { s3.pwr with entering := none, state := 3 }, evt := { s3.evt with toPersist := [] } }
  forEach [0, 1] (fun p a => if portEnabled a p then setPortState p 5 a else a) s4

/-- The oldest task of a context whose work is done has its entry written (R40 to R43, R47); that of a POWER task to DOZE or SLEEP is the
last step before the voltage drops (R57). -/
def opCompletionWrite (n : Nat) (s : State) : State :=
  match (s.ctxAt n).tasks with
  | t :: _ =>
    match t.stage with
    | .done c =>
      let s1 := deliver n t c s
      let written := ((s1.ctxAt n).task t.seq).isNone
      match s1.pwr.entering with
      | some (m, q, target) =>
        if m = n ∧ q = t.seq ∧ written = true then (if target = 2 then enterDoze s1 else if target = 3 then enterSleep s1 else s1) else s1
      | none => s1
    | _ => s
  | [] => s

/-- Code of a wake source (GLB_POWER.WAKE). -/
def wakeCode : WakeSource → Nat
  | .task => 1
  | .sbWake => 2
  | .mainband => 3

/-- A reset asked for in DOZE follows in RUN (R366): deck, WARM or context. -/
def wakeReset (x : Nat) (s : State) : State := if x < 4 then resetDeck x s else if x = 4 then resetWarm 5 s else beginCtxReset (x - 5) s

/-- DOZE_EXIT: an accepted task, a reset asked for, or SB_WAKE: the VDD_CORE request returns, RUN, event 466, WAKE (R57, R357, R366). -/
def opDozeExit (src : WakeSource) (s : State) : State :=
  let asked := match src with
    | .task => s.ctx.any (fun e => e.2.tasks.any Task.waits) || !s.pwr.wakeResets.isEmpty
    | .sbWake => s.pwr.sbWake
    | .mainband => false
  if s.pwr.state = 2 ∧ asked = true then
    let s1 := requestVdd s.pwr.savedMv { s with pwr := { s.pwr with state := 0, sbWake := false, wakeResets := [] } }
    let s2 := raise 466 [word (wakeCode src)] (s1.setFld Reg.glbPower Fld.glbPowerWake (wakeCode src))
    let s3 := unmeasured (forEach [0, 1] (fun p a => if portState a p = 4 then setPortState p 2 a else a) s2)
    forEach s.pwr.wakeResets wakeReset s3
  else s

/-- SLEEP_EXIT: SB_WAKE or mainband training, with every rail in range: the COLD sequence from the self-test on; the security state, hours
and power-cycle count stay (R358, R367). -/
def opSleepExit (src : WakeSource) (b : BootInput) (s : State) : State :=
  let asked := match src with
    | .task => false
    | .sbWake => s.pwr.sbWake
    | .mainband => true
  if s.pwr.state = 3 ∧ asked = true then
    let s1 := { s with pwr := { s.pwr with sbWake := false }, evt := { s.evt with records := loadedRecords s } }
    let s2 := startUp b id s1
    raise 466 [word (wakeCode src)] (s2.setFld Reg.glbPower Fld.glbPowerWake (wakeCode src))
  else s

/-- SLEEP_EXIT_RAIL_TIMEOUT: event 469, and SLEEP goes on until the next wake request (R358). -/
def opSleepExitRailTimeout (s : State) : State :=
  if s.pwr.state = 3 then raise 469 [] { s with pwr := { s.pwr with sbWake := false } } else s

/-! ### The sideband -/

/-- SB_RESET: 0x0000_C01D asks for a COLD reset, with event 267 (R340). -/
def opSbReset (v : Word) (s : State) : State := if v = 0xC01D then raise 267 [] { s with pwr := { s.pwr with coldAsked := true } } else s

/-- SB_WAKE: 1 asks for the exit from DOZE or SLEEP (R340, R357, R358). -/
def opSbWake (v : Word) (s : State) : State := if v = 1 ∧ 2 ≤ s.pwr.state then { s with pwr := { s.pwr with sbWake := true } } else s

/-- SB_STATE (Table 15-3). -/
def sbState (s : State) : Word :=
  word (s.pwr.state + 16 * s.sec.state + 256 * s.fld Reg.glbBootStatus Fld.glbBootStatusSettingsReady)

/-! ### Power failure -/

/-- The last 32 FAULT or FATAL records, in order (R383). -/
def lastFaults (s : State) : List SpRecord :=
  let l := (sortRecords (s.evt.records ++ s.evt.held)).filter (fun r => decide (2 ≤ r.sev))
  l.drop (l.length - 32)

/-- The emergency writes: an erase in bank B is suspended and not resumed; records, hours and marker are programmed, and WRITES_DONE is set
(R383). -/
def emergencyWrites (s : State) : State :=
  let erase := match Sparse.find s.nvm.running 1 with
    | some o => if o.op = 2 then some o else none
    | none => none
  let nv := match erase with
    | some o => { s.nvm with running := Sparse.erase s.nvm.running 1, suspended := Sparse.put s.nvm.suspended 1 o }
    | none => s.nvm
  { s with nvm := { nv with emergency := some (s.evt.hours, s.evt.cycles, lastFaults s, true) } }.setFld Reg.glbPfail Fld.glbPfailWritesDone 1

/-- A power failure (R361): once until a COLD reset. -/
def powerFail (s : State) : State :=
  if s.pwr.pfail then s
  else
    let s1 := (raise 467 [] s).setFld Reg.glbPfail Fld.glbPfailSeen 1
    emergencyWrites (stopAll 10 6 { s1 with pwr := { s1.pwr with pfail := true } })

/-- POWER_FAIL: PFAIL_N low for 1 µs (R361). -/
def opPowerFail (s : State) : State := powerFail s

/-- PFAIL_MOTOR_TIMEOUT: MOTOR_EN falls on every deck 4 ms after PFAIL_N (R361). -/
def opPfailMotorTimeout (s : State) : State := if s.pwr.pfail then forEach (List.range 4) motorOff s else s

/-- A rail that R359 lets be off in the present state: 0 VDD_CORE, 1 VDD_SRAM, 2 VDD_UCIE, 3 VDD_HBMPHY, 4 VDD_DLK, 5 VDD_IO, 6 VDD_NVM
(Table 16-4). -/
def railMayBeOff (power rail : Nat) : Bool :=
  (power == 2 && rail == 4) || (power == 3 && [0, 1, 3, 4].contains rail)

/-- SUPPLY_MONITOR_TRIP: event 471 with the rail, and then as for PFAIL_N (R420). -/
def opSupplyMonitorTrip (rail : Nat) (s : State) : State := if railMayBeOff s.pwr.state rail then s else powerFail (raise 471 [word rail] s)

/-! ### Commands -/

/-- STOP_COMPLETE. -/
def execStopComplete (d : Fin 4) (s : State) : Host.Outcome State Fault Refusal := run (opStopComplete d.val) s

/-- COMPLETION_WRITE. -/
def execCompletionWrite (n : Fin 4096) (s : State) : Host.Outcome State Fault Refusal := run (opCompletionWrite n.val) s

/-- POWER. -/
def execPower (n : Fin 4096) (s : State) : Host.Outcome State Fault Refusal := run (opPower n.val) s

/-- DECK_RESET. -/
def execDeckReset (d : Fin 4) (s : State) : Host.Outcome State Fault Refusal := run (opDeckReset d.val) s

/-- WARM_RESET. -/
def execWarmReset (s : State) : Host.Outcome State Fault Refusal := run opWarmReset s

/-- LINK_LOSS. -/
def execLinkLoss (s : State) : Host.Outcome State Fault Refusal := run opLinkLoss s

/-- COLD_RESET. -/
def execColdReset (sideband : Bool) (boot : BootInput) (s : State) : Host.Outcome State Fault Refusal :=
  if coldAccepted sideband s then runReset (resetCold (if sideband then 4 else 3) boot) s else run id s

/-- POR. -/
def execPor (pin : Bool) (straps : Straps) (seed : BitVec 16) (boot : BootInput) (s : State) : Host.Outcome State Fault Refusal :=
  runReset (opPor pin straps seed boot) s

/-- SB_RESET. -/
def execSbReset (v : Word) (s : State) : Host.Outcome State Fault Refusal := run (opSbReset v) s

/-- SB_WAKE. -/
def execSbWake (v : Word) (s : State) : Host.Outcome State Fault Refusal := run (opSbWake v) s

/-- DOZE_EXIT. -/
def execDozeExit (src : WakeSource) (s : State) : Host.Outcome State Fault Refusal := run (opDozeExit src) s

/-- SLEEP_EXIT. -/
def execSleepExit (src : WakeSource) (boot : BootInput) (s : State) : Host.Outcome State Fault Refusal := run (opSleepExit src boot) s

/-- SLEEP_EXIT_RAIL_TIMEOUT. -/
def execSleepExitRailTimeout (s : State) : Host.Outcome State Fault Refusal := run opSleepExitRailTimeout s

/-- POWER_FAIL. -/
def execPowerFail (s : State) : Host.Outcome State Fault Refusal := run opPowerFail s

/-- PFAIL_MOTOR_TIMEOUT. -/
def execPfailMotorTimeout (s : State) : Host.Outcome State Fault Refusal := run opPfailMotorTimeout s

/-- SUPPLY_MONITOR_TRIP. -/
def execSupplyMonitorTrip (rail : Fin 7) (s : State) : Host.Outcome State Fault Refusal := run (opSupplyMonitorTrip rail.val) s

end Sys2Proof.Machine
end

