-- ==== Sys2Proof/Machine/Islands.lean ====
section
/-! DEFINITION. Island faults (R18 to R21), the slack monitor (R24, R25), the VDD_CORE request over AVSBus (R27, R421) and the junction
temperature (R423). -/

namespace Sys2Proof.Machine

/-! ### Island faults -/

/-- The event of an island's fault: 475 NOTE, 464 FAULT, 476 FATAL (R21, Table 01-8). -/
def islandEvent (i : Nat) : Nat :=
  if i = 18 ∨ i = 22 then 475 else if i = 4 ∨ i = 5 ∨ i = 23 ∨ i = 24 then 476 else 464

/-- The watchdog of an island is paused: in DOZE and SLEEP, for island 18 in SLEEP and while TRST_N is low (R20). No island is held in
reset between two commands. -/
def watchdogPaused (s : State) (i : Nat) : Bool :=
  (decide (i ≤ 17 ∨ i = 25) && decide (2 ≤ s.pwr.state)) || (i == 18 && (s.pwr.state == 3 || s.tap.trstLow))

/-- The islands whose recovery is not automatic (Table 01-4). -/
def manualRecovery (i : Nat) : Bool := !(i ≤ 3 || i == 18 || i == 22)

/-- The recovery of an island's fault is not complete (R21); that of a mainband island is its port's retraining. -/
def islandFaulted (s : State) (i : Nat) : Bool :=
  s.pwr.recovering.contains i && (decide (2 < i) || portState s (i - 1) == 3)

/-- A second fault before the recovery only raises the repeat count of the record of the first (R21, R390). -/
def repeatIsland (i : Nat) (s : State) : State :=
  let ours := fun (r : SpRecord) => r.event == islandEvent i && r.detail.head? == some (word i)
  match (sortRecords ((s.evt.records ++ s.evt.held).filter ours)).getLast? with
  | some r => { s with evt := s.evt.fold (r.cycles, r.seq) }
  | none => s

/-- The TAP goes to Test-Logic-Reset, which selects IDCODE (R404). -/
def resetTap (s : State) : State :=
  endTapInstruction s.tap.ir.toNat { s with tap := { s.tap with fsm := 0, ir := 1, substituted := false, irShift := 0, drShift := [] } }

/-- Island 19 abandons what it does with the flash: operations on both banks, a slot being programmed, which is BAD with RESULT 4, and a
STORE, which ends as one whose record could not be written (Table 01-4, R289, R382). -/
def abandonSteward (s : State) : State :=
  let s1 := abandonBank 1 (abandonBank 0 s)
  let s2 := match s1.img.cmd with
    | some (2, k, _, _) => cfgResult 4 (0, 0) false { s1 with img := { s1.img with bad := addNew k s1.img.bad, cmd := none } }
    | _ => s1
  match s2.nvm.storing with
  | some (n, q, _, _) => finish n q (notReady 14) (raise 401 [] { s2 with nvm := { s2.nvm with storing := none, storeWaits := false } })
  | none => s2

/-- The action of an island's fault (Table 01-4). -/
def islandAction (i : Nat) (s : State) : State :=
  if i ≤ 2 then retrainPort (i - 1) s
  else if i = 3 then { s with pwr := { s.pwr with sbWake := false, coldAsked := false } }
  else if i ≤ 5 then stopAll 5 4 s
  else if i ≤ 13 then controlledStop ((i - 6) % 4) 5 7 s
  else if i ≤ 17 then controlledStop (i - 14) 5 7 (motorOff (i - 14) s)
  else if i = 18 then resetTap s
  else if i = 19 then abandonSteward s
  else if i = 22 then s.onSec (fun c => { c with console := [] })
  else if i = 23 then s.onSec (fun c => { c with sealFault := true })
  else if i = 24 then (if s.pwr.pfail then s else forEach (List.range 4) (recordCause · 5) (powerFail s))
  else if i = 25 then { s with pwr := { s.pwr with stopTick := s.tick } }
  else s

/-- An island's fault with the channel that stalled: its bit, its record and event, its action (R21). -/
def islandFault (i : Nat) (channel : Word) (s : State) : State :=
  if islandFaulted s i then repeatIsland i s
  else
    let s1 := s.setFld Reg.glbIslandFault Fld.glbIslandFaultFault (s.fld Reg.glbIslandFault Fld.glbIslandFaultFault ||| 2 ^ (i - 1))
    let s2 := raise (islandEvent i) [word i, channel] s1
    let s3 := if manualRecovery i || decide (i ≤ 2) then { s2 with pwr := { s2.pwr with recovering := addNew i s2.pwr.recovering } } else s2
    islandAction i s3

/-- HANDSHAKE_STALL: the watchdog of island i expires (R18, R20, R21). -/
def opHandshakeStall (i : Nat) (channel : Word) (s : State) : State := if watchdogPaused s i then s else islandFault i channel s

/-- XTAL_START_TIMEOUT: no oscillation of the crystal: island 20 raises its fault (R424). -/
def opXtalStartTimeout (s : State) : State := islandFault 20 Config.crystalChannel s

/-! ### The slack monitor -/

/-- SLACK_MEASUREMENT: SUSTAIN, never below the floor of the present VDD_CORE, and CAP (R24, R25); while the core runs. -/
def opSlackMeasurement (measured : Nat) (s : State) : State :=
  if s.pwr.state ≤ 1 then
    settleCapping (showSustain (max (sustainFloor (vddRequest s)) (min 511 measured)) { s with pwr := { s.pwr with measured := true } })
  else s

/-! ### VDD_CORE -/

/-- The new request of R27, from the request, MIN_MV, MAX_MV, SUSTAIN and TARGET. -/
def nextRequest (req minMv maxMv sustain target : Nat) : Nat :=
  let hi := max 600 (min 850 maxMv)
  let lo := min hi (max 600 (min 850 minMv))
  let t := min 384 target
  if hi < req then hi
  else if req < lo then lo
  else if sustain < t + 8 ∧ req + 5 ≤ hi then req + 5
  else if t + 32 < sustain ∧ lo + 5 ≤ req then req - 5
  else req

/-- The request that R27 gives now. -/
def evaluatedRequest (s : State) : Nat :=
  nextRequest (vddRequest s) (s.fld Reg.glbAvsCfg Fld.glbAvsCfgMinMv) (s.fld Reg.glbAvsCfg Fld.glbAvsCfgMaxMv)
    (s.fld Reg.glbSlackStatus Fld.glbSlackStatusSustain) (s.fld Reg.glbPaceTarget Fld.glbPaceTargetTarget)

/-- An AVSBus transaction has failed; the third in a row sets FAULT, with event 474 (R421). -/
def avsFailed (s : State) : State :=
  let n := s.pwr.avsFails + 1
  let s1 := { s with pwr := { s.pwr with avsFails := n } }
  if n = 3 then raise 474 [] (s1.setFld Reg.glbAvsStatus Fld.glbAvsStatusFault 1) else s1

/-- A good AVSBus transaction ends a run of failures (GLB_AVS_STATUS.FAULT, R421). -/
def avsGood (s : State) : State := { s with pwr := { s.pwr with avsFails := 0 } }.setFld Reg.glbAvsStatus Fld.glbAvsStatusFault 0

/-- AVS_EVALUATION: R27, and a voltage write where the request changes or a failed transaction is to be retried; the request stays at its
last value while FAULT or the fault of island 21 stands (R421, Table 01-4). -/
def opAvsEvaluation (ack : Bool) (s : State) : State :=
  if 2 ≤ s.pwr.state ∨ s.pwr.recovering.contains 21 then s
  else
    let new := if s.flag Reg.glbAvsStatus Fld.glbAvsStatusFault then vddRequest s else evaluatedRequest s
    if new = vddRequest s ∧ s.pwr.avsFails = 0 then s
    else if ack then requestVdd new (avsGood s)
    else avsFailed (emit (.avs new) s)

/-- AVS_READBACK: voltage and current are read (R421); not in SLEEP. -/
def opAvsReadback (reply : Option (BitVec 10 × BitVec 12)) (s : State) : State :=
  if s.pwr.state = 3 ∨ s.pwr.recovering.contains 21 then s
  else
    match reply with
    | some (v, c) =>
      ((avsGood s).setFld Reg.glbAvsStatus Fld.glbAvsStatusVoutMv v.toNat).setFld Reg.glbAvsStatus Fld.glbAvsStatusCurrent c.toNat
    | none => avsFailed s

/-! ### Temperature -/

/-- GLB_THERMAL.TJ shows the hottest sensor (R423). -/
def showTj (tj : BitVec 8) (s : State) : State := s.setFld Reg.glbThermal Fld.glbThermalTj tj.toNat

/-- THERMAL_WARNING: THERM_N falls with event 472 at WARN, and is released below WARN − 5 °C (R423). -/
def opThermalWarning (tj : BitVec 8) (s : State) : State :=
  let s1 := showTj tj s
  let low := s.flag Reg.glbThermal Fld.glbThermalTherm
  if !low && decide (thermalWarn s ≤ junction s1) then raise 472 [] (s1.setFld Reg.glbThermal Fld.glbThermalTherm 1)
  else if low && decide (junction s1 < thermalWarn s - 5) then s1.setFld Reg.glbThermal Fld.glbThermalTherm 0
  else s1

/-- THERMAL_SHUTDOWN: at 115 °C every deck stops, with deferred errors of cause 1, event 473 and FAULT_N; no deck starts before a COLD
reset (R423). -/
def opThermalShutdown (tj : BitVec 8) (s : State) : State :=
  let s1 := showTj tj s
  if junction s1 < 115 ∨ s.pwr.shutdown = true then s1
  else
    let s2 := raise 473 [] (stopAll 11 1 (s1.setFld Reg.glbThermal Fld.glbThermalShutdown 1))
    { s2 with pwr := { s2.pwr with shutdown := true } }

/-- The column of Table 17-3 for a temperature, with 5 °C of hysteresis below the column `old` (R373). -/
def tjColumn (old : Nat) (tj : Int) : Nat :=
  if 85 ≤ tj ∨ (old = 2 ∧ 80 ≤ tj) then 2 else if 40 ≤ tj ∨ (1 ≤ old ∧ 35 ≤ tj) then 1 else 0

/-- TJ_BAND_CHANGE: the steward takes the read strobe of the new band (R373). -/
def opTjBandChange (tj : BitVec 8) (s : State) : State :=
  let s1 := showTj tj s
  takeBand (s.pwr.band.1, tjColumn s.pwr.band.2 (junction s1)) s1

/-! ### Commands -/

/-- HANDSHAKE_STALL; island number island + 1. -/
def execHandshakeStall (island : Fin 25) (channel : Word) (s : State) : Host.Outcome State Fault Refusal :=
  run (opHandshakeStall (island.val + 1) channel) s

/-- XTAL_START_TIMEOUT. -/
def execXtalStartTimeout (s : State) : Host.Outcome State Fault Refusal := run opXtalStartTimeout s

/-- SLACK_MEASUREMENT. -/
def execSlackMeasurement (measured : Nat) (s : State) : Host.Outcome State Fault Refusal := run (opSlackMeasurement measured) s

/-- AVS_EVALUATION. -/
def execAvsEvaluation (ackGood : Bool) (s : State) : Host.Outcome State Fault Refusal := run (opAvsEvaluation ackGood) s

/-- AVS_READBACK. -/
def execAvsReadback (reply : Option (BitVec 10 × BitVec 12)) (s : State) : Host.Outcome State Fault Refusal := run (opAvsReadback reply) s

/-- THERMAL_WARNING. -/
def execThermalWarning (tj : BitVec 8) (s : State) : Host.Outcome State Fault Refusal := run (opThermalWarning tj) s

/-- THERMAL_SHUTDOWN. -/
def execThermalShutdown (tj : BitVec 8) (s : State) : Host.Outcome State Fault Refusal := run (opThermalShutdown tj) s

/-- TJ_BAND_CHANGE. -/
def execTjBandChange (tj : BitVec 8) (s : State) : Host.Outcome State Fault Refusal := run (opTjBandChange tj) s

end Sys2Proof.Machine
end

