-- ==== Sys2Proof/Machine/Meters.lean ====
section
/-! DEFINITION. The Scorepad's freeze, clearing and persistence (R389 to R393), hours and wall clock (R394, R395), the reading of notices
(R398), meters (R400 to R402), the service console (R353) and the image's own events (R385). -/

namespace Sys2Proof.Machine

/-- The event unit changed by `f`. -/
def State.onEvt (s : State) (f : EvtUnit → EvtUnit) : State := { s with evt := f s.evt }

/-! ### The Scorepad -/

/-- A held record enters: placed, or dropped with event 448 (R389, R392). A repeat of the record before it was folded when it was raised
(R390). -/
def enterHeld (r : SpRecord) (s : State) : State :=
  match placeRecord s.evt.records r with
  | some l => s.onEvt (fun e => { e with records := l, last := some (r.cycles, r.seq), dropRun := false })
  | none =>
    let s1 := s.onEvt EvtUnit.drop
    if s.evt.dropRun then s1 else raise 448 [] s1

/-- FREEZE returns to 0: the held records enter in order (R392). -/
def thaw (s : State) : State :=
  forEach s.evt.held enterHeld ((s.setFld Reg.evtSpCtrl Fld.evtSpCtrlFreeze 0).onEvt (fun e => { e with held := [] }))

/-- FREEZE_WRITE (R392). -/
def opFreezeWrite (freeze : Bool) (s : State) : State :=
  if freeze then s.setFld Reg.evtSpCtrl Fld.evtSpCtrlFreeze 1 else if frozen s then thaw s else s

/-- FREEZE_TIMEOUT: FREEZE clears itself 2 s after it was set, with event 450 (R392). -/
def opFreezeTimeout (s : State) : State := if frozen s then raise 450 [] (thaw s) else s

/-- SCOREPAD_CLEAR: under presence every record goes, persisted ones included; event 456 with their number. -/
def opScorepadClear (s : State) : State :=
  if !s.window then refuseWrite Reg.evtSpCtrl s
  else raise 456 [word s.evt.records.length] (s.onEvt (fun e =>
    { e with records := [], persisted := [], toPersist := [], last := e.last.filter (fun k => e.held.any (SpRecord.same k)) }))

/-- SCOREPAD_PERSIST: the steward writes the waiting records, unless it is parked (R393). -/
def opScorepadPersist (s : State) : State :=
  if parked s || s.evt.toPersist.isEmpty then s
  else persistRecords s.evt.toPersist (s.onEvt (fun e => { e with toPersist := [], persistRun := false }))

/-! ### Time -/

/-- Operating hours stand still under a fault of island 20 (Table 01-4). -/
def hoursRun (s : State) : Bool := !s.pwr.recovering.contains 20

/-- HOURS_TICK: hours advance, TSYNC_OUT pulses, and the presence window has a second less (R343, R394, R426). -/
def opHoursTick (s : State) : State :=
  if hoursRun s then
    emit .tsync ((s.onEvt (fun e => { e with hours := e.hours + 1 })).onSec (fun c => { c with remain := if c.window then c.remain - 1 else c.remain }))
  else s

/-- HOURS_CHECKPOINT: at a multiple of 60 the steward programs a checkpoint, or raises event 457 (R394). -/
def opHoursCheckpoint (ok : Bool) (s : State) : State :=
  if s.evt.hours.toNat % 60 ≠ 0 ∨ hoursRun s = false then s
  else
    let s1 := addCheckpoint s.evt.hours s.evt.cycles ok s
    if ok then s1 else raise 457 [] s1

/-- WALL_WRITE: event 451 with the old and the new value; later records carry the new one (R395). -/
def opWallWrite (v : Word) (s : State) : State :=
  raise 451 [s.reg Reg.evtWall, v] ((s.setReg Reg.evtWall v).onEvt (fun e => { e with wallSet := true }))

/-! ### The Notice FIFO -/

/-- The highest-priority chain that holds a complete packet. -/
def firstChain (e : EvtUnit) : Option Nat := (List.range 4).find? (fun c => !(Sparse.get [] e.chains c).isEmpty)

/-- NOTICE_POP: the next word of the packet in service, or the header of the packet that comes into service; 0 where there is none
(R398). -/
def opNoticePop (s : State) : State :=
  let out := fun (w : Word) (e : EvtUnit) => emit (.read Reg.evtNtcPop w) { s with evt := e }
  match s.evt.service with
  | some (c, w :: l, n) => out w { s.evt with service := if l.isEmpty then none else some (c, l, n) }
  | some (_, [], _) => out 0 { s.evt with service := none }
  | none =>
    match firstChain s.evt with
    | some c =>
      match Sparse.get [] s.evt.chains c with
      | (w :: l) :: rest =>
        out w { s.evt with chains := Sparse.set [] s.evt.chains c rest
                           service := if l.isEmpty then none else some (c, l, l.length + 1) }
      | _ => out 0 s.evt
    | none => out 0 s.evt

/-! ### Meters -/

/-- A meter entry of context n (Table 18-6). -/
def meterEntry (s : State) (n phase flags : Nat) : List Byte :=
  let c := s.ctxAt n
  le 2 n ++ [byte phase, byte flags] ++ le 4 s.evt.hours.toNat ++ le 4 s.evt.cycles.toNat ++ le 4 (streamId s n).toNat ++ le 8 c.hostBytes.toNat
    ++ le 8 c.sealedBytes.toNat ++ le 8 c.facets.toNat ++ le 8 c.restoreBytes.toNat ++ le 8 c.activeS.toNat ++ zeros 8

/-- FLAGS but for LAST: a snapshot was missed, and the first since start-up (Table 18-6). -/
def meterFlags (e : EvtUnit) : Nat := 2 * bit e.gap + 4 * bit e.restart

/-- METER_READ: one entry of the named context at RESULT_ADDR, PHASE and LAST 0 (R402). -/
def opMeterRead (n : Nat) (s : State) : State :=
  beginTask 0x0D n (fun t a =>
    finish n t.seq (status 0) (hostWrite (t.field 16 8) (meterEntry a (t.field 8 2) 0 (meterFlags a.evt)) (commence n t.seq a))) s

/-- `n` put into its place of a rising list, once. -/
def insertNat (n : Nat) : List Nat → List Nat
  | [] => [n]
  | m :: l => if n < m then n :: m :: l else if n = m then m :: l else m :: insertNat n l

/-- The active contexts in rising order: CTX_CONTROL.ENABLE is 1, or a meter has changed since the last snapshot (R402). -/
def activeContexts (s : State) : List Nat :=
  let on := s.regs.filterMap (fun e =>
    if decide (0x100000 ≤ e.1) && decide (e.1 < 0x200000) && e.1 % 0x100 == 0x04 && getBits e.2 Fld.ctxControlEnable == 1
    then some ((e.1 - 0x100000) / 0x100) else none)
  (s.ctx.filter (fun e => e.2.metersChanged)).foldl (fun l e => insertNat e.1 l) (on.foldl (fun l n => insertNat n l) [])

/-- log2 of the meter ring: 12 to 20, other values 12 (EVT_MTR_CTRL.SIZE_LOG2). -/
def meterLog (s : State) : Nat :=
  let v := s.fld Reg.evtMtrCtrl Fld.evtMtrCtrlSizeLog2
  if 12 ≤ v ∧ v ≤ 20 then v else 12

/-- EVT_MTR_BASE. -/
def meterBase (s : State) : Nat := (s.reg Reg.evtMtrBaseLo).toNat / 4096 * 4096 + (s.reg Reg.evtMtrBaseHi).toNat % 2 ^ 20 * 2 ^ 32

/-- The entries of a snapshot are written to the ring (R402). -/
def writeSnapshot (l : List Nat) (s : State) : State :=
  let log := meterLog s
  let tail := (s.reg Reg.evtMtrTail).toNat
  let flags := meterFlags s.evt
  let one := fun (i : Nat) (a : State) =>
    let k := tail + i
    emit (.ringWrite (meterBase s + 64 * (k % 2 ^ log)) (meterEntry s (l.getD i 0) (phaseOf k log) (flags + bit (i + 1 == l.length)))) a
  let s1 := forEach (List.range l.length) one s
  let s2 := (s1.setReg Reg.evtMtrTail (word (tail + l.length))).onEvt (fun e => { e with gap := false, restart := false })
  let s3 := { s2 with ctx := Sparse.remap (fun _ => ({} : Context)) (fun _ c => { c with metersChanged := false }) s2.ctx }
  raise 453 [word l.length, word (tail + l.length)] s3

/-- METER_SNAPSHOT: at a multiple of 60 an enabled ring takes an entry for every active context, or the snapshot is missed, with event 452
(R402). -/
def opMeterSnapshot (s : State) : State :=
  if s.flag Reg.evtMtrCtrl Fld.evtMtrCtrlEnable && s.evt.hours.toNat % 60 == 0 && hoursRun s then
    let l := activeContexts s
    let used := (s.reg Reg.evtMtrTail - s.reg Reg.evtMtrHead).toNat
    if 2 ^ meterLog s < used + l.length then
      raise 452 [] ((s.addFld Reg.evtMtrMissed Fld.evtMtrMissedCount 1).onEvt (fun e => { e with gap := true }))
    else writeSnapshot l s
  else s

/-- ACTIVE_SECOND_TICK: a second of island 25 for every context with a task in flight (R400, Table 01-4). -/
def opActiveSecondTick (s : State) : State :=
  if s.pwr.recovering.contains 25 ∨ 2 ≤ s.pwr.state then s
  else
    { s with ctx := Sparse.remap (fun _ => ({} : Context)) (fun _ c =>
      if c.tasks.isEmpty then c else { c with activeS := c.activeS + 1, metersChanged := true }) s.ctx }

/-! ### Console and image -/

/-- SERVICE_CONSOLE_INPUT: a character of a line; at D1 and above the line is answered at its end (R353, Table 16-2). -/
def opServiceConsoleInput (ch : Byte) (s : State) : State :=
  if s.sec.debug = 0 then s
  else if ch = 10 ∨ ch = 13 then
    let out := Config.consoleReply s.tick s.sec.debug s.sec.console
    forEach out (fun b a => emit (.console b) a) (s.ticked.onSec (fun c => { c with console := [] }))
  else s.onSec (fun c => { c with console := c.console ++ [ch] })

/-- IMAGE_DEFINED_CONDITION: event 496 + k, where the image in force defines a condition for it (R385). -/
def opImageDefinedCondition (k : Nat) (s : State) : State :=
  match s.img.inForce with
  | some i => if (Sparse.find i.eventMap k).isSome then raise (496 + k) [] s else s
  | none => s

/-! ### Commands -/

/-- FREEZE_WRITE. -/
def execFreezeWrite (freeze : Bool) (s : State) : Host.Outcome State Fault Refusal := run (opFreezeWrite freeze) s

/-- FREEZE_TIMEOUT. -/
def execFreezeTimeout (s : State) : Host.Outcome State Fault Refusal := run opFreezeTimeout s

/-- SCOREPAD_CLEAR. -/
def execScorepadClear (s : State) : Host.Outcome State Fault Refusal := run opScorepadClear s

/-- SCOREPAD_PERSIST. -/
def execScorepadPersist (s : State) : Host.Outcome State Fault Refusal := run opScorepadPersist s

/-- HOURS_TICK. -/
def execHoursTick (s : State) : Host.Outcome State Fault Refusal := run opHoursTick s

/-- HOURS_CHECKPOINT. -/
def execHoursCheckpoint (programOk : Bool) (s : State) : Host.Outcome State Fault Refusal := run (opHoursCheckpoint programOk) s

/-- WALL_WRITE. -/
def execWallWrite (v : Word) (s : State) : Host.Outcome State Fault Refusal := run (opWallWrite v) s

/-- NOTICE_POP. -/
def execNoticePop (s : State) : Host.Outcome State Fault Refusal := run opNoticePop s

/-- METER_READ. -/
def execMeterRead (n : Fin 4096) (s : State) : Host.Outcome State Fault Refusal := run (opMeterRead n.val) s

/-- METER_SNAPSHOT. -/
def execMeterSnapshot (s : State) : Host.Outcome State Fault Refusal := run opMeterSnapshot s

/-- ACTIVE_SECOND_TICK. -/
def execActiveSecondTick (s : State) : Host.Outcome State Fault Refusal := run opActiveSecondTick s

/-- SERVICE_CONSOLE_INPUT. -/
def execServiceConsoleInput (ch : Byte) (s : State) : Host.Outcome State Fault Refusal := run (opServiceConsoleInput ch) s

/-- IMAGE_DEFINED_CONDITION. -/
def execImageDefinedCondition (k : Fin 16) (s : State) : Host.Outcome State Fault Refusal := run (opImageDefinedCondition k.val) s

end Sys2Proof.Machine
end

