-- ==== Sys2Proof/Machine/Tap.lean ====
section
/-! DEFINITION. The test access port (R404 to R413): the controller of IEEE 1149.1, its registers, and what its instructions drive. -/

namespace Sys2Proof.Machine

/-! ### The controller -/

/-- The state after an edge with TMS at `tms`: 0 Test-Logic-Reset, 1 Run-Test/Idle, 2 Select-DR-Scan, 3 Capture-DR, 4 Shift-DR, 5 Exit1-DR,
6 Pause-DR, 7 Exit2-DR, 8 Update-DR, 9 to 15 the same for the instruction register (R404). -/
def tapNext (st : Nat) (tms : Bool) : Nat :=
  let go := fun (one onZero : Nat) => if tms then one else onZero
  match st with
  | 0 => go 0 1
  | 1 => go 2 1
  | 2 => go 9 3
  | 3 => go 5 4
  | 4 => go 5 4
  | 5 => go 8 6
  | 6 => go 7 6
  | 7 => go 8 4
  | 8 => go 2 1
  | 9 => go 0 10
  | 10 => go 12 11
  | 11 => go 12 11
  | 12 => go 15 13
  | 13 => go 14 13
  | 14 => go 15 11
  | _ => go 2 1

/-- The instructions whose data register is the boundary register (Table 19-1). -/
def boundaryInstr (ir : Nat) : Bool := [0x00, 0x02, 0x05, 0x06].contains ir

/-- The instructions whose data register the spec leaves to the die revision or to JESD238 (R405, R410). -/
def foreignInstr (ir : Nat) : Bool := [0x10, 0x11, 0x20, 0x30].contains ir

/-- The n bits of a number, least significant first. -/
def bitsLsb (n v : Nat) : List Bool := (List.range n).map (fun i => bitAt v i)

/-- What Capture-DR loads: the pins, IDCODE, or the 0 of the bypass register (R405, R406, R408). -/
def captureDr (ir : Nat) (pins : BitVec 382) : List Bool :=
  if boundaryInstr ir then bitsLsb 382 pins.toNat
  else if ir = 1 then bitsLsb 32 0x1C3209AB
  else if foreignInstr ir then []
  else [false]

/-- A shift register after one bit: the bit nearest TDO leaves, TDI comes in at the far end (R408). -/
def shiftIn (l : List Bool) (tdi : Bool) : List Bool := l.drop 1 ++ [tdi]

/-- A rising edge of TCK: the present state's capture or shift, and the next state (R404, R405, R408). -/
def tapRise (tms tdi : Bool) (pins : BitVec 382) (t : TapUnit) : TapUnit :=
  let ir := t.ir.toNat
  let t1 := match t.fsm with
    | 3 => { t with drShift := captureDr ir pins }
    | 4 => if foreignInstr ir then t else { t with drShift := shiftIn t.drShift tdi }
    | 10 => { t with irShift := if t.substituted then 5 else 1 }
    | 11 => { t with irShift := BitVec.ofNat 8 (t.irShift.toNat / 2 + 128 * bit tdi) }
    | _ => t
  { t1 with fsm := tapNext t.fsm tms }

/-- A falling edge of TCK: TDO takes the bit nearest it in a Shift state (R408). -/
def tapFall (tick : Nat) (t : TapUnit) : TapUnit :=
  match t.fsm with
  | 4 => { t with tdo := if foreignInstr t.ir.toNat then Config.tapData t.ir.toNat tick else t.drShift.headD false }
  | 11 => { t with tdo := bitAt t.irShift.toNat 0 }
  | _ => t

/-- TCK_EDGE (R404): Test-Logic-Reset selects IDCODE. An edge that the TAP takes finds TRST_N high again. -/
def opTckEdge (rising tms tdi : Bool) (pins : BitVec 382) (s0 : State) : State :=
  let s := { s0 with tap := { s0.tap with trstLow := false } }
  if rising then
    let t := tapRise tms tdi pins s.tap
    if t.fsm = 0 then resetTap { s with tap := t } else { s with tap := t }
  else { s.ticked with tap := tapFall s.tick s.tap }

/-! ### Instructions -/

/-- An instruction takes effect at Update-IR where the conditions of Table 19-1 hold; else BYPASS is substituted, with event 425 (R405,
R407). The pin-driving ones hold every deck link as if ENABLE were 0 (R409); SCAN leaves the core undefined (R413). -/
def opTapUpdateIr (s : State) : State :=
  if s.tap.fsm = 15 then
    let new := s.tap.irShift
    let s1 := if new = s.tap.ir then s else endTapInstruction s.tap.ir.toNat s
    if tapHonoured s new.toNat then
      let s2 := { s1 with tap := { s1.tap with ir := new, substituted := false, scan := new == 0x30 } }
      if pinDriving.contains new.toNat then forEach (List.range 4) disableLink s2 else s2
    else substituteBypass s1
  else s

/-- TAP_UPDATE_DR: the update latches of the boundary register (R408). -/
def opTapUpdateDr (s : State) : State :=
  if s.tap.fsm = 8 ∧ boundaryInstr s.tap.ir.toNat = true then
    { s with tap := { s.tap with boundary := BitVec.ofNat 382 (natOfBits s.tap.drShift.reverse) } }
  else s

/-- TAP_RESET: TRST_N low (R20, R404). -/
def opTapReset (s : State) : State := resetTap { s with tap := { s.tap with trstLow := true } }

/-- What the boundary register drives on service pin i while a pin-driving instruction is in effect; none where it drives nothing. SEAL_OUT,
pin 26, stays under the seal monitor unless ENABLE is cleared in OPEN (R408, R409). -/
def boundaryDrives (s : State) (i : Nat) : Option Bool :=
  let ir := s.tap.ir.toNat
  let held := i == 26 && (s.sec.state != 3 || sealEnabled s)
  if pinDriving.contains ir && ir != 0x04 && !held && s.tap.boundary.getLsbD (138 + 3 * i) then some (s.tap.boundary.getLsbD (137 + 3 * i)) else none

/-! ### Commands -/

/-- TCK_EDGE. -/
def execTckEdge (rising tms tdi : Bool) (pins : BitVec 382) (s : State) : Host.Outcome State Fault Refusal := runTap (opTckEdge rising tms tdi pins) s

/-- TAP_UPDATE_IR. -/
def execTapUpdateIr (s : State) : Host.Outcome State Fault Refusal := runTap opTapUpdateIr s

/-- TAP_UPDATE_DR. -/
def execTapUpdateDr (s : State) : Host.Outcome State Fault Refusal := runTap opTapUpdateDr s

/-- TAP_RESET. -/
def execTapReset (s : State) : Host.Outcome State Fault Refusal := runTap opTapReset s

end Sys2Proof.Machine
end

