-- ==== Sys2Proof/Machine/Host.lean ====
section
/-! DEFINITION. Host accesses to the register aperture (R8 to R11, R334, R431): a write of one or more registers, each taking the
effect that the rules give it, and accesses that no register answers. -/

namespace Sys2Proof.Machine

/-! ### Writes of fields -/

/-- A register write by access codes alone; a refusal leaves the RWP fields (R8, R10). -/
def writeFields (r : RegSpec) (off : Nat) (v : Word) (s : State) : State :=
  let old := s.reg off
  if changesRwp r old v && !s.window then
    refuseWrite off (s.setReg off (writtenReg (fun a => decide (a ≠ .rwp)) r old v))
  else s.setReg off (writtenReg (fun _ => true) r old v)

/-- Only the field `f` of the register takes the written value. -/
def writeField (off : Nat) (f : Fld) (v : Word) (s : State) : State := s.setFld off f (getBits v f)

/-- The numbers below `n` whose bit of field `f` is written as 1 and is not yet pending in `old` (W1S, Table 00-3). -/
def newBits (f : Fld) (n : Nat) (old v : Word) : List Nat :=
  (List.range n).filter (fun k => bitAt (getBits v f) k && !bitAt (getBits old f) k)

/-! ### Registers of contexts, tables and keys -/

/-- A write of CTX_CONTROL: ENABLE, then RESET (R32). -/
def writeCtxControl (n : Nat) (v : Word) (s : State) : State :=
  let s1 := writeField (Reg.ctxControl n) Fld.ctxControlEnable v s
  if getBits v Fld.ctxControlReset = 1 then opCtxReset n s1 else s1

/-- A write of CTX_KEY takes effect at any time (R31); a change of KEY_SLOT while a WRITE or MARK is in flight sets KEY_MID (Table
10-3). -/
def writeCtxKey (n : Nat) (r : RegSpec) (v : Word) (s : State) : State :=
  let off := Reg.ctxKey n
  let s1 := writeFields r off v s
  if s1.fld off Fld.ctxKeyKeySlot ≠ s.fld off Fld.ctxKeyKeySlot ∧ bound s n = true ∧ writeInFlight s n = true then
    setGuarantee (bindDeck s1 n) (bindPart s1 n) 3 s1
  else s1

/-- The configuration register of a context at an offset (R31). -/
def configRegOf (r : RegSpec) : Option CtxConfigReg :=
  [CtxConfigReg.streamId, .bind, .cutOptions, .eccProfile, .ringBaseLo, .ringBaseHi, .ringCtrl].find? (fun c => configOffset 0 c == r.base)

/-- A slot command of KEY_COMMAND.OP (R114). -/
def keyPortCommand (op : Nat) (s : State) : State :=
  match op with
  | 1 => opKeyLoad s
  | 2 => opKeyZeroise s
  | 3 => opKeyClearAll s
  | _ => s

/-- Writes of the registers of contexts, of the selected table, of the Cutter and of the key port. -/
def writeCtx (r : RegSpec) (off : Nat) (v : Word) (s : State) : Option State :=
  let n := r.index1 off
  if r.base = Reg.tskRecord 0 0 then some (opTaskRecordWrite n (r.index2 off) v s)
  else if r.base = Reg.tskDoorbell 0 then some (opDoorbell n s)
  else if r.base = Reg.tskAbortTag 0 then some (opAbortRequest n v s)
  else if r.base = Reg.ctxControl 0 then some (writeCtxControl n v s)
  else if r.base = Reg.ctxKey 0 then some (writeCtxKey n r v s)
  else if (configRegOf r).isSome then (configRegOf r).map (fun c => opCtxConfigWrite n c v s)
  else if off = Reg.dlrTableGuarantee then
    some (s.onTable (selTable s).1 (selTable s).2 (fun t => { t with guarantee := t.guarantee &&& ~~~(BitVec.ofNat 7 v.toNat) }))
  else if off = Reg.cutEngineOffLo then some (opEngineOffWrite false v s)
  else if off = Reg.cutEngineOffHi then some (opEngineOffWrite true v s)
  else if off = Reg.keyCommand then some (keyPortCommand (getBits v Fld.keyCommandOp) s)
  else none

/-! ### Registers of decks -/

/-- A write of DKd_LNK_CTRL: ENABLE where it changes, then RETRAIN (R318). -/
def writeLnkCtrl (d : Nat) (v : Word) (s : State) : State :=
  let reg := Reg.dkLnkCtrl d
  let enable := getBits v Fld.dkLnkCtrlEnable
  let s1 := if enable = s.fld reg Fld.dkLnkCtrlEnable then s else opLinkEnableWrite d (enable == 1) s
  forEach (newBits Fld.dkLnkCtrlRetrain 1 (s.reg reg) v) (fun _ a => opLinkRetrain d a) s1

/-- A write of JAS_Dd_CONTROL: HOLD, then STOP (R241, R256). -/
def writeJasControl (d : Nat) (v : Word) (s : State) : State :=
  let reg := Reg.jasControl d
  let s1 := opHoldWrite d (getBits v Fld.jasControlHold) s
  forEach (newBits Fld.jasControlStop 1 (s.reg reg) v) (fun _ a => opJasStopRequest d a) s1

/-- A write of a trace register: below debug level D1 it is discarded with a refused-write event; else its fields, and then ARM or FIRE
(R258). -/
def writeTrace (r : RegSpec) (off : Nat) (v : Word) (s : State) : State :=
  let d := r.index1 off
  let c := r.index2 off
  if !tracesOpen s then refuseWrite off s
  else
    let s1 := s.setReg off (writtenReg (fun a => decide (a ≠ .w1s)) r (s.reg off) v)
    if r.base = Reg.jasTrCtrl 0 0 then forEach (newBits Fld.jasTrCtrlArm 1 (s.reg off) v) (fun _ a => opTraceArm d c a) s1
    else if r.base = Reg.jasTrTrig 0 0 then (if getBits v Fld.jasTrTrigFire = 1 then opTraceFire d c s1 else s1)
    else s1

/-- A front-end register access of DKd_LNK_FE_CMD.OP (R317). -/
def frontEndCommand (d op : Nat) (s : State) : State :=
  match op with
  | 1 => hostAccess d false s
  | 2 => hostAccess d true s
  | _ => s

/-- Writes of the registers of decks. -/
def writeDeck (r : RegSpec) (off : Nat) (v : Word) (s : State) : Option State :=
  let d := r.index1 off
  if r.base = Reg.dkLnkCtrl 0 then some (writeLnkCtrl d v s)
  else if r.base = Reg.dkLnkFeCmd 0 then some (frontEndCommand d (getBits v Fld.dkLnkFeCmdOp) s)
  else if r.base = Reg.jasControl 0 then some (writeJasControl d v s)
  else if r.base = Reg.jasCoefShift 0 then some (opCoefCommit d v s)
  else if isTrace r then some (writeTrace r off v s)
  else none

/-! ### Registers of memory, flash and images -/

/-- A write of SHO_POOL_FIRST or SHO_POOL_COUNT: discarded with event 356 while the selected pool is enabled (R269). -/
def writePoolRange (f : Pool → Pool) (s : State) : State :=
  let p := s.poolAt (selPool s)
  if p.enabled then raise 356 [] s else s.putPool (selPool s) (f p)

/-- A host command of SHO_HOST_CMD (R274). -/
def hostCommand (v : Word) (s : State) : State :=
  match getBits v Fld.shoHostCmdOp with
  | 1 => opHostChipAllocate s
  | 2 => opHostChipFree (getBits v Fld.shoHostCmdIndex) s
  | _ => s

/-- A command of NVM_CMD.OP (Table 17-4). -/
def nvmCommand (op : Nat) (s : State) : State :=
  match op with
  | 1 => opNvmProgram s
  | 2 => opNvmErase s
  | 3 => opNvmSuspend s
  | 4 => opNvmResume s
  | 5 => opNvmMarginPv s
  | 6 => opNvmMarginEv s
  | _ => s

/-- A slot command of CFG_COMMAND.OP (R289, R290). -/
def slotOp (op : Nat) (s : State) : State :=
  match op with
  | 1 => opWriteSlot s
  | 2 => opVerify s
  | 3 => opRevoke s
  | _ => s

/-- A write of NVM_PARK: REQUEST, then RELEASE (R377). -/
def writePark (v : Word) (s : State) : State :=
  let s1 := if getBits v Fld.nvmParkRequest = 1 then opParkRequest s else s
  if getBits v Fld.nvmParkRelease = 1 then opParkRelease s1 else s1

/-- Writes of the registers of the Shoe, of memory integrity, of the flash and of images. -/
def writeMem (r : RegSpec) (off : Nat) (v : Word) (s : State) : Option State :=
  if off = Reg.shoPoolCfg then some (opPoolCfgWrite v s)
  else if off = Reg.shoPoolFirst then some (writePoolRange (fun p => { p with first := getBits v Fld.shoPoolFirstIndex }) s)
  else if off = Reg.shoPoolCount then some (writePoolRange (fun p => { p with count := getBits v Fld.shoPoolCountCount }) s)
  else if off = Reg.shoHostCmd then some (hostCommand v s)
  else if r.base = Reg.shoWin 0 then some (opShoeWindowAccess (r.index1 off) (some v) .none s)
  else if off = Reg.micRegionCfg then some (opRegionCfgWrite v s)
  else if off = Reg.micFillCount then some (opMicFill v s)
  else if off = Reg.nvmPark then some (writePark v s)
  else if off = Reg.nvmRdDelay then some (opRdDelayWrite (getBits v Fld.nvmRdDelayDelay) s)
  else if off = Reg.nvmCmd then some (nvmCommand (getBits v Fld.nvmCmdOp) s)
  else if r.base = Reg.nvmWpSet 0 then some (opWpSet (r.index1 off) v s)
  else if r.base = Reg.nvmWpClr 0 then some (opWpClr (r.index1 off) v s)
  else if off = Reg.cfgCommand then some (slotOp (getBits v Fld.cfgCommandOp) s)
  else none

/-! ### Registers of the whole device -/

/-- A write of GLB_RESET: DECK in ascending order, then WARM (R364, R365). -/
def writeReset (v : Word) (s : State) : State :=
  let s1 := forEach (newBits Fld.glbResetDeck 4 (s.reg Reg.glbReset) v) opDeckReset s
  forEach (newBits Fld.glbResetWarm 1 (s.reg Reg.glbReset) v) (fun _ a => opWarmReset a) s1

/-- A write of LNK_CTRL: MAX_RATE, PORT_EN where it changes, then RETRAIN (R337, R339). -/
def writePorts (v : Word) (s : State) : State :=
  let s1 := writeField Reg.lnkCtrl Fld.lnkCtrlMaxRate v s
  let en := getBits v Fld.lnkCtrlPortEn
  let s2 := if en = s.fld Reg.lnkCtrl Fld.lnkCtrlPortEn then s1 else opPortEnableWrite en s1
  forEach (newBits Fld.lnkCtrlRetrain 2 (s.reg Reg.lnkCtrl) v) opPortRetrain s2

/-- A write of SEC_CONTROL, in ascending order of its bits; ENTER_SERVICE and OPEN_ARM without a window are one refusal (R10, R344, R351,
R352). -/
def writeSecControl (v : Word) (s : State) : State :=
  let has := fun (f : Fld) => getBits v f == 1
  let asks := has Fld.secControlEnterService || has Fld.secControlOpenArm
  let granted := s.window
  let s1 := if asks && !granted then refuseWrite Reg.secControl s else s
  let s2 := if has Fld.secControlEnterService && granted then opEnterService s1 else s1
  let s3 := if has Fld.secControlLeaveService then opLeaveService s2 else s2
  let s4 := if has Fld.secControlOpenArm && granted then opOpenArm (getBits v Fld.secControlConfirm) s3 else s3
  let s5 := if has Fld.secControlOpenDisarm then opOpenDisarm s4 else s4
  if has Fld.secControlCloseWindow then opCloseWindow s5 else s5

/-- A write of EVT_SP_CTRL: FREEZE, then CLEAR (R392). -/
def writeSpCtrl (v : Word) (s : State) : State :=
  let s1 := opFreezeWrite (getBits v Fld.evtSpCtrlFreeze == 1) s
  if getBits v Fld.evtSpCtrlClear = 1 then opScorepadClear s1 else s1

/-- The routing of the selected source is changed (R386). -/
def writeRouting (f : SrcCfg → SrcCfg) (s : State) : State :=
  let ev := s.fld Reg.evtSrcSel Fld.evtSrcSelEvent
  s.onEvt (fun e => { e with srcs := Sparse.put e.srcs ev (f (srcCfg s ev)) })

/-- The bits of EVT_SRC_CFG that a write sets. -/
def routingBits (v : Word) : Word :=
  withFields 0 ([Fld.evtSrcCfgRecord, Fld.evtSrcCfgNotify, Fld.evtSrcCfgPersist, Fld.evtSrcCfgChain, Fld.evtSrcCfgSnaps].map
    (fun f => (f, getBits v f)))

/-- A write of the meter ring's base or size: discarded while EVT_MTR_CTRL.ENABLE is 1. -/
def writeMeterRing (r : RegSpec) (off : Nat) (v : Word) (s : State) : State :=
  if s.flag Reg.evtMtrCtrl Fld.evtMtrCtrlEnable then
    if off = Reg.evtMtrCtrl then writeField off Fld.evtMtrCtrlEnable v s else s
  else writeFields r off v s

/-- Writes of the registers of the whole device. -/
def writeGlobal (r : RegSpec) (off : Nat) (v : Word) (s : State) : Option State :=
  if off = Reg.glbReset then some (writeReset v s)
  else if off = Reg.lnkCtrl then some (writePorts v s)
  else if off = Reg.secControl then some (writeSecControl v s)
  else if off = Reg.secDebug then some (opDebugLevelWrite (getBits v Fld.secDebugLevel) s)
  else if off = Reg.secSeal then some (opSealEnableWrite (getBits v Fld.secSealEnable == 1) s)
  else if off = Reg.evtSpCtrl then some (writeSpCtrl v s)
  else if off = Reg.evtSrcCfg then some (writeRouting (fun c => { c with cfg := routingBits v }) s)
  else if r.base = Reg.evtSrcSnap 0 then
    let w := withFields 0 [(Fld.evtSrcSnapOffset, getBits v Fld.evtSrcSnapOffset)]
    some (writeRouting (fun c => { c with snaps := Sparse.set 0 c.snaps (r.index1 off) w }) s)
  else if off = Reg.evtWall then some (opWallWrite v s)
  else if off = Reg.evtMtrBaseLo ∨ off = Reg.evtMtrBaseHi ∨ off = Reg.evtMtrCtrl then some (writeMeterRing r off v s)
  else none

/-! ### Accesses -/

/-- One word written to the register at `off` (R8, R334); no effect where the offset names no register. -/
def writeWord (off : Nat) (v : Word) (s : State) : State :=
  match findReg off with
  | none => s
  | some r =>
    (writeCtx r off v s <|> writeDeck r off v s <|> writeMem r off v s <|> writeGlobal r off v s).getD (writeFields r off v s)

/-- The access breaks a rule of R334, or touches an offset that names no register (R11). -/
def accessFault (addr len : Nat) : Bool :=
  !(addr % 4 == 0 && len % 4 == 0 && decide (4 ≤ len) && decide (len ≤ 224) && decide (addr + len ≤ 0x4000000)
    && (List.range (len / 4)).all (fun k => (findReg (addr + 4 * k)).isSome))

/-- An error completion of a register access: with the access's TAG and STATUS 1, WERR for a write; counted with its offset, event 265
(R334; log entry 23). -/
def refuseAccess (write : Bool) (addr : Nat) (tag : BitVec 16) (s : State) : State :=
  countMmioError (min addr 0x3FFFFFF) (emit (.mmio tag 1 write addr []) s)

/-- The words of a write in ascending address order (R334, R431). -/
def writeWords : Nat → List Word → State → State
  | _, [], s => s
  | addr, v :: l, s => writeWords (addr + 4) l (writeWord addr v s)

/-- REGISTER_WRITE: the words are applied one by one, or, where the access is faulty, none of them (R8, R334). In SLEEP no access reaches
the aperture (Table 16-3). -/
def opRegisterWrite (addr : Nat) (words : List Word) (tag : BitVec 16) (s : State) : State :=
  if s.pwr.state = 3 then s
  else if accessFault addr (4 * words.length) then refuseAccess true addr tag s
  else writeWords addr words s

/-- UNASSIGNED_ACCESS: an access that no register answers, or that breaks the access rules (R11, R334). -/
def opUnassignedAccess (write : Bool) (addr len : Nat) (tag : BitVec 16) (s : State) : State :=
  if s.pwr.state = 3 then s else if accessFault addr len then refuseAccess write addr tag s else s

/-! ### The commands -/

/-- REGISTER_WRITE (R8). -/
def execRegisterWrite (addr : Nat) (words : List Word) (tag : BitVec 16) (s : State) : Host.Outcome State Fault Refusal :=
  run (opRegisterWrite addr words tag) s

/-- UNASSIGNED_ACCESS (R11). -/
def execUnassignedAccess (write : Bool) (addr len : Nat) (tag : BitVec 16) (s : State) : Host.Outcome State Fault Refusal :=
  run (opUnassignedAccess write addr len tag) s

end Sys2Proof.Machine
end

