-- ==== Sys2Proof/Machine/Dispatch.lean ====
section
/-! DEFINITION. The meaning of each command, one arm per constructor. -/

namespace Sys2Proof.Machine

def exec (i : Instr) (s : State) : Host.Outcome State Fault Refusal :=
  match i with
  | .registerWrite addr words tag => Sys2Proof.Machine.execRegisterWrite addr words tag s
  | .unassignedAccess write addr len tag => Sys2Proof.Machine.execUnassignedAccess write addr len tag s
  | .handshakeStall island channel => Sys2Proof.Machine.execHandshakeStall island channel s
  | .slackMeasurement measured => Sys2Proof.Machine.execSlackMeasurement measured s
  | .avsEvaluation ackGood => Sys2Proof.Machine.execAvsEvaluation ackGood s
  | .avsReadback reply => Sys2Proof.Machine.execAvsReadback reply s
  | .taskRecordWrite n k v => Sys2Proof.Machine.execTaskRecordWrite n k v s
  | .doorbell n v => Sys2Proof.Machine.execDoorbell n v s
  | .abortRequest n tag => Sys2Proof.Machine.execAbortRequest n tag s
  | .ctxConfigWrite n reg v => Sys2Proof.Machine.execCtxConfigWrite n reg v s
  | .ctxReset n => Sys2Proof.Machine.execCtxReset n s
  | .ctxResetComplete n => Sys2Proof.Machine.execCtxResetComplete n s
  | .write n => Sys2Proof.Machine.execWrite n s
  | .mark n => Sys2Proof.Machine.execMark n s
  | .flush n => Sys2Proof.Machine.execFlush n s
  | .sync n => Sys2Proof.Machine.execSync n s
  | .read n => Sys2Proof.Machine.execRead n s
  | .locate n => Sys2Proof.Machine.execLocate n s
  | .space n => Sys2Proof.Machine.execSpace n s
  | .position n => Sys2Proof.Machine.execPosition n s
  | .pass n => Sys2Proof.Machine.execPass n s
  | .barrier n => Sys2Proof.Machine.execBarrier n s
  | .cut n => Sys2Proof.Machine.execCut n s
  | .uncut n => Sys2Proof.Machine.execUncut n s
  | .hostJobCopy n => Sys2Proof.Machine.execHostJobCopy n s
  | .meterRead n => Sys2Proof.Machine.execMeterRead n s
  | .load n => Sys2Proof.Machine.execLoad n s
  | .unload n => Sys2Proof.Machine.execUnload n s
  | .rewind n => Sys2Proof.Machine.execRewind n s
  | .partCreate n => Sys2Proof.Machine.execPartCreate n s
  | .partDelete n => Sys2Proof.Machine.execPartDelete n s
  | .mediumFormat n => Sys2Proof.Machine.execMediumFormat n s
  | .seat n => Sys2Proof.Machine.execSeat n s
  | .power n => Sys2Proof.Machine.execPower n s
  | .store n => Sys2Proof.Machine.execStore n s
  | .imageActivate n => Sys2Proof.Machine.execImageActivate n s
  | .completionWrite n => Sys2Proof.Machine.execCompletionWrite n s
  | .deferredErrorDelivery n => Sys2Proof.Machine.execDeferredErrorDelivery n s
  | .packItem d p => Sys2Proof.Machine.execPackItem d p s
  | .fixedSeatTurn d p => Sys2Proof.Machine.execFixedSeatTurn d p s
  | .seatAlert d p => Sys2Proof.Machine.execSeatAlert d p s
  | .poolWaitResume pool => Sys2Proof.Machine.execPoolWaitResume pool s
  | .fetchResume n => Sys2Proof.Machine.execFetchResume n s
  | .blockClose n => Sys2Proof.Machine.execBlockClose n s
  | .engineDispatch e => Sys2Proof.Machine.execEngineDispatch e s
  | .blockCoded e outcome => Sys2Proof.Machine.execBlockCoded e outcome s
  | .blockDecode e historyParityError => Sys2Proof.Machine.execBlockDecode e historyParityError s
  | .engineOffWrite hi v => Sys2Proof.Machine.execEngineOffWrite hi v s
  | .seal n lane => Sys2Proof.Machine.execSeal n lane s
  | .blockOpen n lane => Sys2Proof.Machine.execBlockOpen n lane s
  | .keyLoad => Sys2Proof.Machine.execKeyLoad s
  | .keyZeroise => Sys2Proof.Machine.execKeyZeroise s
  | .keyClearAll => Sys2Proof.Machine.execKeyClearAll s
  | .keyCommandDone => Sys2Proof.Machine.execKeyCommandDone s
  | .roundWriteStart d => Sys2Proof.Machine.execRoundWriteStart d s
  | .trickBegin d tpc left leftInWrap => Sys2Proof.Machine.execTrickBegin d tpc left leftInWrap s
  | .endOfDataWrite d => Sys2Proof.Machine.execEndOfDataWrite d s
  | .facetGrade d track => Sys2Proof.Machine.execFacetGrade d track s
  | .wrapTurn d => Sys2Proof.Machine.execWrapTurn d s
  | .facetDecode d track => Sys2Proof.Machine.execFacetDecode d track s
  | .trickMissing d trick => Sys2Proof.Machine.execTrickMissing d trick s
  | .retryPass d => Sys2Proof.Machine.execRetryPass d s
  | .repositionComplete d => Sys2Proof.Machine.execRepositionComplete d s
  | .paceSample d timing => Sys2Proof.Machine.execPaceSample d timing s
  | .servoRecord d counter posErr tpc qual locked towardsEot timing => Sys2Proof.Machine.execServoRecord d counter posErr tpc qual locked towardsEot timing s
  | .lateralLock d => Sys2Proof.Machine.execLateralLock d s
  | .reelRecord d counter takeup count tension current timing => Sys2Proof.Machine.execReelRecord d counter takeup count tension current timing s
  | .telemetryDiscardLimit d => Sys2Proof.Machine.execTelemetryDiscardLimit d s
  | .reversalTensionMet d => Sys2Proof.Machine.execReversalTensionMet d s
  | .reversalTimeout d => Sys2Proof.Machine.execReversalTimeout d s
  | .coefCommit d v => Sys2Proof.Machine.execCoefCommit d v s
  | .holdWrite d hold => Sys2Proof.Machine.execHoldWrite d hold s
  | .jasStopRequest d => Sys2Proof.Machine.execJasStopRequest d s
  | .stopComplete d => Sys2Proof.Machine.execStopComplete d s
  | .deckEstop d => Sys2Proof.Machine.execDeckEstop d s
  | .traceArm d c => Sys2Proof.Machine.execTraceArm d c s
  | .traceFire d c => Sys2Proof.Machine.execTraceFire d c s
  | .traceTrigger d c source stamp => Sys2Proof.Machine.execTraceTrigger d c source stamp s
  | .traceDone d c => Sys2Proof.Machine.execTraceDone d c s
  | .traceRead d c => Sys2Proof.Machine.execTraceRead d c s
  | .hbmCattrip stack => Sys2Proof.Machine.execHbmCattrip stack s
  | .hbmEccPoll stack corrected temp => Sys2Proof.Machine.execHbmEccPoll stack corrected temp s
  | .regionCfgWrite v => Sys2Proof.Machine.execRegionCfgWrite v s
  | .micFill v => Sys2Proof.Machine.execMicFill v s
  | .micFillComplete => Sys2Proof.Machine.execMicFillComplete s
  | .poolCfgWrite v => Sys2Proof.Machine.execPoolCfgWrite v s
  | .poolReady pool => Sys2Proof.Machine.execPoolReady pool s
  | .hostChipAllocate => Sys2Proof.Machine.execHostChipAllocate s
  | .hostChipFree index => Sys2Proof.Machine.execHostChipFree index s
  | .shoeWindowAccess off write err => Sys2Proof.Machine.execShoeWindowAccess off write err s
  | .polisherAccess word err lapEnd => Sys2Proof.Machine.execPolisherAccess word err lapEnd s
  | .writeSlot => Sys2Proof.Machine.execWriteSlot s
  | .slotWriteDone marginOk => Sys2Proof.Machine.execSlotWriteDone marginOk s
  | .verify => Sys2Proof.Machine.execVerify s
  | .revoke => Sys2Proof.Machine.execRevoke s
  | .formatEpoch d => Sys2Proof.Machine.execFormatEpoch d s
  | .cutterEpoch n => Sys2Proof.Machine.execCutterEpoch n s
  | .linkTraining d => Sys2Proof.Machine.execLinkTraining d s
  | .trainingStepTimeout d => Sys2Proof.Machine.execTrainingStepTimeout d s
  | .frameReceive d lane bits => Sys2Proof.Machine.execFrameReceive d lane bits s
  | .laneFrameLock d lane => Sys2Proof.Machine.execLaneFrameLock d lane s
  | .laneLockLoss d lane => Sys2Proof.Machine.execLaneLockLoss d lane s
  | .columnSend d => Sys2Proof.Machine.execColumnSend d s
  | .credit d limit consumed => Sys2Proof.Machine.execCredit d limit consumed s
  | .column d seq index => Sys2Proof.Machine.execColumn d seq index s
  | .sq d first figures => Sys2Proof.Machine.execSq d first figures s
  | .head d headT feT => Sys2Proof.Machine.execHead d headT feT s
  | .status d state cartridge threaded fault rxLockLost wraps crcErr underrun fifo => Sys2Proof.Machine.execStatus d state cartridge threaded fault rxLockLost wraps crcErr underrun fifo s
  | .regResp d tag result addr data => Sys2Proof.Machine.execRegResp d tag result addr data s
  | .unknownRecord d type => Sys2Proof.Machine.execUnknownRecord d type s
  | .laneLockTimeout d lane => Sys2Proof.Machine.execLaneLockTimeout d lane s
  | .linkAlert d => Sys2Proof.Machine.execLinkAlert d s
  | .creditTimeout d => Sys2Proof.Machine.execCreditTimeout d s
  | .statusTimeout d => Sys2Proof.Machine.execStatusTimeout d s
  | .regRespTimeout d => Sys2Proof.Machine.execRegRespTimeout d s
  | .deckPresenceChange d present => Sys2Proof.Machine.execDeckPresenceChange d present s
  | .deckFault d => Sys2Proof.Machine.execDeckFault d s
  | .linkEnableWrite d enable => Sys2Proof.Machine.execLinkEnableWrite d enable s
  | .linkRetrain d => Sys2Proof.Machine.execLinkRetrain d s
  | .feRegisterRead d => Sys2Proof.Machine.execFeRegisterRead d s
  | .feRegisterWrite d => Sys2Proof.Machine.execFeRegisterWrite d s
  | .flitReceive p flit => Sys2Proof.Machine.execFlitReceive p flit s
  | .replayTimeout p => Sys2Proof.Machine.execReplayTimeout p s
  | .ackDue p => Sys2Proof.Machine.execAckDue p s
  | .dmaCompletionReceive tag status payload => Sys2Proof.Machine.execDmaCompletionReceive tag status payload s
  | .dmaReadTimeout tag => Sys2Proof.Machine.execDmaReadTimeout tag s
  | .creditWaitAlert p cls => Sys2Proof.Machine.execCreditWaitAlert p cls s
  | .portActive p trained => Sys2Proof.Machine.execPortActive p trained s
  | .portRetrain p => Sys2Proof.Machine.execPortRetrain p s
  | .portEnableWrite en => Sys2Proof.Machine.execPortEnableWrite en s
  | .linkLoss => Sys2Proof.Machine.execLinkLoss s
  | .sbReset v => Sys2Proof.Machine.execSbReset v s
  | .sbWake v => Sys2Proof.Machine.execSbWake v s
  | .presenceAction => Sys2Proof.Machine.execPresenceAction s
  | .buttonStuck => Sys2Proof.Machine.execButtonStuck s
  | .jumperRemoved => Sys2Proof.Machine.execJumperRemoved s
  | .presenceWindowExpiry => Sys2Proof.Machine.execPresenceWindowExpiry s
  | .closeWindow => Sys2Proof.Machine.execCloseWindow s
  | .enterService => Sys2Proof.Machine.execEnterService s
  | .leaveService => Sys2Proof.Machine.execLeaveService s
  | .openArm confirm => Sys2Proof.Machine.execOpenArm confirm s
  | .openDisarm => Sys2Proof.Machine.execOpenDisarm s
  | .debugLevelWrite level => Sys2Proof.Machine.execDebugLevelWrite level s
  | .sealEnableWrite enable => Sys2Proof.Machine.execSealEnableWrite enable s
  | .sealBit sample1 sample2 => Sys2Proof.Machine.execSealBit sample1 sample2 s
  | .tamperedEntry => Sys2Proof.Machine.execTamperedEntry s
  | .sealRestored => Sys2Proof.Machine.execSealRestored s
  | .dozeExit src => Sys2Proof.Machine.execDozeExit src s
  | .sleepExit src boot => Sys2Proof.Machine.execSleepExit src boot s
  | .sleepExitRailTimeout => Sys2Proof.Machine.execSleepExitRailTimeout s
  | .powerFail => Sys2Proof.Machine.execPowerFail s
  | .pfailMotorTimeout => Sys2Proof.Machine.execPfailMotorTimeout s
  | .supplyMonitorTrip rail => Sys2Proof.Machine.execSupplyMonitorTrip rail s
  | .por pin straps seed boot => Sys2Proof.Machine.execPor pin straps seed boot s
  | .coldReset sideband boot => Sys2Proof.Machine.execColdReset sideband boot s
  | .warmReset => Sys2Proof.Machine.execWarmReset s
  | .deckReset d => Sys2Proof.Machine.execDeckReset d s
  | .nvmProgram => Sys2Proof.Machine.execNvmProgram s
  | .nvmErase => Sys2Proof.Machine.execNvmErase s
  | .nvmSuspend => Sys2Proof.Machine.execNvmSuspend s
  | .nvmResume => Sys2Proof.Machine.execNvmResume s
  | .nvmMarginPv => Sys2Proof.Machine.execNvmMarginPv s
  | .nvmMarginEv => Sys2Proof.Machine.execNvmMarginEv s
  | .nvmOperationComplete bank failBits => Sys2Proof.Machine.execNvmOperationComplete bank failBits s
  | .parkRequest => Sys2Proof.Machine.execParkRequest s
  | .stewardParked => Sys2Proof.Machine.execStewardParked s
  | .parkRelease => Sys2Proof.Machine.execParkRelease s
  | .parkTimeout => Sys2Proof.Machine.execParkTimeout s
  | .rdDelayWrite delay => Sys2Proof.Machine.execRdDelayWrite delay s
  | .wpSet k v => Sys2Proof.Machine.execWpSet k v s
  | .wpClr k v => Sys2Proof.Machine.execWpClr k v s
  | .nvmWinRead off bitErrors => Sys2Proof.Machine.execNvmWinRead off bitErrors s
  | .nvmCalRead off => Sys2Proof.Machine.execNvmCalRead off s
  | .scorepadPersist => Sys2Proof.Machine.execScorepadPersist s
  | .freezeWrite freeze => Sys2Proof.Machine.execFreezeWrite freeze s
  | .freezeTimeout => Sys2Proof.Machine.execFreezeTimeout s
  | .scorepadClear => Sys2Proof.Machine.execScorepadClear s
  | .noticePop => Sys2Proof.Machine.execNoticePop s
  | .wallWrite v => Sys2Proof.Machine.execWallWrite v s
  | .hoursTick => Sys2Proof.Machine.execHoursTick s
  | .hoursCheckpoint programOk => Sys2Proof.Machine.execHoursCheckpoint programOk s
  | .meterSnapshot => Sys2Proof.Machine.execMeterSnapshot s
  | .activeSecondTick => Sys2Proof.Machine.execActiveSecondTick s
  | .tapReset => Sys2Proof.Machine.execTapReset s
  | .tapUpdateIr => Sys2Proof.Machine.execTapUpdateIr s
  | .tapUpdateDr => Sys2Proof.Machine.execTapUpdateDr s
  | .thermalWarning tj => Sys2Proof.Machine.execThermalWarning tj s
  | .thermalShutdown tj => Sys2Proof.Machine.execThermalShutdown tj s
  | .xtalStartTimeout => Sys2Proof.Machine.execXtalStartTimeout s
  | .buttonPressed => Sys2Proof.Machine.execButtonPressed s
  | .buttonReleased => Sys2Proof.Machine.execButtonReleased s
  | .jumperFitted => Sys2Proof.Machine.execJumperFitted s
  | .deckEstopReleased d => Sys2Proof.Machine.execDeckEstopReleased d s
  | .clockDataLock d => Sys2Proof.Machine.execClockDataLock d s
  | .tckEdge rising tms tdi pins => Sys2Proof.Machine.execTckEdge rising tms tdi pins s
  | .dmaTagRelease tag => Sys2Proof.Machine.execDmaTagRelease tag s
  | .tjBandChange tj => Sys2Proof.Machine.execTjBandChange tj s
  | .serviceConsoleInput ch => Sys2Proof.Machine.execServiceConsoleInput ch s
  | .imageDefinedCondition k => Sys2Proof.Machine.execImageDefinedCondition k s

end Sys2Proof.Machine
end

