-- ==== Sys2Proof/Safety.lean ====
section
/-! DEFINITION. What counts as a safe run, in the terms that claims use. -/

namespace Sys2Proof

/-- A step that answers a next state. -/
def Runs (s : Machine.State) : Prop := ∃ t, Machine.step s = .next t

/-- The two addressed memories in canonical form: HBM contents, an unlisted byte of which is 0 (R265), and the bytes programmed into the
settings flash, an unlisted byte of which is erased (R370). -/
def Machine.Memory.wf (s : Machine.State) : Bool :=
  Machine.Sparse.wf (fun _ => (0 : Byte)) s.shoe.mem && Machine.Sparse.wf (fun _ => (0xFF : Byte)) s.nvm.bytes

/-- The TAP instruction in effect meets its conditions, unless SCAN has taken the core (R407, R413). -/
def Machine.tapLegal (s : Machine.State) : Prop := s.tap.scan = true ∨ Machine.tapHonoured s s.tap.ir.toNat = true

/-- The core runs: SCAN is not in effect (R413). -/
abbrev Machine.Live (s : Machine.State) : Prop := s.tap.scan = false

/-- Command `c` in state `s` completes with state `t`; the check of the TAP instruction in effect that ends every command follows (R407). -/
def Machine.Answers (c : Instr) (s t : Machine.State) : Prop := Machine.exec c s = .next (Machine.withdrawTap t)

/-- Command `c` in state `s` completes with a state that `P` describes, before the check of the TAP instruction (R407). -/
def Machine.Completes (c : Instr) (s : Machine.State) (P : Machine.State → Prop) : Prop := ∃ t, Machine.Answers c s t ∧ P t

/-- Every stored register outside `l` reads in `t` as in `s`. -/
def Machine.SameRegsBut (l : List Nat) (s t : Machine.State) : Prop := ∀ o, o ∉ l → t.reg o = s.reg o

/-- Task `u` of context n may begin under the row of opcode `op`, and its record keeps the rules (R39, R47). -/
def Machine.Begins (s : Machine.State) (n op : Nat) (u : Machine.Task) : Prop :=
  Machine.startable s n op = some u ∧ (u.checked = true ∨ Machine.checkRecord s n u = none)

/-! ### What a change leaves alone -/

/-- The parts of the state; the two addressed memories each count as a part of their own. -/
inductive Machine.Part where
  | pending | tick | regs | sent | evt | accepted | ctx | tables | cut | keys | shoe | mem | img | decks | loops | traces | nvm
  | bytes | lnk | sec | pwr | tap
  deriving DecidableEq, Repr

/-- A part is in `t` what it is in `s`. -/
def Machine.Part.same (s t : Machine.State) : Machine.Part → Prop
  | .pending => t.pending = s.pending
  | .tick => t.tick = s.tick
  | .regs => t.regs = s.regs
  | .sent => t.sent = s.sent
  | .evt => t.evt = s.evt
  | .accepted => t.accepted = s.accepted
  | .ctx => t.ctx = s.ctx
  | .tables => t.tables = s.tables
  | .cut => t.cut = s.cut
  | .keys => t.keys = s.keys
  | .shoe => { t.shoe with mem := s.shoe.mem } = s.shoe
  | .mem => t.shoe.mem = s.shoe.mem
  | .img => t.img = s.img
  | .decks => t.decks = s.decks
  | .loops => t.loops = s.loops
  | .traces => t.traces = s.traces
  | .nvm => { t.nvm with bytes := s.nvm.bytes } = s.nvm
  | .bytes => t.nvm.bytes = s.nvm.bytes
  | .lnk => t.lnk = s.lnk
  | .sec => t.sec = s.sec
  | .pwr => t.pwr = s.pwr
  | .tap => t.tap = s.tap

/-- Every part outside `l` is in `t` what it is in `s`. -/
structure Machine.Touches (l : List Machine.Part) (s t : Machine.State) : Prop where
  /-- a part outside the list is the same -/
  keep : ∀ p, p ∉ l → p.same s t

/-- The parts of the state that a command may change, beside registers, events, outputs and what the check of the TAP instruction does. -/
def Machine.commandParts : Instr → List Machine.Part
  | .unassignedAccess .. | .taskRecordWrite .. | .keyCommandDone .. | .traceRead .. | .hbmEccPoll .. | .regionCfgWrite .. | .micFill ..
  | .micFillComplete .. | .poolCfgWrite .. | .poolReady .. | .hostChipFree .. | .shoeWindowAccess .. | .verify .. | .laneLockLoss ..
  | .sealEnableWrite .. | .parkRequest .. | .stewardParked .. | .parkRelease .. | .parkTimeout .. | .rdDelayWrite .. | .wpSet ..
  | .wpClr .. | .nvmCalRead .. | .freezeWrite .. | .freezeTimeout .. | .scorepadClear .. | .noticePop .. | .wallWrite .. | .tapReset ..
  | .tapUpdateDr .. | .thermalWarning .. | .imageDefinedCondition .. =>
    []
  | .position .. | .barrier .. | .meterRead .. | .deferredErrorDelivery .. | .meterSnapshot .. | .activeSecondTick .. =>
    [.ctx]
  | .engineOffWrite .. =>
    [.cut]
  | .wrapTurn .. | .lateralLock .. | .reversalTensionMet .. | .frameReceive .. | .laneFrameLock .. | .columnSend .. | .credit ..
  | .column .. | .sq .. | .head .. | .regResp .. | .unknownRecord .. | .feRegisterRead .. | .feRegisterWrite .. | .pfailMotorTimeout ..
  | .deckEstopReleased .. | .clockDataLock .. =>
    [.decks]
  | .flitReceive .. | .replayTimeout .. | .ackDue .. | .creditWaitAlert .. | .portActive .. | .portRetrain .. | .portEnableWrite ..
  | .dmaTagRelease .. =>
    [.lnk]
  | .coefCommit .. | .holdWrite .. =>
    [.loops]
  | .nvmProgram .. | .nvmErase .. | .nvmSuspend .. | .nvmResume .. | .nvmMarginPv .. | .nvmMarginEv .. =>
    [.nvm]
  | .slackMeasurement .. | .avsEvaluation .. | .avsReadback .. | .sbReset .. | .sbWake .. | .sleepExitRailTimeout .. | .tjBandChange .. =>
    [.pwr]
  | .buttonStuck .. | .jumperRemoved .. | .presenceWindowExpiry .. | .closeWindow .. | .enterService .. | .leaveService .. | .openArm ..
  | .openDisarm .. | .sealBit .. | .sealRestored .. | .hoursTick .. | .buttonPressed .. | .buttonReleased .. | .jumperFitted .. =>
    [.sec]
  | .ctxConfigWrite .. | .seatAlert .. =>
    [.tables]
  | .hostChipAllocate .. | .nvmWinRead .. | .tckEdge .. =>
    [.tick]
  | .traceArm .. | .traceTrigger .. | .traceDone .. =>
    [.traces]
  | .engineDispatch .. =>
    [.ctx, .cut]
  | .repositionComplete .. =>
    [.ctx, .decks]
  | .partCreate .. | .mediumFormat .. | .fetchResume .. =>
    [.ctx, .lnk]
  | .power .. =>
    [.ctx, .pwr]
  | .endOfDataWrite .. =>
    [.decks, .pwr]
  | .revoke .. =>
    [.img, .nvm]
  | .scorepadPersist .. | .hoursCheckpoint .. =>
    [.nvm, .bytes]
  | .presenceAction .. =>
    [.nvm, .sec]
  | .keyLoad .. =>
    [.tables, .keys]
  | .serviceConsoleInput .. =>
    [.tick, .sec]
  | .traceFire .. =>
    [.tick, .traces]
  | .doorbell .. =>
    [.accepted, .ctx, .pwr]
  | .hostJobCopy .. | .blockOpen .. =>
    [.ctx, .cut, .lnk]
  | .unload .. | .rewind .. =>
    [.ctx, .decks, .pwr]
  | .store .. =>
    [.ctx, .nvm, .bytes]
  | .ctxResetComplete .. | .cutterEpoch .. =>
    [.ctx, .tables, .img]
  | .ctxReset .. =>
    [.ctx, .tables, .pwr]
  | .slotWriteDone .. =>
    [.img, .nvm, .bytes]
  | .formatEpoch .. =>
    [.tables, .img, .decks]
  | .linkTraining .. | .trainingStepTimeout .. | .tapUpdateIr .. =>
    [.ctx, .img, .decks, .loops]
  | .nvmOperationComplete .. =>
    [.ctx, .img, .nvm, .bytes]
  | .blockCoded .. =>
    [.ctx, .tables, .cut, .lnk]
  | .load .. | .partDelete .. =>
    [.ctx, .tables, .decks, .pwr]
  | .writeSlot .. =>
    [.img, .nvm, .bytes, .lnk]
  | .cut .. | .uncut .. =>
    [.tick, .ctx, .cut, .lnk]
  | .paceSample .. | .servoRecord .. | .reelRecord .. =>
    [.ctx, .img, .decks, .loops, .traces]
  | .abortRequest .. | .keyZeroise .. | .keyClearAll .. =>
    [.ctx, .tables, .cut, .keys, .lnk]
  | .write .. =>
    [.ctx, .tables, .decks, .lnk, .pwr]
  | .imageActivate .. =>
    [.ctx, .tables, .img, .decks, .loops]
  | .sleepExit .. =>
    [.img, .decks, .loops, .lnk, .pwr]
  | .locate .. | .space .. =>
    [.tick, .ctx, .tables, .decks, .pwr]
  | .telemetryDiscardLimit .. | .reversalTimeout .. | .jasStopRequest .. | .deckEstop .. | .hbmCattrip .. | .laneLockTimeout ..
  | .linkAlert .. | .creditTimeout .. | .statusTimeout .. | .regRespTimeout .. | .deckPresenceChange .. | .deckFault .. =>
    [.ctx, .tables, .cut, .decks, .loops, .lnk]
  | .blockClose .. =>
    [.ctx, .tables, .cut, .keys, .img, .lnk]
  | .debugLevelWrite .. =>
    [.ctx, .tables, .cut, .keys, .lnk, .sec]
  | .read .. | .blockDecode .. =>
    [.tick, .ctx, .cut, .decks, .lnk, .pwr]
  | .trickBegin .. | .thermalShutdown .. =>
    [.ctx, .tables, .cut, .decks, .loops, .lnk, .pwr]
  | .linkEnableWrite .. | .linkRetrain .. =>
    [.ctx, .tables, .cut, .img, .decks, .loops, .lnk]
  | .mark .. | .flush .. | .sync .. | .pass .. | .roundWriteStart .. =>
    [.ctx, .tables, .cut, .keys, .decks, .lnk, .pwr]
  | .dmaReadTimeout .. =>
    [.ctx, .tables, .cut, .keys, .img, .decks, .lnk]
  | .tamperedEntry .. =>
    [.ctx, .tables, .cut, .keys, .nvm, .lnk, .sec]
  | .poolWaitResume .. | .facetDecode .. | .trickMissing .. | .retryPass .. =>
    [.tick, .ctx, .tables, .cut, .decks, .lnk, .pwr]
  | .facetGrade .. =>
    [.tick, .ctx, .tables, .cut, .decks, .loops, .lnk]
  | .seat .. | .packItem .. | .fixedSeatTurn .. | .seal .. =>
    [.tick, .ctx, .tables, .cut, .keys, .decks, .lnk]
  | .powerFail .. | .supplyMonitorTrip .. =>
    [.ctx, .tables, .cut, .decks, .loops, .nvm, .lnk, .pwr]
  | .status .. | .deckReset .. =>
    [.ctx, .tables, .cut, .img, .decks, .loops, .lnk, .pwr]
  | .stopComplete .. | .linkLoss .. | .dozeExit .. | .warmReset .. =>
    [.ctx, .tables, .cut, .img, .decks, .loops, .traces, .lnk, .pwr]
  | .polisherAccess .. =>
    [.tick, .ctx, .tables, .cut, .keys, .decks, .loops, .lnk, .pwr]
  | .handshakeStall .. | .xtalStartTimeout .. =>
    [.ctx, .tables, .cut, .img, .decks, .loops, .nvm, .lnk, .sec, .pwr]
  | .dmaCompletionReceive .. =>
    [.tick, .ctx, .tables, .cut, .keys, .img, .decks, .nvm, .bytes, .lnk, .pwr]
  | .completionWrite .. =>
    [.ctx, .tables, .cut, .keys, .img, .decks, .loops, .traces, .nvm, .bytes, .lnk, .sec, .pwr]
  | .por .. | .coldReset .. =>
    [.tick, .ctx, .tables, .cut, .keys, .img, .decks, .loops, .traces, .nvm, .bytes, .lnk, .sec, .pwr]
  | .registerWrite .. =>
    [.tick, .accepted, .ctx, .tables, .cut, .keys, .img, .decks, .loops, .traces, .nvm, .bytes, .lnk, .sec, .pwr]

end Sys2Proof
end

