-- ==== Sys2Proof/Certificates/Slice0/Obligations.lean ====
section
/-! DEFINITION. The statements about this model, grouped by the families of commands. Where nothing else is said a statement is about
states in which SCAN is not in effect (R413), and the state that a command answers is given before the check of the TAP instruction
in effect (R407), which TapCheckAfterEveryCommand describes. -/

open Sys2Proof Sys2Proof.Machine

/-! ### Presence, the seal loop, security states, debug levels (R342 to R354) -/

/-- The button and the jumper change only their own part of the security state; a stuck button raises event 426 once; removing the jumper
closes an open window with event 417 reason 3 (R342, R343, R345). Each of these commands completes, with its own effect, in every state that
meets the conditions named: buttonPressed, buttonReleased, buttonStuck, jumperFitted, jumperRemoved. -/
def Obligations.PresencePinsSetTheirState : Prop :=
  ∀ s : State, Live s →
    (s.sec.button = false → exec .buttonPressed s = .next (withdrawTap { s with sec := { s.sec with button := true, void := false } }))
    ∧ exec .buttonReleased s = .next (withdrawTap
      { s with sec := { s.sec with button := false, armed := true, stuck := false, void := false } })
    ∧ (s.sec.button = true → s.sec.stuck = false →
        exec .buttonStuck s = .next (withdrawTap (raise 426 [] { s with sec := { s.sec with stuck := true, armed := false } })))
    ∧ exec .jumperFitted s = .next (withdrawTap { s with sec := { s.sec with jumper := true } })
    ∧ (s.sec.jumper = true → s.sec.window = false →
        exec .jumperRemoved s = .next (withdrawTap { s with sec := { s.sec with jumper := false, void := s.sec.button && s.sec.armed } }))
    ∧ (s.sec.jumper = true → s.sec.window = true →
        exec .jumperRemoved s = .next (withdrawTap
          (raise 417 [3] { s with sec := { s.sec with jumper := false, void := s.sec.button && s.sec.armed
                                                      window := false, remain := 0 } })))

/-- An action of the button opens the window for WINDOW_S seconds, 10 to 300, with event 416; its expiry and CLOSE_WINDOW close it with
event 417 and their reasons; with the jumper off the action only raises event 426 (R343, R345). That opening again an open window raises no
event is the model's reading (DEDUCED, log entry 38). Each of these commands completes, with its own effect, in every state that meets the
conditions named: presenceAction, presenceWindowExpiry, closeWindow. -/
def Obligations.PresenceWindowOpensAndCloses : Prop :=
  ∀ s : State, Live s →
    let act := { s.sec with armed := false }
    let w := s.fld Reg.secPresenceCfg Fld.secPresenceCfgWindowS
    (s.sec.button = true → s.sec.armed = true → s.sec.stuck = false → s.sec.void = false →
      (s.sec.jumper = false → exec .presenceAction s = .next (withdrawTap (raise 426 [] { s with sec := act })))
      ∧ (s.sec.jumper = true → s.sec.state ≠ 2 → s.sec.window = false →
          (∃ t, exec .presenceAction s = .next (withdrawTap t) ∧
            ∃ r, 10 ≤ r ∧ r ≤ 300 ∧ (10 ≤ w → w ≤ 300 → r = w) ∧ (w < 10 → r = 10) ∧ (300 < w → r = 300)
              ∧ t = raise 416 [] { s with sec := { act with window := true, remain := r } })))
    ∧ (s.sec.window = true →
        exec .presenceWindowExpiry s = .next (withdrawTap (raise 417 [1] { s with sec := { s.sec with window := false, remain := 0 } }))
        ∧ exec .closeWindow s = .next (withdrawTap (raise 417 [2] { s with sec := { s.sec with window := false, remain := 0 } })))

/-- SERVICE is entered from SEALED with a window open and event 422; leaving it lowers D2 to D1 with event 423; OPEN is armed with the
confirmation word and event 427, and disarmed freely (R351, R352). Without a presence window these requests are refused: nothing changes but
the count of refused writes, the offset of the last one, and event 418 with that offset (R344). Each of these commands completes, with its
own effect, in every state that meets the conditions named: enterService, openArm, leaveService, openDisarm. -/
def Obligations.SecurityStateRequestsNeedPresence : Prop :=
  (∀ s : State, Live s →
     (s.sec.window = true → s.sec.state = 0 →
       exec .enterService s = .next (withdrawTap (raise 422 [] { s with sec := { s.sec with state := 1 } }))
       ∧ exec (.openArm 0x5EC0) s = .next (withdrawTap (raise 427 [] { s with sec := { s.sec with openPending := true } })))
     ∧ (s.sec.state = 1 → s.sec.debug ≠ 2 →
       exec .leaveService s = .next (withdrawTap (raise 422 [] { s with sec := { s.sec with state := 0 } })))
     ∧ (s.sec.state = 1 → s.sec.debug = 2 →
         (∃ t, exec .leaveService s = .next (withdrawTap t) ∧
           t.sec = { s.sec with state := 0, debug := 1 }
           ∧ t = raise 423 [] { raise 422 [] { s with sec := { s.sec with state := 0 } } with sec := t.sec }))
     ∧ exec .openDisarm s = .next (withdrawTap { s with sec := { s.sec with openPending := false } }))
  ∧ (∀ (s : State) (conf : BitVec 16), Live s → s.sec.window = false →
       ∀ c ∈ [(Instr.enterService, Reg.secControl), (.openArm conf, Reg.secControl), (.scorepadClear, Reg.evtSpCtrl)],
         (∃ t, exec c.1 s = .next (withdrawTap t) ∧
           t.fld Reg.secRefused Fld.secRefusedWrites
               = min (2 ^ Fld.secRefusedWrites.width - 1) (s.fld Reg.secRefused Fld.secRefusedWrites + 1)
           ∧ t.fld Reg.secRefusedAddr Fld.secRefusedAddrOffset = c.2 % 2 ^ Fld.secRefusedAddrOffset.width
           ∧ SameRegsBut [Reg.secRefused, Reg.secRefusedAddr] s t
           ∧ t = raise 418 [word c.2] { s with regs := t.regs }))

/-- The debug level is raised with event 423 where a window is open and the security state allows it, is lowered at any time below D3, and a
raise that the state forbids is left alone with event 424 (R354, Table 16-2). Each of these commands completes, with its own effect, in
every state that meets the conditions named: debugLevelWrite. -/
def Obligations.DebugLevelRequests : Prop :=
  ∀ (s : State) (l : BitVec 2), Live s → s.sec.debug ≤ 3 →
    (l.toNat < s.sec.debug → s.sec.debug < 3 →
      exec (.debugLevelWrite l) s = .next (withdrawTap (raise 423 [] { s with sec := { s.sec with debug := l.toNat } })))
    ∧ (s.sec.debug = 3 → l ≠ 3 → exec (.debugLevelWrite l) s = .next (withdrawTap (raise 424 [] s)))
    ∧ (s.sec.debug < l.toNat → s.sec.window = true →
        (l = 1 ∧ s.sec.state ≠ 2 ∨ l = 2 ∧ (s.sec.state = 1 ∨ s.sec.state = 3) →
          exec (.debugLevelWrite l) s = .next (withdrawTap (raise 423 [] { s with sec := { s.sec with debug := l.toNat } })))
        ∧ (l = 1 ∧ s.sec.state = 2 ∨ l = 2 ∧ s.sec.state ≠ 1 ∧ s.sec.state ≠ 3 ∨ l = 3 ∧ s.sec.state ≠ 3 →
          exec (.debugLevelWrite l) s = .next (withdrawTap (raise 424 [] s))))

/-- The seal loop drives the low bit of its register x¹⁶ + x¹⁴ + x¹³ + x¹¹ + 1 and steps it; a pair of samples that are not the bit and its
complement is a mismatch with event 419, and ends the run of matching bits, which SEAL_RESTORED wants 1,000 long (R346, R347, R349). The
enable bit is set with a window open (R347). Each of these commands completes, with its own effect, in every state that meets the conditions
named: sealBit, sealRestored, sealEnableWrite. -/
def Obligations.SealLoopBit : Prop :=
  ∀ s : State, Live s →
    let b := s.sec.lfsr.getLsbD 0
    let nx := (s.sec.lfsr >>> 1) ||| (if s.sec.lfsr.getLsbD 0 ^^ s.sec.lfsr.getLsbD 2 ^^ s.sec.lfsr.getLsbD 3 ^^ s.sec.lfsr.getLsbD 5
                                      then 0x8000 else 0)
    let drv := emit (.sealBit b) s
    (s.flag Reg.secSeal Fld.secSealEnable = true →
      exec (.sealBit b (!b)) s = .next (withdrawTap
        { drv with sec := { s.sec with lfsr := nx, mismatch := 0, matching := min 1000 (s.sec.matching + 1) } })
      ∧ ∀ x y, ¬(x = b ∧ y = !b) →
          exec (.sealBit x y) s = .next (withdrawTap
            (raise 419 [] { drv with sec := { s.sec with lfsr := nx, mismatch := min 3 (s.sec.mismatch + 1), matching := 0
                                                         restored := false } })))
    ∧ (1000 ≤ s.sec.matching → exec .sealRestored s = .next (withdrawTap { s with sec := { s.sec with restored := true } }))
    ∧ (s.flag Reg.secSeal Fld.secSealEnable = false → s.sec.window = true →
        exec (.sealEnableWrite true) s = .next (withdrawTap (s.setFld Reg.secSeal Fld.secSealEnable 1)))

/-- The third mismatch in a row, or a fault of the seal's island, enters TAMPERED: the window closes, the level is D0, OPEN_PENDING is lost,
every key slot is empty, and TAMPERS counts (R347, R348). A tamper is acknowledged only by an action of the button after RESTORED: the state
is then SEALED, with event 421; before RESTORED the action raises event 426 and changes nothing else (R349). Each of these commands
completes, with its own effect, in every state that meets the conditions named: tamperedEntry, presenceAction. -/
def Obligations.TamperingClosesTheCore : Prop :=
  (∀ s : State, Live s → s.sec.state ≠ 2 → 3 ≤ s.sec.mismatch ∨ s.sec.sealFault = true →
     (∃ t, exec .tamperedEntry s = .next (withdrawTap t) ∧
       t.sec = { s.sec with openPending := false, state := 2, window := false, debug := 0
                            remain := if s.sec.window then 0 else s.sec.remain }
       ∧ (∀ k, t.keyAt k = {})
       ∧ t.fld Reg.secSeal Fld.secSealTampers = min (2 ^ Fld.secSealTampers.width - 1) (s.fld Reg.secSeal Fld.secSealTampers + 1)
       ∧ t.decks = s.decks ∧ t.loops = s.loops ∧ t.img = s.img ∧ t.pwr = s.pwr))
  ∧ (∀ s : State, Live s → s.sec.state = 2 → s.sec.button = true → s.sec.armed = true → s.sec.stuck = false → s.sec.void = false →
       s.sec.jumper = true →
       (s.sec.restored = false → exec .presenceAction s = .next (withdrawTap (raise 426 [] { s with sec := { s.sec with armed := false } })))
       ∧ (s.sec.restored = true →
           (∃ t, exec .presenceAction s = .next (withdrawTap t) ∧
             t.sec = { s.sec with armed := false, sealFault := false, mismatch := 0, state := 0 }
             ∧ t.keys = s.keys ∧ t.decks = s.decks ∧ t.regs = s.regs ∧ t.shoe = s.shoe)))

/-! ### Task windows, tasks, completions (R29 to R57) -/

/-- A word of the record area is stored, unless STATE is PENDING: then it is discarded with event 338 naming the context and the offset
(R33, R35). An abort request that names no task of the context answers NOT_FOUND, and one that names a task past its commit point is PENDING
until that task's completion, with nothing else changed; one that names a task not begun ends it as ABORTED, and CAUGHT will be its answer;
a request while one is PENDING is discarded (R52, R53). Each of these commands completes, with its own effect, in every state that meets the
conditions named: taskRecordWrite, abortRequest. -/
def Obligations.RecordsAreTakenAndAborted : Prop :=
  (∀ (s : State) (n : Fin 4096) (k : Fin 16) (v : Word), Live s →
     (s.fld (Reg.tskStatus n) Fld.tskStatusState ≠ 1 →
       (∃ t, exec (.taskRecordWrite n k v) s = .next (withdrawTap t) ∧
         t.reg (Reg.tskRecord n k) = v ∧ SameRegsBut [Reg.tskRecord n k] s t ∧ t = { s with regs := t.regs }))
     ∧ (s.fld (Reg.tskStatus n) Fld.tskStatusState = 1 →
         exec (.taskRecordWrite n k v) s = .next (withdrawTap (raise 338 [word n, word (Reg.tskRecord n k)] s))))
  ∧ (∀ (s : State) (n : Fin 4096) (tag : Word), Live s →
       let r := Reg.tskAbortResult n
       (s.fld r Fld.tskAbortResultState = 1 → exec (.abortRequest n tag) s = .next (withdrawTap s))
       ∧ (s.fld r Fld.tskAbortResultState ≠ 1 → (∀ u ∈ (s.ctxAt n).tasks, u.tag ≠ tag.toNat) →
           (∃ t, exec (.abortRequest n tag) s = .next (withdrawTap t) ∧
             t.fld r Fld.tskAbortResultState = 4
             ∧ t.fld r Fld.tskAbortResultSeq = (s.fld r Fld.tskAbortResultSeq + 1) % 2 ^ Fld.tskAbortResultSeq.width
             ∧ SameRegsBut [r] s t ∧ t = { s with regs := t.regs }))
       ∧ (∀ u, s.fld r Fld.tskAbortResultState ≠ 1 → (s.ctxAt n).tasks.find? (fun u => u.tag == tag.toNat) = some u → u.committed = true →
           (∃ t, exec (.abortRequest n tag) s = .next (withdrawTap t) ∧
             t.fld r Fld.tskAbortResultState = 1
             ∧ t.ctxAt n = { s.ctxAt n with abortWait := some (u.seq, false) }
             ∧ SameRegsBut [r] s t ∧ t = { s with regs := t.regs, ctx := t.ctx }))
       ∧ (∀ u, s.fld r Fld.tskAbortResultState ≠ 1 → (s.ctxAt n).tasks.find? (fun u => u.tag == tag.toNat) = some u → u.unbegun = true →
           u.opcode ≠ 1 → u.opcode ≠ 2 → (s.ctxAt n).reader = none → (s.ctxAt n).job = none →
           (∃ t, exec (.abortRequest n tag) s = .next (withdrawTap t) ∧
             t.fld r Fld.tskAbortResultState = 1
             ∧ (t.ctxAt n).abortWait = some (u.seq, true)
             ∧ (∀ x ∈ (t.ctxAt n).tasks, x.seq = u.seq → x.stage = .done { status := 0x11 })
             ∧ (∀ m, m ≠ n.val → t.ctxAt m = s.ctxAt m)
             ∧ SameRegsBut [r] s t ∧ Touches [.regs, .ctx, .lnk] s t)))

/-- A doorbell counts in SEQ and shows its outcome in STATE: 3 where the context is not enabled, is in reset, or holds its quota; 4 where
the device holds 32,768 tasks; else 2, and the record area becomes the context's newest task. A doorbell while STATE is PENDING changes
nothing and raises event 338 (R32, R34, R35). Each of these commands completes, with its own effect, in every state that meets the
conditions named: doorbell. -/
def Obligations.DoorbellAcceptsOrRefuses : Prop :=
  ∀ (s : State) (n : Fin 4096) (v : Word), Live s →
    let st := Reg.tskStatus n
    let off := s.flag (Reg.ctxControl n) Fld.ctxControlEnable = false ∨ s.flag (Reg.ctxControl n) Fld.ctxControlReset = true
                ∨ min 32768 (s.fld (Reg.ctxQuota n) Fld.ctxQuotaMaxTasks) ≤ (s.ctxAt n).tasks.length
    (s.fld st Fld.tskStatusState = 1 → exec (.doorbell n v) s = .next (withdrawTap (raise 338 [word n, word (Reg.tskDoorbell n)] s)))
    ∧ (s.fld st Fld.tskStatusState ≠ 1 → off →
        (∃ t, exec (.doorbell n v) s = .next (withdrawTap t) ∧
          t.fld st Fld.tskStatusState = 3
          ∧ t.fld st Fld.tskStatusSeq = (s.fld st Fld.tskStatusSeq + 1) % 2 ^ Fld.tskStatusSeq.width
          ∧ SameRegsBut [st] s t ∧ t = { s with regs := t.regs }))
    ∧ (s.fld st Fld.tskStatusState ≠ 1 → ¬off → 32768 ≤ totalInFlight s →
        (∃ t, exec (.doorbell n v) s = .next (withdrawTap t) ∧ t.fld st Fld.tskStatusState = 4 ∧ SameRegsBut [st] s t
          ∧ t = { s with regs := t.regs }))
    ∧ (s.fld st Fld.tskStatusState ≠ 1 → ¬off → totalInFlight s < 32768 → s.pwr.entering = none →
        s.flag (Reg.ctxDeferredStatus n) Fld.ctxDeferredStatusPending = false →
        (∃ t, exec (.doorbell n v) s = .next (withdrawTap t) ∧
          t.fld st Fld.tskStatusState = 2
          ∧ t.fld st Fld.tskStatusSeq = (s.fld st Fld.tskStatusSeq + 1) % 2 ^ Fld.tskStatusSeq.width
          ∧ t.ctxAt n = { s.ctxAt n with
              tasks := (s.ctxAt n).tasks ++ [{ seq := s.accepted
                                               bytes := bytesOf ((List.range 16).map (fun k => s.reg (Reg.tskRecord n k))) }] }
          ∧ (∀ m, m ≠ n.val → t.ctxAt m = s.ctxAt m)
          ∧ SameRegsBut [st] s t ∧ t = { s with regs := t.regs, accepted := s.accepted + 1, ctx := t.ctx }))

/-- A configuration register of a context is written by its fields' access codes while the context is disabled and has no task; a write to
an enabled or busy context, or of CTX_BIND while the context is seated, changes nothing and raises event 338. A context bound anew is no
longer the writer of the table it was bound to (R31, R60, R61). A CTX reset sets RESET and completes every task that has not begun as
ABORTED, leaving those that execute to run on; in DOZE RESET reads 1 at once and the reset itself waits for RUN; another context is
untouched. Once no task is left the context's CTX-class fields take their reset values (R8, R32, R366). Each of these commands completes,
with its own effect, in every state that meets the conditions named: ctxConfigWrite, ctxReset, ctxResetComplete. -/
def Obligations.ContextsAreConfiguredIdleAndReset : Prop :=
  (∀ (s : State) (n : Fin 4096) (reg : CtxConfigReg) (v : Word), Live s →
     let off := configOffset n reg
     (s.flag (Reg.ctxControl n) Fld.ctxControlEnable = true ∨ (s.ctxAt n).tasks ≠ [] →
       exec (.ctxConfigWrite n reg v) s = .next (withdrawTap (raise 338 [word n, word off] s)))
     ∧ (s.flag (Reg.ctxControl n) Fld.ctxControlEnable = false → (s.ctxAt n).tasks = [] → reg ≠ .bind →
         (∃ t, exec (.ctxConfigWrite n reg v) s = .next (withdrawTap t) ∧
           (∀ r, findReg off = some r → t.reg off = writtenReg (fun _ => true) r (s.reg off) v)
           ∧ SameRegsBut [off] s t ∧ t = { s with regs := t.regs }))
     ∧ (s.flag (Reg.ctxControl n) Fld.ctxControlEnable = false → (s.ctxAt n).tasks = [] → reg = .bind →
         (seated s n = true → exec (.ctxConfigWrite n reg v) s = .next (withdrawTap (raise 338 [word n, word off] s)))
         ∧ (seated s n = false → (∃ t, exec (.ctxConfigWrite n reg v) s = .next (withdrawTap t) ∧
             (∀ r, findReg off = some r → t.reg off = writtenReg (fun _ => true) r (s.reg off) v)
             ∧ (t.reg off ≠ s.reg off → ∀ e ∈ t.tables, e.2.holder ≠ some n.val)
             ∧ SameRegsBut [off] s t ∧ t = { s with regs := t.regs, tables := t.tables }))))
  ∧ (∀ (s : State) (n : Fin 4096), Live s →
       (s.flag (Reg.ctxControl n) Fld.ctxControlReset = false → s.pwr.warm = none → 4 ∉ s.pwr.wakeResets → s.pwr.state ≠ 2 →
         seated s n = false →
         (∃ t, exec (.ctxReset n) s = .next (withdrawTap t) ∧
           t.flag (Reg.ctxControl n) Fld.ctxControlReset = true
           ∧ (t.ctxAt n).tasks = (s.ctxAt n).tasks.map (fun u =>
               if u.unbegun then { u with stage := .done { status := 0x11 }, carrier := false } else u)
           ∧ (∀ m, m ≠ n.val → t.ctxAt m = s.ctxAt m)
           ∧ SameRegsBut [Reg.ctxControl n] s t ∧ t = { s with regs := t.regs, ctx := t.ctx }))
       ∧ (s.flag (Reg.ctxControl n) Fld.ctxControlReset = false → s.pwr.warm = none → 4 ∉ s.pwr.wakeResets → s.pwr.state = 2 →
           (∃ t, exec (.ctxReset n) s = .next (withdrawTap t) ∧
             5 + n.val ∈ t.pwr.wakeResets ∧ t.flag (Reg.ctxControl n) Fld.ctxControlReset = true
             ∧ SameRegsBut [Reg.ctxControl n] s t ∧ t = { s with regs := t.regs, pwr := t.pwr }))
       ∧ (s.flag (Reg.ctxControl n) Fld.ctxControlReset = true → (s.ctxAt n).tasks = [] → (s.ctxAt n).oldCutter = none →
           5 + n.val ∉ s.pwr.wakeResets →
           (∃ t, exec (.ctxResetComplete n) s = .next (withdrawTap t) ∧
             (t.ctxAt n).tasks = [] ∧ (t.ctxAt n).abortWait = none ∧ (t.ctxAt n).inq = []
             ∧ (∀ m, m ≠ n.val → t.ctxAt m = s.ctxAt m)
             ∧ t.flag (Reg.ctxControl n) Fld.ctxControlReset = false ∧ t.flag (Reg.ctxControl n) Fld.ctxControlEnable = false
             ∧ Touches [.regs, .sent, .evt, .ctx, .tables] s t)))

/-- A task whose record breaks the rules completes FIELD_RANGE with the first violation's location and value, and changes nothing else,
whatever the row it would begin (R39, R45). -/
def Obligations.BadRecordCompletesFieldRange : Prop :=
  ∀ (s : State) (n : Fin 4096) (u : Task) (loc v : Nat), Live s →
    ∀ c ∈ [(Instr.write n, 1), (.mark n, 2), (.flush n, 3), (.sync n, 4), (.read n, 5), (.locate n, 6), (.space n, 7), (.position n, 8),
           (.pass n, 9), (.barrier n, 0x0A), (.cut n, 0x0B), (.uncut n, 0x0C), (.meterRead n, 0x0D), (.load n, 0x10), (.unload n, 0x11),
           (.rewind n, 0x12), (.partCreate n, 0x13), (.partDelete n, 0x14), (.mediumFormat n, 0x15), (.seat n, 0x16), (.power n, 0x17),
           (.store n, 0x18), (.imageActivate n, 0x19)],
      startable s n c.2 = some u → u.checked = false → checkRecord s n u = some (loc, v) →
      exec c.1 s = .next (withdrawTap (finish n u.seq (fieldRange loc v) s))

/-- Tasks with little of their own to do: POSITION answers the context's position, BARRIER completes once it may begin (with GLOBAL once no
task accepted before it is in flight), METER_READ writes its entry to host memory (R47, R48, R402, R434). Each of these commands completes,
with its own effect, in every state that meets the conditions named: position, barrier, meterRead. -/
def Obligations.PositionBarrierMeterRead : Prop :=
  ∀ (s : State) (n : Fin 4096) (u : Task), Live s →
    (Begins s n 8 u → s.flag (Reg.ctxBind n) Fld.ctxBindBound = true →
      exec (.position n) s = .next (withdrawTap (finish n u.seq (positionResult (commence n u.seq s) n) (commence n u.seq s))))
    ∧ (Begins s n 8 u → s.flag (Reg.ctxBind n) Fld.ctxBindBound = false →
        exec (.position n) s = .next (withdrawTap (finish n u.seq (notReady 1) s)))
    ∧ (Begins s n 0x0A u → (u.field 8 1 = 1 → ∀ e ∈ s.ctx, ∀ x ∈ e.2.tasks, u.seq ≤ x.seq) →
        exec (.barrier n) s = .next (withdrawTap (finish n u.seq { status := 0 } (commence n u.seq s))))
    ∧ (Begins s n 0x0D u →
        (∃ t, exec (.meterRead n) s = .next (withdrawTap t) ∧
          t.sent = .hostWrite (u.field 16 8) (meterEntry (commence n u.seq s) (u.field 8 2) 0 (meterFlags s.evt)) :: s.sent
          ∧ t = { finish n u.seq { status := 0 } (commence n u.seq s) with sent := t.sent }))

/-- WRITE, READ and SEAT with a plan begin by reading their descriptors from host memory; WRITE's own data follows them, and MARK, FLUSH,
SYNC and PASS put their item behind the context's earlier ones, where the table is ready and nothing refuses them (R38, R66, R70, R75). A
task that cannot run completes NOT_READY with the first reason of Table 02-10 that holds, and changes nothing else; that the reasons are
taken in rising order is the model's choice (DESIGN CHOICE, log entry 10). Each of these commands completes, with its own effect, in every
state that meets the conditions named: write, read, mark, flush, sync, pass. -/
def Obligations.DataTasksBeginOrAreRefused : Prop :=
  (∀ (s : State) (n : Fin 4096) (u : Task), Live s →
     (Begins s n 1 u → u.checked = false → exec (.write n) s = .next (withdrawTap (startFetch n u.seq [(u.field 8 8, 16 * u.field 16 4)] s)))
     ∧ (Begins s n 5 u → exec (.read n) s = .next (withdrawTap (startFetch n u.seq [(u.field 8 8, 16 * u.field 16 4)] s)))
     ∧ (Begins s n 2 u → s.sec.state ≠ 2 → dataReason s n 2 = none → (enterTable n s).1 = true → fullRefusal (enterTable n s).2 n = none →
         exec (.mark n) s = .next (withdrawTap (pushInput n [.mark (u.field 8 4) u.seq] (commenceOpen n u.seq (enterTable n s).2))))
     ∧ (Begins s n 3 u → dataReason s n 3 = none → (enterTable n s).1 = true →
         exec (.flush n) s = .next (withdrawTap (pushInput n [.flush u.seq] (commence n u.seq (enterTable n s).2))))
     ∧ (Begins s n 4 u → dataReason s n 4 = none → (enterTable n s).1 = true →
         exec (.sync n) s = .next (withdrawTap (pushInput n [.sync u.seq] (commence n u.seq (enterTable n s).2))))
     ∧ (Begins s n 9 u → dataReason s n 9 = none → (enterTable n s).1 = true →
         exec (.pass n) s = .next (withdrawTap (pushInput n [.pass (u.field 8 4) u.seq] (commence n u.seq (enterTable n s).2)))))
  ∧ (∀ (s : State) (n : Fin 4096) (u : Task) (k : Nat), Live s → s.sec.state ≠ 2 →
       ∀ c ∈ [(Instr.mark n, 2), (.flush n, 3), (.sync n, 4), (.pass n, 9)],
         Begins s n c.2 u → dataReason s n c.2 = some k →
         exec c.1 s = .next (withdrawTap (finish n u.seq { status := 0x13, info2 := word k } s))
         ∧ (s.flag (Reg.ctxBind n) Fld.ctxBindBound = false ↔ k = 1))

/-- The entry of the oldest done task goes to its place in the context's ring, CTX_RING_TAIL counts it and the task is no longer in flight;
while the ring is full nothing is written and the stall raises event 339 once (R40 to R43). The chosen carrier of a pending deferred error
does not execute: its entry carries the error as it stands, and STATUS.PENDING is cleared, while the rest of the error's registers keep what
they say (R50). Each of these commands completes, with its own effect, in every state that meets the conditions named: completionWrite,
deferredErrorDelivery. -/
def Obligations.CompletionsAndDeferredErrors : Prop :=
  (∀ (s : State) (n : Fin 4096) (u : Task) (c : Completion) (rest : List Task), Live s → (s.ctxAt n).tasks = u :: rest → u.stage = .done c →
     s.pwr.entering = none → restoreOpcodes.contains u.opcode = false →
     let tail := s.reg (Reg.ctxRingTail n)
     let log := ringLog s n
     (ringFull s n = false → (s.ctxAt n).abortWait = none → u.notify = false →
       s.flag (Reg.ctxRingCtrl n) Fld.ctxRingCtrlNotifyAll = false →
       (∃ t, exec (.completionWrite n) s = .next (withdrawTap t) ∧
         t.sent = .ringWrite (ringBase s n + 32 * (tail.toNat % 2 ^ log)) 
             (entryRecord u (1 - tail.toNat / 2 ^ log % 2) (spanned s n u (buffered s n u c))) :: s.sent
         ∧ t.reg (Reg.ctxRingTail n) = tail + 1 ∧ SameRegsBut [Reg.ctxRingTail n] s t
         ∧ (t.ctxAt n).tasks = rest.filter (fun x => x.seq != u.seq)
         ∧ (∀ m, m ≠ n.val → t.ctxAt m = s.ctxAt m)
         ∧ t = { s with sent := t.sent, regs := t.regs, ctx := t.ctx }))
     ∧ (ringFull s n = true → (s.ctxAt n).ringStall = false →
         exec (.completionWrite n) s = .next (withdrawTap (raise 339 [word n] (s.onCtx n (fun x => { x with ringStall := true }))))))
  ∧ (∀ (s : State) (n : Fin 4096) (u : Task) (rest : List Task), Live s → (s.ctxAt n).tasks = u :: rest → u.carrier = true →
       u.unbegun = true → ringFull s n = false →
       (∃ t, exec (.deferredErrorDelivery n) s = .next (withdrawTap t) ∧
         t.fld (Reg.ctxDeferredStatus n) Fld.ctxDeferredStatusPending = 0 ∧ t.reg (Reg.ctxDeferredCount n) = s.reg (Reg.ctxDeferredCount n)
         ∧ (∃ e ∈ t.sent, e = .ringWrite (ringBase s n + 32 * ((s.reg (Reg.ctxRingTail n)).toNat % 2 ^ ringLog s n))
             (entryRecord u (phaseOf (s.reg (Reg.ctxRingTail n)).toNat (ringLog s n)) (deferredCompletion s n)))
         ∧ (∀ m, m ≠ n.val → t.ctxAt m = s.ctxAt m)
         ∧ Touches [.regs, .sent, .evt, .ctx] s t))

/-! ### Engines, blocks, host jobs, pools' waiters (R66 to R118) -/

/-- A free engine in service takes the oldest block of the queue that weighted round robin serves next, and no engine out of service takes
any (R100, R101). Weighted round robin serves only a queue that has work, serves some queue whenever a queue with work has a weight, and one
of weight 0 only while the other two are empty (R101). A write to CUT_ENG_OFF stores the bits, raises event 289 for every engine newly off,
and returns the mismatch counts of the engines in service (R94, R100). Each of these commands completes, with its own effect, in every state
that meets the conditions named: engineDispatch, engineOffWrite. -/
def Obligations.EnginesServeTheirQueues : Prop :=
  (∀ (s : State) (e : Fin 64), Live s →
     (engineOff s e = true ∨ engineBusy s e = true → exec (.engineDispatch e) s = .next (withdrawTap s))
     ∧ (∀ q v, engineOff s e = false → engineBusy s e = false →
         pickQueue (weights s) (liveQueues s).served
           (!(liveQueues s).writeQ.isEmpty, !(liveQueues s).restoreQ.isEmpty, !(liveQueues s).jobQ.isEmpty) = some (q, v) →
         (∃ t, exec (.engineDispatch e) s = .next (withdrawTap t) ∧
           (∃ w, t.cut.busy = s.cut.busy ++ [(e.val, w)] ∧ liveWork s w = true
             ∧ (q = 0 ∧ w :: t.cut.writeQ = (liveQueues s).writeQ ∨ q = 1 ∧ w :: t.cut.restoreQ = (liveQueues s).restoreQ
                 ∨ 2 ≤ q ∧ w :: t.cut.jobQ = (liveQueues s).jobQ))
           ∧ t.cut.served = v ∧ Touches [.ctx, .cut] s t)))
  ∧ (∀ (w v : Nat × Nat × Nat) (a b c : Bool),
       (∀ q u, pickQueue w v (a, b, c) = some (q, u) →
         (q = 0 ∧ a = true ∨ q = 1 ∧ b = true ∨ q = 2 ∧ c = true)
         ∧ (q = 0 → w.1 = 0 → b = false ∧ c = false) ∧ (q = 1 → w.2.1 = 0 → a = false ∧ c = false)
         ∧ (q = 2 → w.2.2 = 0 → a = false ∧ b = false))
       ∧ (a = true ∧ 0 < w.1 ∨ b = true ∧ 0 < w.2.1 ∨ c = true ∧ 0 < w.2.2 → pickQueue w v (a, b, c) ≠ none))
  ∧ (∀ (s : State) (hi : Bool) (v : Word), Live s →
       (∃ t, exec (.engineOffWrite hi v) s = .next (withdrawTap t) ∧
         t.reg (engineOffReg (if hi then 32 else 0)) = v
         ∧ SameRegsBut [engineOffReg (if hi then 32 else 0)] s t
         ∧ t.cut.busy = s.cut.busy ∧ t.cut.writeQ = s.cut.writeQ
         ∧ Touches [.regs, .sent, .evt, .cut] s t))

/-- An open block that may close becomes the context's newest block, takes the Cutter's version and epoch of the moment, and joins the write
queue (R81, R101). The block waits with its data whole: nothing of it is lost or added; a PASS before its first byte stays before it. An
engine that finishes a write block leaves it coded and is free; one with a parity error codes it again from its start, with event 290 (R94,
R95). The block of a READ that an engine has decoded goes on to the READ's buffers, or ends the READ with event 291 and its check's number;
a parity error decodes it again (R95, R96, R208). Each of these commands completes, with its own effect, in every state that meets the
conditions named: blockClose, blockCoded, blockDecode. -/
def Obligations.BlocksAreClosedCodedAndDecoded : Prop :=
  (∀ (s : State) (n : Fin 4096) (f : Forming) (rest : List InItem), Live s → (s.ctxAt n).epochDue = false → (s.ctxAt n).openLatch ≠ none →
     blockOpen (s.ctxAt n).inq = true → formWalk (ctxLimit s n) (ctxSpan s n) {} (s.ctxAt n).inq = some (f, rest) →
     (∃ t, exec (.blockClose n) s = .next (withdrawTap t) ∧
       ∃ b, b.data = f.data ∧ b.ends = f.ends ∧ b.tasks = f.tasks ∧ b.id = (s.ctxAt n).formed ∧ b.before = leadingPasses (s.ctxAt n).inq
         ∧ t = settleHead n (latchOpen n
             { s.putCtx n { s.ctxAt n with inq := f.passes.drop (leadingPasses (s.ctxAt n).inq).length ++ rest
                                           blocks := (s.ctxAt n).blocks ++ [b], openLatch := none
                                           formed := (s.ctxAt n).formed + 1
                                           epochDue := (s.ctxAt n).epochDue || (s.ctxAt n).oldCutter.isSome }
               with cut := { s.cut with writeQ := s.cut.writeQ ++ [.write n b.id] } })))
  ∧ (∀ (s : State) (e : Fin 64) (n id : Nat) (b : Block), Live s → engineWork s e = some (.write n id) → findBlock s n id = some b →
       exec (.blockCoded e .good) s = .next (withdrawTap
         (onBlock n b.id (fun x => { x with stage := .coded (codeBlock b.version b) }) (freeEngine e s)))
       ∧ (∃ t, exec (.blockCoded e .parity) s = .next (withdrawTap t) ∧
           t.cut = { s.cut with busy := s.cut.busy.filter (fun x => x.1 != e.val), writeQ := .write n id :: s.cut.writeQ }
           ∧ Touches [.ctx, .cut, .sent, .evt] s t))
  ∧ (∀ (s : State) (e : Fin 64) (n : Nat) (r : Reader) (bytes : List Byte), Live s → engineWork s e = some (.restore n) →
       (s.ctxAt n).reader = some r → r.opened = some bytes →
       (∀ x, decodeBlock (blockVersions s) bytes = .ok x → exec (.blockDecode e false) s = .next (withdrawTap (consume n x (freeEngine e s))))
       ∧ (∀ k, decodeBlock (blockVersions s) bytes = .error k →
           exec (.blockDecode e false) s = .next (withdrawTap
             (failRead n (result2 0x18 0 ((r.block.map (fun b => b.firstObj)).getD 0)) (raise 291 [word k, word e] (freeEngine e s)))))
       ∧ exec (.blockDecode e true) s = .next (withdrawTap
         (raise 290 [word e] { s with cut := { (freeEngine e s).cut with restoreQ := .restore n :: s.cut.restoreQ } })))

/-- A coded block at the head of its context is sealed under its latched key, salt and counter, takes the stream's next BSN and object
numbers, and leaves for the Dealer; where the pool has no chips it waits for them, and packing goes on (R73, R103, R107). A block of a READ
that carries a good tag waits, opened, for an engine; one whose tag fails ends the READ with event 323, which carries the context, the
stream identifier and the BSN (R106, R118, R122). Each of these commands completes, with its own effect, in every state that meets the
conditions named: seal, blockOpen. -/
def Obligations.BlocksAreSealedAndOpened : Prop :=
  (∀ (s : State) (n : Fin 4096) (l : Fin 32) (b : Block) (rest : List Block) (code : List Byte), Live s →
     failingHead (s.ctxAt n) = none → (s.ctxAt n).blocks = b :: rest → b.stage = .coded code → code.length ≤ 262176 →
     let r := allocate (chipsFor (code.length + 16)) (sealedPool s (bindDeck s n)) 1 n s
     (∀ chips, r.1 = some chips →
       exec (.seal n l) s = .next (withdrawTap
         (sealHead n b code chips (r.2.onTable (bindDeck s n) (bindPart s n) (fun t => { t with sealWait := none })))))
     ∧ (r.1 = none → exec (.seal n l) s = .next (withdrawTap (waitSealed (bindDeck s n) (bindPart s n) (sealedPool s (bindDeck s n)) r.2))))
  ∧ (∀ (s : State) (n : Fin 4096) (l : Fin 32) (r : Reader) (b : Sealed) (k : Nat) (key : List Byte), Live s →
       (s.ctxAt n).reader = some r → r.block = some b → r.key = some (k, key) → r.opened = none →
       let h := b.bytes.take 32
       let res := gcmOpen key (sealIv b.salt b.ctr) (sealAad h b.stream b.label) (slice b.bytes 32 (b.bytes.length - 48))
         (b.bytes.drop (b.bytes.length - 16))
       (∀ text, res = some text →
         (∃ t, exec (.blockOpen n l) s = .next (withdrawTap t) ∧
           (t.ctxAt n).reader = some { r with opened := some (h ++ text) } ∧ t.cut = { s.cut with restoreQ := s.cut.restoreQ ++ [.restore n] }
           ∧ (∀ m, m ≠ n.val → t.ctxAt m = s.ctxAt m) ∧ t = { s with ctx := t.ctx, cut := t.cut }))
       ∧ (res = none → exec (.blockOpen n l) s = .next (withdrawTap
         (raise 323 [word n, b.stream, b.bsn] (failRead n (result2 0x17 0 b.firstObj) s)))))

/-- Opening what sealing made gives the text back: AES-256 in Galois/Counter Mode under one key, IV and associated data (R104 to R106,
R118). -/
def Obligations.SealedTextOpens : Prop :=
  ∀ (key iv aad text : List Byte),
    gcmOpen key iv aad (gcmSeal key iv aad text).1 (gcmSeal key iv aad text).2 = some text

/-- CUT reserves its staging and UNCUT reads its source at once, each as the context's host job; a finished job is copied to the host in one
pass, its commit point (R97 to R99). Once packing has freed chips a context below its quota fetches its record data again; a pool that has
more chips free than when a table's wait began wakes it (R72, R73; that the wait is over then is the model's reading, log entry 133). Each
of these commands completes, with its own effect, in every state that meets the conditions named: cut, uncut, hostJobCopy, fetchResume,
poolWaitResume. -/
def Obligations.HostJobsAndFreedChips : Prop :=
  (∀ (s : State) (n : Fin 4096) (u : Task) (j : Job), Live s →
     let cutter := ctxCutter s n
     let lim := jobLimit u cutter
     (Begins s n 0x0B u → s.sec.state ≠ 2 →
       exec (.cut n) s = .next (withdrawTap
         (reserve n (chipsFor (min (u.field 32 4) (u.field 16 4 + 32 * ((u.field 16 4 + lim - 1) / lim)))) (fetchSource n)
           ((commenceOpen n u.seq s).onCtx n (fun c => { c with job := some { task := u.seq, pool := stagePool s, cutter := cutter } })))))
     ∧ (Begins s n 0x0C u → s.sec.state ≠ 2 →
         exec (.uncut n) s = .next (withdrawTap
           (fetchSource n
           ((commenceOpen n u.seq s).onCtx n (fun c => { c with job := some { task := u.seq, isUncut := true, pool := stagePool s } })))))
     ∧ ((s.ctxAt n).job = some j → j.ready = true →
         (∃ t, exec (.hostJobCopy n) s = .next (withdrawTap t) ∧
           .hostWrite ((jobTask s n).field 24 8) j.out ∈ t.sent ∧ (t.ctxAt n).job = none ∧ t.decks = s.decks ∧ t.tables = s.tables
           ∧ t.keys = s.keys)))
  ∧ (∀ s : State, Live s →
       (∀ (n : Fin 4096), (s.ctxAt n).fetchStopped = true → overChipQuota s n = false →
         (∃ t, exec (.fetchResume n) s = .next (withdrawTap t) ∧
           (t.ctxAt n).fetchStopped = false ∧ (∀ m, m ≠ n.val → t.ctxAt m = s.ctxAt m)
           ∧ Touches [.ctx, .sent, .lnk] s t))
       ∧ (∀ (k : Fin 64) (d p m : Nat), p < 64 → m < poolFree s k → (s.poolAt k).ready = true → s.ctx = [] →
           (s.tableAt d p).poolWait = some (k.val, m) →
           (∃ t, exec (.poolWaitResume k) s = .next (withdrawTap t) ∧ (t.tableAt d p).poolWait = none ∧ Touches [.tables] s t)))

/-! ### The Dealer, seats and deck tasks (R59 to R75, R173) -/

/-- The oldest item of an unseated or openly seated table is packed, in order of arrival; in fixed seating the awaited seat's item is packed
in its turn (R69, R70). Each of these commands completes, with its own effect, in every state that meets the conditions named: packItem,
fixedSeatTurn. -/
def Obligations.DealerPacksInOrder : Prop :=
  ∀ (s : State) (d : Fin 4) (p : Fin 64) (i : Item) (l : List Item), Live s → mayPack s d p = true →
    ((s.tableAt d p).mode ≠ 2 → (s.tableAt d p).items = i :: l →
      exec (.packItem d p) s = .next (withdrawTap (settlePack d p s (packItemOf d p i (s.putTable d p { s.tableAt d p with items := l })))))
    ∧ ((s.tableAt d p).mode ≠ 2 → (s.tableAt d p).items = i :: l →
        ∀ n q, i = .flush n q → exec (.packItem d p) s = .next (withdrawTap (s.putTable d p { s.tableAt d p with items := l })))
    ∧ ((s.tableAt d p).mode = 2 → (s.tableAt d p).plan ≠ [] → (s.tableAt d p).inTurn = true →
        (s.tableAt d p).turn.1 < (s.tableAt d p).plan.length → (s.tableAt d p).turn.2 ≠ 0 →
        passed (s.tableAt d p) (s.tableAt d p).turn.1 (s.tableAt d p).nextTrick = false →
        ∃ r, seatTurn d p s = r ∧ exec (.fixedSeatTurn d p) s = .next (withdrawTap
          (settlePack d p s (match r with
          | .error e => .error e
          | .ok s2 => if packingHeld s2 d p then .ok (vacate d p s2) else nextSeat d p ((s.tableAt d p).plan.length + 2) (vacate d p s2)))))

/-- A seat's wait that has lasted ALERT_MS raises event 340 once with the deck, partition, seat and context (R70). SEAT reads its plan
before anything else is asked of it; a plan that has been checked, or SEAT without a plan, seats the table (R62, R63). Each of these
commands completes, with its own effect, in every state that meets the conditions named: seatAlert, seat. -/
def Obligations.SeatsReadTheirPlanAndWait : Prop :=
  (∀ (s : State) (d : Fin 4) (p : Fin 64) (k : Nat), Live s → (s.tableAt d p).waiting = some k →
     s.fld Reg.dlrSeatAlert Fld.dlrSeatAlertAlertMs ≠ 0 →
     ((s.tableAt d p).alerted = false →
       (∃ t, exec (.seatAlert d p) s = .next (withdrawTap t) ∧
         (t.tableAt d p).alerted = true ∧ (t.tableAt d p).items = (s.tableAt d p).items
         ∧ t = raise 340 [word d, word p, word k, word ((s.tableAt d p).plan.getD k (0, 0)).1] { s with tables := t.tables }))
     ∧ ((s.tableAt d p).alerted = true → exec (.seatAlert d p) s = .next (withdrawTap s)))
  ∧ (∀ (s : State) (n : Fin 4096) (u : Task), Live s → Begins s n 0x16 u →
       (u.checked = false → u.field 10 1 ≠ 0 →
         exec (.seat n) s = .next (withdrawTap (startFetch n u.seq [(u.field 16 8, 16 * u.field 12 2)] s)))
       ∧ (u.checked = true ∨ u.field 10 1 = 0 → exec (.seat n) s = .next (withdrawTap (seatTable n u s))))

/-- LOAD, UNLOAD and REWIND begin once their deck may move; each then moves the tape or waits for the threading, PART_CREATE and
MEDIUM_FORMAT read their label first, and SEAT with a plan its descriptors (R55, R62, R173). Each of these commands completes, with its own
effect, in every state that meets the conditions named: unload, rewind, load, partCreate, mediumFormat, partDelete. -/
def Obligations.DeckTasksBegin : Prop :=
  ∀ (s : State) (n : Fin 4096) (u : Task), Live s →
    let d := u.field 8 1
    let a := commence n u.seq s
    groupQuiet s d = true → owesEnd s d = false →
    (Begins s n 0x11 u → moveRefusal n s d u = none → exec (.unload n) s = .next (withdrawTap (moveToStart d (setAdmin d (.unload n u.seq) a))))
    ∧ (Begins s n 0x12 u → moveRefusal n s d u = none →
      exec (.rewind n) s = .next (withdrawTap (moveToStart d (setAdmin d (.rewind n u.seq) a))))
    ∧ (Begins s n 0x10 u → loadRefusal n s d u = none →
        let b := forEach (groupOf a d) clearAtLoad (ejectGroup d a)
        exec (.load n) s = .next (withdrawTap (if threadedIn b d then readLead d n u.seq b else setAdmin d (.load n u.seq false) b)))
    ∧ (Begins s n 0x13 u → createRefusal n s d u = none → exec (.partCreate n) s = .next (withdrawTap (fetchLabel n u s)))
    ∧ (Begins s n 0x15 u → formatRefusal n s d u = none → exec (.mediumFormat n) s = .next (withdrawTap (fetchLabel n u s)))
    ∧ (Begins s n 0x14 u → deleteRefusal n s d u = none →
        (∃ t, exec (.partDelete n) s = .next (withdrawTap t) ∧
          Touches [.regs, .sent, .evt, .ctx, .tables, .decks, .pwr] s t
          ∧ (t.tableAt d (u.field 9 1)).known = false ∧ (t.tableAt d (u.field 9 1)).directory = []))

/-! ### Writing to tape, grading, reading back (R145 to R218) -/

/-- The encoder begins the first closed round that is not begun and not kept back, where no special trick is still to be written and the
tape has left an end-of-data behind it, and opens its stream; the end of data follows where it is due (R158, R168, R195, R308). A trick
begins only while the write stream goes on and every deck of the group is locked; a deck whose group has lost a lock is held, and writes on
as after an interruption. The trick that was fixed is the one written, and the next is fixed; at the end of a wrap the trick that was being
written ends and none begins (R172, R178, R253, R254, R435). At the end of a wrap all of whose facets are graded the wrap's summary is event
64d + 25, the wrap's counts restart, every track is GOOD again and the next wrap begins with a run-in; a deck that reads goes on along the
partition's next wrap; past the partition's last wrap nothing turns (R170, R186, R192, R249, R435). Each of these commands completes, with
its own effect, in every state that meets the conditions named: roundWriteStart, endOfDataWrite, trickBegin, wrapTurn. -/
def Obligations.TheEncoderWritesItsStream : Prop :=
  (∀ (s : State) (d : Fin 4), Live s → mayWrite s d = true →
     (∀ r, (s.deckAt d).toWrite = none → scriptOpen (s.deckAt d) = false → nextRound (s.deckAt d) = some r → (s.deckAt d).left = none →
       ((s.deckAt d).streamOpen = true → (s.deckAt d).eodWritten = false) →
       (∃ t, exec (.roundWriteStart d) s = .next (withdrawTap t) ∧
         (t.deckAt d).toWrite = some r.positions ∧ (t.deckAt d).streamOpen = true
         ∧ (∀ e, e ≠ d.val → t.deckAt e = s.deckAt e) ∧ Touches [.regs, .sent, .evt, .decks, .pwr] s t))
     ∧ (∀ p, activePart s d = some p → eodDue s d p = true →
         (∃ t, exec (.endOfDataWrite d) s = .next (withdrawTap t) ∧
           (t.deckAt d).script = eodTricks s d p ∧ (t.deckAt d).eodScript = true ∧ (t.deckAt d).streamOpen = true
           ∧ (∀ e, e ≠ d.val → t.deckAt e = s.deckAt e) ∧ Touches [.regs, .sent, .evt, .decks, .pwr] s t)))
  ∧ (∀ (s : State) (d : Fin 4) (tpc : Word) (left lw : Nat), Live s →
       let s1 := s.onDeck d (fun k => { k with left := some left, motion := { k.motion with tpc := tpc } })
       (writesOn s d = false ∨ (s.deckAt d).motion.locked = false ∧ d.val ∈ groupOf s d →
         exec (.trickBegin d tpc left lw) s = .next (withdrawTap s))
       ∧ (writesOn s d = true → (s.deckAt d).motion.locked = true → (∃ x ∈ groupOf s d, (s.deckAt x).motion.locked = false) →
           exec (.trickBegin d tpc left lw) s = .next (withdrawTap (holdForGroup d tpc left s)))
       ∧ (writesOn s d = true → (∀ x ∈ groupOf s d, (s.deckAt x).motion.locked = true) →
           (lw = 0 → exec (.trickBegin d tpc left lw) s = .next (withdrawTap (finishWriting d s1)))
           ∧ (∀ u, lw ≠ 0 → (s.deckAt d).writing = none → (s.deckAt d).fixed = some u → (s.deckAt d).needRunIn = false →
               closingReserve s1 d + 1 ≤ left →
               exec (.trickBegin d tpc left lw) s = .next (withdrawTap
                 (fixNext d (beginWriting d u tpc (s1.onDeck d (fun k => { k with fixed := none, reserveUsed := 0 }))))))))
  ∧ (∀ (s : State) (d : Fin 4), Live s →
       (nextWrapInPart s d = false → exec (.wrapTurn d) s = .next (withdrawTap s))
       ∧ (nextWrapInPart s d = true → (s.deckAt d).streamOpen = true → (s.deckAt d).mode = 1 → (s.deckAt d).writing = none →
         allGraded s d = true →
         (∃ t, exec (.wrapTurn d) s = .next (withdrawTap t) ∧
           (t.deckAt d).motion.wrap = (s.deckAt d).motion.wrap + 1 ∧ (t.deckAt d).retired = [] ∧ (t.deckAt d).needRunIn = true
           ∧ (t.deckAt d).motion.locked = false ∧ (∀ n, (trackAt (t.deckAt d) n).state = 0)
           ∧ (∀ x, x < 4 → t.reg (Reg.dkLoupeWrap d x) = 0) ∧ SameRegsBut ((List.range 4).map (fun x => Reg.dkLoupeWrap d x)) s t
           ∧ (∀ e, e ≠ d.val → t.deckAt e = s.deckAt e) ∧ Touches [.regs, .sent, .evt, .decks] s t))
       ∧ ((s.deckAt d).mode = 2 → nextWrapInPart s d = true →
           (∃ t, exec (.wrapTurn d) s = .next (withdrawTap t) ∧
             (t.deckAt d).motion.wrap = (s.deckAt d).motion.wrap + 1 ∧ (t.deckAt d).mode = 2 ∧ (t.deckAt d).seen = []
             ∧ (∀ e, e ≠ d.val → t.deckAt e = s.deckAt e) ∧ Touches [.regs, .sent, .evt, .decks] s t)))

/-- A facet is graded once its expected interval has been received, and not before; a facet on a retired track passes by without a grade.
Each trick that the grade touches is settled, while no controlled stop has begun (R177, R180, R191, R194). While a deck reads, the next sync
word of a track gives a facet: one whose header is good is taken by it, one whose header is bad is placed by its position on tape where
another facet of the track has told it, and else waits for one that does (R144, R197, R200, R201). A trick whose place has passed without
enough facets is missing, and reading goes on past it; an unrecovered hand is read again, with event 64d + 34, until the retries are used
up, and then its restore ends (R202, R206, R207). Each of these commands completes, with its own effect, in every state that meets the
conditions named: facetGrade, facetDecode, trickMissing, retryPass. -/
def Obligations.FacetsAreGradedDecodedAndRetried : Prop :=
  (∀ (s : State) (d : Fin 4) (n : Fin 1024) (u : Trick) (first : Nat), Live s →
     let k := s.deckAt d
     let f := deckFmt s d
     let i := Sparse.get 0 k.cursor n
     let q := i % f.slots
     let start := first + q * f.facetBits
     let s1 := s.onDeck d (fun k => { k with cursor := Sparse.set 0 k.cursor n (i + 1) })
     let settle := fun (i : Nat) (a : State) => if (a.deckAt d).motion.stopped then a else settleTrick d i a
     k.tape[i / f.slots]? = some (u, first) → n.val < f.nT →
     (receivedEnd (Sparse.get {} k.rx n) < start + f.facetBits + 33 → exec (.facetGrade d n) s = .next (withdrawTap s))
     ∧ (start + f.facetBits + 33 ≤ receivedEnd (Sparse.get {} k.rx n) →
         ((trackAt k n).state = 2 →
           let s3 := dropReceived d n (start + f.facetBits - 33) (passRetired d n q u s1)
           exec (.facetGrade d n) s = .next (withdrawTap (forEach (touched k (s3.deckAt d) u n q) settle s3)))
         ∧ ((trackAt k n).state ≠ 2 →
             let s3 := dropReceived d n (start + f.facetBits - 33) (gradeNow d n q start u s1)
             exec (.facetGrade d n) s = .next (withdrawTap (forEach (touched k (s3.deckAt d) u n q) settle s3)))))
  ∧ (∀ (s : State) (d : Fin 4) (n : Fin 1024) (b : List Byte) (o : Nat) (body : List Byte) (flagged : List Nat), Live s →
       let k := s.deckAt d
       let r := Sparse.get {} k.rx n
       let f := fmtOf b
       let at' := 16 * r.base + o
       let s0 := s.onDeck d (fun k => { k with synced := true, motion := { k.motion with pace := if k.motion.pace = 1 then 2 else k.motion.pace } })
       k.mode = 2 → k.motion.target = none → k.motion.pace ≠ 6 → nextSync (loadedFormats s d) n r.bits = some (b, o, body, flagged) →
       (headerValid body = true →
         exec (.facetDecode d n) s = .next (withdrawTap (goOn d (takeHeaded d n at' b body flagged (dropBits d n (o + f.facetBits) s0)))))
       ∧ (headerValid body = false →
           (∀ x, placeByPosition f n at' k.seen = some x →
             exec (.facetDecode d n) s = .next (withdrawTap (goOn d (takeFacet d at' b x body flagged (dropBits d n (o + 33) s0)))))
           ∧ (placeByPosition f n at' k.seen = none → exec (.facetDecode d n) s = .next (withdrawTap
               (goOn d ((dropBits d n (o + 33) s0).onDeck d (fun k =>
               { k with unplaced := k.unplaced ++ [(n.val, at', b, body, flagged)] })))))))
  ∧ (∀ (s : State) (d : Fin 4) (l : BitVec 40), Live s →
       let k := s.deckAt d
       let f := formatOfNext s (tableDeck s d) k.nextDeliver
       (k.admin = none → k.mode = 2 → k.nextDeliver ≤ l.toNat → k.ready f l.toNat = false → k.past f l.toNat = true →
         exec (.trickMissing d l) s = .next (withdrawTap (goOn d (s.putDeck d (k.onTrick l.toNat (fun t => { t with missing := true }))))))
       ∧ (∀ u p, k.unrecovered = some u → activePart s d = some p → k.gaveUp = false → k.retry < retryLimit s d →
           exec (.retryPass d) s = .next (withdrawTap
             (rereadRound d p ((forEach (groupOf s d) (fun x a => a.onDeck x (fun y => { y with retry := k.retry + 1 }))
             (raiseDeck d 34 [word (k.retry + 1)] (countRestore d 4 1 s))).onDeck d (fun y => { y with unrecovered := none })))))
       ∧ (∀ u p, k.unrecovered = some u → activePart s d = some p → k.gaveUp = false → retryLimit s d ≤ k.retry →
           exec (.retryPass d) s = .next (withdrawTap (endRestore d p u s))))

/-- A deck that has reached its target and whose tape is not wanted is IDLE, and a REWIND of its group completes; one whose tape is wanted
starts to read (R206, R248, Table 11-5). Each of these commands completes, with its own effect, in every state that meets the conditions
named: repositionComplete. -/
def Obligations.RepositionEndsInIdleOrReading : Prop :=
  ∀ (s : State) (d : Fin 4), Live s → (s.deckAt d).motion.target.isSome = true → (s.deckAt d).motion.pace = 1 ∨ (s.deckAt d).motion.pace = 5 →
    ((s.deckAt d).wanted = none →
      (∃ t, exec (.repositionComplete d) s = .next (withdrawTap t) ∧
        (t.deckAt d).motion.pace = 0 ∧ (t.deckAt d).motion.target = none ∧ (t.deckAt d).motion.wrap = 0
        ∧ ((s.deckAt d).admin = none → Touches [.regs, .sent, .evt, .decks] s t)
        ∧ (∀ n q, (s.deckAt d).admin = some (.rewind n q) → (t.deckAt d).admin = none
            ∧ (groupOf s d = [d.val] → t.ctx = (finish n q { status := 0 } s).ctx))
        ∧ (∀ e, e ≠ d.val → t.deckAt e = s.deckAt e) ∧ Touches [.regs, .sent, .evt, .ctx, .decks] s t))
    ∧ (∀ w, (s.deckAt d).wanted = some w →
        (∃ t, exec (.repositionComplete d) s = .next (withdrawTap t) ∧
          (t.deckAt d).motion.pace = 1 ∧ (t.deckAt d).motion.target = none ∧ (t.deckAt d).motion.wrap = w.1 ∧ (t.deckAt d).seen = []
          ∧ (∀ e, e ≠ d.val → t.deckAt e = s.deckAt e) ∧ Touches [.regs, .sent, .evt, .decks] s t))

/-! ### LOCATE and SPACE (R214 to R216) -/

/-- LOCATE by object ends at its target, or at the end of the data with END_OF_PARTITION; SPACE to the end ends there; an answer that needs
tape reads it first, and a backward SPACE beyond object 0 is FIELD_RANGE naming COUNT (R214 to R216). Each of these commands completes, with
its own effect, in every state that meets the conditions named: locate, space. -/
def Obligations.SeeksFindTheirTarget : Prop :=
  ∀ (s : State) (n : Fin 4096) (u t : Task), Live s →
    let d := bindDeck s n
    let p := bindPart s n
    let o := ((s.tableAt d p).stream (streamId s n)).objects
    let target := t.field 16 8
    let ends := fun (c : Completion) (pos : Nat) => finish n t.seq c (setPosition n pos s)
    ((Begins s n 6 u → restoreReason s n = none → u.opcode = 6 →
        exec (.locate n) s = .next (withdrawTap (pumpSeek n (commence n u.seq (makeActive d p s)))))
      ∧ (Begins s n 7 u → restoreReason s n = none → u.opcode = 7 →
          (spaceRefusal s n u = none → exec (.space n) s = .next (withdrawTap (pumpSeek n (commence n u.seq (makeActive d p s)))))
          ∧ (u.field 8 1 = 0 → signed 64 (u.field 16 8) < 0 → (position s n : Int) < - signed 64 (u.field 16 8) →
              exec (.space n) s = .next (withdrawTap (finish n u.seq (fieldRange 16 (u.field 16 8 % 2 ^ 32)) s)))))
    ∧ (startable s n 6 = none → startable s n 7 = none →
        (s.ctxAt n).tasks.find? (fun x => decide (x.stage = .running) && (x.opcode == 6 || x.opcode == 7)) = some t →
        (s.tableAt d p).known = true →
        (t.opcode = 6 → t.field 8 1 = 0 → target ≤ o → exec (.locate n) s = .next (withdrawTap (ends (result2 0 target 0) target)))
        ∧ (t.opcode = 6 → t.field 8 1 = 0 → o < target → exec (.locate n) s = .next (withdrawTap (ends (result2 3 0 o) o)))
        ∧ (t.opcode = 7 → t.field 8 1 = 2 → exec (.space n) s = .next (withdrawTap (ends (result2 0 o 0) o)))
        ∧ (findTarget s n t = none → exec (.space n) s = .next (withdrawTap (needTape d p false s))
          ∧ exec (.locate n) s = .next (withdrawTap (needTape d p false s))))

/-! ### Jasper: samples, locks, reversals, stops, coefficients, traces (R233 to R258) -/

/-- A sample of a loop whose control lane carries records is computed, and a late command counts, with event 64d + 56 at the start of a run;
a sample that was replaced is never used and counts as an overrun, with event 64d + 55; without a link no sample is taken (R233 to R235).
PACE is computed on the 32nd sample of the supply reel, for the deck whose reels lead its group, and the count starts again (R233, R254).
Each of these commands completes, with its own effect, in every state that meets the conditions named: servoRecord, reelRecord, paceSample.
-/
def Obligations.SamplesAreComputed : Prop :=
  (∀ (s : State) (d : Fin 4) (c q : Byte) (e : BitVec 24) (w : Word) (x y : BitVec 16) (lk fw tu : Bool), Live s →
     let l := if tu then 2 else 1
     (laneCarries s d = false →
       ∀ g, exec (.servoRecord d c e w q lk fw g) s = .next (withdrawTap s) ∧ exec (.reelRecord d c tu w x y g) s = .next (withdrawTap s))
     ∧ (laneCarries s d = true →
         exec (.servoRecord d c e w q lk fw .onTime) s = .next (withdrawTap (noteTiming d 3 false (computeLateral d c e w s)))
         ∧ exec (.servoRecord d c e w q lk fw .late) s = .next (withdrawTap (noteTiming d 3 true (computeLateral d c e w s)))
         ∧ exec (.reelRecord d c tu w x y .onTime) s = .next (withdrawTap (noteTiming d l false (computeReel d c tu w x s)))
         ∧ exec (.reelRecord d c tu w x y .late) s = .next (withdrawTap (noteTiming d l true (computeReel d c tu w x s)))
         ∧ (∃ t, exec (.servoRecord d c e w q lk fw .replaced) s = .next (withdrawTap t) ∧
             t.fld (Reg.jasTiming d) Fld.jasTimingOverrun
                 = min (2 ^ Fld.jasTimingOverrun.width - 1) (s.fld (Reg.jasTiming d) Fld.jasTimingOverrun + 1)
             ∧ t.decks = s.decks ∧ SameRegsBut [Reg.jasTiming d] s t ∧ Touches [.regs, .loops, .evt, .sent] s t)))
  ∧ (∀ (s : State) (d : Fin 4), Live s →
       ((s.deckAt d).motion.supplyCount = 32 → tableDeck s d = d → loopRuns s d 0 = true →
         exec (.paceSample d .onTime) s = .next (withdrawTap (noteTiming d 0 false (computePace d s))))
       ∧ ((s.deckAt d).motion.supplyCount ≠ 32 → ∀ g, exec (.paceSample d g) s = .next (withdrawTap s)))

/-- LATERAL locks after 64 samples within its tolerance, and once every deck of the group is locked writing that was interrupted goes on;
the tape's reels exchange roles once the tension window is met on every deck of the group; a reversal that waits too long and eight discards
in a row each stop the deck (R249 to R255). A requested stop, an emergency stop with event 64d + 51, and the stop's completion: both reels
in HOLD, pace IDLE, and event 64d + 50 with the causes; the pin's release alone lets nothing move (R256, R257). Each of these commands
completes, with its own effect, in every state that meets the conditions named: lateralLock, reversalTensionMet, reversalTimeout,
telemetryDiscardLimit, jasStopRequest, deckEstop, deckEstopReleased, stopComplete. -/
def Obligations.LocksReversalsAndStops : Prop :=
  (∀ (s : State) (d : Fin 4), Live s →
     let k := s.deckAt d
     (k.motion.lockRun = 64 → k.motion.locked = false →
       ((∃ x ∈ groupOf s d, x ≠ d.val ∧ (s.deckAt x).motion.locked = false) ∨ groupOf s d = [d.val] ∧ k.motion.gateOff = false
         ∧ k.needRunIn = false →
         (∃ t, exec (.lateralLock d) s = .next (withdrawTap t) ∧
           t.deckAt d = { k with motion := { k.motion with locked := true } }
           ∧ (∀ e, e ≠ d.val → t.deckAt e = s.deckAt e) ∧ t = { s with decks := t.decks }))
       ∧ ((∀ x ∈ groupOf s d, x ≠ d.val → (s.deckAt x).motion.locked = true) →
         exec (.lateralLock d) s = .next (withdrawTap
           (forEach (groupOf s d) resumeWriting (s.onMotion d (fun m => { m with locked := true }))))))
     ∧ (k.motion.pace = 6 → k.motion.tensionRun = 16 → groupOf s d = [d.val] →
         (∃ t, exec (.reversalTensionMet d) s = .next (withdrawTap t) ∧
           t.deckAt d = { k with motion := { k.motion with pace := k.motion.resume, modes := modesFor (signRat k.motion.request) } }
           ∧ (∀ e, e ≠ d.val → t.deckAt e = s.deckAt e) ∧ t = { s with decks := t.decks }))
     ∧ (k.motion.pace = 6 → exec (.reversalTimeout d) s = .next (withdrawTap (controlledStop d 9 1 (raiseDeck d 53 [] s))))
     ∧ (∀ x n, (x, n) ∈ k.motion.discards → 8 ≤ n → k.motion.motorFault = false →
         exec (.telemetryDiscardLimit d) s = .next (withdrawTap
           (controlledStop d 5 1 (raiseDeck d 48 [] (motorOff d (s.onMotion d (fun m => { m with motorFault := true }))))))))
  ∧ (∀ (s : State) (d : Fin 4), Live s →
       let k := s.deckAt d
       (∃ t, exec (.jasStopRequest d) s = .next (withdrawTap t) ∧
         t.fld (Reg.jasControl d) Fld.jasControlStop = bit ((controlledStop d 0 1 s).deckAt d).motion.stopping
         ∧ t.decks = (controlledStop d 0 1 s).decks)
       ∧ (k.estop = false →
           exec (.deckEstop d) s = .next (withdrawTap
             (controlledStop d 2 1 (raiseDeck d 51 [] (s.onDeck d (fun k => { k with estop := true }))))))
       ∧ (∃ t, exec (.deckEstopReleased d) s = .next (withdrawTap t) ∧
           t.deckAt d = { k with estop := false } ∧ (∀ e, e ≠ d.val → t.deckAt e = s.deckAt e) ∧ t = { s with decks := t.decks })
       ∧ (k.motion.stopping = true → k.resetAfterStop = false → k.motorOffAfterStop = false → k.disableAfterStop = false →
           k.trainAfterStop = false → s.pwr.warm = none →
           (∃ t, exec (.stopComplete d) s = .next (withdrawTap t) ∧
             (t.deckAt d).motion.stopping = false ∧ (t.deckAt d).motion.pace = 0 ∧ (t.deckAt d).motion.modes = (2, 2)
             ∧ (t.deckAt d).motion.v = 0 ∧ (t.deckAt d).motion.causes = k.motion.causes
             ∧ t.fld (Reg.jasControl d) Fld.jasControlStop = 0
             ∧ (∀ e, e ≠ d.val → t.deckAt e = s.deckAt e) ∧ Touches [.regs, .sent, .evt, .decks] s t)))

/-- A coefficient is committed to the active bank, or under HOLD to the shadow bank; one that names no stage or no coefficient is refused
with RESULT 2 and event 64d + 58. Releasing a loop's HOLD makes its shadow bank active whole (R240 to R242). A write of HOLD stores the four
bits and hands every loop whose bit falls its shadow bank, whole (R241). Each of these commands completes, with its own effect, in every
state that meets the conditions named: coefCommit, holdWrite. -/
def Obligations.CoefficientsCommitAndHold : Prop :=
  (∀ (s : State) (d : Fin 4) (v : Word), Live s →
     let sel := Reg.jasCoefSel d
     let reg := Reg.jasCoefShift d
     let l := s.fld sel Fld.jasCoefSelLoop
     let k := s.fld sel Fld.jasCoefSelStage
     let i := s.fld sel Fld.jasCoefSelIndex
     let held := bitAt (s.fld (Reg.jasControl d) Fld.jasControlHold) l
     ((s.loopAt d l).chain[k]? = none →
       (∃ t, exec (.coefCommit d v) s = .next (withdrawTap t) ∧
         t.fld reg Fld.jasCoefShiftResult = 2 ∧ t.loops = s.loops ∧ SameRegsBut [reg] s t
         ∧ t = raiseDeck d 58 [] { s with regs := t.regs }))
     ∧ (∀ g, (s.loopAt d l).chain[k]? = some g → i < coefCount g.type →
         (held = true →
           (∃ t, exec (.coefCommit d v) s = .next (withdrawTap t) ∧
             t.fld reg Fld.jasCoefShiftResult = 1
             ∧ (t.loopAt d l).chain = (s.loopAt d l).chain ∧ (k, i, s.reg (Reg.jasCoefMant d), BitVec.ofNat 5 v.toNat) ∈ (t.loopAt d l).shadow
             ∧ SameRegsBut [reg] s t ∧ t = { s with regs := t.regs, loops := t.loops }))
         ∧ (held = false → holdOnly g.type i = false →
             (∃ t, exec (.coefCommit d v) s = .next (withdrawTap t) ∧
               t.fld reg Fld.jasCoefShiftResult = 0
               ∧ (t.loopAt d l).chain = setCoef (s.loopAt d l).chain k i (s.reg (Reg.jasCoefMant d), BitVec.ofNat 5 v.toNat)
               ∧ (t.loopAt d l).shadow = (s.loopAt d l).shadow ∧ SameRegsBut [reg] s t ∧ t = { s with regs := t.regs, loops := t.loops }))))
  ∧ (∀ (s : State) (d : Fin 4) (h : BitVec 4), Live s →
       (∃ t, exec (.holdWrite d h) s = .next (withdrawTap t) ∧
         t.fld (Reg.jasControl d) Fld.jasControlHold = h.toNat
         ∧ (∀ l, l < 4 → bitAt (s.fld (Reg.jasControl d) Fld.jasControlHold) l = true → bitAt h.toNat l = false →
             (t.loopAt d l).shadow = []
             ∧ (t.loopAt d l).chain = (s.loopAt d l).shadow.foldl (fun c e => setCoef c e.1 e.2.1 e.2.2) (s.loopAt d l).chain)
         ∧ (∀ l, l < 4 → bitAt h.toNat l = true → t.loopAt d l = s.loopAt d l)
         ∧ SameRegsBut [Reg.jasControl d] s t ∧ t = { s with regs := t.regs, loops := t.loops }))

/-- A trace buffer armed at debug level D1 or above is empty and records; its trigger latches the time and raises event 64d + 57; with
nothing left to take it is done; each read of its data port gives the entry at the cursor and moves on (R258). Below D1 the writes are
refused (418) and the port reads 0. Each of these commands completes, with its own effect, in every state that meets the conditions named:
traceArm, traceFire, traceTrigger, traceDone, traceRead. -/
def Obligations.TraceBuffers : Prop :=
  ∀ (s : State) (d c : Fin 4) (src : TraceSource) (stamp : BitVec 64), Live s →
    let ctrl := Reg.jasTrCtrl d c
    let st := Reg.jasTrStatus d c
    (1 ≤ s.sec.debug →
      (∃ t, exec (.traceArm d c) s = .next (withdrawTap t) ∧
        (t.traceAt d c).entries = [] ∧ (t.traceAt d c).recording = true ∧ t.reg st = 0
        ∧ t.fld ctrl Fld.jasTrCtrlArm = 1 ∧ SameRegsBut [ctrl, st] s t ∧ t = { s with regs := t.regs, traces := t.traces }))
    ∧ (1 ≤ s.sec.debug → awaitsTrigger s d c = true →
        exec (.traceFire d c) s = .next (withdrawTap (trigger d c (traceTime s) { s with tick := s.tick + 1 })))
    ∧ (awaitsTrigger s d c = true → sourceMatches s d c src = true →
        (∃ t, exec (.traceTrigger d c src stamp) s = .next (withdrawTap t) ∧
          t.fld st Fld.jasTrStatusTriggered = 1
          ∧ t.reg (Reg.jasTrStampLo d c) = word stamp.toNat ∧ t.reg (Reg.jasTrStampHi d c) = word (stamp.toNat / 2 ^ 32)
          ∧ SameRegsBut [st, Reg.jasTrStampLo d c, Reg.jasTrStampHi d c] s t ∧ Touches [.regs, .traces, .evt, .sent] s t))
    ∧ ((s.traceAt d c).recording = true → (s.traceAt d c).left = some 0 →
        (∃ t, exec (.traceDone d c) s = .next (withdrawTap t) ∧
          (t.traceAt d c).recording = false ∧ (t.traceAt d c).entries = (s.traceAt d c).entries
          ∧ t.fld st Fld.jasTrStatusDone = 1 ∧ t.fld ctrl Fld.jasTrCtrlArm = 0 ∧ SameRegsBut [ctrl, st] s t
          ∧ t = { s with regs := t.regs, traces := t.traces }))
    ∧ (1 ≤ s.sec.debug →
        (∃ t, exec (.traceRead d c) s = .next (withdrawTap t) ∧
          t.sent = .read (Reg.jasTrData d c) ((s.traceAt d c).entries.getD (s.fld st Fld.jasTrStatusCursor) 0) :: s.sent
          ∧ t.fld st Fld.jasTrStatusCursor = (s.fld st Fld.jasTrStatusCursor + 1) % 2 ^ Fld.jasTrStatusCursor.width
          ∧ SameRegsBut [st] s t ∧ t = { s with regs := t.regs, sent := t.sent }))
    ∧ (s.sec.debug = 0 →
        exec (.traceRead d c) s = .next (withdrawTap { s with sent := .read (Reg.jasTrData d c) 0 :: s.sent })
        ∧ exec (.traceArm d c) s = .next (withdrawTap (refuseWrite ctrl s))
          ∧ exec (.traceFire d c) s = .next (withdrawTap (refuseWrite (Reg.jasTrTrig d c) s)))

/-! ### HBM, pools and host chips (R261 to R281) -/

/-- A trip of a stack stops every deck with cause 4 and event 378; a poll stores the temperature and HOT, and counts the corrections (R262,
R263). A region is set only where it fits a stack without pools, and the whole stack is then never written; otherwise event 356 (R264, R266,
R267). Each of these commands completes, with its own effect, in every state that meets the conditions named: hbmCattrip, hbmEccPoll,
regionCfgWrite. -/
def Obligations.StacksAndRegions : Prop :=
  ∀ (s : State) (k : Fin 2) (n : Nat) (temp : Byte) (v : Word), Live s →
    let st := Reg.micHbmStatus k
    let g := (selRegion s).1
    let w := regionBits v
    (k.val ∉ s.shoe.tripped →
      exec (.hbmCattrip k) s = .next (withdrawTap
        (stopAll 6 4 (raise 378 [] ({ s with shoe := { s.shoe with tripped := k :: s.shoe.tripped } }.setFld st Fld.micHbmStatusCattrip 1)))))
    ∧ (s.flag st Fld.micHbmStatusTrained = true → s.pwr.state < 3 → k.val ∉ s.shoe.tripped → s.tap.ir.toNat ≠ 0x10 + k.val →
        (∃ t, exec (.hbmEccPoll k n temp) s = .next (withdrawTap t) ∧
          t.fld st Fld.micHbmStatusTemp = temp.toNat ∧ t.fld st Fld.micHbmStatusHot = (if 85 < temp.toNat then 1 else 0)
          ∧ t.fld st Fld.micHbmStatusEcc = min (2 ^ Fld.micHbmStatusEcc.width - 1) (s.fld st Fld.micHbmStatusEcc + n)
          ∧ SameRegsBut [st] s t ∧ Touches [.regs, .evt, .sent] s t
          ∧ (n = 0 → t.fld st Fld.micHbmStatusHot = s.fld st Fld.micHbmStatusHot → t = { s with regs := t.regs })))
    ∧ (poolOnStack s g = false → regionFits s g (selRegion s).2 w = true →
        (∃ t, exec (.regionCfgWrite v) s = .next (withdrawTap t) ∧
          t.shoe.regions = Sparse.set 0 s.shoe.regions (16 * g + (selRegion s).2) w
          ∧ (∀ x, x ∈ t.shoe.written ↔ x ∈ s.shoe.written ∧ x / 2 ^ 30 ≠ g)
          ∧ (∀ a, a / 2 ^ 35 = g → Sparse.get 0 t.shoe.mem a = 0)
          ∧ (∀ a, a / 2 ^ 35 ≠ g → Sparse.get 0 t.shoe.mem a = Sparse.get 0 s.shoe.mem a)
          ∧ Touches [.shoe, .mem] s t))
    ∧ (poolOnStack s g = true ∨ regionFits s g (selRegion s).2 w = false → exec (.regionCfgWrite v) s = .next (withdrawTap (raise 356 [] s)))

/-- A fill starts at GO where its range is the host's, and refuses another range with ERROR; when it completes, every word of the range is
written and holds the pattern, GO is clear and event 380 is raised, and no byte outside the range has changed (R268). The window reads and
writes the bytes of a chip of the host and nothing else; a chip of another owner, and a word never written, answer with an error completion
(R267, R274). The Polisher counts what it corrects and ends its laps (R281). Each of these commands completes, with its own effect, in every
state that meets the conditions named: micFill, micFillComplete, shoeWindowAccess, polisherAccess. -/
def Obligations.FillsWindowsAndThePolisher : Prop :=
  (∀ (s : State) (v : Word), Live s →
     let reg := Reg.micFillCount
     let n := getBits v Fld.micFillCountCount
     let first := s.fld Reg.micFillFirst Fld.micFillFirstIndex
     (getBits v Fld.micFillCountGo = 1 → s.shoe.fill = none → first / 2 ^ 19 ∉ s.shoe.tripped →
       (fillRefused s first n = false →
         (∃ t, exec (.micFill v) s = .next (withdrawTap t) ∧
           t.shoe = { s.shoe with fill := some (first, n, s.reg Reg.micFillPattern) }
           ∧ t.fld reg Fld.micFillCountGo = 1 ∧ t.fld reg Fld.micFillCountError = 0 ∧ SameRegsBut [reg] s t
           ∧ t = { s with regs := t.regs, shoe := t.shoe }))
       ∧ (fillRefused s first n = true →
         (∃ t, exec (.micFill v) s = .next (withdrawTap t) ∧ t.fld reg Fld.micFillCountError = 1 ∧ SameRegsBut [reg] s t
           ∧ t = { s with regs := t.regs })))
     ∧ (∀ f c p, s.shoe.fill = some (f, c, p) →
         (∃ t, exec .micFillComplete s = .next (withdrawTap t) ∧
           t.shoe.fill = none ∧ t.fld reg Fld.micFillCountGo = 0 ∧ SameRegsBut [reg] s t
           ∧ (∀ w, 2048 * f ≤ w → w < 2048 * (f + c) → w ∈ t.shoe.written)
           ∧ (∀ a, 65536 * f ≤ a → a < 65536 * (f + c) → Sparse.get 0 t.shoe.mem a = p.extractLsb' (8 * (a % 4)) 8)
           ∧ (∀ a, a < 65536 * f ∨ 65536 * (f + c) ≤ a → Sparse.get 0 t.shoe.mem a = Sparse.get 0 s.shoe.mem a)
           ∧ t = raise 380 [] { s with regs := t.regs, shoe := t.shoe })))
  ∧ (∀ (s : State) (k : BitVec 10) (v : Word) (e : MemError), Live s →
       let chip := s.fld Reg.shoWinSel Fld.shoWinSelIndex
       let off := 4096 * s.fld Reg.shoWinSel Fld.shoWinSelPage + 4 * k.toNat
       let a := 65536 * chip + off
       (∀ t, chipTag s chip = some t → t.cls = 6 → stackServes s chip = true →
         (∃ t, exec (.shoeWindowAccess k (some v) e) s = .next (withdrawTap t) ∧
           (∀ i, i < 4 → Sparse.get 0 t.shoe.mem (a + i) = v.extractLsb' (8 * i) 8)
           ∧ (∀ x, x / 32 ≠ wordPlace chip (off / 32) → Sparse.get 0 t.shoe.mem x = Sparse.get 0 s.shoe.mem x)
           ∧ (hostWrote s chip (off / 32) = true → ∀ x, x < a ∨ a + 4 ≤ x → Sparse.get 0 t.shoe.mem x = Sparse.get 0 s.shoe.mem x)
           ∧ (wordWritten s chip (off / 32) = true → ∀ j, j / 32 = off / 32 → j < off ∨ off + 4 ≤ j → chipByte t chip j = chipByte s chip j)
           ∧ wordWritten t chip (off / 32) = true ∧ Touches [.shoe, .mem] s t)
         ∧ (wordWritten s chip (off / 32) = true →
           exec (.shoeWindowAccess k none .none) s = .next (withdrawTap
             (emit (.read (Reg.shoWin k.toNat) (readChip s chip off)) (noteAccess (chip / 2 ^ 19) (wordPlace chip (off / 32)) s)))))
       ∧ (chipTag s chip = none → ∀ w, exec (.shoeWindowAccess k w e) s = .next (withdrawTap (refuseWindow (Reg.shoWin k.toNat) s)))
       ∧ (s.flag Reg.micPolishCtrl Fld.micPolishCtrlEnable = true → s.pwr.state < 2 → ∀ (i : BitVec 20) (w : BitVec 11) (ms : Nat),
           strongChip s i.toNat = true → wordWritten s i.toNat w.toNat = true → stackServes s i.toNat = true →
           let q := wordPlace i.toNat w.toNat
           exec (.polisherAccess (.hbm i w) .none none) s = .next (withdrawTap (noteAccess (i.toNat / 2 ^ 19) q s))
           ∧ exec (.polisherAccess (.hbm i w) .corrected none) s = .next (withdrawTap (noteCorrection (i.toNat / 2 ^ 19) q s))
           ∧ (∃ t, exec (.polisherAccess (.hbm i w) .none (some ms)) s = .next (withdrawTap t) ∧
               t.fld Reg.micPolishStatus Fld.micPolishStatusLastMs = min 0xFFFFFF (ms / 1024)
               ∧ t.fld Reg.micPolishStatus Fld.micPolishStatusPercent = 0 ∧ SameRegsBut [Reg.micPolishStatus] s t
               ∧ Touches [.regs, .shoe, .evt, .sent] s t)))

/-- A pool is enabled where its range fits, with its chips all free, is ready with event 357, and a range that does not fit leaves it
disabled with event 356 (R269). The host allocates a chip of a ready host pool, frees its own and is refused any other, with SHO_HOST_RESULT
(R272, R274). Each of these commands completes, with its own effect, in every state that meets the conditions named: poolCfgWrite,
poolReady, hostChipAllocate, hostChipFree. -/
def Obligations.PoolsAndHostChips : Prop :=
  ∀ (s : State) (v : Word) (k : Fin 64) (i : BitVec 20), Live s →
    let x := selPool s
    let p := s.poolAt x
    let en := getBits v Fld.shoPoolCfgEnable
    let q := { p with cfg := poolBits en (getBits v Fld.shoPoolCfgHost) v }
    (p.enabled = false →
      (en = 0 → exec (.poolCfgWrite v) s = .next (withdrawTap (s.putPool x q)))
      ∧ (en = 1 → poolFits s x q = true →
          exec (.poolCfgWrite v) s = .next (withdrawTap
            (s.putPool x { q with ready := false, cache := 0, errs := 0, failing := false, low := false, withheld := [] })))
      ∧ (en = 1 → poolFits s x q = false →
          exec (.poolCfgWrite v) s = .next (withdrawTap
            (raise 356 [] (s.putPool x { p with cfg := poolBits 0 (getBits v Fld.shoPoolCfgHost) v })))))
    ∧ ((s.poolAt k).enabled = true → (s.poolAt k).ready = false →
        exec (.poolReady k) s = .next (withdrawTap
          (raise 357 [] (s.putPool k
          { s.poolAt k with ready := true, cache := min 128 ((s.poolAt k).count - (s.poolAt k).ring) }))))
    ∧ (p.enabled = false ∨ p.host = false ∨ p.ready = false →
        (∃ t, exec .hostChipAllocate s = .next (withdrawTap t) ∧
          t.fld Reg.shoHostResult Fld.shoHostResultResult = 2
          ∧ SameRegsBut [Reg.shoHostResult] s t ∧ t = { s with regs := t.regs }))
    ∧ (p.enabled = true → p.host = true → p.ready = true → ∀ c, (allocate 1 x 6 0 s).1 = some [c] →
        exec .hostChipAllocate s = .next (withdrawTap (hostResult 0 c (allocate 1 x 6 0 s).2)))
    ∧ (∀ t, chipTag s i.toNat = some t → t.cls = 6 → t.id = 0 →
        exec (.hostChipFree i) s = .next (withdrawTap (hostResult 0 0 (dropRef i.toNat t s))))
    ∧ (chipTag s i.toNat = none →
        exec (.hostChipFree i) s = .next (withdrawTap (hostResult 3 0 (refuseFree 1 i.toNat (poolOfChip s i.toNat) 6 s))))

/-! ### The settings flash (R370 to R382) -/

/-- A flash command that no refusal of Table 17-4 meets starts on its bank with RESULT 1; one that meets a refusal shows the first one's
code with event 406; SUSPEND and RESUME of the host's erase complete at once with RESULT 0 and event 407 (R375, R376). Each of these
commands completes, with its own effect, in every state that meets the conditions named: nvmErase, nvmProgram, nvmMarginPv, nvmMarginEv,
nvmSuspend, nvmResume. -/
def Obligations.FlashCommandsStart : Prop :=
  ∀ (s : State) (b sec page : Nat), Live s → nvmTarget s = (b, sec, page) →
    let clear := stewardOwned b sec = false ∧ (b = 0 → parked s = true)
    let idle := Sparse.find s.nvm.running b = none
    (clear → idle → protectedSector s b sec = false →
      (Sparse.find s.nvm.suspended b = none →
        exec .nvmErase s = .next (withdrawTap (nvmStart { op := 2, sector := sec } (journalAdd { type := 1, bank := b, sector := sec } s))))
      ∧ (pageErased s b sec page = true → page % 2 = 0 → suspendedSector s b sec = false →
          exec .nvmProgram s = .next (withdrawTap (nvmStart { op := 1, sector := sec, page := page, data := pageBuffer s } s))))
    ∧ (clear → idle →
        exec .nvmMarginPv s = .next (withdrawTap (nvmStart { op := 5, sector := sec, page := page } s))
        ∧ exec .nvmMarginEv s = .next (withdrawTap (nvmStart { op := 6, sector := sec, page := page } s)))
    ∧ (clear → ∀ o, Sparse.find s.nvm.running b = some o → o.host = true → o.op = 2 → o.suspensions < 16 →
        (∃ t, exec .nvmSuspend s = .next (withdrawTap t) ∧
          Sparse.find t.nvm.running b = none
          ∧ Sparse.find t.nvm.suspended b = some { o with suspensions := o.suspensions + 1 }
          ∧ t.fld Reg.nvmResult Fld.nvmResultResult = 0 ∧ SameRegsBut [Reg.nvmResult] s t
          ∧ t = raise 407 [] { s with regs := t.regs, nvm := t.nvm }))
    ∧ (clear → idle → ∀ o, Sparse.find s.nvm.suspended b = some o →
        (∃ t, exec .nvmResume s = .next (withdrawTap t) ∧
          Sparse.find t.nvm.running b = some o ∧ Sparse.find t.nvm.suspended b = none
          ∧ t.fld Reg.nvmResult Fld.nvmResultResult = 0 ∧ SameRegsBut [Reg.nvmResult] s t
          ∧ t = raise 407 [] { s with regs := t.regs, nvm := t.nvm }))
    ∧ (stewardOwned b sec = true → ∀ c ∈ [Instr.nvmErase, .nvmProgram, .nvmMarginPv, .nvmMarginEv, .nvmSuspend, .nvmResume],
        exec c s = .next (withdrawTap (nvmRefuse 2 s)))

/-- The end of the host's operation: a program leaves its data in its (erased) page, an erase 0xFF, a margin read leaves the flash alone and
shows its count; RESULT 0 and event 407 (R370, R375). STORE finds its bank free and writes a record of the other copy, whose verified end
gives GOOD with the record's number (R382). Each of these commands completes, with its own effect, in every state that meets the conditions
named: nvmOperationComplete. -/
def Obligations.FlashOperationsEnd : Prop :=
  ∀ (s : State) (b : Fin 2) (f : Nat) (o : FlashOp), Live s → Sparse.find s.nvm.running b.val = some o →
    let reg := Reg.nvmResult
    let base := 8388608 * b.val + 65536 * o.sector
    (o.host = true → s.nvm.storing = none →
      (o.op = 5 ∨ o.op = 6 →
        (∃ t, exec (.nvmOperationComplete b f) s = .next (withdrawTap t) ∧
          t.fld reg Fld.nvmResultFailBits = min 0xFFFFF f
          ∧ t.fld reg Fld.nvmResultResult = 0 ∧ t.nvm.bytes = s.nvm.bytes ∧ SameRegsBut [reg] s t
          ∧ Sparse.find t.nvm.running b.val = none ∧ Touches [.regs, .nvm, .evt, .sent] s t))
      ∧ (o.op = 2 →
        (∃ t, exec (.nvmOperationComplete b f) s = .next (withdrawTap t) ∧
          t.fld reg Fld.nvmResultResult = 0 ∧ SameRegsBut [reg] s t
          ∧ (∀ a, base ≤ a → a < base + 65536 → Sparse.get 0xFF t.nvm.bytes a = 0xFF)
          ∧ (∀ a, a < base ∨ base + 65536 ≤ a → Sparse.get 0xFF t.nvm.bytes a = Sparse.get 0xFF s.nvm.bytes a)))
      ∧ (o.op = 1 → let x := base + 512 * o.page
        (∃ t, exec (.nvmOperationComplete b f) s = .next (withdrawTap t) ∧
          t.fld reg Fld.nvmResultResult = 0 ∧ SameRegsBut [reg] s t
          ∧ (∀ a, a < x ∨ x + o.data.length ≤ a → Sparse.get 0xFF t.nvm.bytes a = Sparse.get 0xFF s.nvm.bytes a)
          ∧ (∀ i, i < o.data.length →
              Sparse.get 0xFF t.nvm.bytes (x + i) = o.data.getD i 0xFF))))
    ∧ (o.host = false → s.nvm.storeWaits = false → ∀ n q r x, s.nvm.storing = some (n, q, r, x) →
        (∃ t, exec (.nvmOperationComplete b 0) s = .next (withdrawTap t) ∧
          t.nvm.settings = s.nvm.settings ++ [r] ∧ t.nvm.storing = none ∧ t.reg Reg.nvmStoreSeq = r.seq ∧ t.nvm.bytes = s.nvm.bytes
          ∧ SameRegsBut [Reg.nvmStoreSeq] s t ∧ Touches [.regs, .nvm, .evt, .sent, .ctx] s t))

/-- STORE starts a record of the copy that does not hold the newest one, of the settings as they then are (R382); the steward parks once its
own operations on bank A have ended and is unparked by the host or a timeout, each with event 409 (R377). Write protection is set freely and
ended only in a presence window (R378, R344); the read delay takes effect at once, with event 411 below the table's (R373); a read through a
port gives four bytes, or, for a busy bank, an error completion with event 405 (R374). Each of these commands completes, with its own
effect, in every state that meets the conditions named: store, parkRequest, stewardParked, parkRelease, parkTimeout, wpSet, wpClr,
rdDelayWrite, nvmWinRead, nvmCalRead. -/
def Obligations.StoreParkingAndProtection : Prop :=
  (∀ (s : State) (n : Fin 4096) (u : Task), Live s →
     (Begins s n 0x18 u → s.nvm.storing = none → ∀ r, newestSettings s.nvm.settings = some r → r.copy = 0 →
       Sparse.find s.nvm.running 1 = none → Sparse.find s.nvm.suspended 1 = none →
       let x := { shadow s with copy := 1, sector := nextPlace s.nvm.settings 1, seq := r.seq + 1 }
       let b := commence n u.seq s
       exec (.store n) s = .next (withdrawTap
         (beginRecord n u.seq x false { b with nvm := { b.nvm with storing := some (n, u.seq, x, false), storeWaits := true } })))
     ∧ (parked s = false → (∃ t, exec .parkRequest s = .next (withdrawTap t) ∧
         t.fld Reg.nvmPark Fld.nvmParkRequest = 1 ∧ parked t = false
         ∧ SameRegsBut [Reg.nvmPark] s t ∧ t = { s with regs := t.regs }))
     ∧ (s.flag Reg.nvmPark Fld.nvmParkRequest = true → Sparse.find s.nvm.running 0 = none → s.nvm.storing = none →
         (∃ t, exec .stewardParked s = .next (withdrawTap t) ∧
           parked t = true ∧ t.fld Reg.nvmPark Fld.nvmParkRequest = 0
           ∧ SameRegsBut [Reg.nvmPark] s t ∧ t = raise 409 [] { s with regs := t.regs }))
     ∧ (parked s = true → (∃ t, exec .parkRelease s = .next (withdrawTap t) ∧
         parked t = false ∧ SameRegsBut [Reg.nvmPark] s t
         ∧ t = raise 409 [] { s with regs := t.regs }))
     ∧ (parked s = true → Sparse.find s.nvm.running 0 = none → Sparse.find s.nvm.suspended 0 = none →
         (∃ t, exec .parkTimeout s = .next (withdrawTap t) ∧ parked t = false ∧ SameRegsBut [Reg.nvmPark] s t
           ∧ t = raise 409 [] { s with regs := t.regs })))
  ∧ (∀ (s : State) (k : Fin 8) (v : Word) (d : BitVec 4) (off : BitVec 10) (e : Nat), Live s →
       let wp := Reg.nvmWp k
       let bank := s.fld Reg.nvmWinSel Fld.nvmWinSelBank
       let sec := s.fld Reg.nvmWinSel Fld.nvmWinSelSector
       let x := 4096 * s.fld Reg.nvmWinSel Fld.nvmWinSelPart + 4 * off.toNat
       (∃ t, exec (.wpSet k v) s = .next (withdrawTap t) ∧ t.reg wp = s.reg wp ||| v ∧ SameRegsBut [wp] s t ∧ t = { s with regs := t.regs })
       ∧ (s.window = true →
           (∃ t, exec (.wpClr k v) s = .next (withdrawTap t) ∧ t.reg wp = s.reg wp &&& ~~~v ∧ SameRegsBut [wp] s t
             ∧ t = { s with regs := t.regs }))
       ∧ (s.window = false → v ≠ 0 → exec (.wpClr k v) s = .next (withdrawTap (refuseWrite (Reg.nvmWpClr k) s)))
       ∧ (∃ t, exec (.rdDelayWrite d) s = .next (withdrawTap t) ∧
           t.fld Reg.nvmRdDelay Fld.nvmRdDelayDelay = d.toNat ∧ SameRegsBut [Reg.nvmRdDelay] s t
           ∧ (minDelay s.pwr.band ≤ d.toNat → t = { s with regs := t.regs })
           ∧ (d.toNat < minDelay s.pwr.band → t = raise 411 [] { s with regs := t.regs }))
       ∧ (busFault s bank sec = true → exec (.nvmWinRead off e) s = .next (withdrawTap (refuseRead (Reg.nvmWin off.toNat) s)))
       ∧ (busFault s bank sec = false → e ≤ 4 →
           (∃ t, exec (.nvmWinRead off e) s = .next (withdrawTap t) ∧
             (t = { s with tick := s.tick + 1, sent := t.sent }
             ∧ ∃ w : Word, t.sent = .read (Reg.nvmWin off.toNat) w :: s.sent
               ∧ ∀ i, i < 4 → w.extractLsb' (8 * i) 8 = flashByte s bank sec (x + i))))
       ∧ (bankBusy s 0 = true → exec (.nvmCalRead off) s = .next (withdrawTap (refuseRead (Reg.nvmCal off.toNat) s)))
       ∧ (bankBusy s 0 = false →
         ∃ w : Word, exec (.nvmCalRead off) s = .next (withdrawTap { s with sent := .read (Reg.nvmCal off.toNat) w :: s.sent })
           ∧ ∀ i, i < 4 → w.extractLsb' (8 * i) 8 = calibrationRow.getD (4 * off.toNat + i) 0))

/-! ### Image slots and epochs (R283 to R294) -/

/-- A slot command while another runs gives RESULT 5 and does nothing more; WRITE_SLOT reads the image in a presence window and is refused
without; the margin verify approves the slot or calls it bad; VERIFY changes only CFG_RESULT; REVOKE ends the approval (R289, R290).
IMAGE_ACTIVATE reads its slot, and fails with event 440 on an image that no longer passes (R293); a pending epoch takes effect at its deck's
round boundary or with its context's closed block, and one that is not due changes nothing (R294). Each of these commands completes, with
its own effect, in every state that meets the conditions named: writeSlot, verify, revoke, slotWriteDone, imageActivate, formatEpoch,
cutterEpoch. -/
def Obligations.SlotsAndEpochs : Prop :=
  (∀ s : State, Live s →
     let k := s.fld Reg.cfgSlotSel Fld.cfgSlotSelSlot
     let addr := s.pair Reg.cfgSrcLo Reg.cfgSrcHi % 2 ^ 52
     let len := s.fld Reg.cfgSrcLen Fld.cfgSrcLenLen
     (s.img.cmd ≠ none → ∀ c ∈ [Instr.writeSlot, .verify, .revoke],
       exec c s = .next (withdrawTap (s.setFld Reg.cfgResult Fld.cfgResultResult 5)))
     ∧ (s.img.cmd = none →
         (s.window = false → (∃ t, exec .writeSlot s = .next (withdrawTap t) ∧
           t.fld Reg.cfgResult Fld.cfgResultResult = 2 ∧ t.img = s.img
           ∧ SameRegsBut [Reg.cfgResult, Reg.secRefused, Reg.secRefusedAddr] s t
           ∧ t = raise 418 [word Reg.cfgCommand] { s with regs := t.regs }))
         ∧ (s.window = true → len ≠ 0 → exec .writeSlot s = .next (withdrawTap
             (fetchImage (cfgResult 1 (0, 0) false
             { s.incFld Reg.cfgResult Fld.cfgResultSeq 1 with img := { s.img with cmd := some (1, k, (addr, len), []) } }))))
         ∧ (∃ t, exec .verify s = .next (withdrawTap t) ∧
             SameRegsBut [Reg.cfgResult] s t ∧ t = { s with regs := t.regs }
             ∧ t.fld Reg.cfgResult Fld.cfgResultSeq = (s.fld Reg.cfgResult Fld.cfgResultSeq + 1) % 2 ^ Fld.cfgResultSeq.width
             ∧ ((∃ i, slotImage s k = .ok i) → t.fld Reg.cfgResult Fld.cfgResultResult = 0)
             ∧ ((∃ f, slotImage s k = .error f) → t.fld Reg.cfgResult Fld.cfgResultResult = 3))
         ∧ (∃ t, exec .revoke s = .next (withdrawTap t) ∧
             approvedEntry t k = false ∧ t.fld Reg.cfgResult Fld.cfgResultResult = 0
             ∧ SameRegsBut [Reg.cfgResult] s t ∧ Touches [.regs, .img, .nvm, .evt, .sent] s t))
     ∧ (∀ j a l got ok, s.img.cmd = some (2, j, (a, l), got) → s.nvm.storing = none →
         (∃ t, exec (.slotWriteDone ok) s = .next (withdrawTap t) ∧
           t.img.cmd = none
           ∧ t.fld Reg.cfgResult Fld.cfgResultResult = (if ok then 0 else 4)
           ∧ (ok = true → approvedEntry t j = true ∧ t.img.bad = s.img.bad) ∧ (ok = false → j ∈ t.img.bad ∧ t.img.approved = s.img.approved)
           ∧ Sparse.find t.nvm.running (slotSectors j).1 = none ∧ Touches [.regs, .img, .nvm, .evt, .sent] s t)))
  ∧ (∀ (s : State) (n : Fin 4096) (u : Task) (d : Fin 4), Live s →
       (Begins s n 0x19 u → activationRefusal s (u.field 8 1) = none →
         (∀ f, slotImage s (u.field 8 1) = .error f →
           exec (.imageActivate n) s = .next (withdrawTap (finish n u.seq (notReady 13) (raise 440 [word f.1] s))))
         ∧ (∀ i, slotImage s (u.field 8 1) = .ok i → exec (.imageActivate n) s = .next (withdrawTap (activate n u.seq (u.field 8 1) i s))))
       ∧ (tableDeck s d = d → d.val ∈ s.img.deckPending → (s.deckAt d).active = none → restoreUnderWay s d = false →
           exec (.formatEpoch d) s = .next (withdrawTap (takeFormatEpoch d s)))
       ∧ (d.val ∉ s.img.deckPending → exec (.formatEpoch d) s = .next (withdrawTap s))
       ∧ ((s.ctxAt n).epochDue = true → exec (.cutterEpoch n) s = .next (withdrawTap (takeCutterEpoch n s)))
       ∧ ((s.ctxAt n).epochDue = false → exec (.cutterEpoch n) s = .next (withdrawTap s)))

/-! ### Keys (R104 to R118) -/

/-- KEY_LOAD puts the staged key, salt, label and counter base in the selected slot, LOADED, and clears the staging registers; a refused
LOAD changes no slot, clears them too and raises event 326 with its RESULT (R113, R114). KEY_STATUS shows BUSY until the command is done.
KEY_ZEROISE empties the selected slot and no other; KEY_CLEAR_ALL empties every slot; a TAMPERED core refuses both with RESULT 1 and event
326 (R115, R116, Table 05-5). Each of these commands completes, with its own effect, in every state that meets the conditions named:
keyLoad, keyCommandDone, keyZeroise, keyClearAll. -/
def Obligations.KeySlots : Prop :=
  (∀ s : State, Live s →
     let k := s.fld Reg.keySel Fld.keySelSlot
     let staging := (List.range 8).map Reg.keyData ++ [Reg.keySalt, Reg.keyLabelLo, Reg.keyLabelHi, Reg.keyBaseLo, Reg.keyBaseHi]
     (s.sec.state ≠ 2 → keyBusy s = false →
       (∃ t, exec .keyLoad s = .next (withdrawTap t) ∧
         Sparse.get {} t.keys k = { state := 1, key := bytesOf ((List.range 8).map (fun i => s.reg (Reg.keyData i))), salt := s.reg Reg.keySalt
                                    label := BitVec.ofNat 64 (s.pair Reg.keyLabelLo Reg.keyLabelHi)
                                    next := BitVec.ofNat 64 (s.pair Reg.keyBaseLo Reg.keyBaseHi) }
         ∧ (∀ j, j ≠ k → Sparse.get {} t.keys j = Sparse.get {} s.keys j)
         ∧ (∀ o ∈ staging, t.reg o = 0) ∧ keyBusy t = true
         ∧ SameRegsBut (staging ++ [Reg.keyStatus, Reg.keyCommand]) s t ∧ Touches [.regs, .sent, .evt, .tables, .keys] s t))
     ∧ (∀ r, keyRefusal s = some r →
         exec .keyLoad s = .next (withdrawTap (clearStaging (raise 326 [word r] (keyResult r s))))
         ∧ (∃ t, exec .keyLoad s = .next (withdrawTap t) ∧
           (∀ o ∈ staging, t.reg o = 0) ∧ SameRegsBut (staging ++ [Reg.keyStatus]) s t ∧ Touches [.regs, .sent, .evt] s t
           ∧ t.fld Reg.keyStatus Fld.keyStatusSeqResult % 16 = r))
     ∧ (s.sec.state = 2 → keyRefusal s = some 1)
     ∧ (s.sec.state ≠ 2 → keyBusy s = true → keyRefusal s = some (if s.fld Reg.keyCommand Fld.keyCommandOp = 3 then 2 else 3))
     ∧ (keyBusy s = true →
         (∃ t, exec .keyCommandDone s = .next (withdrawTap t) ∧
           keyBusy t = false ∧ SameRegsBut [Reg.keyStatus, Reg.keyCommand] s t
           ∧ t = { s with regs := t.regs })))
  ∧ (∀ s : State, Live s →
       let k := s.fld Reg.keySel Fld.keySelSlot
       let parts := [Part.regs, .sent, .evt, .ctx, .tables, .cut, .keys, .shoe, .lnk]
       (s.sec.state ≠ 2 → keyBusy s = false →
         (∃ t, exec .keyZeroise s = .next (withdrawTap t) ∧
           Sparse.get {} t.keys k = {} ∧ (∀ j, j ≠ k → Sparse.get {} t.keys j = Sparse.get {} s.keys j) ∧ Touches parts s t)
         ∧ (∃ t, exec .keyClearAll s = .next (withdrawTap t) ∧ (∀ j, Sparse.get {} t.keys j = {}) ∧ Touches parts s t))
       ∧ (s.sec.state = 2 → ∀ c ∈ [Instr.keyZeroise, .keyClearAll],
           (∃ t, exec c s = .next (withdrawTap t) ∧
             t.fld Reg.keyStatus Fld.keyStatusSeqResult % 16 = 1 ∧ SameRegsBut [Reg.keyStatus] s t
             ∧ t = raise 326 [1] { s with regs := t.regs })))

/-! ### The deck link (R300 to R321) -/

/-- A link that may train starts step 1 with FE_RESET_N high and event 64d + 0; clock lock is step 2; the third step that is not met in time
puts the link in FAULT with event 64d + 2, an earlier one starts training again; ENABLE and RETRAIN act at once where the deck is idle
(R318). A link that goes down takes with it the chains that waited for a sample (R294; log entry 136). A good frame counts towards its
lane's lock and a bad one against it, delivering nothing and counted; four in a row lock a lane of an active link, eight bad ones lose the
lock with event 64d + 3 (R303, R319). Each of these commands completes, with its own effect, in every state that meets the conditions named:
linkTraining, clockDataLock, trainingStepTimeout, linkEnableWrite, linkRetrain, frameReceive, laneFrameLock, laneLockLoss. -/
def Obligations.LinksTrainAndLock : Prop :=
  (∀ (s : State) (d : Fin 4), Live s →
     let k := s.deckAt d
     let st := Reg.dkLnkState d
     let attempt := s.fld st Fld.dkLnkStateAttempt
     let down := [Part.regs, .sent, .evt, .ctx, .img, .decks, .loops]
     (linkAllowed s d = true → k.present = true → linkState s d = 0 ∨ linkState s d = 1 ∧ k.trainStep = 0 →
       (∃ t, exec (.linkTraining d) s = .next (withdrawTap t) ∧
         linkState t d = 1 ∧ (t.deckAt d).trainStep = 1 ∧ (t.deckAt d).feResetN = true ∧ (t.deckAt d).motorEn = false
         ∧ t.reg (Reg.dkLnkLock d) = 0 ∧ (linkState s d = 0 → t.fld st Fld.dkLnkStateAttempt = 1)
         ∧ (linkState s d = 1 → t.fld st Fld.dkLnkStateAttempt = (attempt + 1) % 2 ^ Fld.dkLnkStateAttempt.width)
         ∧ SameRegsBut [st, Reg.dkLnkLock d, Reg.dkLnkFeCmd d, Reg.dkLnkCtrl d] s t
         ∧ (∀ x, x ≠ d.val → t.deckAt x = s.deckAt x) ∧ Touches down s t
         ∧ ((∀ l, l < 4 → (s.loopAt d l).newChain = none) → Touches [.regs, .sent, .evt, .decks] s t)))
     ∧ (linkState s d = 1 → k.trainStep = 1 →
         (∃ t, exec (.clockDataLock d) s = .next (withdrawTap t) ∧
           t.deckAt d = { k with trainStep := 2 }
           ∧ (∀ x, x ≠ d.val → t.deckAt x = s.deckAt x) ∧ t = { s with decks := t.decks }))
     ∧ (linkState s d = 1 → 1 ≤ k.trainStep →
         (attempt < 3 → exec (.trainingStepTimeout d) s = .next (withdrawTap (resetLink d s)))
         ∧ (3 ≤ attempt → (∃ t, exec (.trainingStepTimeout d) s = .next (withdrawTap t) ∧
             linkState t d = 3 ∧ t.fld st Fld.dkLnkStateCause = 0 ∧ (t.deckAt d).feResetN = false ∧ Touches down s t)))
     ∧ (k.motion.pace = 0 →
         (∃ t, exec (.linkEnableWrite d false) s = .next (withdrawTap t) ∧
           t.fld (Reg.dkLnkCtrl d) Fld.dkLnkCtrlEnable = 0
           ∧ (linkState s d ≠ 3 → linkState t d = 0) ∧ (t.deckAt d).feResetN = false ∧ (t.deckAt d).motorEn = false
           ∧ Touches down s t)
         ∧ (s.flag (Reg.dkLnkCtrl d) Fld.dkLnkCtrlEnable = true → linkState s d ≠ 3 →
             (∃ t, exec (.linkRetrain d) s = .next (withdrawTap t) ∧
               linkState t d = 1 ∧ t.fld st Fld.dkLnkStateAttempt = 0 ∧ (t.deckAt d).feResetN = false
               ∧ Touches down s t)))
     ∧ (∃ t, exec (.linkEnableWrite d true) s = .next (withdrawTap t) ∧
         t.fld (Reg.dkLnkCtrl d) Fld.dkLnkCtrlEnable = 1
         ∧ SameRegsBut [Reg.dkLnkCtrl d] s t ∧ t = { s with regs := t.regs, decks := t.decks })
     ∧ (linkState s d = 3 → exec (.linkRetrain d) s = .next (withdrawTap s)))
  ∧ (∀ (s : State) (d : Fin 4) (l : Fin 17) (bits : BitVec 1200), Live s →
       let w := scramble l (frameBits bits)
       let lock := Reg.dkLnkLock d
       let run := laneRun s d l
       ((s.deckAt d).feResetN = true →
         (frameGood w = true → (∃ t, exec (.frameReceive d l bits) s = .next (withdrawTap t) ∧
           laneRun t d l = (min 4 (run.1 + 1), 0) ∧ (∀ j, j ≠ l.val → laneRun t d j = laneRun s d j)
           ∧ (∀ x, x ≠ d.val → t.deckAt x = s.deckAt x) ∧ t = { s with decks := t.decks }))
         ∧ (frameGood w = false → (∃ t, exec (.frameReceive d l bits) s = .next (withdrawTap t) ∧
           laneRun t d l = (0, min 8 (run.2 + 1)) ∧ (∀ j, j ≠ l.val → laneRun t d j = laneRun s d j)
           ∧ (t.deckAt d).inbox = (s.deckAt d).inbox
           ∧ t.fld (Reg.dkLnkErrs d) Fld.dkLnkErrsRxBad
               = min (2 ^ Fld.dkLnkErrsRxBad.width - 1) (s.fld (Reg.dkLnkErrs d) Fld.dkLnkErrsRxBad + 1)
           ∧ SameRegsBut [Reg.dkLnkErrs d] s t ∧ (∀ x, x ≠ d.val → t.deckAt x = s.deckAt x)
           ∧ t = { s with regs := t.regs, decks := t.decks })))
       ∧ (run.1 = 4 → laneLocked s d l = false → linkState s d = 2 →
           (∃ t, exec (.laneFrameLock d l) s = .next (withdrawTap t) ∧
             t.reg lock = s.reg lock ||| word (2 ^ l.val)
             ∧ laneLocked t d l = true ∧ SameRegsBut [lock] s t ∧ t = { s with regs := t.regs }))
       ∧ (run.2 = 8 → laneLocked s d l = true →
           (∃ t, exec (.laneLockLoss d l) s = .next (withdrawTap t) ∧
             laneLocked t d l = false
             ∧ (∀ j, j < 32 → j ≠ l.val → laneLocked t d j = laneLocked s d j) ∧ SameRegsBut [lock] s t
             ∧ t = raiseDeck d 3 [word l] { s with regs := t.regs })))

/-- The records of a control lane that carries them: credit, signal quality, temperature, status, register answers, unknown ones counted
with event 64d + 8; a column waits for its credit and is sent where its index precedes LIMIT (R305 to R313, R317, Table 14-3). Each of these
commands completes, with its own effect, in every state that meets the conditions named: credit, sq, head, status, regResp, unknownRecord,
column, columnSend. -/
def Obligations.LinkRecordsAreTaken : Prop :=
  ∀ (s : State) (d : Fin 4) (lim con w : Word) (q : Byte) (first x y u f : BitVec 16), Live s →
    (laneCarries s d = true →
      ((s.deckAt d).streamOpen = true →
        (∃ t, exec (.credit d lim con) s = .next (withdrawTap t) ∧
          t.deckAt d = { (takeRecord d 6 s).deckAt d with limit := lim, consumed := con }
          ∧ (∀ j, j ≠ d.val → t.deckAt j = s.deckAt j) ∧ t = { s with decks := t.decks }))
      ∧ (∀ l : List Byte, exec (.sq d first l) s = .next (withdrawTap
          (forEach (List.zip (List.range 8) l)
          (fun e a => if first.toNat + e.1 < (deckFmt a d).nT then sampleTrack d (first.toNat + e.1) e.2.toNat a else a) (takeRecord d 3 s))))
      ∧ exec (.head d x y) s = .next (withdrawTap (takeTelemetry d 6 (signed 16 x.toNat) (takeRecord d 4 s)))
      ∧ ((s.deckAt d).admin = none → ∀ car thr lost, linkState s d ≠ 1 ∨ lost = true →
          (∃ t, exec (.status d q car thr false lost x y u f) s = .next (withdrawTap t) ∧
            (t.deckAt d).cartridge = car ∧ (t.deckAt d).threaded = thr ∧ (t.deckAt d).feFault = false
            ∧ t.fld (Reg.dkLnkFeInfo d) Fld.dkLnkFeInfoWraps = x.toNat % 2 ^ Fld.dkLnkFeInfoWraps.width
            ∧ t.fld (Reg.dkLnkErrs d) Fld.dkLnkErrsTxBad
                = min (2 ^ Fld.dkLnkErrsTxBad.width - 1) (s.fld (Reg.dkLnkErrs d) Fld.dkLnkErrsTxBad + y.toNat)
            ∧ SameRegsBut [Reg.dkLnkFeInfo d, Reg.dkLnkErrs d] s t ∧ Touches [.regs, .sent, .evt, .tables, .shoe, .decks] s t))
      ∧ (∀ tag addr v m, (s.deckAt d).feAccess = some (tag, false, addr, v, m, true) →
          (∃ t, exec (.regResp d tag 0 addr w) s = .next (withdrawTap t) ∧
            t.reg (Reg.dkLnkFeData d) = w
            ∧ t.fld (Reg.dkLnkFeCmd d) Fld.dkLnkFeCmdBusy = 0 ∧ t.fld (Reg.dkLnkFeCmd d) Fld.dkLnkFeCmdResult = 0
            ∧ SameRegsBut [Reg.dkLnkFeCmd d, Reg.dkLnkFeData d] s t ∧ Touches [.regs, .sent, .decks] s t))
      ∧ (8 < q.toNat ∨ q = 0 →
        exec (.unknownRecord d q) s = .next (withdrawTap
          (raiseDeck d 8 [] ((takeRecord d q.toNat s).onDeck d (fun k => { k with unknown := k.unknown + 1 })))))
      ∧ (carriesColumn ((takeRecord d 7 s).deckAt d) q.toNat = true →
          (∃ t, exec (.column d q w) s = .next (withdrawTap t) ∧
            (t = { s with decks := t.decks } ∧ (∀ j, j ≠ d.val → t.deckAt j = s.deckAt j)
            ∧ ∀ i, i % 256 = q.toNat → Sparse.find (t.deckAt d).rxFrames i = none))))
    ∧ (laneCarries s d = false → exec (.credit d lim con) s = .next (withdrawTap s) ∧ exec (.unknownRecord d q) s = .next (withdrawTap s)
      ∧ exec (.head d x y) s = .next (withdrawTap s))
    ∧ (linkState s d = 2 → (s.deckAt d).streamOpen = true → precedes (s.deckAt d).consumed (s.deckAt d).nextCol = true →
        ∀ a b o, columnTrick (s.deckAt d) (s.deckAt d).nextCol = some (a, b, o) →
        (precedes (s.deckAt d).nextCol (s.deckAt d).limit = true →
          (∃ t, exec (.columnSend d) s = .next (withdrawTap t) ∧
            (t.deckAt d).nextCol = (s.deckAt d).nextCol + 1 ∧ (t.deckAt d).txSeq = (s.deckAt d).txSeq + 1
            ∧ (∃ fr, t.sent = .column d (s.deckAt d).nextCol fr :: s.sent) ∧ (∀ j, j ≠ d.val → t.deckAt j = s.deckAt j)
            ∧ t = { s with decks := t.decks, sent := t.sent }))
        ∧ (precedes (s.deckAt d).nextCol (s.deckAt d).limit = false →
            (∃ t, exec (.columnSend d) s = .next (withdrawTap t) ∧ t.sent = s.sent ∧ (t.deckAt d).nextCol = (s.deckAt d).nextCol)))

/-- Each of the causes 1 to 4 of R320 puts an active link in FAULT, with its cause, event 64d + 2 and a controlled stop; a second missed
register answer does so with cause 6, and a deck taken away with cause 5; without an active link there is no such fault (R320, R321). A host
access to a front-end register is refused with RESULT 5 without an active link, a write with RESULT 3 while the deck moves; another is sent
in its turn and leaves the port BUSY, and while it is BUSY a command changes nothing (R317). Each of these commands completes, with its own
effect, in every state that meets the conditions named: laneLockTimeout, linkAlert, creditTimeout, statusTimeout, regRespTimeout,
deckPresenceChange, deckFault, feRegisterWrite, feRegisterRead. -/
def Obligations.LinkFaultsAndRegisterAccess : Prop :=
  (∀ (s : State) (d : Fin 4) (l : Fin 17), Live s → laneLocked s d l = false →
     (linkState s d = 2 → (s.deckAt d).streamOpen = true →
       exec (.laneLockTimeout d l) s = .next (withdrawTap (linkFault d 1 (controlLost s d) s))
         ∧ exec (.linkAlert d) s = .next (withdrawTap (linkFault d 2 (controlLost s d) s))
       ∧ exec (.creditTimeout d) s = .next (withdrawTap (linkFault d 3 (controlLost s d) s))
         ∧ exec (.statusTimeout d) s = .next (withdrawTap (linkFault d 4 (controlLost s d) s)))
     ∧ (linkState s d = 2 → laneLocked s d 16 = true → ∀ n a,
         (controlledStop d 4 5 (raiseDeck d 2 [word n] ((setLinkState d 3 s).setFld (Reg.dkLnkState d) Fld.dkLnkStateCause n))).deckAt d = a →
         a.admin = none → linkFault d n (controlLost s d) s
           = (controlledStop d 4 5 (raiseDeck d 2 [word n] ((setLinkState d 3 s).setFld (Reg.dkLnkState d) Fld.dkLnkStateCause n))).onDeck d
               (fun k => { k with motorOffAfterStop := true }))
     ∧ (linkState s d ≠ 2 →
       ∀ c ∈ [Instr.laneLockTimeout d l, .linkAlert d, .creditTimeout d, .statusTimeout d], exec c s = .next (withdrawTap s))
     ∧ (∀ tag w a v h, (s.deckAt d).feAccess = some (tag, w, a, v, 0, h) →
         exec (.regRespTimeout d) s = .next (withdrawTap
           ((sendRegister d w a v h (raiseDeck d 9 [] s)).onDeck d (fun k =>
           { k with feAccess := k.feAccess.map (fun x => (x.1, x.2.1, x.2.2.1, x.2.2.2.1, 1, x.2.2.2.2.2)) }))))
     ∧ (linkState s d = 2 → ∀ tag w a v, (s.deckAt d).feAccess = some (tag, w, a, v, 1, false) →
         exec (.regRespTimeout d) s = .next (withdrawTap
           (linkFault d 6 (controlLost s d)
           (s.onDeck d (fun k => { k with feAccess := none, feQueue := [], modeDue := none })))))
     ∧ ((s.deckAt d).present = true →
       exec (.deckPresenceChange d false) s = .next (withdrawTap
         (linkFault d 5 true (raiseDeck d 6 [] (s.onDeck d (fun k => { k with present := false }))))))
     ∧ ((s.deckAt d).present = false → (∃ t, exec (.deckPresenceChange d true) s = .next (withdrawTap t) ∧
         ((t.deckAt d).present = true
         ∧ t = raiseDeck d 6 [] { s with decks := t.decks } ∧ ∀ j, j ≠ d.val → t.deckAt j = s.deckAt j)))
     ∧ (linkState s d = 2 → exec (.deckFault d) s = .next (withdrawTap (controlledStop d 3 1 (raiseDeck d 5 [] s))))
     ∧ (linkState s d ≠ 2 → exec (.deckFault d) s = .next (withdrawTap (raiseDeck d 5 [] s))))
  ∧ (∀ (s : State) (d : Fin 4), Live s →
       let reg := Reg.dkLnkFeCmd d
       let refused := fun (r : Nat) (t : State) => t.fld reg Fld.dkLnkFeCmdResult = r ∧ SameRegsBut [reg] s t ∧ t = { s with regs := t.regs }
       let sent := fun (w : Bool) (t : State) =>
         t.flag reg Fld.dkLnkFeCmdBusy = true ∧ SameRegsBut [reg] s t ∧ Touches [.regs, .sent, .decks] s t
         ∧ (t.deckAt d).feAccess = some ((s.deckAt d).feTag, w, BitVec.ofNat 16 (s.fld (Reg.dkLnkFeAddr d) Fld.dkLnkFeAddrAddr),
             s.reg (Reg.dkLnkFeData d), 0, true)
         ∧ ∀ j, j ≠ d.val → t.deckAt j = s.deckAt j
       (s.flag reg Fld.dkLnkFeCmdBusy = true → ∀ c ∈ [Instr.feRegisterRead d, .feRegisterWrite d], exec c s = .next (withdrawTap s))
       ∧ (s.flag reg Fld.dkLnkFeCmdBusy = false →
           (linkState s d ≠ 2 → ∀ c ∈ [Instr.feRegisterRead d, .feRegisterWrite d], (∃ t, exec c s = .next (withdrawTap t) ∧ refused 5 t))
           ∧ (linkState s d = 2 → (s.deckAt d).motion.pace ≠ 0 → (∃ t, exec (.feRegisterWrite d) s = .next (withdrawTap t) ∧ refused 3 t))
           ∧ (linkState s d = 2 → (s.deckAt d).feAccess = none → (s.deckAt d).feQueue = [] →
               (∃ t, exec (.feRegisterRead d) s = .next (withdrawTap t) ∧ sent false t)
               ∧ ((s.deckAt d).motion.pace = 0 → (∃ t, exec (.feRegisterWrite d) s = .next (withdrawTap t) ∧ sent true t)))))

/-! ### UCIe ports and DMA (R326 to R339) -/

/-- A flit at an Active port is used where its check holds and counted where not; unacknowledged flits are sent again after 2 µs, and in
place of the ninth time the port retrains, with event 260; an acknowledgement that is due leaves (R329, R330). A port that is not up
receives nothing. A port trains to Active at a rate not above MAX_RATE with event 256, or is DOWN with event 257; it retrains when asked;
clearing both enable bits does nothing; a wait for credits alerts once with event 268 (R326, R332, R337, R339). Each of these commands
completes, with its own effect, in every state that meets the conditions named: flitReceive, ackDue, replayTimeout, portActive, portRetrain,
portEnableWrite, creditWaitAlert. -/
def Obligations.PortsAndFlits : Prop :=
  (∀ (s : State) (p : Fin 2) (flit : List Byte), Live s →
     let k := s.portAt p
     let first := k.txSeq - byte k.unacked.length
     let err := Reg.lnkErr p
     (portState s p = 2 →
       (flitGood flit = true → exec (.flitReceive p flit) s = .next (withdrawTap (pumpPorts (useFlit p flit (setPortState p 2 s)))))
       ∧ (flitGood flit = false → (∃ t, exec (.flitReceive p flit) s = .next (withdrawTap t) ∧
           t.fld err Fld.lnkErrCrc = min (2 ^ Fld.lnkErrCrc.width - 1) (s.fld err Fld.lnkErrCrc + 1)
           ∧ SameRegsBut [err] s t ∧ Touches [.regs, .sent, .lnk] s t))
       ∧ (∃ t, exec (.ackDue p) s = .next (withdrawTap t) ∧ (t.portAt p).ackDue = false ∧ Touches [.sent, .lnk] s t)
       ∧ (k.unacked = [] → exec (.replayTimeout p) s = .next (withdrawTap (pumpPorts s)))
       ∧ (k.unacked ≠ [] → k.replays = 8 → k.replaySeq = first →
           (∃ t, exec (.replayTimeout p) s = .next (withdrawTap t) ∧
             portState t p = 3
             ∧ t.fld err Fld.lnkErrRetrains = min (2 ^ Fld.lnkErrRetrains.width - 1) (s.fld err Fld.lnkErrRetrains + 1)
             ∧ SameRegsBut [err, Reg.lnkPortStatus p] s t
             ∧ t = pumpPorts (raise 260 [] (retrainPort p s))))
       ∧ (k.unacked ≠ [] → k.replays < 8 → k.replayAlerted = true →
           (∃ t, exec (.replayTimeout p) s = .next (withdrawTap t) ∧
             portState t p = 2
             ∧ (∀ i, i < k.unacked.length → .flit p (sealFlit k (k.unacked.getD i []) (first + byte i) 1) ∈ t.sent)
             ∧ Touches [.sent, .lnk] s t)))
     ∧ (portState s p ≠ 2 → portState s p ≠ 4 → exec (.flitReceive p flit) s = .next (withdrawTap s)
       ∧ exec (.replayTimeout p) s = .next (withdrawTap s) ∧ exec (.ackDue p) s = .next (withdrawTap s)))
  ∧ (∀ (s : State) (p : Fin 2) (c : Fin 4) (tr : PortTraining) (en : BitVec 2), Live s →
       let r := Reg.lnkPortStatus p
       let k := s.portAt p
       (portEnabled s p = true → portState s p = 1 →
         (∃ t, exec (.portActive p none) s = .next (withdrawTap t) ∧ portState t p = 6 ∧ SameRegsBut [r] s t
           ∧ t = raise 257 [] { s with regs := t.regs })
         ∧ (∃ t, exec (.portActive p (some tr)) s = .next (withdrawTap t) ∧
             portState t p = 2
             ∧ t.fld r Fld.lnkPortStatusRate = min tr.rate.toNat (s.fld Reg.lnkCtrl Fld.lnkCtrlMaxRate) % 2 ^ Fld.lnkPortStatusRate.width
             ∧ t.fld r Fld.lnkPortStatusRxRepaired = tr.rxRepaired.val % 2 ^ Fld.lnkPortStatusRxRepaired.width
             ∧ SameRegsBut [r, Reg.lnkCtrl] s t ∧ Touches [.regs, .sent, .evt, .lnk] s t))
       ∧ (portEnabled s p = false → exec (.portActive p (some tr)) s = .next (withdrawTap s)
         ∧ exec (.portActive p none) s = .next (withdrawTap s))
       ∧ (portState s p = 2 ∨ portState s p = 4 →
           (∃ t, exec (.portRetrain p) s = .next (withdrawTap t) ∧
             portState t p = 3 ∧ bitAt (t.fld Reg.lnkCtrl Fld.lnkCtrlRetrain) p = true
             ∧ (t.portAt p).unacked = k.unacked ∧ (t.portAt p).txSeq = k.txSeq
             ∧ SameRegsBut [r, Reg.lnkCtrl, Reg.lnkErr p] s t ∧ Touches [.regs, .lnk] s t))
       ∧ (portState s p ≠ 2 → portState s p ≠ 4 → exec (.portRetrain p) s = .next (withdrawTap s))
       ∧ exec (.portEnableWrite 0) s = .next (withdrawTap s)
       ∧ (en ≠ 0 → (∃ t, exec (.portEnableWrite en) s = .next (withdrawTap t) ∧
           t.fld Reg.lnkCtrl Fld.lnkCtrlPortEn = en.toNat
           ∧ (portEnabled s p = false → bitAt en.toNat p = true → portState t p = 1)
           ∧ (portEnabled s p = true → bitAt en.toNat p = false → portState t p = 0)
           ∧ SameRegsBut [Reg.lnkCtrl, Reg.lnkPortStatus 0, Reg.lnkPortStatus 1] s t ∧ Touches [.regs, .sent, .lnk] s t))
       ∧ (k.waiting.any (fun b => flitClass b == c.val + 1) = true → k.credits.getD c 0 = 0 →
           ((c.val + 1) ∉ k.waitAlerted → (∃ t, exec (.creditWaitAlert p c) s = .next (withdrawTap t) ∧
             (c.val + 1) ∈ (t.portAt p).waitAlerted ∧ (t.portAt p).waiting = k.waiting
             ∧ t = raise 268 [] { s with lnk := t.lnk }))
           ∧ ((c.val + 1) ∈ k.waitAlerted → exec (.creditWaitAlert p c) s = .next (withdrawTap s))))

/-- The completions of a DMA read are collected in order, and its owner has them when all have come; an error fails it with event 263, a
timeout with event 262, and its tag is set aside; a tag that names no read is counted with event 264 (R335). Each of these commands
completes, with its own effect, in every state that meets the conditions named: dmaCompletionReceive, dmaReadTimeout, dmaTagRelease. -/
def Obligations.DmaReadsCollectTheirData : Prop :=
  ∀ (s : State) (tag st : BitVec 16) (payload : List Byte) (r : DmaRead), Live s →
    let hi := Reg.lnkDmaErrHi
    let more := { r with got := r.got ++ payload }
    let found := s.lnk.reads.find? (fun x => x.tag == tag)
    (found = none →
      exec (.dmaReadTimeout tag) s = .next (withdrawTap s)
      ∧ (∃ t, exec (.dmaCompletionReceive tag st payload) s = .next (withdrawTap t) ∧
          t.fld hi Fld.lnkDmaErrHiStray = min (2 ^ Fld.lnkDmaErrHiStray.width - 1) (s.fld hi Fld.lnkDmaErrHiStray + 1)
          ∧ SameRegsBut [hi] s t ∧ t = raise 264 [] { s with regs := t.regs }))
    ∧ (found = some r →
        (st = 0 → r.got.length + payload.length < r.count →
          exec (.dmaCompletionReceive tag st payload) s = .next (withdrawTap
            { s with lnk := { s.lnk with reads := s.lnk.reads.map (fun x => if x.tag = tag then more else x) } }))
        ∧ (st = 0 → r.got.length + payload.length = r.count →
            exec (.dmaCompletionReceive tag st payload) s = .next (withdrawTap (readDone more s)))
        ∧ (r.owner.1 = 4097 →
            (st ≠ 0 → (∃ t, exec (.dmaCompletionReceive tag st payload) s = .next (withdrawTap t) ∧
              t.fld hi Fld.lnkDmaErrHiKind = 2
              ∧ t.reg Reg.lnkDmaErrLo = word r.addr ∧ SameRegsBut [hi, Reg.lnkDmaErrLo] s t
              ∧ (∀ x ∈ t.lnk.reads, x.tag ≠ tag) ∧ tag ∈ t.lnk.quarantine ∧ t = raise 263 [] { s with regs := t.regs, lnk := t.lnk }))
            ∧ (∃ t, exec (.dmaReadTimeout tag) s = .next (withdrawTap t) ∧
              t.fld hi Fld.lnkDmaErrHiKind = 1
              ∧ t.reg Reg.lnkDmaErrLo = word r.addr ∧ SameRegsBut [hi, Reg.lnkDmaErrLo] s t
              ∧ (∀ x ∈ t.lnk.reads, x.tag ≠ tag) ∧ tag ∈ t.lnk.quarantine ∧ t = raise 262 [] { s with regs := t.regs, lnk := t.lnk })))
    ∧ (∃ t, exec (.dmaTagRelease tag) s = .next (withdrawTap t) ∧
        tag ∉ t.lnk.quarantine ∧ (∀ x, x ≠ tag → (x ∈ t.lnk.quarantine ↔ x ∈ s.lnk.quarantine))
        ∧ t = { s with lnk := { s.lnk with quarantine := t.lnk.quarantine } })

/-! ### Resets and power states (R340, R355 to R368, R420) -/

/-- A DECK reset of a deck at rest happens at once, one of a moving deck begins a controlled stop; WARM and DECK resets are discarded in
SLEEP and during a WARM reset, and in DOZE they read 1 and wait for RUN; a lost UCIe link makes a WARM reset with event 261 (R8, R337, R339,
R364 to R366). POR and COLD leave no task, table, key, loop or trace and no presence window, in RUN; COLD keeps the guarantee bits of the
tables, which are STICKY. POR leaves the core SEALED or, where the journal has an open tamper entry, TAMPERED, at D0, and works in SCAN too;
a COLD reset of the sideband wants its word first (R12, R340, R349, R353, R363, Table 16-7). Each of these commands completes, with its own
effect, in every state that meets the conditions named: warmReset, deckReset, linkLoss, por, coldReset, sbReset. -/
def Obligations.ResetsByClass : Prop :=
  (∀ (s : State) (d : Fin 4), Live s →
     let reg := Reg.glbReset
     (warmAsked s = false → s.pwr.state ≤ 1 →
       exec .warmReset s = .next (withdrawTap (resetWarm 5 s))
       ∧ exec (.deckReset d) s = .next (withdrawTap (resetDeck d s))
       ∧ (portState s 0 = 6 → portState s 1 = 6 → exec .linkLoss s = .next (withdrawTap (resetWarm 6 (raise 261 [] s)))))
     ∧ (warmAsked s = false → s.pwr.state = 2 →
         (∃ t, exec .warmReset s = .next (withdrawTap t) ∧
           t.fld reg Fld.glbResetWarm = 1 ∧ t.fld reg Fld.glbResetDeck = 0 ∧ SameRegsBut [reg] s t
           ∧ t = { s with regs := t.regs, pwr := { s.pwr with wakeResets := [4] } })
         ∧ (∃ t, exec (.deckReset d) s = .next (withdrawTap t) ∧
           d.val ∈ t.pwr.wakeResets
           ∧ t.fld reg Fld.glbResetDeck = s.fld reg Fld.glbResetDeck ||| 2 ^ d.val ∧ SameRegsBut [reg] s t
           ∧ t = { s with regs := t.regs, pwr := { s.pwr with wakeResets := t.pwr.wakeResets } }))
     ∧ (warmAsked s = true ∨ s.pwr.state = 3 → exec .warmReset s = .next (withdrawTap s) ∧ exec (.deckReset d) s = .next (withdrawTap s))
     ∧ (∀ x, s.pwr.warm = some x → portState s 0 = 6 → portState s 1 = 6 →
         exec .linkLoss s = .next (withdrawTap (raise 261 [] { s with pwr := { s.pwr with warm := some 6 } })))
     ∧ (portState s 0 = 2 → portState s 1 = 2 → exec .linkLoss s = .next (withdrawTap s)))
  ∧ (∀ (s : State) (pin : Bool) (x : Straps) (seed : BitVec 16) (b : BootInput) (v : Word),
       let fresh := fun (t : State) =>
         t.ctx = [] ∧ t.keys = [] ∧ t.traces = [] ∧ t.shoe.mem = [] ∧ t.shoe.tags = [] ∧ t.sec.window = false
         ∧ t.pwr.state = 0 ∧ t.pending = s.pending
       (∃ t, exec (.por pin x seed b) s = .next (withdrawTap t) ∧
         fresh t ∧ t.tables = [] ∧ t.tap.scan = false ∧ t.sec.debug = 0 ∧ t.sec.state = (if tamperOpen t.nvm.journal then 2 else 0)
         ∧ t.sec.lfsr = (if seed = 0 then 0xACE1 else seed))
       ∧ (s.pwr.shutdown = false → (∃ t, exec (.coldReset false b) s = .next (withdrawTap t) ∧
           fresh t ∧ t.sec.debug = 0 ∧ t.sec.openPending = false
           ∧ t.tables = Sparse.remap (fun _ => {}) (fun _ x => { guarantee := x.guarantee }) (keyMidAll s).tables ∧ t.accepted = s.accepted))
       ∧ (Live s → s.pwr.shutdown = false → s.pwr.coldAsked = false → exec (.coldReset true b) s = .next (withdrawTap s))
       ∧ (Live s → exec (.sbReset 0xC01D) s = .next (withdrawTap (raise 267 [] { s with pwr := { s.pwr with coldAsked := true } }))
           ∧ (v ≠ 0xC01D → exec (.sbReset v) s = .next (withdrawTap s))))

/-- POWER to DOZE or SLEEP is refused at D2 and above with SECURITY_STATE; to RUN it completes at once, and to another state it waits for
decks at rest (R57, R356, R360). DOZE ends for a task, a reset that waits or SB_WAKE, SLEEP for SB_WAKE or the mainband; a rail that does
not come up raises event 469 and SLEEP goes on (R357, R358, R367). A power failure stops every deck with deferred errors of cause 6 and
raises event 467 once until a COLD reset; 4 ms later MOTOR_EN falls on every deck; a rail out of range raises event 471 and then acts as a
power failure, but not where the power state allows the rail to be off (R361, R420). Each of these commands completes, with its own effect,
in every state that meets the conditions named: power, dozeExit, sleepExit, sleepExitRailTimeout, sbWake, powerFail, pfailMotorTimeout,
supplyMonitorTrip. -/
def Obligations.PowerStatesAndFailure : Prop :=
  (∀ (s : State) (n : Fin 4096) (u : Task) (b : BootInput) (v : Word), Live s →
     let target := u.field 8 1
     (Begins s n 0x17 u → s.pwr.entering = none →
       (2 ≤ target → 2 ≤ s.sec.debug → exec (.power n) s = .next (withdrawTap (finish n u.seq { status := 0x1C, info2 := word s.sec.state } s)))
       ∧ (target = 0 → exec (.power n) s = .next (withdrawTap (finish n u.seq { status := 0 } (leaveIdle s))))
       ∧ (target = 1 → decksIdle s = true → (∃ t, exec (.power n) s = .next (withdrawTap t) ∧
           t.pwr = { s.pwr with entering := none, state := 1 }
           ∧ Touches [.sent, .evt, .ctx, .pwr] s t))
       ∧ (2 ≤ target → s.sec.debug < 2 → allEarlierDone s u.seq = true → decksIdle s = true →
           (∃ t, exec (.power n) s = .next (withdrawTap t) ∧ t.pwr = { s.pwr with entering := some (n, u.seq, target) }
             ∧ Touches [.ctx, .pwr] s t)))
     ∧ (s.pwr.state = 2 → s.pwr.sbWake = true → s.pwr.wakeResets = [] → 21 ∉ s.pwr.recovering →
         (∃ t, exec (.dozeExit .sbWake) s = .next (withdrawTap t) ∧
           t.pwr.state = 0 ∧ t.pwr.sbWake = false
           ∧ t.fld Reg.glbPower Fld.glbPowerWake = wakeCode .sbWake % 2 ^ Fld.glbPowerWake.width
           ∧ t.fld Reg.glbPaceTarget Fld.glbPaceTargetVddReqMv = s.pwr.savedMv % 2 ^ Fld.glbPaceTargetVddReqMv.width
           ∧ Touches [.regs, .sent, .evt, .pwr] s t))
     ∧ (s.pwr.state = 2 → s.pwr.sbWake = false → exec (.dozeExit .sbWake) s = .next (withdrawTap s))
     ∧ (s.pwr.state = 3 →
         (s.pwr.sbWake = true → (∃ t, exec (.sleepExit .sbWake b) s = .next (withdrawTap t) ∧
           t.pwr.state = 0 ∧ t.sec = s.sec ∧ t.keys = s.keys
           ∧ t.fld Reg.glbPower Fld.glbPowerWake = wakeCode .sbWake % 2 ^ Fld.glbPowerWake.width
           ∧ Touches [.regs, .sent, .evt, .shoe, .img, .decks, .loops, .lnk, .pwr] s t))
         ∧ exec .sleepExitRailTimeout s = .next (withdrawTap (raise 469 [] { s with pwr := { s.pwr with sbWake := false } })))
     ∧ (s.pwr.state ≠ 3 → exec (.sleepExit .mainband b) s = .next (withdrawTap s) ∧ exec .sleepExitRailTimeout s = .next (withdrawTap s))
     ∧ (2 ≤ s.pwr.state → exec (.sbWake 1) s = .next (withdrawTap { s with pwr := { s.pwr with sbWake := true } }))
     ∧ (s.pwr.state ≤ 1 ∨ v ≠ 1 → exec (.sbWake v) s = .next (withdrawTap s)))
  ∧ (∀ (s : State) (rail : Fin 7), Live s →
       (s.pwr.pfail = true → exec .powerFail s = .next (withdrawTap s))
       ∧ (s.pwr.pfail = false → (∃ t, exec .powerFail s = .next (withdrawTap t) ∧
           t.pwr.pfail = true
           ∧ t = emergencyWrites (stopAll 10 6 { (raise 467 [] s).setFld Reg.glbPfail Fld.glbPfailSeen 1 with pwr := { s.pwr with pfail := true } })))
       ∧ (s.pwr.pfail = true → (∃ t, exec .pfailMotorTimeout s = .next (withdrawTap t) ∧
           (∀ d, d < 4 → t.deckAt d = { s.deckAt d with motorEn := false })
           ∧ t = { s with decks := t.decks }))
       ∧ (railMayBeOff s.pwr.state rail = true → exec (.supplyMonitorTrip rail) s = .next (withdrawTap s))
       ∧ (railMayBeOff s.pwr.state rail = false → exec (.supplyMonitorTrip rail) s = .next (withdrawTap (powerFail (raise 471 [word rail] s)))))

/-! ### Islands, voltage and temperature (R18 to R27, R373, R421 to R424) -/

/-- A stalled island whose watchdog is not paused sets its fault bit, raises its event with its number and channel, and takes its action of
Table 01-4; one that is paused does nothing; the crystal's is island 20, on a channel the spec does not number (R18 to R21, R424; log entry
21). THERM_N falls at WARN with event 472 and is released below WARN − 5 °C; at 115 °C every deck stops with event 473 until a COLD reset;
the read strobe follows the temperature's column (R373, R423). Each shows TJ. Each of these commands completes, with its own effect, in
every state that meets the conditions named: handshakeStall, xtalStartTimeout, thermalWarning, thermalShutdown, tjBandChange. -/
def Obligations.IslandsAndTemperature : Prop :=
  (∀ (s : State) (i : Fin 25) (ch : Word), Live s →
     let n := i.val + 1
     let reg := Reg.glbIslandFault
     let bits := s.fld reg Fld.glbIslandFaultFault
     (watchdogPaused s n = true → exec (.handshakeStall i ch) s = .next (withdrawTap s))
     ∧ (watchdogPaused s n = false → islandFaulted s n = true → exec (.handshakeStall i ch) s = .next (withdrawTap (repeatIsland n s)))
     ∧ (watchdogPaused s n = false → islandFaulted s n = false → ∃ a : State,
         a.fld reg Fld.glbIslandFaultFault = bits ||| 2 ^ i.val ∧ SameRegsBut [reg] s a
         ∧ a.pwr = { s.pwr with recovering := if manualRecovery n || decide (n ≤ 2) then addNew n s.pwr.recovering else s.pwr.recovering }
         ∧ (∃ b : State, b.reg reg = a.reg reg ∧ b = { s with regs := a.regs } ∧ a.evt = (raise (islandEvent n) [word n, ch] b).evt)
         ∧ Touches [.regs, .sent, .evt, .pwr] s a ∧ exec (.handshakeStall i ch) s = .next (withdrawTap (islandAction n a)))
     ∧ ∃ c, exec .xtalStartTimeout s = .next (withdrawTap (islandFault 20 c s)))
  ∧ (∀ (s : State) (tj : BitVec 8), Live s →
       let reg := Reg.glbThermal
       let shown := s.setFld reg Fld.glbThermalTj tj.toNat
       let low := s.flag reg Fld.glbThermalTherm
       (low = false → thermalWarn s ≤ tj.toInt → (∃ t, exec (.thermalWarning tj) s = .next (withdrawTap t) ∧
           t.flag reg Fld.glbThermalTherm = true ∧ junction t = tj.toInt ∧ SameRegsBut [reg] s t ∧ t = raise 472 [] { s with regs := t.regs }))
       ∧ (low = true → tj.toInt < thermalWarn s - 5 → (∃ t, exec (.thermalWarning tj) s = .next (withdrawTap t) ∧
           t.flag reg Fld.glbThermalTherm = false ∧ junction t = tj.toInt ∧ SameRegsBut [reg] s t ∧ t = { s with regs := t.regs }))
       ∧ (low = true ∧ thermalWarn s - 5 ≤ tj.toInt ∨ low = false ∧ tj.toInt < thermalWarn s →
         exec (.thermalWarning tj) s = .next (withdrawTap shown))
       ∧ (tj.toInt < 115 ∨ s.pwr.shutdown = true → exec (.thermalShutdown tj) s = .next (withdrawTap shown))
       ∧ (115 ≤ tj.toInt → s.pwr.shutdown = false → (∃ t, exec (.thermalShutdown tj) s = .next (withdrawTap t) ∧
           t.pwr.shutdown = true
           ∧ ∃ a, a = raise 473 [] (stopAll 11 1 (shown.setFld reg Fld.glbThermalShutdown 1))
             ∧ t = { a with pwr := { a.pwr with shutdown := true } }))
       ∧ exec (.tjBandChange tj) s = .next (withdrawTap (takeBand (s.pwr.band.1, tjColumn s.pwr.band.2 tj.toInt) shown)))

/-- SUSTAIN is the measured pace, not below the floor of the voltage in force, and CAP at most 256 of it (R24, R25); the voltage request
follows R27 where a transaction is good, the third bad one sets FAULT with event 474, and a read back shows voltage and current (R421). Each
of these commands completes, with its own effect, in every state that meets the conditions named: slackMeasurement, avsEvaluation,
avsReadback. -/
def Obligations.PaceAndVoltage : Prop :=
  ∀ (s : State) (m : Nat) (v : BitVec 10) (c : BitVec 12) (ack : Bool), Live s →
    let slack := Reg.glbSlackStatus
    let st := Reg.glbAvsStatus
    let u := max (sustainFloor (vddRequest s)) (min 511 m)
    (s.pwr.state ≤ 1 → (∃ t, exec (.slackMeasurement m) s = .next (withdrawTap t) ∧
        t.fld slack Fld.glbSlackStatusSustain = u ∧ t.fld slack Fld.glbSlackStatusCap = min u 256 ∧ t.pwr.measured = true
        ∧ SameRegsBut [slack] s t ∧ Touches [.regs, .sent, .evt, .pwr] s t))
    ∧ (2 ≤ s.pwr.state → exec (.slackMeasurement m) s = .next (withdrawTap s) ∧ exec (.avsEvaluation ack) s = .next (withdrawTap s))
    ∧ (s.pwr.state ≤ 1 → 21 ∉ s.pwr.recovering →
        (s.flag st Fld.glbAvsStatusFault = false →
          (evaluatedRequest s = vddRequest s → s.pwr.avsFails = 0 → exec (.avsEvaluation ack) s = .next (withdrawTap s))
          ∧ (evaluatedRequest s ≠ vddRequest s → (∃ t, exec (.avsEvaluation true) s = .next (withdrawTap t) ∧
              vddRequest t = evaluatedRequest s % 2 ^ Fld.glbPaceTargetVddReqMv.width ∧ t.pwr.avsFails = 0
              ∧ SameRegsBut [Reg.glbPaceTarget, st, slack, Reg.nvmRdDelay] s t ∧ Touches [.regs, .sent, .evt, .pwr] s t))
          ∧ (evaluatedRequest s ≠ vddRequest s → s.pwr.avsFails = 2 → (∃ t, exec (.avsEvaluation false) s = .next (withdrawTap t) ∧
              vddRequest t = vddRequest s ∧ t.flag st Fld.glbAvsStatusFault = true ∧ t.pwr.avsFails = 3
              ∧ SameRegsBut [st] s t ∧ Touches [.regs, .sent, .evt, .pwr] s t)))
        ∧ (∃ t, exec (.avsReadback (some (v, c))) s = .next (withdrawTap t) ∧
            t.fld st Fld.glbAvsStatusVoutMv = v.toNat
            ∧ t.fld st Fld.glbAvsStatusCurrent = c.toNat ∧ t.flag st Fld.glbAvsStatusFault = false
            ∧ SameRegsBut [st] s t ∧ t = { s with regs := t.regs, pwr := { s.pwr with avsFails := 0 } })
        ∧ (s.pwr.avsFails ≠ 2 →
          exec (.avsReadback none) s = .next (withdrawTap { s with pwr := { s.pwr with avsFails := s.pwr.avsFails + 1 } })))

/-! ### Events, notices, hours and meters (R385 to R402) -/

/-- An event enters the Scorepad's records, or waits while it is frozen, and reaches nothing but the event unit and the outputs (R385, R387,
R392); an image-defined condition raises event 496 + k where the image in force defines it. FREEZE holds the records until it is cleared, by
the host or after 2 s with event 450, and they then enter in order (R392); under presence the records are cleared with event 456; the
steward persists what waits, seven records to a page, unless it is parked, and a sector that its ring reuses loses its old ones (R393); a
clock write raises event 451 (R395). Each of these commands completes, with its own effect, in every state that meets the conditions named:
imageDefinedCondition, freezeWrite, freezeTimeout, scorepadClear, scorepadPersist, wallWrite. -/
def Obligations.EventsAndTheScorepad : Prop :=
  (∀ (s : State) (ev : Nat) (l : List Word) (k : Fin 16), Live s →
     Touches [.evt, .sent] s (raise ev l s) ∧ (∃ m, (raise ev l s).sent = m ++ s.sent)
     ∧ (∀ i, s.img.inForce = some i →
         (∀ v, Sparse.find i.eventMap k = some v → exec (.imageDefinedCondition k) s = .next (withdrawTap (raise (496 + k) [] s)))
         ∧ (Sparse.find i.eventMap k = none → exec (.imageDefinedCondition k) s = .next (withdrawTap s)))
     ∧ (s.img.inForce = none → exec (.imageDefinedCondition k) s = .next (withdrawTap s)))
  ∧ (∀ (s : State) (v : Word), Live s →
       (∃ t, exec (.freezeWrite true) s = .next (withdrawTap t) ∧ frozen t = true ∧ SameRegsBut [Reg.evtSpCtrl] s t
         ∧ t = { s with regs := t.regs })
       ∧ (frozen s = false → exec (.freezeWrite false) s = .next (withdrawTap s) ∧ exec .freezeTimeout s = .next (withdrawTap s))
       ∧ (frozen s = true → ∃ a : State, frozen a = false ∧ SameRegsBut [Reg.evtSpCtrl] s a
           ∧ a = { s with regs := a.regs, evt := { s.evt with held := [] } }
           ∧ exec (.freezeWrite false) s = .next (withdrawTap (forEach s.evt.held enterHeld a))
           ∧ exec .freezeTimeout s = .next (withdrawTap (raise 450 [] (forEach s.evt.held enterHeld a))))
       ∧ (s.window = true → exec .scorepadClear s = .next (withdrawTap
           (raise 456 [word s.evt.records.length]
           { s with evt := { s.evt with records := [], persisted := [], toPersist := []
                                        last := s.evt.last.filter (fun k => s.evt.held.any (SpRecord.same k)) } })))
       ∧ (parked s = true ∨ s.evt.toPersist = [] → exec .scorepadPersist s = .next (withdrawTap s))
       ∧ (parked s = false → s.evt.toPersist ≠ [] → (∃ t, exec .scorepadPersist s = .next (withdrawTap t) ∧
           t.evt.toPersist = []
           ∧ (s.evt.toPersist.length ≤ 7 → t.evt.persistPage = s.evt.persistPage + 1
             ∧ t.evt.persisted = s.evt.persisted.filter (fun e => decide (s.evt.persistPage / 64 < e.1 / 64 + 8))
                 ++ s.evt.toPersist.map (fun r => (s.evt.persistPage, r))
             ∧ (s.evt.persistPage < 512 → t.nvm = s.nvm))
           ∧ t.evt = { s.evt with persisted := t.evt.persisted, persistPage := t.evt.persistPage, toPersist := [], persistRun := false }
           ∧ Touches [.evt, .nvm, .bytes] s t))
       ∧ (∃ t, exec (.wallWrite v) s = .next (withdrawTap t) ∧
           t.reg Reg.evtWall = v ∧ SameRegsBut [Reg.evtWall] s t
           ∧ t = raise 451 [s.reg Reg.evtWall, v] { s with regs := t.regs, evt := { s.evt with wallSet := true } }))

/-- Each read of the notice port gives the next word of the packet in service; with none in service, the first word of the first packet of
the chain of highest priority, and 0 where there is none (R398). Hours advance by one each tick while island 20 is well, with a pulse of
TSYNC_OUT and a second less of the window (R343, R394, R426); every 60th a checkpoint is kept or event 457 raised; every active context has
its second; a snapshot that does not fit is missed with event 452 (R400, R402). Each of these commands completes, with its own effect, in
every state that meets the conditions named: noticePop, hoursTick, hoursCheckpoint, meterSnapshot, activeSecondTick. -/
def Obligations.NoticesHoursAndMeters : Prop :=
  (∀ s : State, Live s →
     let out := fun (w : Word) (e : EvtUnit) => { s with evt := e, sent := .read Reg.evtNtcPop w :: s.sent }
     (∀ c w l n, s.evt.service = some (c, w :: l, n) →
       exec .noticePop s = .next (withdrawTap (out w { s.evt with service := if l.isEmpty then none else some (c, l, n) })))
     ∧ (s.evt.service = none →
         (∀ c w l rest, Sparse.get [] s.evt.chains c = (w :: l) :: rest → (∀ x, x < c → Sparse.get [] s.evt.chains x = []) → c < 4 →
           exec .noticePop s = .next (withdrawTap
                                (out w { s.evt with chains := Sparse.set [] s.evt.chains c rest
                                                    service := if l.isEmpty then none else some (c, l, l.length + 1) })))
         ∧ ((∀ x, x < 4 → Sparse.get [] s.evt.chains x = []) → exec .noticePop s = .next (withdrawTap (out 0 s.evt)))))
  ∧ (∀ (s : State) (n : Nat), Live s →
       (20 ∉ s.pwr.recovering →
         (s.sec.window = false →
           exec .hoursTick s = .next (withdrawTap { s with evt := { s.evt with hours := s.evt.hours + 1 }, sent := .tsync :: s.sent }))
         ∧ (s.sec.window = true →
           exec .hoursTick s = .next (withdrawTap
             { s with evt := { s.evt with hours := s.evt.hours + 1 }, sent := .tsync :: s.sent, sec := { s.sec with remain := s.sec.remain - 1 } }))
         ∧ (s.evt.hours.toNat % 60 = 0 →
             (∃ t, exec (.hoursCheckpoint true) s = .next (withdrawTap t) ∧
               t.evt = { s.evt with hourPage := s.evt.hourPage + 1
                                    checkpoints := (s.evt.hourPage, (s.evt.hours, s.evt.cycles))
                                      :: s.evt.checkpoints.filter (fun e => decide (s.evt.hourPage / 64 < e.1 / 64 + 8)) }
               ∧ (s.evt.hourPage < 512 → t.nvm = s.nvm) ∧ Touches [.evt, .nvm, .bytes] s t)
             ∧ (∃ t, exec (.hoursCheckpoint false) s = .next (withdrawTap t) ∧
               ∃ a : State, t = raise 457 [] a
               ∧ a.evt = { s.evt with hourPage := s.evt.hourPage + 1
                                      checkpoints := s.evt.checkpoints.filter (fun e => decide (s.evt.hourPage / 64 < e.1 / 64 + 8)) }
               ∧ (s.evt.hourPage < 512 → a.nvm = s.nvm) ∧ Touches [.evt, .nvm, .bytes] s a)
             ∧ (s.flag Reg.evtMtrCtrl Fld.evtMtrCtrlEnable = true →
                 let used := (s.reg Reg.evtMtrTail - s.reg Reg.evtMtrHead).toNat + (activeContexts s).length
                 (2 ^ meterLog s < used → (∃ t, exec .meterSnapshot s = .next (withdrawTap t) ∧
                   t.evt.gap = true ∧ t.ctx = s.ctx
                   ∧ SameRegsBut [Reg.evtMtrMissed] s t ∧ Touches [.regs, .evt, .sent] s t))
                 ∧ (used ≤ 2 ^ meterLog s → (∃ t, exec .meterSnapshot s = .next (withdrawTap t) ∧
                     t.reg Reg.evtMtrTail = word ((s.reg Reg.evtMtrTail).toNat + (activeContexts s).length)
                     ∧ t.evt.gap = false ∧ t.evt.restart = false ∧ (∀ i, (t.ctxAt i).metersChanged = false)
                     ∧ SameRegsBut [Reg.evtMtrTail] s t ∧ Touches [.regs, .evt, .sent, .ctx] s t)))))
       ∧ (20 ∈ s.pwr.recovering → ∀ b, exec .hoursTick s = .next (withdrawTap s) ∧ exec (.hoursCheckpoint b) s = .next (withdrawTap s)
         ∧ exec .meterSnapshot s = .next (withdrawTap s))
       ∧ (25 ∉ s.pwr.recovering → s.pwr.state ≤ 1 → Sparse.wf (fun _ => ({} : Context)) s.ctx = true →
         (∃ t, exec .activeSecondTick s = .next (withdrawTap t) ∧
           (t.ctxAt n = if (s.ctxAt n).tasks = [] then s.ctxAt n
             else { s.ctxAt n with activeS := (s.ctxAt n).activeS + 1, metersChanged := true }) ∧ t = { s with ctx := t.ctx }))
       ∧ (25 ∈ s.pwr.recovering ∨ 2 ≤ s.pwr.state → exec .activeSecondTick s = .next (withdrawTap s)))

/-! ### Register access, the console and the TAP (R8 to R12, R334, R353, R403 to R413) -/

/-- A write that no rule gives an action of its own gives each field what its access code says: RW takes the value, as does a WO field that
a reset class names (a staging register, R114), RO and any other WO field keep theirs, W1C clears and W1S sets the bits written as 1; a
refused RWP field keeps its value, the others act (R8, R10). Each of these commands completes, with its own effect, in every state that
meets the conditions named: registerWrite. -/
def Obligations.FieldsFollowTheirAccessCodes : Prop :=
  ∀ (s : State) (off : Nat) (v : Word) (tag : BitVec 16) (r : RegSpec) (f : FieldSpec), Live s →
    s.pwr.state ≠ 3 → accessFault off 4 = false → findReg off = some r → f ∈ r.fields →
    (writeCtx r off v s <|> writeDeck r off v s <|> writeMem r off v s <|> writeGlobal r off v s) = none →
    off ≠ Reg.secRefused → off ≠ Reg.secRefusedAddr →
    let old := s.fld off f.fld
    let new := getBits v f.fld
    let refused := changesRwp r (s.reg off) v && !s.window
    (∃ t, exec (.registerWrite off [v] tag) s = .next (withdrawTap t) ∧
      (t.fld off f.fld = match f.acc with
        | .rw => new
        | .ro => old
        | .wo => if f.cls = .none then old else new
        | .w1c => old - (old &&& new)
        | .w1s => old ||| new
        | .rwp => if refused then old else new)
      ∧ (refused = false → SameRegsBut [off] s t ∧ t = { s with regs := t.regs })
      ∧ (refused = true → SameRegsBut [off, Reg.secRefused, Reg.secRefusedAddr] s t ∧ t = raise 418 [word off] { s with regs := t.regs }))

/-- An access that breaks a rule of R334, or meets an offset without a register, has none of its words applied and is answered with an error
completion; a good write applies its words in ascending order (R8, R11, R334). The console collects a line at D1 and above and is silent at
D0; what it answers at a line's end is free (R353; log entry 19). Each of these commands completes, with its own effect, in every state that
meets the conditions named: unassignedAccess, registerWrite, serviceConsoleInput. -/
def Obligations.FaultyAccessesAndTheConsole : Prop :=
  (∀ (s : State) (a len : Nat) (l : List Word) (w : Word) (tag : BitVec 16) (wr : Bool), Live s → s.pwr.state ≠ 3 →
     (a % 4 ≠ 0 ∨ len % 4 ≠ 0 ∨ len < 4 ∨ 224 < len ∨ 0x4000000 < a + len ∨ (∃ k, 4 * k < len ∧ findReg (a + 4 * k) = none) →
       (∃ t, exec (.unassignedAccess wr a len tag) s = .next (withdrawTap t) ∧
         (∃ m, t.sent = m ++ .mmio tag 1 wr a [] :: s.sent) ∧ Touches [.regs, .sent, .evt] s t)
       ∧ (len = 4 * l.length → (∃ t, exec (.registerWrite a l tag) s = .next (withdrawTap t) ∧
         (∃ m, t.sent = m ++ .mmio tag 1 true a [] :: s.sent) ∧ Touches [.regs, .sent, .evt] s t)))
     ∧ (accessFault a (4 * (l.length + 1)) = false →
       exec (.registerWrite a (w :: l) tag) s = .next (withdrawTap (writeWords (a + 4) l (writeWord a w s))))
     ∧ (accessFault a len = false → exec (.unassignedAccess wr a len tag) s = .next (withdrawTap s)))
  ∧ (∀ (s : State) (ch : Byte), Live s →
       (s.sec.debug = 0 → exec (.serviceConsoleInput ch) s = .next (withdrawTap s))
       ∧ (s.sec.debug ≠ 0 → ch ≠ 10 → ch ≠ 13 →
           exec (.serviceConsoleInput ch) s = .next (withdrawTap { s with sec := { s.sec with console := s.sec.console ++ [ch] } }))
       ∧ (s.sec.debug ≠ 0 → ch = 10 ∨ ch = 13 → (∃ t, exec (.serviceConsoleInput ch) s = .next (withdrawTap t) ∧
           t.sec = { s.sec with console := [] }
           ∧ (∃ m, t.sent = m ++ s.sent ∧ ∀ x ∈ m, ∃ b, x = .console b) ∧ Touches [.tick, .sent, .sec] s t)))

/-- The TAP's states move on rising edges with TMS, its registers shift there and TDO changes on falling edges; five rising edges with TMS
high, or TRST_N, reset it to IDCODE (R404, R408). At Update-IR an instruction takes effect where the conditions of Table 19-1 hold; else
BYPASS is substituted for it, counted and reported with event 425 (R405, R407); Update-DR latches the boundary register (R408). Each of
these commands completes, with its own effect, in every state that meets the conditions named: tckEdge, tapReset, tapUpdateIr, tapUpdateDr.
-/
def Obligations.TapClockAndInstructions : Prop :=
  (∀ (s : State) (tms tdi : Bool) (pins : BitVec 382), Live s →
     let x := s.tap
     (tapNext x.fsm tms ≠ 0 → (∃ t, exec (.tckEdge true tms tdi pins) s = .next (withdrawTap t) ∧
       t.tap.fsm = tapNext x.fsm tms ∧ t.tap.ir = x.ir
       ∧ (x.fsm = 11 → t.tap.irShift = BitVec.ofNat 8 (x.irShift.toNat / 2 + 128 * (if tdi then 1 else 0)))
       ∧ (x.fsm = 3 → t.tap.drShift = captureDr x.ir.toNat pins) ∧ t = { s with tap := t.tap }))
     ∧ (tapNext x.fsm tms = 0 →
       (∃ t, exec (.tckEdge true tms tdi pins) s = .next (withdrawTap t) ∧ t.tap.fsm = 0 ∧ t.tap.ir = 1 ∧ Touches [.shoe, .mem, .tap] s t))
     ∧ (∃ t, exec (.tckEdge false tms tdi pins) s = .next (withdrawTap t) ∧
         (x.fsm = 11 → t.tap.tdo = x.irShift.getLsbD 0)
         ∧ (x.fsm = 4 → foreignInstr x.ir.toNat = false → t.tap.tdo = x.drShift.headD false)
         ∧ t = { s with tick := s.tick + 1, tap := { x with tdo := t.tap.tdo, trstLow := false } })
     ∧ (∃ t, exec .tapReset s = .next (withdrawTap t) ∧
         t.tap = { x with fsm := 0, ir := 1, substituted := false, irShift := 0, drShift := [], trstLow := true }
         ∧ Touches [.shoe, .mem, .tap] s t)
     ∧ (∀ st, tapNext (tapNext (tapNext (tapNext (tapNext st true) true) true) true) true = 0))
  ∧ (∀ s : State, Live s →
       let new := s.tap.irShift
       (s.tap.fsm = 15 → s.tap.ir ≠ 0x10 → s.tap.ir ≠ 0x11 →
         (tapHonoured s new.toNat = true → new.toNat ∉ pinDriving →
           exec .tapUpdateIr s = .next (withdrawTap { s with tap := { s.tap with ir := new, substituted := false, scan := new == 0x30 } }))
         ∧ (tapHonoured s new.toNat = true → new.toNat ∈ pinDriving →
           exec .tapUpdateIr s = .next (withdrawTap
             (forEach (List.range 4) disableLink { s with tap := { s.tap with ir := new, substituted := false, scan := new == 0x30 } })))
         ∧ (tapHonoured s new.toNat = false → (∃ t, exec .tapUpdateIr s = .next (withdrawTap t) ∧
             t.tap = { s.tap with ir := 0xFF, substituted := true }
             ∧ t.fld Reg.secRefused Fld.secRefusedTap = min (2 ^ Fld.secRefusedTap.width - 1) (s.fld Reg.secRefused Fld.secRefusedTap + 1)
             ∧ SameRegsBut [Reg.secRefused] s t ∧ t = raise 425 [] { s with regs := t.regs, tap := t.tap })))
       ∧ (s.tap.fsm ≠ 15 → exec .tapUpdateIr s = .next (withdrawTap s))
       ∧ (s.tap.fsm = 8 → boundaryInstr s.tap.ir.toNat = true → (∃ t, exec .tapUpdateDr s = .next (withdrawTap t) ∧
           (∀ i, i < 382 → s.tap.drShift.length ≤ 382 → t.tap.boundary.getLsbD i = s.tap.drShift.getD i false)
           ∧ t = { s with tap := { s.tap with boundary := t.tap.boundary } }))
       ∧ (s.tap.fsm ≠ 8 ∨ boundaryInstr s.tap.ir.toNat = false → exec .tapUpdateDr s = .next (withdrawTap s)))

/-! ### The block as a whole -/

/-- A step takes the command at the front of the queue, runs it, and leaves the rest waiting. -/
def Obligations.StepRunsTheFrontCommand : Prop :=
  ∀ (s : State) (c : Instr) (l : List Instr), step { s with pending := c :: l } = exec c { s with pending := l }

/-- After reset nothing waits, the memories list nothing and are in canonical form, the TAP instruction IDCODE is in effect, and the tapes,
tables, contexts and keys are empty (R350, R353, R404; that the model's reset state is the one before the first POR is its choice, log entry
3). With no command waiting the block idles: the state stays as it is (the model's choice, log entry 1). -/
def Obligations.ResetIsLegalAndIdles : Prop :=
  (State.reset.pending = [] ∧ Memory.wf State.reset = true ∧ tapLegal State.reset ∧ Live State.reset
   ∧ State.reset.shoe.mem = [] ∧ State.reset.nvm.bytes = [] ∧ State.reset.tap.ir = 1 ∧ State.reset.keys = [] ∧ State.reset.ctx = []
   ∧ State.reset.tables = [] ∧ State.reset.sec.state = 0 ∧ State.reset.sec.debug = 0 ∧ State.reset.sec.window = false)
  ∧ (∀ s : State, s.pending = [] → step s = .next s)

/-- The check that ends every command: an instruction in effect that meets its conditions stays; another is replaced by BYPASS, counted and
reported with event 425 (R354, R407), and where it was HBMs_1500 the stack is never written (R410). While SCAN is in effect the core's state
after a command is undefined, but a command of the TAP moves the TAP as always (R413). -/
def Obligations.TapCheckAfterEveryCommand : Prop :=
  ∀ s : State,
    (tapHonoured s s.tap.ir.toNat = true → withdrawTap s = s)
    ∧ (tapHonoured s s.tap.ir.toNat = false →
        (withdrawTap s).tap = { s.tap with ir := 0xFF, substituted := true }
        ∧ (withdrawTap s).fld Reg.secRefused Fld.secRefusedTap
            = min (2 ^ Fld.secRefusedTap.width - 1) (s.fld Reg.secRefused Fld.secRefusedTap + 1)
        ∧ SameRegsBut [Reg.secRefused] s (withdrawTap s) ∧ Touches [.regs, .sent, .evt, .tap, .shoe, .mem] s (withdrawTap s)
        ∧ (s.tap.ir ≠ 0x10 → s.tap.ir ≠ 0x11 → (withdrawTap s).shoe = s.shoe)
        ∧ (∀ k, k < 2 → s.tap.ir.toNat = 0x10 + k → ∀ w ∈ (withdrawTap s).shoe.written, w / 2 ^ 30 ≠ k))
    ∧ (∀ (rising tms tdi : Bool) (pins : BitVec 382), s.tap.scan = true → ∃ t, exec (.tckEdge rising tms tdi pins) s = .next t
        ∧ t.tap.scan = true ∧ t.tap.fsm = (if rising then tapNext s.tap.fsm tms else s.tap.fsm))

/-- Every command in every state answers a next state: none faults and none is refused, and none takes another from the queue. -/
def Obligations.EveryCommandAnswers : Prop :=
  ∀ (s : State) (c : Instr), ∃ t, exec c s = .next t ∧ t.pending = s.pending

/-- What no command but those of its row's parts changes: a command answers a state that differs from the one before only in the parts that
`commandParts` lists for it, in registers, events and outputs, and in what the check of the TAP instruction does. -/
def Obligations.CommandsTouchOnlyTheirParts : Prop :=
  ∀ (s t : State) (c : Instr), Live s → exec c s = .next t →
    Touches (commandParts c ++ [.regs, .sent, .evt, .shoe, .mem, .tap]) s t

/-- Every step keeps the TAP legal: the instruction in effect meets its conditions, unless SCAN has taken the core (R407, R413). -/
def Obligations.StepsKeepTheTapLegal : Prop :=
  ∀ s t : State, tapLegal s → step s = .next t → tapLegal t

/-- Every step keeps the two addressed memories in canonical form, so that equal memories are equal data. -/
def Obligations.StepsKeepTheMemoriesCanonical : Prop :=
  ∀ s t : State, Memory.wf s = true → step s = .next t → Memory.wf t = true
end

