-- ==== Sys2Proof/Laws/Bits.lean ====
section
/-! SUPPORT. Laws of bit fields: a field reads what was put into it, and the other fields keep their values. -/

namespace Sys2Proof.Machine

theorem word_toNat (v : Nat) : (word v).toNat = v % 2 ^ 32 := by simp [word]

/-- Bit `i` of a word into which `v` has been put at field `f`. -/
theorem testBit_putBits (w : Word) (f : Fld) (v : Nat) (hf : f.lo ≤ f.hi) (i : Nat) (hi : i < 32) :
    (putBits w f v).toNat.testBit i = if f.lo ≤ i ∧ i ≤ f.hi then v.testBit (i - f.lo) else w.toNat.testBit i := by
  have hw : f.width = f.hi + 1 - f.lo := by unfold Fld.width; omega
  have e : w.toNat % 2 ^ f.lo + (v % 2 ^ f.width) <<< f.lo + (w.toNat >>> (f.hi + 1)) <<< (f.hi + 1)
      = 2 ^ (f.hi + 1) * (w.toNat >>> (f.hi + 1)) + (2 ^ f.lo * (v % 2 ^ f.width) + w.toNat % 2 ^ f.lo) := by
    simp only [Nat.shiftLeft_eq]; ring
  have hlow : w.toNat % 2 ^ f.lo < 2 ^ f.lo := Nat.mod_lt _ (Nat.two_pow_pos _)
  have hmid : 2 ^ f.lo * (v % 2 ^ f.width) + w.toNat % 2 ^ f.lo < 2 ^ (f.hi + 1) := by
    have h1 : v % 2 ^ f.width < 2 ^ f.width := Nat.mod_lt _ (Nat.two_pow_pos _)
    have h2 : 2 ^ (f.hi + 1) = 2 ^ f.lo * 2 ^ f.width := by rw [← Nat.pow_add]; congr 1; omega
    calc 2 ^ f.lo * (v % 2 ^ f.width) + w.toNat % 2 ^ f.lo
        < 2 ^ f.lo * (v % 2 ^ f.width) + 2 ^ f.lo := by omega
      _ = 2 ^ f.lo * (v % 2 ^ f.width + 1) := by ring
      _ ≤ 2 ^ f.lo * 2 ^ f.width := Nat.mul_le_mul_left _ h1
      _ = 2 ^ (f.hi + 1) := h2.symm
  unfold putBits
  rw [word_toNat, Nat.testBit_mod_two_pow, e, Nat.testBit_two_pow_mul_add _ hmid, Nat.testBit_two_pow_mul_add _ hlow]
  by_cases h1 : i < f.hi + 1
  · by_cases h2 : i < f.lo
    · have : ¬ (f.lo ≤ i ∧ i ≤ f.hi) := by omega
      simp [h1, h2, this, hi, Nat.testBit_mod_two_pow]
    · have : f.lo ≤ i ∧ i ≤ f.hi := by omega
      have h3 : i - f.lo < f.width := by omega
      simp [h1, h2, this, hi, Nat.testBit_mod_two_pow, h3]
  · have : ¬ (f.lo ≤ i ∧ i ≤ f.hi) := by omega
    have h4 : f.hi + 1 + (i - (f.hi + 1)) = i := by omega
    simp [h1, this, hi, Nat.testBit_shiftRight, h4]

theorem testBit_getBits (w : Word) (f : Fld) (i : Nat) :
    (getBits w f).testBit i = (decide (i < f.width) && w.toNat.testBit (f.lo + i)) := by
  simp [getBits, Nat.testBit_mod_two_pow, Nat.testBit_shiftRight]

/-- A field reads what was put into it. -/
theorem getBits_putBits_same (w : Word) (f : Fld) (v : Nat) (h : f.lo ≤ f.hi) (h32 : f.hi < 32) :
    getBits (putBits w f v) f = v % 2 ^ f.width := by
  have hw : f.width = f.hi + 1 - f.lo := by unfold Fld.width; omega
  apply Nat.eq_of_testBit_eq
  intro i
  rw [testBit_getBits, Nat.testBit_mod_two_pow]
  by_cases hi : i < f.width
  · have h1 : f.lo ≤ f.lo + i ∧ f.lo + i ≤ f.hi := by omega
    rw [testBit_putBits w f v h _ (by omega), if_pos h1]
    simp [hi]
  · simp [hi]

/-- A field that does not meet the one written keeps its value. -/
theorem getBits_putBits_other (w : Word) (f g : Fld) (v : Nat) (h : f.lo ≤ f.hi) (hg : g.lo ≤ g.hi) (g32 : g.hi < 32)
    (apart : g.hi < f.lo ∨ f.hi < g.lo) : getBits (putBits w f v) g = getBits w g := by
  have hw : g.width = g.hi + 1 - g.lo := by unfold Fld.width; omega
  apply Nat.eq_of_testBit_eq
  intro i
  rw [testBit_getBits, testBit_getBits]
  by_cases hi : i < g.width
  · have h1 : ¬ (f.lo ≤ g.lo + i ∧ g.lo + i ≤ f.hi) := by omega
    rw [testBit_putBits w f v h _ (by omega), if_neg h1]
  · simp [hi]

theorem getBits_lt (w : Word) (f : Fld) : getBits w f < 2 ^ f.width := Nat.mod_lt _ (Nat.two_pow_pos _)

@[simp] theorem le_length (n v : Nat) : (le n v).length = n := by
  induction n generalizing v with
  | zero => rfl
  | succ n ih => simp [le, ih]

@[simp] theorem zeros_length (n : Nat) : (zeros n).length = n := List.length_replicate

@[simp] theorem padTo_length (n : Nat) (l : List Byte) : (padTo n l).length = n := by
  simp [padTo]; omega

end Sys2Proof.Machine
end

