-- ==== Sys2Proof/Laws/Sparse.lean ====
section
/-! SUPPORT. Laws of sparse tables: read after write, and the canonical form kept by every operation. -/

namespace Sys2Proof.Machine

theorem Sparse.find_nil {α : Type} (k : Nat) : Sparse.find ([] : Sparse α) k = none := rfl

theorem Sparse.find_cons {α : Type} (i : Nat) (v : α) (m : Sparse α) (k : Nat) :
    Sparse.find ((i, v) :: m) k = if i = k then some v else Sparse.find m k := rfl

@[simp] theorem Sparse.get_nil {α : Type} (d : α) (k : Nat) : Sparse.get d [] k = d := rfl

@[simp] theorem Sparse.find_erase_same {α : Type} (m : Sparse α) (k : Nat) : Sparse.find (Sparse.erase m k) k = none := by
  induction m with
  | nil => rfl
  | cons e m ih =>
    obtain ⟨i, v⟩ := e
    by_cases h : i = k <;> simp [Sparse.erase, Sparse.find_cons, h, ih]

theorem Sparse.find_erase_ne {α : Type} (m : Sparse α) {k j : Nat} (h : j ≠ k) :
    Sparse.find (Sparse.erase m k) j = Sparse.find m j := by
  induction m with
  | nil => rfl
  | cons e m ih =>
    obtain ⟨i, v⟩ := e
    by_cases hi : i = k
    · subst hi; simp [Sparse.erase, Sparse.find_cons, ih, Ne.symm h]
    · simp [Sparse.erase, hi, Sparse.find_cons, ih]

/-- The numbers of a table are all different from `k`. -/
theorem Sparse.find_insert_ne {α : Type} (m : Sparse α) (k : Nat) (v : α) {j : Nat} (h : j ≠ k) :
    Sparse.find (Sparse.insert m k v) j = Sparse.find m j := by
  induction m with
  | nil => simp [Sparse.insert, Sparse.find_cons, Sparse.find_nil, Ne.symm h]
  | cons e m ih =>
    obtain ⟨i, w⟩ := e
    by_cases hk : k < i
    · simp [Sparse.insert, hk, Sparse.find_cons, Ne.symm h]
    · simp [Sparse.insert, hk, Sparse.find_cons, ih]

theorem Sparse.find_insert_same {α : Type} (m : Sparse α) (k : Nat) (v : α) (h : Sparse.find m k = none) :
    Sparse.find (Sparse.insert m k v) k = some v := by
  induction m with
  | nil => simp [Sparse.insert, Sparse.find_cons]
  | cons e m ih =>
    obtain ⟨i, w⟩ := e
    rw [Sparse.find_cons] at h
    by_cases hi : i = k
    · simp [hi] at h
    · simp only [hi, if_false] at h
      by_cases hk : k < i
      · simp [Sparse.insert, hk, Sparse.find_cons]
      · simp [Sparse.insert, hk, Sparse.find_cons, hi, ih h]

@[simp] theorem Sparse.find_put_same {α : Type} (m : Sparse α) (k : Nat) (v : α) : Sparse.find (Sparse.put m k v) k = some v :=
  Sparse.find_insert_same _ _ _ (Sparse.find_erase_same m k)

theorem Sparse.find_put_ne {α : Type} (m : Sparse α) (k : Nat) (v : α) {j : Nat} (h : j ≠ k) :
    Sparse.find (Sparse.put m k v) j = Sparse.find m j := by
  rw [Sparse.put, Sparse.find_insert_ne _ _ _ h, Sparse.find_erase_ne _ h]

@[simp] theorem Sparse.get_set_same {α : Type} [DecidableEq α] (d : α) (m : Sparse α) (k : Nat) (v : α) :
    Sparse.get d (Sparse.set d m k v) k = v := by
  unfold Sparse.get Sparse.set
  split
  · next h => simp [h]
  · simp

theorem Sparse.get_set_ne {α : Type} [DecidableEq α] (d c : α) (m : Sparse α) (k : Nat) (v : α) {j : Nat} (h : j ≠ k) :
    Sparse.get c (Sparse.set d m k v) j = Sparse.get c m j := by
  unfold Sparse.get Sparse.set
  split
  · rw [Sparse.find_erase_ne _ h]
  · rw [Sparse.find_put_ne _ _ _ h]

/-! ### The canonical form -/

/-- The canonical form as a proposition on the list: numbers strictly rising, no listed value equal to the unlisted one. -/
def Sparse.Canonical {α : Type} (d : Nat → α) (m : Sparse α) : Prop :=
  List.Pairwise (fun a b : Nat × α => a.1 < b.1) m ∧ ∀ e ∈ m, e.2 ≠ d e.1

theorem Sparse.wf_iff {α : Type} [DecidableEq α] (d : Nat → α) (m : Sparse α) :
    Sparse.wf d m = true ↔ Sparse.Canonical d m := by
  unfold Sparse.Canonical
  induction m with
  | nil => simp [Sparse.wf]
  | cons e m ih =>
    obtain ⟨i, v⟩ := e
    cases m with
    | nil => simp [Sparse.wf]
    | cons e' m =>
      obtain ⟨j, w⟩ := e'
      simp only [Sparse.wf, Bool.and_eq_true, decide_eq_true_eq, ih]
      constructor
      · rintro ⟨⟨hv, hij⟩, hp, hd⟩
        refine ⟨List.pairwise_cons.2 ⟨fun x hx => ?_, hp⟩, fun x hx => ?_⟩
        · rcases List.mem_cons.1 hx with rfl | hx
          · exact hij
          · exact lt_trans hij ((List.pairwise_cons.1 hp).1 x hx)
        · rcases List.mem_cons.1 hx with rfl | hx
          · exact hv
          · exact hd x hx
      · rintro ⟨hp, hd⟩
        exact ⟨⟨hd _ (List.mem_cons_self ..), (List.pairwise_cons.1 hp).1 _ (List.mem_cons_self ..)⟩,
          (List.pairwise_cons.1 hp).2, fun x hx => hd x (List.mem_cons_of_mem _ hx)⟩

theorem Sparse.mem_erase {α : Type} (m : Sparse α) (k : Nat) (e : Nat × α) : e ∈ Sparse.erase m k ↔ e ∈ m ∧ e.1 ≠ k := by
  induction m with
  | nil => simp [Sparse.erase]
  | cons x m ih =>
    obtain ⟨i, v⟩ := x
    by_cases h : i = k
    · simp only [Sparse.erase, h, if_true, ih, List.mem_cons]
      constructor
      · rintro ⟨hm, hk⟩; exact ⟨Or.inr hm, hk⟩
      · rintro ⟨rfl | hm, hk⟩
        · exact absurd rfl hk
        · exact ⟨hm, hk⟩
    · simp only [Sparse.erase, h, if_false, ih, List.mem_cons]
      constructor
      · rintro (rfl | ⟨hm, hk⟩)
        · exact ⟨Or.inl rfl, h⟩
        · exact ⟨Or.inr hm, hk⟩
      · rintro ⟨rfl | hm, hk⟩
        · exact Or.inl rfl
        · exact Or.inr ⟨hm, hk⟩

theorem Sparse.erase_sublist {α : Type} (m : Sparse α) (k : Nat) : (Sparse.erase m k).Sublist m := by
  induction m with
  | nil => exact List.Sublist.refl _
  | cons e m ih =>
    obtain ⟨i, v⟩ := e
    by_cases h : i = k
    · simpa [Sparse.erase, h] using ih.cons _
    · simpa [Sparse.erase, h] using ih

theorem Sparse.mem_insert {α : Type} (m : Sparse α) (k : Nat) (v : α) (e : Nat × α) :
    e ∈ Sparse.insert m k v ↔ e = (k, v) ∨ e ∈ m := by
  induction m with
  | nil => simp [Sparse.insert]
  | cons x m ih =>
    obtain ⟨i, w⟩ := x
    by_cases h : k < i
    · simp [Sparse.insert, h]
    · simp only [Sparse.insert, h, if_false, List.mem_cons, ih]
      tauto

theorem Sparse.pairwise_insert {α : Type} (m : Sparse α) (k : Nat) (v : α)
    (hp : List.Pairwise (fun a b : Nat × α => a.1 < b.1) m) (hk : ∀ e ∈ m, e.1 ≠ k) :
    List.Pairwise (fun a b : Nat × α => a.1 < b.1) (Sparse.insert m k v) := by
  induction m with
  | nil => simp [Sparse.insert]
  | cons x m ih =>
    obtain ⟨i, w⟩ := x
    have hx := List.pairwise_cons.1 hp
    by_cases h : k < i
    · simp only [Sparse.insert, h, if_true]
      refine List.pairwise_cons.2 ⟨fun e he => ?_, hp⟩
      rcases List.mem_cons.1 he with rfl | he
      · exact h
      · exact lt_trans h (hx.1 e he)
    · simp only [Sparse.insert, h, if_false]
      have hi : i < k := lt_of_le_of_ne (not_lt.1 h) (hk (i, w) (List.mem_cons_self ..))
      refine List.pairwise_cons.2 ⟨fun e he => ?_, ih hx.2 (fun e he => hk e (List.mem_cons_of_mem _ he))⟩
      rcases (Sparse.mem_insert m k v e).1 he with rfl | he
      · exact hi
      · exact hx.1 e he

theorem Sparse.Canonical.erase {α : Type} {d : Nat → α} {m : Sparse α} (h : Sparse.Canonical d m) (k : Nat) :
    Sparse.Canonical d (Sparse.erase m k) :=
  ⟨h.1.sublist (Sparse.erase_sublist m k), fun e he => h.2 e ((Sparse.mem_erase m k e).1 he).1⟩

theorem Sparse.Canonical.put {α : Type} {d : Nat → α} {m : Sparse α} (h : Sparse.Canonical d m) (k : Nat) (v : α) (hv : v ≠ d k) :
    Sparse.Canonical d (Sparse.put m k v) := by
  refine ⟨Sparse.pairwise_insert _ _ _ (h.erase k).1 (fun e he => ((Sparse.mem_erase m k e).1 he).2), fun e he => ?_⟩
  rcases (Sparse.mem_insert _ _ _ _).1 he with rfl | he
  · exact hv
  · exact (h.erase k).2 e he

theorem Sparse.Canonical.set {α : Type} [DecidableEq α] {d : Nat → α} {m : Sparse α} (h : Sparse.Canonical d m) (k : Nat) (v : α) :
    Sparse.Canonical d (Sparse.set (d k) m k v) := by
  unfold Sparse.set
  split
  · exact h.erase k
  · next hv => exact h.put k v hv

theorem Sparse.Canonical.keep {α : Type} {d : Nat → α} {m : Sparse α} (h : Sparse.Canonical d m) (p : Nat → Bool) :
    Sparse.Canonical d (Sparse.keep p m) :=
  ⟨h.1.sublist List.filter_sublist, fun e he => h.2 e (List.mem_filter.1 he).1⟩

theorem Sparse.Canonical.remap {α : Type} [DecidableEq α] {d : Nat → α} {m : Sparse α} (h : Sparse.Canonical d m)
    (f : Nat → α → α) : Sparse.Canonical d (Sparse.remap d f m) := by
  refine ⟨?_, fun e he => ?_⟩
  · refine List.pairwise_filterMap.2 (h.1.imp ?_)
    intro a b hab x hx y hy
    split at hx <;> simp at hx
    split at hy <;> simp at hy
    subst hx; subst hy; exact hab
  · obtain ⟨a, _, ha⟩ := List.mem_filterMap.1 he
    split at ha <;> simp at ha
    next hne => subst ha; exact hne

/-- Writing a value keeps the canonical form. -/
theorem Sparse.wf_set {α : Type} [DecidableEq α] {d : Nat → α} {m : Sparse α} (h : Sparse.wf d m = true) (k : Nat) (v : α) :
    Sparse.wf d (Sparse.set (d k) m k v) = true :=
  (Sparse.wf_iff _ _).2 (((Sparse.wf_iff _ _).1 h).set k v)

end Sys2Proof.Machine
end

