-- ==== Sys2Proof/Laws/State.lean ====
section
/-! SUPPORT. One lemma for each field of State under each update, and reads after writes of its parts. -/

namespace Sys2Proof.Machine

variable (s : State)

/-! ### setReg -/

@[simp] theorem State.setReg_pending (o : Nat) (v : Word) : (s.setReg o v).pending = s.pending := rfl
@[simp] theorem State.setReg_tick (o : Nat) (v : Word) : (s.setReg o v).tick = s.tick := rfl
@[simp] theorem State.setReg_sent (o : Nat) (v : Word) : (s.setReg o v).sent = s.sent := rfl
@[simp] theorem State.setReg_evt (o : Nat) (v : Word) : (s.setReg o v).evt = s.evt := rfl
@[simp] theorem State.setReg_accepted (o : Nat) (v : Word) : (s.setReg o v).accepted = s.accepted := rfl
@[simp] theorem State.setReg_ctx (o : Nat) (v : Word) : (s.setReg o v).ctx = s.ctx := rfl
@[simp] theorem State.setReg_tables (o : Nat) (v : Word) : (s.setReg o v).tables = s.tables := rfl
@[simp] theorem State.setReg_cut (o : Nat) (v : Word) : (s.setReg o v).cut = s.cut := rfl
@[simp] theorem State.setReg_keys (o : Nat) (v : Word) : (s.setReg o v).keys = s.keys := rfl
@[simp] theorem State.setReg_shoe (o : Nat) (v : Word) : (s.setReg o v).shoe = s.shoe := rfl
@[simp] theorem State.setReg_img (o : Nat) (v : Word) : (s.setReg o v).img = s.img := rfl
@[simp] theorem State.setReg_decks (o : Nat) (v : Word) : (s.setReg o v).decks = s.decks := rfl
@[simp] theorem State.setReg_loops (o : Nat) (v : Word) : (s.setReg o v).loops = s.loops := rfl
@[simp] theorem State.setReg_traces (o : Nat) (v : Word) : (s.setReg o v).traces = s.traces := rfl
@[simp] theorem State.setReg_nvm (o : Nat) (v : Word) : (s.setReg o v).nvm = s.nvm := rfl
@[simp] theorem State.setReg_lnk (o : Nat) (v : Word) : (s.setReg o v).lnk = s.lnk := rfl
@[simp] theorem State.setReg_sec (o : Nat) (v : Word) : (s.setReg o v).sec = s.sec := rfl
@[simp] theorem State.setReg_pwr (o : Nat) (v : Word) : (s.setReg o v).pwr = s.pwr := rfl
@[simp] theorem State.setReg_tap (o : Nat) (v : Word) : (s.setReg o v).tap = s.tap := rfl

/-! ### setFld -/

@[simp] theorem State.setFld_pending (o : Nat) (f : Fld) (v : Nat) : (s.setFld o f v).pending = s.pending := rfl
@[simp] theorem State.setFld_tick (o : Nat) (f : Fld) (v : Nat) : (s.setFld o f v).tick = s.tick := rfl
@[simp] theorem State.setFld_sent (o : Nat) (f : Fld) (v : Nat) : (s.setFld o f v).sent = s.sent := rfl
@[simp] theorem State.setFld_evt (o : Nat) (f : Fld) (v : Nat) : (s.setFld o f v).evt = s.evt := rfl
@[simp] theorem State.setFld_accepted (o : Nat) (f : Fld) (v : Nat) : (s.setFld o f v).accepted = s.accepted := rfl
@[simp] theorem State.setFld_ctx (o : Nat) (f : Fld) (v : Nat) : (s.setFld o f v).ctx = s.ctx := rfl
@[simp] theorem State.setFld_tables (o : Nat) (f : Fld) (v : Nat) : (s.setFld o f v).tables = s.tables := rfl
@[simp] theorem State.setFld_cut (o : Nat) (f : Fld) (v : Nat) : (s.setFld o f v).cut = s.cut := rfl
@[simp] theorem State.setFld_keys (o : Nat) (f : Fld) (v : Nat) : (s.setFld o f v).keys = s.keys := rfl
@[simp] theorem State.setFld_shoe (o : Nat) (f : Fld) (v : Nat) : (s.setFld o f v).shoe = s.shoe := rfl
@[simp] theorem State.setFld_img (o : Nat) (f : Fld) (v : Nat) : (s.setFld o f v).img = s.img := rfl
@[simp] theorem State.setFld_decks (o : Nat) (f : Fld) (v : Nat) : (s.setFld o f v).decks = s.decks := rfl
@[simp] theorem State.setFld_loops (o : Nat) (f : Fld) (v : Nat) : (s.setFld o f v).loops = s.loops := rfl
@[simp] theorem State.setFld_traces (o : Nat) (f : Fld) (v : Nat) : (s.setFld o f v).traces = s.traces := rfl
@[simp] theorem State.setFld_nvm (o : Nat) (f : Fld) (v : Nat) : (s.setFld o f v).nvm = s.nvm := rfl
@[simp] theorem State.setFld_lnk (o : Nat) (f : Fld) (v : Nat) : (s.setFld o f v).lnk = s.lnk := rfl
@[simp] theorem State.setFld_sec (o : Nat) (f : Fld) (v : Nat) : (s.setFld o f v).sec = s.sec := rfl
@[simp] theorem State.setFld_pwr (o : Nat) (f : Fld) (v : Nat) : (s.setFld o f v).pwr = s.pwr := rfl
@[simp] theorem State.setFld_tap (o : Nat) (f : Fld) (v : Nat) : (s.setFld o f v).tap = s.tap := rfl

/-! ### addFld -/

@[simp] theorem State.addFld_pending (o : Nat) (f : Fld) (v : Nat) : (s.addFld o f v).pending = s.pending := rfl
@[simp] theorem State.addFld_tick (o : Nat) (f : Fld) (v : Nat) : (s.addFld o f v).tick = s.tick := rfl
@[simp] theorem State.addFld_sent (o : Nat) (f : Fld) (v : Nat) : (s.addFld o f v).sent = s.sent := rfl
@[simp] theorem State.addFld_evt (o : Nat) (f : Fld) (v : Nat) : (s.addFld o f v).evt = s.evt := rfl
@[simp] theorem State.addFld_accepted (o : Nat) (f : Fld) (v : Nat) : (s.addFld o f v).accepted = s.accepted := rfl
@[simp] theorem State.addFld_ctx (o : Nat) (f : Fld) (v : Nat) : (s.addFld o f v).ctx = s.ctx := rfl
@[simp] theorem State.addFld_tables (o : Nat) (f : Fld) (v : Nat) : (s.addFld o f v).tables = s.tables := rfl
@[simp] theorem State.addFld_cut (o : Nat) (f : Fld) (v : Nat) : (s.addFld o f v).cut = s.cut := rfl
@[simp] theorem State.addFld_keys (o : Nat) (f : Fld) (v : Nat) : (s.addFld o f v).keys = s.keys := rfl
@[simp] theorem State.addFld_shoe (o : Nat) (f : Fld) (v : Nat) : (s.addFld o f v).shoe = s.shoe := rfl
@[simp] theorem State.addFld_img (o : Nat) (f : Fld) (v : Nat) : (s.addFld o f v).img = s.img := rfl
@[simp] theorem State.addFld_decks (o : Nat) (f : Fld) (v : Nat) : (s.addFld o f v).decks = s.decks := rfl
@[simp] theorem State.addFld_loops (o : Nat) (f : Fld) (v : Nat) : (s.addFld o f v).loops = s.loops := rfl
@[simp] theorem State.addFld_traces (o : Nat) (f : Fld) (v : Nat) : (s.addFld o f v).traces = s.traces := rfl
@[simp] theorem State.addFld_nvm (o : Nat) (f : Fld) (v : Nat) : (s.addFld o f v).nvm = s.nvm := rfl
@[simp] theorem State.addFld_lnk (o : Nat) (f : Fld) (v : Nat) : (s.addFld o f v).lnk = s.lnk := rfl
@[simp] theorem State.addFld_sec (o : Nat) (f : Fld) (v : Nat) : (s.addFld o f v).sec = s.sec := rfl
@[simp] theorem State.addFld_pwr (o : Nat) (f : Fld) (v : Nat) : (s.addFld o f v).pwr = s.pwr := rfl
@[simp] theorem State.addFld_tap (o : Nat) (f : Fld) (v : Nat) : (s.addFld o f v).tap = s.tap := rfl

/-! ### incFld -/

@[simp] theorem State.incFld_pending (o : Nat) (f : Fld) (v : Nat) : (s.incFld o f v).pending = s.pending := rfl
@[simp] theorem State.incFld_tick (o : Nat) (f : Fld) (v : Nat) : (s.incFld o f v).tick = s.tick := rfl
@[simp] theorem State.incFld_sent (o : Nat) (f : Fld) (v : Nat) : (s.incFld o f v).sent = s.sent := rfl
@[simp] theorem State.incFld_evt (o : Nat) (f : Fld) (v : Nat) : (s.incFld o f v).evt = s.evt := rfl
@[simp] theorem State.incFld_accepted (o : Nat) (f : Fld) (v : Nat) : (s.incFld o f v).accepted = s.accepted := rfl
@[simp] theorem State.incFld_ctx (o : Nat) (f : Fld) (v : Nat) : (s.incFld o f v).ctx = s.ctx := rfl
@[simp] theorem State.incFld_tables (o : Nat) (f : Fld) (v : Nat) : (s.incFld o f v).tables = s.tables := rfl
@[simp] theorem State.incFld_cut (o : Nat) (f : Fld) (v : Nat) : (s.incFld o f v).cut = s.cut := rfl
@[simp] theorem State.incFld_keys (o : Nat) (f : Fld) (v : Nat) : (s.incFld o f v).keys = s.keys := rfl
@[simp] theorem State.incFld_shoe (o : Nat) (f : Fld) (v : Nat) : (s.incFld o f v).shoe = s.shoe := rfl
@[simp] theorem State.incFld_img (o : Nat) (f : Fld) (v : Nat) : (s.incFld o f v).img = s.img := rfl
@[simp] theorem State.incFld_decks (o : Nat) (f : Fld) (v : Nat) : (s.incFld o f v).decks = s.decks := rfl
@[simp] theorem State.incFld_loops (o : Nat) (f : Fld) (v : Nat) : (s.incFld o f v).loops = s.loops := rfl
@[simp] theorem State.incFld_traces (o : Nat) (f : Fld) (v : Nat) : (s.incFld o f v).traces = s.traces := rfl
@[simp] theorem State.incFld_nvm (o : Nat) (f : Fld) (v : Nat) : (s.incFld o f v).nvm = s.nvm := rfl
@[simp] theorem State.incFld_lnk (o : Nat) (f : Fld) (v : Nat) : (s.incFld o f v).lnk = s.lnk := rfl
@[simp] theorem State.incFld_sec (o : Nat) (f : Fld) (v : Nat) : (s.incFld o f v).sec = s.sec := rfl
@[simp] theorem State.incFld_pwr (o : Nat) (f : Fld) (v : Nat) : (s.incFld o f v).pwr = s.pwr := rfl
@[simp] theorem State.incFld_tap (o : Nat) (f : Fld) (v : Nat) : (s.incFld o f v).tap = s.tap := rfl

/-! ### setPair -/

@[simp] theorem State.setPair_pending (a b v : Nat) : (s.setPair a b v).pending = s.pending := rfl
@[simp] theorem State.setPair_tick (a b v : Nat) : (s.setPair a b v).tick = s.tick := rfl
@[simp] theorem State.setPair_sent (a b v : Nat) : (s.setPair a b v).sent = s.sent := rfl
@[simp] theorem State.setPair_evt (a b v : Nat) : (s.setPair a b v).evt = s.evt := rfl
@[simp] theorem State.setPair_accepted (a b v : Nat) : (s.setPair a b v).accepted = s.accepted := rfl
@[simp] theorem State.setPair_ctx (a b v : Nat) : (s.setPair a b v).ctx = s.ctx := rfl
@[simp] theorem State.setPair_tables (a b v : Nat) : (s.setPair a b v).tables = s.tables := rfl
@[simp] theorem State.setPair_cut (a b v : Nat) : (s.setPair a b v).cut = s.cut := rfl
@[simp] theorem State.setPair_keys (a b v : Nat) : (s.setPair a b v).keys = s.keys := rfl
@[simp] theorem State.setPair_shoe (a b v : Nat) : (s.setPair a b v).shoe = s.shoe := rfl
@[simp] theorem State.setPair_img (a b v : Nat) : (s.setPair a b v).img = s.img := rfl
@[simp] theorem State.setPair_decks (a b v : Nat) : (s.setPair a b v).decks = s.decks := rfl
@[simp] theorem State.setPair_loops (a b v : Nat) : (s.setPair a b v).loops = s.loops := rfl
@[simp] theorem State.setPair_traces (a b v : Nat) : (s.setPair a b v).traces = s.traces := rfl
@[simp] theorem State.setPair_nvm (a b v : Nat) : (s.setPair a b v).nvm = s.nvm := rfl
@[simp] theorem State.setPair_lnk (a b v : Nat) : (s.setPair a b v).lnk = s.lnk := rfl
@[simp] theorem State.setPair_sec (a b v : Nat) : (s.setPair a b v).sec = s.sec := rfl
@[simp] theorem State.setPair_pwr (a b v : Nat) : (s.setPair a b v).pwr = s.pwr := rfl
@[simp] theorem State.setPair_tap (a b v : Nat) : (s.setPair a b v).tap = s.tap := rfl

/-! ### putCtx -/

@[simp] theorem State.putCtx_pending (n : Nat) (c : Context) : (s.putCtx n c).pending = s.pending := rfl
@[simp] theorem State.putCtx_tick (n : Nat) (c : Context) : (s.putCtx n c).tick = s.tick := rfl
@[simp] theorem State.putCtx_regs (n : Nat) (c : Context) : (s.putCtx n c).regs = s.regs := rfl
@[simp] theorem State.putCtx_sent (n : Nat) (c : Context) : (s.putCtx n c).sent = s.sent := rfl
@[simp] theorem State.putCtx_evt (n : Nat) (c : Context) : (s.putCtx n c).evt = s.evt := rfl
@[simp] theorem State.putCtx_accepted (n : Nat) (c : Context) : (s.putCtx n c).accepted = s.accepted := rfl
@[simp] theorem State.putCtx_tables (n : Nat) (c : Context) : (s.putCtx n c).tables = s.tables := rfl
@[simp] theorem State.putCtx_cut (n : Nat) (c : Context) : (s.putCtx n c).cut = s.cut := rfl
@[simp] theorem State.putCtx_keys (n : Nat) (c : Context) : (s.putCtx n c).keys = s.keys := rfl
@[simp] theorem State.putCtx_shoe (n : Nat) (c : Context) : (s.putCtx n c).shoe = s.shoe := rfl
@[simp] theorem State.putCtx_img (n : Nat) (c : Context) : (s.putCtx n c).img = s.img := rfl
@[simp] theorem State.putCtx_decks (n : Nat) (c : Context) : (s.putCtx n c).decks = s.decks := rfl
@[simp] theorem State.putCtx_loops (n : Nat) (c : Context) : (s.putCtx n c).loops = s.loops := rfl
@[simp] theorem State.putCtx_traces (n : Nat) (c : Context) : (s.putCtx n c).traces = s.traces := rfl
@[simp] theorem State.putCtx_nvm (n : Nat) (c : Context) : (s.putCtx n c).nvm = s.nvm := rfl
@[simp] theorem State.putCtx_lnk (n : Nat) (c : Context) : (s.putCtx n c).lnk = s.lnk := rfl
@[simp] theorem State.putCtx_sec (n : Nat) (c : Context) : (s.putCtx n c).sec = s.sec := rfl
@[simp] theorem State.putCtx_pwr (n : Nat) (c : Context) : (s.putCtx n c).pwr = s.pwr := rfl
@[simp] theorem State.putCtx_tap (n : Nat) (c : Context) : (s.putCtx n c).tap = s.tap := rfl

/-! ### onCtx -/

@[simp] theorem State.onCtx_pending (n : Nat) (f : Context → Context) : (s.onCtx n f).pending = s.pending := rfl
@[simp] theorem State.onCtx_tick (n : Nat) (f : Context → Context) : (s.onCtx n f).tick = s.tick := rfl
@[simp] theorem State.onCtx_regs (n : Nat) (f : Context → Context) : (s.onCtx n f).regs = s.regs := rfl
@[simp] theorem State.onCtx_sent (n : Nat) (f : Context → Context) : (s.onCtx n f).sent = s.sent := rfl
@[simp] theorem State.onCtx_evt (n : Nat) (f : Context → Context) : (s.onCtx n f).evt = s.evt := rfl
@[simp] theorem State.onCtx_accepted (n : Nat) (f : Context → Context) : (s.onCtx n f).accepted = s.accepted := rfl
@[simp] theorem State.onCtx_tables (n : Nat) (f : Context → Context) : (s.onCtx n f).tables = s.tables := rfl
@[simp] theorem State.onCtx_cut (n : Nat) (f : Context → Context) : (s.onCtx n f).cut = s.cut := rfl
@[simp] theorem State.onCtx_keys (n : Nat) (f : Context → Context) : (s.onCtx n f).keys = s.keys := rfl
@[simp] theorem State.onCtx_shoe (n : Nat) (f : Context → Context) : (s.onCtx n f).shoe = s.shoe := rfl
@[simp] theorem State.onCtx_img (n : Nat) (f : Context → Context) : (s.onCtx n f).img = s.img := rfl
@[simp] theorem State.onCtx_decks (n : Nat) (f : Context → Context) : (s.onCtx n f).decks = s.decks := rfl
@[simp] theorem State.onCtx_loops (n : Nat) (f : Context → Context) : (s.onCtx n f).loops = s.loops := rfl
@[simp] theorem State.onCtx_traces (n : Nat) (f : Context → Context) : (s.onCtx n f).traces = s.traces := rfl
@[simp] theorem State.onCtx_nvm (n : Nat) (f : Context → Context) : (s.onCtx n f).nvm = s.nvm := rfl
@[simp] theorem State.onCtx_lnk (n : Nat) (f : Context → Context) : (s.onCtx n f).lnk = s.lnk := rfl
@[simp] theorem State.onCtx_sec (n : Nat) (f : Context → Context) : (s.onCtx n f).sec = s.sec := rfl
@[simp] theorem State.onCtx_pwr (n : Nat) (f : Context → Context) : (s.onCtx n f).pwr = s.pwr := rfl
@[simp] theorem State.onCtx_tap (n : Nat) (f : Context → Context) : (s.onCtx n f).tap = s.tap := rfl

/-! ### onTask -/

@[simp] theorem State.onTask_pending (n q : Nat) (f : Task → Task) : (s.onTask n q f).pending = s.pending := rfl
@[simp] theorem State.onTask_tick (n q : Nat) (f : Task → Task) : (s.onTask n q f).tick = s.tick := rfl
@[simp] theorem State.onTask_regs (n q : Nat) (f : Task → Task) : (s.onTask n q f).regs = s.regs := rfl
@[simp] theorem State.onTask_sent (n q : Nat) (f : Task → Task) : (s.onTask n q f).sent = s.sent := rfl
@[simp] theorem State.onTask_evt (n q : Nat) (f : Task → Task) : (s.onTask n q f).evt = s.evt := rfl
@[simp] theorem State.onTask_accepted (n q : Nat) (f : Task → Task) : (s.onTask n q f).accepted = s.accepted := rfl
@[simp] theorem State.onTask_tables (n q : Nat) (f : Task → Task) : (s.onTask n q f).tables = s.tables := rfl
@[simp] theorem State.onTask_cut (n q : Nat) (f : Task → Task) : (s.onTask n q f).cut = s.cut := rfl
@[simp] theorem State.onTask_keys (n q : Nat) (f : Task → Task) : (s.onTask n q f).keys = s.keys := rfl
@[simp] theorem State.onTask_shoe (n q : Nat) (f : Task → Task) : (s.onTask n q f).shoe = s.shoe := rfl
@[simp] theorem State.onTask_img (n q : Nat) (f : Task → Task) : (s.onTask n q f).img = s.img := rfl
@[simp] theorem State.onTask_decks (n q : Nat) (f : Task → Task) : (s.onTask n q f).decks = s.decks := rfl
@[simp] theorem State.onTask_loops (n q : Nat) (f : Task → Task) : (s.onTask n q f).loops = s.loops := rfl
@[simp] theorem State.onTask_traces (n q : Nat) (f : Task → Task) : (s.onTask n q f).traces = s.traces := rfl
@[simp] theorem State.onTask_nvm (n q : Nat) (f : Task → Task) : (s.onTask n q f).nvm = s.nvm := rfl
@[simp] theorem State.onTask_lnk (n q : Nat) (f : Task → Task) : (s.onTask n q f).lnk = s.lnk := rfl
@[simp] theorem State.onTask_sec (n q : Nat) (f : Task → Task) : (s.onTask n q f).sec = s.sec := rfl
@[simp] theorem State.onTask_pwr (n q : Nat) (f : Task → Task) : (s.onTask n q f).pwr = s.pwr := rfl
@[simp] theorem State.onTask_tap (n q : Nat) (f : Task → Task) : (s.onTask n q f).tap = s.tap := rfl

/-! ### putTable -/

@[simp] theorem State.putTable_pending (d p : Nat) (t : Table) : (s.putTable d p t).pending = s.pending := rfl
@[simp] theorem State.putTable_tick (d p : Nat) (t : Table) : (s.putTable d p t).tick = s.tick := rfl
@[simp] theorem State.putTable_regs (d p : Nat) (t : Table) : (s.putTable d p t).regs = s.regs := rfl
@[simp] theorem State.putTable_sent (d p : Nat) (t : Table) : (s.putTable d p t).sent = s.sent := rfl
@[simp] theorem State.putTable_evt (d p : Nat) (t : Table) : (s.putTable d p t).evt = s.evt := rfl
@[simp] theorem State.putTable_accepted (d p : Nat) (t : Table) : (s.putTable d p t).accepted = s.accepted := rfl
@[simp] theorem State.putTable_ctx (d p : Nat) (t : Table) : (s.putTable d p t).ctx = s.ctx := rfl
@[simp] theorem State.putTable_cut (d p : Nat) (t : Table) : (s.putTable d p t).cut = s.cut := rfl
@[simp] theorem State.putTable_keys (d p : Nat) (t : Table) : (s.putTable d p t).keys = s.keys := rfl
@[simp] theorem State.putTable_shoe (d p : Nat) (t : Table) : (s.putTable d p t).shoe = s.shoe := rfl
@[simp] theorem State.putTable_img (d p : Nat) (t : Table) : (s.putTable d p t).img = s.img := rfl
@[simp] theorem State.putTable_decks (d p : Nat) (t : Table) : (s.putTable d p t).decks = s.decks := rfl
@[simp] theorem State.putTable_loops (d p : Nat) (t : Table) : (s.putTable d p t).loops = s.loops := rfl
@[simp] theorem State.putTable_traces (d p : Nat) (t : Table) : (s.putTable d p t).traces = s.traces := rfl
@[simp] theorem State.putTable_nvm (d p : Nat) (t : Table) : (s.putTable d p t).nvm = s.nvm := rfl
@[simp] theorem State.putTable_lnk (d p : Nat) (t : Table) : (s.putTable d p t).lnk = s.lnk := rfl
@[simp] theorem State.putTable_sec (d p : Nat) (t : Table) : (s.putTable d p t).sec = s.sec := rfl
@[simp] theorem State.putTable_pwr (d p : Nat) (t : Table) : (s.putTable d p t).pwr = s.pwr := rfl
@[simp] theorem State.putTable_tap (d p : Nat) (t : Table) : (s.putTable d p t).tap = s.tap := rfl

/-! ### onTable -/

@[simp] theorem State.onTable_pending (d p : Nat) (f : Table → Table) : (s.onTable d p f).pending = s.pending := rfl
@[simp] theorem State.onTable_tick (d p : Nat) (f : Table → Table) : (s.onTable d p f).tick = s.tick := rfl
@[simp] theorem State.onTable_regs (d p : Nat) (f : Table → Table) : (s.onTable d p f).regs = s.regs := rfl
@[simp] theorem State.onTable_sent (d p : Nat) (f : Table → Table) : (s.onTable d p f).sent = s.sent := rfl
@[simp] theorem State.onTable_evt (d p : Nat) (f : Table → Table) : (s.onTable d p f).evt = s.evt := rfl
@[simp] theorem State.onTable_accepted (d p : Nat) (f : Table → Table) : (s.onTable d p f).accepted = s.accepted := rfl
@[simp] theorem State.onTable_ctx (d p : Nat) (f : Table → Table) : (s.onTable d p f).ctx = s.ctx := rfl
@[simp] theorem State.onTable_cut (d p : Nat) (f : Table → Table) : (s.onTable d p f).cut = s.cut := rfl
@[simp] theorem State.onTable_keys (d p : Nat) (f : Table → Table) : (s.onTable d p f).keys = s.keys := rfl
@[simp] theorem State.onTable_shoe (d p : Nat) (f : Table → Table) : (s.onTable d p f).shoe = s.shoe := rfl
@[simp] theorem State.onTable_img (d p : Nat) (f : Table → Table) : (s.onTable d p f).img = s.img := rfl
@[simp] theorem State.onTable_decks (d p : Nat) (f : Table → Table) : (s.onTable d p f).decks = s.decks := rfl
@[simp] theorem State.onTable_loops (d p : Nat) (f : Table → Table) : (s.onTable d p f).loops = s.loops := rfl
@[simp] theorem State.onTable_traces (d p : Nat) (f : Table → Table) : (s.onTable d p f).traces = s.traces := rfl
@[simp] theorem State.onTable_nvm (d p : Nat) (f : Table → Table) : (s.onTable d p f).nvm = s.nvm := rfl
@[simp] theorem State.onTable_lnk (d p : Nat) (f : Table → Table) : (s.onTable d p f).lnk = s.lnk := rfl
@[simp] theorem State.onTable_sec (d p : Nat) (f : Table → Table) : (s.onTable d p f).sec = s.sec := rfl
@[simp] theorem State.onTable_pwr (d p : Nat) (f : Table → Table) : (s.onTable d p f).pwr = s.pwr := rfl
@[simp] theorem State.onTable_tap (d p : Nat) (f : Table → Table) : (s.onTable d p f).tap = s.tap := rfl

/-! ### putDeck -/

@[simp] theorem State.putDeck_pending (d : Nat) (k : Deck) : (s.putDeck d k).pending = s.pending := rfl
@[simp] theorem State.putDeck_tick (d : Nat) (k : Deck) : (s.putDeck d k).tick = s.tick := rfl
@[simp] theorem State.putDeck_regs (d : Nat) (k : Deck) : (s.putDeck d k).regs = s.regs := rfl
@[simp] theorem State.putDeck_sent (d : Nat) (k : Deck) : (s.putDeck d k).sent = s.sent := rfl
@[simp] theorem State.putDeck_evt (d : Nat) (k : Deck) : (s.putDeck d k).evt = s.evt := rfl
@[simp] theorem State.putDeck_accepted (d : Nat) (k : Deck) : (s.putDeck d k).accepted = s.accepted := rfl
@[simp] theorem State.putDeck_ctx (d : Nat) (k : Deck) : (s.putDeck d k).ctx = s.ctx := rfl
@[simp] theorem State.putDeck_tables (d : Nat) (k : Deck) : (s.putDeck d k).tables = s.tables := rfl
@[simp] theorem State.putDeck_cut (d : Nat) (k : Deck) : (s.putDeck d k).cut = s.cut := rfl
@[simp] theorem State.putDeck_keys (d : Nat) (k : Deck) : (s.putDeck d k).keys = s.keys := rfl
@[simp] theorem State.putDeck_shoe (d : Nat) (k : Deck) : (s.putDeck d k).shoe = s.shoe := rfl
@[simp] theorem State.putDeck_img (d : Nat) (k : Deck) : (s.putDeck d k).img = s.img := rfl
@[simp] theorem State.putDeck_loops (d : Nat) (k : Deck) : (s.putDeck d k).loops = s.loops := rfl
@[simp] theorem State.putDeck_traces (d : Nat) (k : Deck) : (s.putDeck d k).traces = s.traces := rfl
@[simp] theorem State.putDeck_nvm (d : Nat) (k : Deck) : (s.putDeck d k).nvm = s.nvm := rfl
@[simp] theorem State.putDeck_lnk (d : Nat) (k : Deck) : (s.putDeck d k).lnk = s.lnk := rfl
@[simp] theorem State.putDeck_sec (d : Nat) (k : Deck) : (s.putDeck d k).sec = s.sec := rfl
@[simp] theorem State.putDeck_pwr (d : Nat) (k : Deck) : (s.putDeck d k).pwr = s.pwr := rfl
@[simp] theorem State.putDeck_tap (d : Nat) (k : Deck) : (s.putDeck d k).tap = s.tap := rfl

/-! ### onDeck -/

@[simp] theorem State.onDeck_pending (d : Nat) (f : Deck → Deck) : (s.onDeck d f).pending = s.pending := rfl
@[simp] theorem State.onDeck_tick (d : Nat) (f : Deck → Deck) : (s.onDeck d f).tick = s.tick := rfl
@[simp] theorem State.onDeck_regs (d : Nat) (f : Deck → Deck) : (s.onDeck d f).regs = s.regs := rfl
@[simp] theorem State.onDeck_sent (d : Nat) (f : Deck → Deck) : (s.onDeck d f).sent = s.sent := rfl
@[simp] theorem State.onDeck_evt (d : Nat) (f : Deck → Deck) : (s.onDeck d f).evt = s.evt := rfl
@[simp] theorem State.onDeck_accepted (d : Nat) (f : Deck → Deck) : (s.onDeck d f).accepted = s.accepted := rfl
@[simp] theorem State.onDeck_ctx (d : Nat) (f : Deck → Deck) : (s.onDeck d f).ctx = s.ctx := rfl
@[simp] theorem State.onDeck_tables (d : Nat) (f : Deck → Deck) : (s.onDeck d f).tables = s.tables := rfl
@[simp] theorem State.onDeck_cut (d : Nat) (f : Deck → Deck) : (s.onDeck d f).cut = s.cut := rfl
@[simp] theorem State.onDeck_keys (d : Nat) (f : Deck → Deck) : (s.onDeck d f).keys = s.keys := rfl
@[simp] theorem State.onDeck_shoe (d : Nat) (f : Deck → Deck) : (s.onDeck d f).shoe = s.shoe := rfl
@[simp] theorem State.onDeck_img (d : Nat) (f : Deck → Deck) : (s.onDeck d f).img = s.img := rfl
@[simp] theorem State.onDeck_loops (d : Nat) (f : Deck → Deck) : (s.onDeck d f).loops = s.loops := rfl
@[simp] theorem State.onDeck_traces (d : Nat) (f : Deck → Deck) : (s.onDeck d f).traces = s.traces := rfl
@[simp] theorem State.onDeck_nvm (d : Nat) (f : Deck → Deck) : (s.onDeck d f).nvm = s.nvm := rfl
@[simp] theorem State.onDeck_lnk (d : Nat) (f : Deck → Deck) : (s.onDeck d f).lnk = s.lnk := rfl
@[simp] theorem State.onDeck_sec (d : Nat) (f : Deck → Deck) : (s.onDeck d f).sec = s.sec := rfl
@[simp] theorem State.onDeck_pwr (d : Nat) (f : Deck → Deck) : (s.onDeck d f).pwr = s.pwr := rfl
@[simp] theorem State.onDeck_tap (d : Nat) (f : Deck → Deck) : (s.onDeck d f).tap = s.tap := rfl

/-! ### onMotion -/

@[simp] theorem State.onMotion_pending (d : Nat) (f : Motion → Motion) : (s.onMotion d f).pending = s.pending := rfl
@[simp] theorem State.onMotion_tick (d : Nat) (f : Motion → Motion) : (s.onMotion d f).tick = s.tick := rfl
@[simp] theorem State.onMotion_regs (d : Nat) (f : Motion → Motion) : (s.onMotion d f).regs = s.regs := rfl
@[simp] theorem State.onMotion_sent (d : Nat) (f : Motion → Motion) : (s.onMotion d f).sent = s.sent := rfl
@[simp] theorem State.onMotion_evt (d : Nat) (f : Motion → Motion) : (s.onMotion d f).evt = s.evt := rfl
@[simp] theorem State.onMotion_accepted (d : Nat) (f : Motion → Motion) : (s.onMotion d f).accepted = s.accepted := rfl
@[simp] theorem State.onMotion_ctx (d : Nat) (f : Motion → Motion) : (s.onMotion d f).ctx = s.ctx := rfl
@[simp] theorem State.onMotion_tables (d : Nat) (f : Motion → Motion) : (s.onMotion d f).tables = s.tables := rfl
@[simp] theorem State.onMotion_cut (d : Nat) (f : Motion → Motion) : (s.onMotion d f).cut = s.cut := rfl
@[simp] theorem State.onMotion_keys (d : Nat) (f : Motion → Motion) : (s.onMotion d f).keys = s.keys := rfl
@[simp] theorem State.onMotion_shoe (d : Nat) (f : Motion → Motion) : (s.onMotion d f).shoe = s.shoe := rfl
@[simp] theorem State.onMotion_img (d : Nat) (f : Motion → Motion) : (s.onMotion d f).img = s.img := rfl
@[simp] theorem State.onMotion_loops (d : Nat) (f : Motion → Motion) : (s.onMotion d f).loops = s.loops := rfl
@[simp] theorem State.onMotion_traces (d : Nat) (f : Motion → Motion) : (s.onMotion d f).traces = s.traces := rfl
@[simp] theorem State.onMotion_nvm (d : Nat) (f : Motion → Motion) : (s.onMotion d f).nvm = s.nvm := rfl
@[simp] theorem State.onMotion_lnk (d : Nat) (f : Motion → Motion) : (s.onMotion d f).lnk = s.lnk := rfl
@[simp] theorem State.onMotion_sec (d : Nat) (f : Motion → Motion) : (s.onMotion d f).sec = s.sec := rfl
@[simp] theorem State.onMotion_pwr (d : Nat) (f : Motion → Motion) : (s.onMotion d f).pwr = s.pwr := rfl
@[simp] theorem State.onMotion_tap (d : Nat) (f : Motion → Motion) : (s.onMotion d f).tap = s.tap := rfl

/-! ### putKey -/

@[simp] theorem State.putKey_pending (k : Nat) (v : KeySlot) : (s.putKey k v).pending = s.pending := rfl
@[simp] theorem State.putKey_tick (k : Nat) (v : KeySlot) : (s.putKey k v).tick = s.tick := rfl
@[simp] theorem State.putKey_regs (k : Nat) (v : KeySlot) : (s.putKey k v).regs = s.regs := rfl
@[simp] theorem State.putKey_sent (k : Nat) (v : KeySlot) : (s.putKey k v).sent = s.sent := rfl
@[simp] theorem State.putKey_evt (k : Nat) (v : KeySlot) : (s.putKey k v).evt = s.evt := rfl
@[simp] theorem State.putKey_accepted (k : Nat) (v : KeySlot) : (s.putKey k v).accepted = s.accepted := rfl
@[simp] theorem State.putKey_ctx (k : Nat) (v : KeySlot) : (s.putKey k v).ctx = s.ctx := rfl
@[simp] theorem State.putKey_tables (k : Nat) (v : KeySlot) : (s.putKey k v).tables = s.tables := rfl
@[simp] theorem State.putKey_cut (k : Nat) (v : KeySlot) : (s.putKey k v).cut = s.cut := rfl
@[simp] theorem State.putKey_shoe (k : Nat) (v : KeySlot) : (s.putKey k v).shoe = s.shoe := rfl
@[simp] theorem State.putKey_img (k : Nat) (v : KeySlot) : (s.putKey k v).img = s.img := rfl
@[simp] theorem State.putKey_decks (k : Nat) (v : KeySlot) : (s.putKey k v).decks = s.decks := rfl
@[simp] theorem State.putKey_loops (k : Nat) (v : KeySlot) : (s.putKey k v).loops = s.loops := rfl
@[simp] theorem State.putKey_traces (k : Nat) (v : KeySlot) : (s.putKey k v).traces = s.traces := rfl
@[simp] theorem State.putKey_nvm (k : Nat) (v : KeySlot) : (s.putKey k v).nvm = s.nvm := rfl
@[simp] theorem State.putKey_lnk (k : Nat) (v : KeySlot) : (s.putKey k v).lnk = s.lnk := rfl
@[simp] theorem State.putKey_sec (k : Nat) (v : KeySlot) : (s.putKey k v).sec = s.sec := rfl
@[simp] theorem State.putKey_pwr (k : Nat) (v : KeySlot) : (s.putKey k v).pwr = s.pwr := rfl
@[simp] theorem State.putKey_tap (k : Nat) (v : KeySlot) : (s.putKey k v).tap = s.tap := rfl

/-! ### putLoop -/

@[simp] theorem State.putLoop_pending (d l : Nat) (v : Loop) : (s.putLoop d l v).pending = s.pending := rfl
@[simp] theorem State.putLoop_tick (d l : Nat) (v : Loop) : (s.putLoop d l v).tick = s.tick := rfl
@[simp] theorem State.putLoop_regs (d l : Nat) (v : Loop) : (s.putLoop d l v).regs = s.regs := rfl
@[simp] theorem State.putLoop_sent (d l : Nat) (v : Loop) : (s.putLoop d l v).sent = s.sent := rfl
@[simp] theorem State.putLoop_evt (d l : Nat) (v : Loop) : (s.putLoop d l v).evt = s.evt := rfl
@[simp] theorem State.putLoop_accepted (d l : Nat) (v : Loop) : (s.putLoop d l v).accepted = s.accepted := rfl
@[simp] theorem State.putLoop_ctx (d l : Nat) (v : Loop) : (s.putLoop d l v).ctx = s.ctx := rfl
@[simp] theorem State.putLoop_tables (d l : Nat) (v : Loop) : (s.putLoop d l v).tables = s.tables := rfl
@[simp] theorem State.putLoop_cut (d l : Nat) (v : Loop) : (s.putLoop d l v).cut = s.cut := rfl
@[simp] theorem State.putLoop_keys (d l : Nat) (v : Loop) : (s.putLoop d l v).keys = s.keys := rfl
@[simp] theorem State.putLoop_shoe (d l : Nat) (v : Loop) : (s.putLoop d l v).shoe = s.shoe := rfl
@[simp] theorem State.putLoop_img (d l : Nat) (v : Loop) : (s.putLoop d l v).img = s.img := rfl
@[simp] theorem State.putLoop_decks (d l : Nat) (v : Loop) : (s.putLoop d l v).decks = s.decks := rfl
@[simp] theorem State.putLoop_traces (d l : Nat) (v : Loop) : (s.putLoop d l v).traces = s.traces := rfl
@[simp] theorem State.putLoop_nvm (d l : Nat) (v : Loop) : (s.putLoop d l v).nvm = s.nvm := rfl
@[simp] theorem State.putLoop_lnk (d l : Nat) (v : Loop) : (s.putLoop d l v).lnk = s.lnk := rfl
@[simp] theorem State.putLoop_sec (d l : Nat) (v : Loop) : (s.putLoop d l v).sec = s.sec := rfl
@[simp] theorem State.putLoop_pwr (d l : Nat) (v : Loop) : (s.putLoop d l v).pwr = s.pwr := rfl
@[simp] theorem State.putLoop_tap (d l : Nat) (v : Loop) : (s.putLoop d l v).tap = s.tap := rfl

/-! ### putTrace -/

@[simp] theorem State.putTrace_pending (d c : Nat) (v : Trace) : (s.putTrace d c v).pending = s.pending := rfl
@[simp] theorem State.putTrace_tick (d c : Nat) (v : Trace) : (s.putTrace d c v).tick = s.tick := rfl
@[simp] theorem State.putTrace_regs (d c : Nat) (v : Trace) : (s.putTrace d c v).regs = s.regs := rfl
@[simp] theorem State.putTrace_sent (d c : Nat) (v : Trace) : (s.putTrace d c v).sent = s.sent := rfl
@[simp] theorem State.putTrace_evt (d c : Nat) (v : Trace) : (s.putTrace d c v).evt = s.evt := rfl
@[simp] theorem State.putTrace_accepted (d c : Nat) (v : Trace) : (s.putTrace d c v).accepted = s.accepted := rfl
@[simp] theorem State.putTrace_ctx (d c : Nat) (v : Trace) : (s.putTrace d c v).ctx = s.ctx := rfl
@[simp] theorem State.putTrace_tables (d c : Nat) (v : Trace) : (s.putTrace d c v).tables = s.tables := rfl
@[simp] theorem State.putTrace_cut (d c : Nat) (v : Trace) : (s.putTrace d c v).cut = s.cut := rfl
@[simp] theorem State.putTrace_keys (d c : Nat) (v : Trace) : (s.putTrace d c v).keys = s.keys := rfl
@[simp] theorem State.putTrace_shoe (d c : Nat) (v : Trace) : (s.putTrace d c v).shoe = s.shoe := rfl
@[simp] theorem State.putTrace_img (d c : Nat) (v : Trace) : (s.putTrace d c v).img = s.img := rfl
@[simp] theorem State.putTrace_decks (d c : Nat) (v : Trace) : (s.putTrace d c v).decks = s.decks := rfl
@[simp] theorem State.putTrace_loops (d c : Nat) (v : Trace) : (s.putTrace d c v).loops = s.loops := rfl
@[simp] theorem State.putTrace_nvm (d c : Nat) (v : Trace) : (s.putTrace d c v).nvm = s.nvm := rfl
@[simp] theorem State.putTrace_lnk (d c : Nat) (v : Trace) : (s.putTrace d c v).lnk = s.lnk := rfl
@[simp] theorem State.putTrace_sec (d c : Nat) (v : Trace) : (s.putTrace d c v).sec = s.sec := rfl
@[simp] theorem State.putTrace_pwr (d c : Nat) (v : Trace) : (s.putTrace d c v).pwr = s.pwr := rfl
@[simp] theorem State.putTrace_tap (d c : Nat) (v : Trace) : (s.putTrace d c v).tap = s.tap := rfl

/-! ### putPool -/

@[simp] theorem State.putPool_pending (k : Nat) (v : Pool) : (s.putPool k v).pending = s.pending := rfl
@[simp] theorem State.putPool_tick (k : Nat) (v : Pool) : (s.putPool k v).tick = s.tick := rfl
@[simp] theorem State.putPool_regs (k : Nat) (v : Pool) : (s.putPool k v).regs = s.regs := rfl
@[simp] theorem State.putPool_sent (k : Nat) (v : Pool) : (s.putPool k v).sent = s.sent := rfl
@[simp] theorem State.putPool_evt (k : Nat) (v : Pool) : (s.putPool k v).evt = s.evt := rfl
@[simp] theorem State.putPool_accepted (k : Nat) (v : Pool) : (s.putPool k v).accepted = s.accepted := rfl
@[simp] theorem State.putPool_ctx (k : Nat) (v : Pool) : (s.putPool k v).ctx = s.ctx := rfl
@[simp] theorem State.putPool_tables (k : Nat) (v : Pool) : (s.putPool k v).tables = s.tables := rfl
@[simp] theorem State.putPool_cut (k : Nat) (v : Pool) : (s.putPool k v).cut = s.cut := rfl
@[simp] theorem State.putPool_keys (k : Nat) (v : Pool) : (s.putPool k v).keys = s.keys := rfl
@[simp] theorem State.putPool_img (k : Nat) (v : Pool) : (s.putPool k v).img = s.img := rfl
@[simp] theorem State.putPool_decks (k : Nat) (v : Pool) : (s.putPool k v).decks = s.decks := rfl
@[simp] theorem State.putPool_loops (k : Nat) (v : Pool) : (s.putPool k v).loops = s.loops := rfl
@[simp] theorem State.putPool_traces (k : Nat) (v : Pool) : (s.putPool k v).traces = s.traces := rfl
@[simp] theorem State.putPool_nvm (k : Nat) (v : Pool) : (s.putPool k v).nvm = s.nvm := rfl
@[simp] theorem State.putPool_lnk (k : Nat) (v : Pool) : (s.putPool k v).lnk = s.lnk := rfl
@[simp] theorem State.putPool_sec (k : Nat) (v : Pool) : (s.putPool k v).sec = s.sec := rfl
@[simp] theorem State.putPool_pwr (k : Nat) (v : Pool) : (s.putPool k v).pwr = s.pwr := rfl
@[simp] theorem State.putPool_tap (k : Nat) (v : Pool) : (s.putPool k v).tap = s.tap := rfl

/-! ### putPort -/

@[simp] theorem State.putPort_pending (p : Nat) (v : Port) : (s.putPort p v).pending = s.pending := rfl
@[simp] theorem State.putPort_tick (p : Nat) (v : Port) : (s.putPort p v).tick = s.tick := rfl
@[simp] theorem State.putPort_regs (p : Nat) (v : Port) : (s.putPort p v).regs = s.regs := rfl
@[simp] theorem State.putPort_sent (p : Nat) (v : Port) : (s.putPort p v).sent = s.sent := rfl
@[simp] theorem State.putPort_evt (p : Nat) (v : Port) : (s.putPort p v).evt = s.evt := rfl
@[simp] theorem State.putPort_accepted (p : Nat) (v : Port) : (s.putPort p v).accepted = s.accepted := rfl
@[simp] theorem State.putPort_ctx (p : Nat) (v : Port) : (s.putPort p v).ctx = s.ctx := rfl
@[simp] theorem State.putPort_tables (p : Nat) (v : Port) : (s.putPort p v).tables = s.tables := rfl
@[simp] theorem State.putPort_cut (p : Nat) (v : Port) : (s.putPort p v).cut = s.cut := rfl
@[simp] theorem State.putPort_keys (p : Nat) (v : Port) : (s.putPort p v).keys = s.keys := rfl
@[simp] theorem State.putPort_shoe (p : Nat) (v : Port) : (s.putPort p v).shoe = s.shoe := rfl
@[simp] theorem State.putPort_img (p : Nat) (v : Port) : (s.putPort p v).img = s.img := rfl
@[simp] theorem State.putPort_decks (p : Nat) (v : Port) : (s.putPort p v).decks = s.decks := rfl
@[simp] theorem State.putPort_loops (p : Nat) (v : Port) : (s.putPort p v).loops = s.loops := rfl
@[simp] theorem State.putPort_traces (p : Nat) (v : Port) : (s.putPort p v).traces = s.traces := rfl
@[simp] theorem State.putPort_nvm (p : Nat) (v : Port) : (s.putPort p v).nvm = s.nvm := rfl
@[simp] theorem State.putPort_sec (p : Nat) (v : Port) : (s.putPort p v).sec = s.sec := rfl
@[simp] theorem State.putPort_pwr (p : Nat) (v : Port) : (s.putPort p v).pwr = s.pwr := rfl
@[simp] theorem State.putPort_tap (p : Nat) (v : Port) : (s.putPort p v).tap = s.tap := rfl

/-! ### onPort -/

@[simp] theorem State.onPort_pending (p : Nat) (f : Port → Port) : (s.onPort p f).pending = s.pending := rfl
@[simp] theorem State.onPort_tick (p : Nat) (f : Port → Port) : (s.onPort p f).tick = s.tick := rfl
@[simp] theorem State.onPort_regs (p : Nat) (f : Port → Port) : (s.onPort p f).regs = s.regs := rfl
@[simp] theorem State.onPort_sent (p : Nat) (f : Port → Port) : (s.onPort p f).sent = s.sent := rfl
@[simp] theorem State.onPort_evt (p : Nat) (f : Port → Port) : (s.onPort p f).evt = s.evt := rfl
@[simp] theorem State.onPort_accepted (p : Nat) (f : Port → Port) : (s.onPort p f).accepted = s.accepted := rfl
@[simp] theorem State.onPort_ctx (p : Nat) (f : Port → Port) : (s.onPort p f).ctx = s.ctx := rfl
@[simp] theorem State.onPort_tables (p : Nat) (f : Port → Port) : (s.onPort p f).tables = s.tables := rfl
@[simp] theorem State.onPort_cut (p : Nat) (f : Port → Port) : (s.onPort p f).cut = s.cut := rfl
@[simp] theorem State.onPort_keys (p : Nat) (f : Port → Port) : (s.onPort p f).keys = s.keys := rfl
@[simp] theorem State.onPort_shoe (p : Nat) (f : Port → Port) : (s.onPort p f).shoe = s.shoe := rfl
@[simp] theorem State.onPort_img (p : Nat) (f : Port → Port) : (s.onPort p f).img = s.img := rfl
@[simp] theorem State.onPort_decks (p : Nat) (f : Port → Port) : (s.onPort p f).decks = s.decks := rfl
@[simp] theorem State.onPort_loops (p : Nat) (f : Port → Port) : (s.onPort p f).loops = s.loops := rfl
@[simp] theorem State.onPort_traces (p : Nat) (f : Port → Port) : (s.onPort p f).traces = s.traces := rfl
@[simp] theorem State.onPort_nvm (p : Nat) (f : Port → Port) : (s.onPort p f).nvm = s.nvm := rfl
@[simp] theorem State.onPort_sec (p : Nat) (f : Port → Port) : (s.onPort p f).sec = s.sec := rfl
@[simp] theorem State.onPort_pwr (p : Nat) (f : Port → Port) : (s.onPort p f).pwr = s.pwr := rfl
@[simp] theorem State.onPort_tap (p : Nat) (f : Port → Port) : (s.onPort p f).tap = s.tap := rfl

/-! ### onSec -/

@[simp] theorem State.onSec_pending (f : SecUnit → SecUnit) : (s.onSec f).pending = s.pending := rfl
@[simp] theorem State.onSec_tick (f : SecUnit → SecUnit) : (s.onSec f).tick = s.tick := rfl
@[simp] theorem State.onSec_regs (f : SecUnit → SecUnit) : (s.onSec f).regs = s.regs := rfl
@[simp] theorem State.onSec_sent (f : SecUnit → SecUnit) : (s.onSec f).sent = s.sent := rfl
@[simp] theorem State.onSec_evt (f : SecUnit → SecUnit) : (s.onSec f).evt = s.evt := rfl
@[simp] theorem State.onSec_accepted (f : SecUnit → SecUnit) : (s.onSec f).accepted = s.accepted := rfl
@[simp] theorem State.onSec_ctx (f : SecUnit → SecUnit) : (s.onSec f).ctx = s.ctx := rfl
@[simp] theorem State.onSec_tables (f : SecUnit → SecUnit) : (s.onSec f).tables = s.tables := rfl
@[simp] theorem State.onSec_cut (f : SecUnit → SecUnit) : (s.onSec f).cut = s.cut := rfl
@[simp] theorem State.onSec_keys (f : SecUnit → SecUnit) : (s.onSec f).keys = s.keys := rfl
@[simp] theorem State.onSec_shoe (f : SecUnit → SecUnit) : (s.onSec f).shoe = s.shoe := rfl
@[simp] theorem State.onSec_img (f : SecUnit → SecUnit) : (s.onSec f).img = s.img := rfl
@[simp] theorem State.onSec_decks (f : SecUnit → SecUnit) : (s.onSec f).decks = s.decks := rfl
@[simp] theorem State.onSec_loops (f : SecUnit → SecUnit) : (s.onSec f).loops = s.loops := rfl
@[simp] theorem State.onSec_traces (f : SecUnit → SecUnit) : (s.onSec f).traces = s.traces := rfl
@[simp] theorem State.onSec_nvm (f : SecUnit → SecUnit) : (s.onSec f).nvm = s.nvm := rfl
@[simp] theorem State.onSec_lnk (f : SecUnit → SecUnit) : (s.onSec f).lnk = s.lnk := rfl
@[simp] theorem State.onSec_pwr (f : SecUnit → SecUnit) : (s.onSec f).pwr = s.pwr := rfl
@[simp] theorem State.onSec_tap (f : SecUnit → SecUnit) : (s.onSec f).tap = s.tap := rfl

/-! ### onEvt -/

@[simp] theorem State.onEvt_pending (f : EvtUnit → EvtUnit) : (s.onEvt f).pending = s.pending := rfl
@[simp] theorem State.onEvt_tick (f : EvtUnit → EvtUnit) : (s.onEvt f).tick = s.tick := rfl
@[simp] theorem State.onEvt_regs (f : EvtUnit → EvtUnit) : (s.onEvt f).regs = s.regs := rfl
@[simp] theorem State.onEvt_sent (f : EvtUnit → EvtUnit) : (s.onEvt f).sent = s.sent := rfl
@[simp] theorem State.onEvt_accepted (f : EvtUnit → EvtUnit) : (s.onEvt f).accepted = s.accepted := rfl
@[simp] theorem State.onEvt_ctx (f : EvtUnit → EvtUnit) : (s.onEvt f).ctx = s.ctx := rfl
@[simp] theorem State.onEvt_tables (f : EvtUnit → EvtUnit) : (s.onEvt f).tables = s.tables := rfl
@[simp] theorem State.onEvt_cut (f : EvtUnit → EvtUnit) : (s.onEvt f).cut = s.cut := rfl
@[simp] theorem State.onEvt_keys (f : EvtUnit → EvtUnit) : (s.onEvt f).keys = s.keys := rfl
@[simp] theorem State.onEvt_shoe (f : EvtUnit → EvtUnit) : (s.onEvt f).shoe = s.shoe := rfl
@[simp] theorem State.onEvt_img (f : EvtUnit → EvtUnit) : (s.onEvt f).img = s.img := rfl
@[simp] theorem State.onEvt_decks (f : EvtUnit → EvtUnit) : (s.onEvt f).decks = s.decks := rfl
@[simp] theorem State.onEvt_loops (f : EvtUnit → EvtUnit) : (s.onEvt f).loops = s.loops := rfl
@[simp] theorem State.onEvt_traces (f : EvtUnit → EvtUnit) : (s.onEvt f).traces = s.traces := rfl
@[simp] theorem State.onEvt_nvm (f : EvtUnit → EvtUnit) : (s.onEvt f).nvm = s.nvm := rfl
@[simp] theorem State.onEvt_lnk (f : EvtUnit → EvtUnit) : (s.onEvt f).lnk = s.lnk := rfl
@[simp] theorem State.onEvt_sec (f : EvtUnit → EvtUnit) : (s.onEvt f).sec = s.sec := rfl
@[simp] theorem State.onEvt_pwr (f : EvtUnit → EvtUnit) : (s.onEvt f).pwr = s.pwr := rfl
@[simp] theorem State.onEvt_tap (f : EvtUnit → EvtUnit) : (s.onEvt f).tap = s.tap := rfl

/-! ### ticked -/

@[simp] theorem State.ticked_pending : (s.ticked).pending = s.pending := rfl
@[simp] theorem State.ticked_regs : (s.ticked).regs = s.regs := rfl
@[simp] theorem State.ticked_sent : (s.ticked).sent = s.sent := rfl
@[simp] theorem State.ticked_evt : (s.ticked).evt = s.evt := rfl
@[simp] theorem State.ticked_accepted : (s.ticked).accepted = s.accepted := rfl
@[simp] theorem State.ticked_ctx : (s.ticked).ctx = s.ctx := rfl
@[simp] theorem State.ticked_tables : (s.ticked).tables = s.tables := rfl
@[simp] theorem State.ticked_cut : (s.ticked).cut = s.cut := rfl
@[simp] theorem State.ticked_keys : (s.ticked).keys = s.keys := rfl
@[simp] theorem State.ticked_shoe : (s.ticked).shoe = s.shoe := rfl
@[simp] theorem State.ticked_img : (s.ticked).img = s.img := rfl
@[simp] theorem State.ticked_decks : (s.ticked).decks = s.decks := rfl
@[simp] theorem State.ticked_loops : (s.ticked).loops = s.loops := rfl
@[simp] theorem State.ticked_traces : (s.ticked).traces = s.traces := rfl
@[simp] theorem State.ticked_nvm : (s.ticked).nvm = s.nvm := rfl
@[simp] theorem State.ticked_lnk : (s.ticked).lnk = s.lnk := rfl
@[simp] theorem State.ticked_sec : (s.ticked).sec = s.sec := rfl
@[simp] theorem State.ticked_pwr : (s.ticked).pwr = s.pwr := rfl
@[simp] theorem State.ticked_tap : (s.ticked).tap = s.tap := rfl

/-! ### emit -/

@[simp] theorem emit_pending (m : Sent) : (emit m s).pending = s.pending := rfl
@[simp] theorem emit_tick (m : Sent) : (emit m s).tick = s.tick := rfl
@[simp] theorem emit_regs (m : Sent) : (emit m s).regs = s.regs := rfl
@[simp] theorem emit_evt (m : Sent) : (emit m s).evt = s.evt := rfl
@[simp] theorem emit_accepted (m : Sent) : (emit m s).accepted = s.accepted := rfl
@[simp] theorem emit_ctx (m : Sent) : (emit m s).ctx = s.ctx := rfl
@[simp] theorem emit_tables (m : Sent) : (emit m s).tables = s.tables := rfl
@[simp] theorem emit_cut (m : Sent) : (emit m s).cut = s.cut := rfl
@[simp] theorem emit_keys (m : Sent) : (emit m s).keys = s.keys := rfl
@[simp] theorem emit_shoe (m : Sent) : (emit m s).shoe = s.shoe := rfl
@[simp] theorem emit_img (m : Sent) : (emit m s).img = s.img := rfl
@[simp] theorem emit_decks (m : Sent) : (emit m s).decks = s.decks := rfl
@[simp] theorem emit_loops (m : Sent) : (emit m s).loops = s.loops := rfl
@[simp] theorem emit_traces (m : Sent) : (emit m s).traces = s.traces := rfl
@[simp] theorem emit_nvm (m : Sent) : (emit m s).nvm = s.nvm := rfl
@[simp] theorem emit_lnk (m : Sent) : (emit m s).lnk = s.lnk := rfl
@[simp] theorem emit_sec (m : Sent) : (emit m s).sec = s.sec := rfl
@[simp] theorem emit_pwr (m : Sent) : (emit m s).pwr = s.pwr := rfl
@[simp] theorem emit_tap (m : Sent) : (emit m s).tap = s.tap := rfl
@[simp] theorem emit_sent (m : Sent) : (emit m s).sent = m :: s.sent := rfl

/-! ### Reads after writes -/

@[simp] theorem State.reg_setReg_same (o : Nat) (v : Word) : (s.setReg o v).reg o = v := by
  have := Sparse.get_set_same (resetOf o) s.regs o v
  simpa [State.reg, State.setReg, Sparse.get] using this

theorem State.reg_setReg_ne {o p : Nat} (v : Word) (h : p ≠ o) : (s.setReg o v).reg p = s.reg p := by
  have := Sparse.get_set_ne (resetOf o) (resetOf p) s.regs o v h
  simpa [State.reg, State.setReg, Sparse.get] using this

theorem State.fld_setReg_ne {o p : Nat} (v : Word) (f : Fld) (h : p ≠ o) : (s.setReg o v).fld p f = s.fld p f := by
  simp [State.fld, State.reg_setReg_ne s v h]

/-- A field reads what was written to it. -/
theorem State.fld_setFld_same (o : Nat) (f : Fld) (v : Nat) (h : f.lo ≤ f.hi) (h32 : f.hi < 32) :
    (s.setFld o f v).fld o f = v % 2 ^ f.width := by
  simp [State.fld, State.setFld, getBits_putBits_same _ f v h h32]

/-- Another field of the register keeps its value. -/
theorem State.fld_setFld_other (o : Nat) (f g : Fld) (v : Nat) (h : f.lo ≤ f.hi) (hg : g.lo ≤ g.hi) (g32 : g.hi < 32)
    (apart : g.hi < f.lo ∨ f.hi < g.lo) : (s.setFld o f v).fld o g = s.fld o g := by
  simp [State.fld, State.setFld, getBits_putBits_other _ f g v h hg g32 apart]

theorem State.reg_setFld_ne {o p : Nat} (f : Fld) (v : Nat) (h : p ≠ o) : (s.setFld o f v).reg p = s.reg p :=
  State.reg_setReg_ne s _ h

theorem State.fld_setFld_ne {o p : Nat} (f g : Fld) (v : Nat) (h : p ≠ o) : (s.setFld o f v).fld p g = s.fld p g :=
  State.fld_setReg_ne s _ g h

@[simp] theorem State.ctxAt_putCtx_same (n : Nat) (c : Context) : (s.putCtx n c).ctxAt n = c := Sparse.get_set_same _ _ _ _

theorem State.ctxAt_putCtx_ne {n m : Nat} (c : Context) (h : m ≠ n) : (s.putCtx n c).ctxAt m = s.ctxAt m :=
  Sparse.get_set_ne _ _ _ _ _ h

@[simp] theorem State.ctxAt_onCtx_same (n : Nat) (f : Context → Context) : (s.onCtx n f).ctxAt n = f (s.ctxAt n) :=
  State.ctxAt_putCtx_same s n _

@[simp] theorem State.deckAt_putDeck_same (d : Nat) (k : Deck) : (s.putDeck d k).deckAt d = k := Sparse.get_set_same _ _ _ _

theorem State.deckAt_putDeck_ne {d e : Nat} (k : Deck) (h : e ≠ d) : (s.putDeck d k).deckAt e = s.deckAt e :=
  Sparse.get_set_ne _ _ _ _ _ h

@[simp] theorem State.deckAt_onDeck_same (d : Nat) (f : Deck → Deck) : (s.onDeck d f).deckAt d = f (s.deckAt d) :=
  State.deckAt_putDeck_same s d _

theorem State.deckAt_onDeck_ne {d e : Nat} (f : Deck → Deck) (h : e ≠ d) : (s.onDeck d f).deckAt e = s.deckAt e :=
  State.deckAt_putDeck_ne s _ h

@[simp] theorem State.tableAt_putTable_same (d p : Nat) (t : Table) : (s.putTable d p t).tableAt d p = t := Sparse.get_set_same _ _ _ _

theorem State.tableAt_putTable_ne {d p e q : Nat} (t : Table) (h : 64 * e + q ≠ 64 * d + p) :
    (s.putTable d p t).tableAt e q = s.tableAt e q := Sparse.get_set_ne _ _ _ _ _ h

@[simp] theorem State.tableAt_onTable_same (d p : Nat) (f : Table → Table) : (s.onTable d p f).tableAt d p = f (s.tableAt d p) :=
  State.tableAt_putTable_same s d p _

@[simp] theorem State.keyAt_putKey_same (k : Nat) (v : KeySlot) : (s.putKey k v).keyAt k = v := Sparse.get_set_same _ _ _ _

theorem State.keyAt_putKey_ne {k j : Nat} (v : KeySlot) (h : j ≠ k) : (s.putKey k v).keyAt j = s.keyAt j :=
  Sparse.get_set_ne _ _ _ _ _ h

@[simp] theorem State.loopAt_putLoop_same (d l : Nat) (v : Loop) : (s.putLoop d l v).loopAt d l = v := Sparse.get_set_same _ _ _ _

@[simp] theorem State.traceAt_putTrace_same (d c : Nat) (v : Trace) : (s.putTrace d c v).traceAt d c = v := Sparse.get_set_same _ _ _ _

@[simp] theorem State.poolAt_putPool_same (k : Nat) (v : Pool) : (s.putPool k v).poolAt k = v := Sparse.get_set_same _ _ _ _

theorem State.poolAt_putPool_ne {k j : Nat} (v : Pool) (h : j ≠ k) : (s.putPool k v).poolAt j = s.poolAt j :=
  Sparse.get_set_ne _ _ _ _ _ h

@[simp] theorem State.portAt_putPort_same (p : Nat) (v : Port) : (s.putPort p v).portAt p = v := Sparse.get_set_same _ _ _ _

@[simp] theorem State.onSec_sec (f : SecUnit → SecUnit) : (s.onSec f).sec = f s.sec := rfl

@[simp] theorem State.onEvt_evt (f : EvtUnit → EvtUnit) : (s.onEvt f).evt = f s.evt := rfl

@[simp] theorem State.ticked_tick : s.ticked.tick = s.tick + 1 := rfl

end Sys2Proof.Machine
end

