-- ==== Sys2Proof/Laws/Evt.lean ====
section
/-! SUPPORT. Raising an event changes nothing but the events' own state and what is sent; what the TAP check at the end of a command
changes; what a command's run answers. -/

namespace Sys2Proof.Machine

/-- `t` is `s` but for the events' own state and the messages sent. -/
def EvtOnly (s t : State) : Prop := t = { s with evt := t.evt, sent := t.sent }

theorem EvtOnly.refl (s : State) : EvtOnly s s := rfl

theorem EvtOnly.trans {s t u : State} (h : EvtOnly s t) (k : EvtOnly t u) : EvtOnly s u := by
  unfold EvtOnly at *
  rw [k, h]

theorem evtOnly_of (s : State) (e : EvtUnit) (m : List Sent) : EvtOnly s { s with evt := e, sent := m } := rfl

theorem evtOnly_ite {s t u : State} (c : Prop) [Decidable c] (h : EvtOnly s t) (k : EvtOnly s u) : EvtOnly s (if c then t else u) := by
  split <;> assumption

theorem recordEvent_evtOnly (again : Nat → List Word → State → State) (ha : ∀ ev l s, EvtOnly s (again ev l s)) (ev : Nat)
    (l : List Word) (s : State) : EvtOnly s (recordEvent again ev l s).1 := by
  unfold recordEvent
  split
  · rfl
  · dsimp only
    split
    · split
      · dsimp only
        split
        · exact EvtOnly.trans (evtOnly_of s _ _) (ha ..)
        · rfl
      · rfl
    · dsimp only
      split
      · rfl
      · exact EvtOnly.trans (evtOnly_of s _ _) (ha ..)

theorem ringDoorbell_evtOnly (c n : Nat) (s : State) : EvtOnly s (ringDoorbell c n s) := by
  unfold ringDoorbell
  split <;> rfl

theorem notifyEvent_evtOnly (again : Nat → List Word → State → State) (ha : ∀ ev l s, EvtOnly s (again ev l s)) (ev : Nat)
    (l : List Word) (q : Option Word) (s : State) : EvtOnly s (notifyEvent again ev l q s) := by
  unfold notifyEvent
  dsimp only
  split
  · exact EvtOnly.trans (evtOnly_of s _ _) (ringDoorbell_evtOnly ..)
  · exact EvtOnly.trans (EvtOnly.trans (evtOnly_of s _ _) (ringDoorbell_evtOnly ..)) (ha ..)

theorem markFatal_evtOnly (ev : Nat) (s : State) : EvtOnly s (markFatal ev s) := by
  unfold markFatal
  split <;> rfl

theorem raiseN_evtOnly (n : Nat) : ∀ (ev : Nat) (l : List Word) (s : State), EvtOnly s (raiseN n ev l s) := by
  induction n with
  | zero => intro ev l s; rfl
  | succ n ih =>
    intro ev l s
    unfold raiseN
    dsimp only
    have h1 : EvtOnly s (if getBits (srcCfg s ev).cfg Fld.evtSrcCfgRecord = 1 && ev != 448
        then recordEvent (raiseN n) ev l (markFatal ev s) else (markFatal ev s, none)).1 := by
      split
      · exact (markFatal_evtOnly ev s).trans (recordEvent_evtOnly _ ih ..)
      · exact markFatal_evtOnly ev s
    split
    · exact h1.trans (notifyEvent_evtOnly _ ih ..)
    · exact h1

/-- Raising an event changes only the events' own state and what is sent (R385). -/
theorem raise_evtOnly (ev : Nat) (l : List Word) (s : State) : EvtOnly s (raise ev l s) := raiseN_evtOnly 7 ev l s

@[simp] theorem raise_pending (ev : Nat) (l : List Word) (s : State) : (raise ev l s).pending = s.pending := by rw [raise_evtOnly ev l s]
@[simp] theorem raise_tick (ev : Nat) (l : List Word) (s : State) : (raise ev l s).tick = s.tick := by rw [raise_evtOnly ev l s]
@[simp] theorem raise_regs (ev : Nat) (l : List Word) (s : State) : (raise ev l s).regs = s.regs := by rw [raise_evtOnly ev l s]
@[simp] theorem raise_accepted (ev : Nat) (l : List Word) (s : State) : (raise ev l s).accepted = s.accepted := by rw [raise_evtOnly ev l s]
@[simp] theorem raise_ctx (ev : Nat) (l : List Word) (s : State) : (raise ev l s).ctx = s.ctx := by rw [raise_evtOnly ev l s]
@[simp] theorem raise_tables (ev : Nat) (l : List Word) (s : State) : (raise ev l s).tables = s.tables := by rw [raise_evtOnly ev l s]
@[simp] theorem raise_cut (ev : Nat) (l : List Word) (s : State) : (raise ev l s).cut = s.cut := by rw [raise_evtOnly ev l s]
@[simp] theorem raise_keys (ev : Nat) (l : List Word) (s : State) : (raise ev l s).keys = s.keys := by rw [raise_evtOnly ev l s]
@[simp] theorem raise_shoe (ev : Nat) (l : List Word) (s : State) : (raise ev l s).shoe = s.shoe := by rw [raise_evtOnly ev l s]
@[simp] theorem raise_img (ev : Nat) (l : List Word) (s : State) : (raise ev l s).img = s.img := by rw [raise_evtOnly ev l s]
@[simp] theorem raise_decks (ev : Nat) (l : List Word) (s : State) : (raise ev l s).decks = s.decks := by rw [raise_evtOnly ev l s]
@[simp] theorem raise_loops (ev : Nat) (l : List Word) (s : State) : (raise ev l s).loops = s.loops := by rw [raise_evtOnly ev l s]
@[simp] theorem raise_traces (ev : Nat) (l : List Word) (s : State) : (raise ev l s).traces = s.traces := by rw [raise_evtOnly ev l s]
@[simp] theorem raise_nvm (ev : Nat) (l : List Word) (s : State) : (raise ev l s).nvm = s.nvm := by rw [raise_evtOnly ev l s]
@[simp] theorem raise_lnk (ev : Nat) (l : List Word) (s : State) : (raise ev l s).lnk = s.lnk := by rw [raise_evtOnly ev l s]
@[simp] theorem raise_sec (ev : Nat) (l : List Word) (s : State) : (raise ev l s).sec = s.sec := by rw [raise_evtOnly ev l s]
@[simp] theorem raise_pwr (ev : Nat) (l : List Word) (s : State) : (raise ev l s).pwr = s.pwr := by rw [raise_evtOnly ev l s]
@[simp] theorem raise_tap (ev : Nat) (l : List Word) (s : State) : (raise ev l s).tap = s.tap := by rw [raise_evtOnly ev l s]
@[simp] theorem raiseDeck_pending (d n : Nat) (l : List Word) (s : State) : (raiseDeck d n l s).pending = s.pending := raise_pending ..
@[simp] theorem raiseDeck_tick (d n : Nat) (l : List Word) (s : State) : (raiseDeck d n l s).tick = s.tick := raise_tick ..
@[simp] theorem raiseDeck_regs (d n : Nat) (l : List Word) (s : State) : (raiseDeck d n l s).regs = s.regs := raise_regs ..
@[simp] theorem raiseDeck_accepted (d n : Nat) (l : List Word) (s : State) : (raiseDeck d n l s).accepted = s.accepted := raise_accepted ..
@[simp] theorem raiseDeck_ctx (d n : Nat) (l : List Word) (s : State) : (raiseDeck d n l s).ctx = s.ctx := raise_ctx ..
@[simp] theorem raiseDeck_tables (d n : Nat) (l : List Word) (s : State) : (raiseDeck d n l s).tables = s.tables := raise_tables ..
@[simp] theorem raiseDeck_cut (d n : Nat) (l : List Word) (s : State) : (raiseDeck d n l s).cut = s.cut := raise_cut ..
@[simp] theorem raiseDeck_keys (d n : Nat) (l : List Word) (s : State) : (raiseDeck d n l s).keys = s.keys := raise_keys ..
@[simp] theorem raiseDeck_shoe (d n : Nat) (l : List Word) (s : State) : (raiseDeck d n l s).shoe = s.shoe := raise_shoe ..
@[simp] theorem raiseDeck_img (d n : Nat) (l : List Word) (s : State) : (raiseDeck d n l s).img = s.img := raise_img ..
@[simp] theorem raiseDeck_decks (d n : Nat) (l : List Word) (s : State) : (raiseDeck d n l s).decks = s.decks := raise_decks ..
@[simp] theorem raiseDeck_loops (d n : Nat) (l : List Word) (s : State) : (raiseDeck d n l s).loops = s.loops := raise_loops ..
@[simp] theorem raiseDeck_traces (d n : Nat) (l : List Word) (s : State) : (raiseDeck d n l s).traces = s.traces := raise_traces ..
@[simp] theorem raiseDeck_nvm (d n : Nat) (l : List Word) (s : State) : (raiseDeck d n l s).nvm = s.nvm := raise_nvm ..
@[simp] theorem raiseDeck_lnk (d n : Nat) (l : List Word) (s : State) : (raiseDeck d n l s).lnk = s.lnk := raise_lnk ..
@[simp] theorem raiseDeck_sec (d n : Nat) (l : List Word) (s : State) : (raiseDeck d n l s).sec = s.sec := raise_sec ..
@[simp] theorem raiseDeck_pwr (d n : Nat) (l : List Word) (s : State) : (raiseDeck d n l s).pwr = s.pwr := raise_pwr ..
@[simp] theorem raiseDeck_tap (d n : Nat) (l : List Word) (s : State) : (raiseDeck d n l s).tap = s.tap := raise_tap ..

@[simp] theorem raise_reg (ev : Nat) (l : List Word) (s : State) (o : Nat) : (raise ev l s).reg o = s.reg o := by simp [State.reg]

@[simp] theorem raiseDeck_reg (d n : Nat) (l : List Word) (s : State) (o : Nat) : (raiseDeck d n l s).reg o = s.reg o := raise_reg ..

@[simp] theorem raise_fld (ev : Nat) (l : List Word) (s : State) (o : Nat) (f : Fld) : (raise ev l s).fld o f = s.fld o f := by
  simp [State.fld]

@[simp] theorem raise_deckAt (ev : Nat) (l : List Word) (s : State) (d : Nat) : (raise ev l s).deckAt d = s.deckAt d := by
  simp [State.deckAt]

@[simp] theorem raise_ctxAt (ev : Nat) (l : List Word) (s : State) (n : Nat) : (raise ev l s).ctxAt n = s.ctxAt n := by
  simp [State.ctxAt]

/-- What every round of a loop keeps, the loop keeps. -/
theorem forEach_keeps {α β : Type} (P : State → β) {f : α → State → State} (h : ∀ x a, P (f x a) = P a) (l : List α) (s : State) :
    P (forEach l f s) = P s := by
  unfold forEach
  induction l generalizing s with
  | nil => rfl
  | cons x l ih => exact (ih (f x s)).trans (h x s)

/-- An invariant of every round of a loop is one of the loop. -/
theorem forEach_inv {α : Type} (P : State → Prop) {f : α → State → State} (h : ∀ x a, P a → P (f x a)) (l : List α) (s : State)
    (hs : P s) : P (forEach l f s) := by
  unfold forEach
  induction l generalizing s with
  | nil => exact hs
  | cons x l ih => exact ih (f x s) (h x s hs)

/-! ### The TAP check -/

theorem unwriteStack_of (k : Nat) (s : State) : unwriteStack k s = { s with shoe := (unwriteStack k s).shoe } := rfl

/-- What replacing the TAP instruction in effect may change: the TAP, the count of refusals, the events, and the words of a stack (R407,
R410). -/
theorem withdrawTap_frame (s : State) :
    withdrawTap s = { s with tap := (withdrawTap s).tap, evt := (withdrawTap s).evt, sent := (withdrawTap s).sent
                             regs := (withdrawTap s).regs, shoe := (withdrawTap s).shoe } := by
  unfold withdrawTap
  dsimp only
  split
  · rfl
  · unfold substituteBypass endTapInstruction
    split
    · rw [raise_evtOnly]; rfl
    · rw [raise_evtOnly]; rfl

@[simp] theorem withdrawTap_pending (s : State) : (withdrawTap s).pending = s.pending := by rw [withdrawTap_frame s]
@[simp] theorem withdrawTap_tick (s : State) : (withdrawTap s).tick = s.tick := by rw [withdrawTap_frame s]
@[simp] theorem withdrawTap_accepted (s : State) : (withdrawTap s).accepted = s.accepted := by rw [withdrawTap_frame s]
@[simp] theorem withdrawTap_ctx (s : State) : (withdrawTap s).ctx = s.ctx := by rw [withdrawTap_frame s]
@[simp] theorem withdrawTap_tables (s : State) : (withdrawTap s).tables = s.tables := by rw [withdrawTap_frame s]
@[simp] theorem withdrawTap_cut (s : State) : (withdrawTap s).cut = s.cut := by rw [withdrawTap_frame s]
@[simp] theorem withdrawTap_keys (s : State) : (withdrawTap s).keys = s.keys := by rw [withdrawTap_frame s]
@[simp] theorem withdrawTap_img (s : State) : (withdrawTap s).img = s.img := by rw [withdrawTap_frame s]
@[simp] theorem withdrawTap_decks (s : State) : (withdrawTap s).decks = s.decks := by rw [withdrawTap_frame s]
@[simp] theorem withdrawTap_loops (s : State) : (withdrawTap s).loops = s.loops := by rw [withdrawTap_frame s]
@[simp] theorem withdrawTap_traces (s : State) : (withdrawTap s).traces = s.traces := by rw [withdrawTap_frame s]
@[simp] theorem withdrawTap_nvm (s : State) : (withdrawTap s).nvm = s.nvm := by rw [withdrawTap_frame s]
@[simp] theorem withdrawTap_lnk (s : State) : (withdrawTap s).lnk = s.lnk := by rw [withdrawTap_frame s]
@[simp] theorem withdrawTap_sec (s : State) : (withdrawTap s).sec = s.sec := by rw [withdrawTap_frame s]
@[simp] theorem withdrawTap_pwr (s : State) : (withdrawTap s).pwr = s.pwr := by rw [withdrawTap_frame s]

@[simp] theorem withdrawTap_scan (s : State) : (withdrawTap s).tap.scan = s.tap.scan := by
  unfold withdrawTap
  dsimp only
  split
  · rfl
  · unfold substituteBypass endTapInstruction
    split <;> simp [unwriteStack]

/-- After the check the TAP instruction in effect meets its conditions (R407). -/
theorem withdrawTap_honoured (s : State) : tapHonoured (withdrawTap s) (withdrawTap s).tap.ir.toNat = true := by
  by_cases h : tapHonoured s s.tap.ir.toNat = true
  · simp [withdrawTap, h]
  · have e : (withdrawTap s).tap.ir = 0xFF := by
      unfold withdrawTap
      simp only [h]
      unfold substituteBypass
      simp
    rw [e]
    simp [tapHonoured, pinDriving]

/-- The check leaves alone a state whose TAP instruction meets its conditions. -/
theorem withdrawTap_of_honoured {s : State} (h : tapHonoured s s.tap.ir.toNat = true) : withdrawTap s = s := by
  simp [withdrawTap, h]

/-! ### Running a command -/

theorem run_of_scan_false {f : State → State} {s : State} (h : s.tap.scan = false) : run f s = .next (withdrawTap (f s)) := by
  simp [run, h]

theorem runTap_of_scan_false {f : State → State} {s : State} (h : s.tap.scan = false) : runTap f s = .next (withdrawTap (f s)) := by
  simp [runTap, h]

theorem runReset_eq (f : State → State) (s : State) :
    runReset f s = .next (withdrawTap (f { s with tap := { s.tap with scan := false } })) := rfl

theorem run_next (f : State → State) (s : State) : ∃ t, run f s = .next t := ⟨_, rfl⟩

theorem runReset_next (f : State → State) (s : State) : ∃ t, runReset f s = .next t := ⟨_, rfl⟩

theorem runTap_next (f : State → State) (s : State) : ∃ t, runTap f s = .next t := ⟨_, rfl⟩

end Sys2Proof.Machine
end

