-- ==== Sys2Proof/Laws/Touch.lean ====
section
/-! SUPPORT. Which parts of the state a change touches, and that it keeps the memories canonical: how the statements `Moves` compose. -/

namespace Sys2Proof.Machine

/-- A member of a sublist. -/
theorem Part.mem_of_sub {l m : List Part} {p : Part} (h : m ⊆ l) (hp : p ∈ m) : p ∈ l := h hp

theorem Part.same_refl (s : State) (p : Part) : p.same s s := by cases p <;> rfl

theorem Part.same_trans {s t u : State} {p : Part} (h : p.same s t) (k : p.same t u) : p.same s u := by
  cases p <;> first
    | exact Eq.trans k h
    | (simp only [Part.same] at *; rw [← h, ← k])

theorem Touches.refl (l : List Part) (s : State) : Touches l s s := ⟨fun p _ => p.same_refl s⟩

theorem Touches.trans {l : List Part} {s t u : State} (h : Touches l s t) (k : Touches l t u) : Touches l s u :=
  ⟨fun p hp => Part.same_trans (h.keep p hp) (k.keep p hp)⟩

theorem Touches.mono {l m : List Part} {s t : State} (h : Touches l s t) (hm : l ⊆ m) : Touches m s t :=
  ⟨fun p hp => h.keep p (fun q => hp (hm q))⟩

/-- Every part outside `l` is in `t` what it is in `s`, and where the memories of `s` are in canonical form those of `t` are too. -/
structure Moves (l : List Part) (s t : State) : Prop extends Touches l s t where
  /-- the canonical form is kept -/
  canonical : Memory.wf s = true → Memory.wf t = true

/-- The canonical form depends on the two memories alone. -/
theorem Memory.wf_congr {s t : State} (hm : t.shoe.mem = s.shoe.mem) (hb : t.nvm.bytes = s.nvm.bytes) :
    Memory.wf s = true → Memory.wf t = true := by
  unfold Memory.wf; rw [hm, hb]; exact id

theorem memory_wf_iff (s : State) : Memory.wf s = true ↔
    Sparse.Canonical (fun _ => (0 : Byte)) s.shoe.mem ∧ Sparse.Canonical (fun _ => (0xFF : Byte)) s.nvm.bytes := by
  simp [Memory.wf, Sparse.wf_iff]

theorem Moves.refl (l : List Part) (s : State) : Moves l s s := ⟨.refl l s, id⟩

theorem Moves.trans {l : List Part} {s t u : State} (h : Moves l s t) (k : Moves l t u) : Moves l s u :=
  ⟨h.toTouches.trans k.toTouches, fun w => k.canonical (h.canonical w)⟩

theorem Moves.mono {l m : List Part} {s t : State} (h : Moves l s t) (hm : l ⊆ m) : Moves m s t := ⟨h.toTouches.mono hm, h.canonical⟩

/-- The step form: `t` comes from `a` by something that touches `m` only. -/
theorem Moves.step {l m : List Part} {s a t : State} (k : Moves m a t) (hm : m ⊆ l) (h : Moves l s a) : Moves l s t :=
  h.trans (k.mono hm)

theorem Moves.of_eq {l m : List Part} {s a t u : State} (e : t = u) (k : Moves m a t) (hm : m ⊆ l) (h : Moves l s a) :
    Moves l s u := by subst e; exact h.trans (k.mono hm)

/-- From what a change touches and that it keeps the canonical form. -/
theorem Touches.moves {l : List Part} {s t : State} (h : Touches l s t) (hm : t.shoe.mem = s.shoe.mem) (hb : t.nvm.bytes = s.nvm.bytes) :
    Moves l s t := ⟨h, Memory.wf_congr hm hb⟩

theorem Moves.ite {l : List Part} {s a b : State} {c : Prop} [Decidable c] (h : Moves l s a) (k : Moves l s b) :
    Moves l s (if c then a else b) := by split <;> assumption

/-! One field changed. -/

theorem Moves.upd_pending {l : List Part} {s a : State} {v} (hp : Part.pending ∈ l) (h : Moves l s a) : Moves l s { a with pending := v } :=
  h.trans (Touches.moves ⟨fun p hq => by cases p <;> first | rfl | exact absurd hp hq⟩ rfl rfl)

theorem Moves.upd_tick {l : List Part} {s a : State} {v} (hp : Part.tick ∈ l) (h : Moves l s a) : Moves l s { a with tick := v } :=
  h.trans (Touches.moves ⟨fun p hq => by cases p <;> first | rfl | exact absurd hp hq⟩ rfl rfl)

theorem Moves.upd_regs {l : List Part} {s a : State} {v} (hp : Part.regs ∈ l) (h : Moves l s a) : Moves l s { a with regs := v } :=
  h.trans (Touches.moves ⟨fun p hq => by cases p <;> first | rfl | exact absurd hp hq⟩ rfl rfl)

theorem Moves.upd_sent {l : List Part} {s a : State} {v} (hp : Part.sent ∈ l) (h : Moves l s a) : Moves l s { a with sent := v } :=
  h.trans (Touches.moves ⟨fun p hq => by cases p <;> first | rfl | exact absurd hp hq⟩ rfl rfl)

theorem Moves.upd_evt {l : List Part} {s a : State} {v} (hp : Part.evt ∈ l) (h : Moves l s a) : Moves l s { a with evt := v } :=
  h.trans (Touches.moves ⟨fun p hq => by cases p <;> first | rfl | exact absurd hp hq⟩ rfl rfl)

theorem Moves.upd_accepted {l : List Part} {s a : State} {v} (hp : Part.accepted ∈ l) (h : Moves l s a) : Moves l s { a with accepted := v } :=
  h.trans (Touches.moves ⟨fun p hq => by cases p <;> first | rfl | exact absurd hp hq⟩ rfl rfl)

theorem Moves.upd_ctx {l : List Part} {s a : State} {v} (hp : Part.ctx ∈ l) (h : Moves l s a) : Moves l s { a with ctx := v } :=
  h.trans (Touches.moves ⟨fun p hq => by cases p <;> first | rfl | exact absurd hp hq⟩ rfl rfl)

theorem Moves.upd_tables {l : List Part} {s a : State} {v} (hp : Part.tables ∈ l) (h : Moves l s a) : Moves l s { a with tables := v } :=
  h.trans (Touches.moves ⟨fun p hq => by cases p <;> first | rfl | exact absurd hp hq⟩ rfl rfl)

theorem Moves.upd_cut {l : List Part} {s a : State} {v} (hp : Part.cut ∈ l) (h : Moves l s a) : Moves l s { a with cut := v } :=
  h.trans (Touches.moves ⟨fun p hq => by cases p <;> first | rfl | exact absurd hp hq⟩ rfl rfl)

theorem Moves.upd_keys {l : List Part} {s a : State} {v} (hp : Part.keys ∈ l) (h : Moves l s a) : Moves l s { a with keys := v } :=
  h.trans (Touches.moves ⟨fun p hq => by cases p <;> first | rfl | exact absurd hp hq⟩ rfl rfl)

theorem Moves.upd_img {l : List Part} {s a : State} {v} (hp : Part.img ∈ l) (h : Moves l s a) : Moves l s { a with img := v } :=
  h.trans (Touches.moves ⟨fun p hq => by cases p <;> first | rfl | exact absurd hp hq⟩ rfl rfl)

theorem Moves.upd_decks {l : List Part} {s a : State} {v} (hp : Part.decks ∈ l) (h : Moves l s a) : Moves l s { a with decks := v } :=
  h.trans (Touches.moves ⟨fun p hq => by cases p <;> first | rfl | exact absurd hp hq⟩ rfl rfl)

theorem Moves.upd_loops {l : List Part} {s a : State} {v} (hp : Part.loops ∈ l) (h : Moves l s a) : Moves l s { a with loops := v } :=
  h.trans (Touches.moves ⟨fun p hq => by cases p <;> first | rfl | exact absurd hp hq⟩ rfl rfl)

theorem Moves.upd_traces {l : List Part} {s a : State} {v} (hp : Part.traces ∈ l) (h : Moves l s a) : Moves l s { a with traces := v } :=
  h.trans (Touches.moves ⟨fun p hq => by cases p <;> first | rfl | exact absurd hp hq⟩ rfl rfl)

theorem Moves.upd_lnk {l : List Part} {s a : State} {v} (hp : Part.lnk ∈ l) (h : Moves l s a) : Moves l s { a with lnk := v } :=
  h.trans (Touches.moves ⟨fun p hq => by cases p <;> first | rfl | exact absurd hp hq⟩ rfl rfl)

theorem Moves.upd_sec {l : List Part} {s a : State} {v} (hp : Part.sec ∈ l) (h : Moves l s a) : Moves l s { a with sec := v } :=
  h.trans (Touches.moves ⟨fun p hq => by cases p <;> first | rfl | exact absurd hp hq⟩ rfl rfl)

theorem Moves.upd_pwr {l : List Part} {s a : State} {v} (hp : Part.pwr ∈ l) (h : Moves l s a) : Moves l s { a with pwr := v } :=
  h.trans (Touches.moves ⟨fun p hq => by cases p <;> first | rfl | exact absurd hp hq⟩ rfl rfl)

theorem Moves.upd_tap {l : List Part} {s a : State} {v} (hp : Part.tap ∈ l) (h : Moves l s a) : Moves l s { a with tap := v } :=
  h.trans (Touches.moves ⟨fun p hq => by cases p <;> first | rfl | exact absurd hp hq⟩ rfl rfl)

theorem Moves.upd_shoe {l : List Part} {s a : State} {v} (hp : Part.shoe ∈ l) (hm : v.mem = a.shoe.mem) (h : Moves l s a) :
    Moves l s { a with shoe := v } :=
  h.trans (Touches.moves ⟨fun p hq => by cases p <;> first | rfl | exact absurd hp hq | exact hm⟩ hm rfl)

theorem Moves.upd_nvm {l : List Part} {s a : State} {v} (hp : Part.nvm ∈ l) (hm : v.bytes = a.nvm.bytes) (h : Moves l s a) :
    Moves l s { a with nvm := v } :=
  h.trans (Touches.moves ⟨fun p hq => by cases p <;> first | rfl | exact absurd hp hq | exact hm⟩ rfl hm)

/-- A state written out field by field touches what it does not take from `a`. The premises close by themselves where a field is `a`'s or its
part is listed. -/
theorem Moves.upd {l : List Part} {s a : State} {v1 v2 v3 v4 v5 v6 v7 v8 v9 v10 v11 v12 v13 v14 v15 v16 v17 v18 v19 v20}
    (h_pending : Part.pending ∉ l → v1 = a.pending := by
      first | exact fun h => absurd (by decide +kernel) h | exact fun h => absurd (Part.mem_of_sub (by assumption) (by decide +kernel)) h | exact fun _ => rfl)
    (h_tick : Part.tick ∉ l → v2 = a.tick := by
      first | exact fun h => absurd (by decide +kernel) h | exact fun h => absurd (Part.mem_of_sub (by assumption) (by decide +kernel)) h | exact fun _ => rfl)
    (h_regs : Part.regs ∉ l → v3 = a.regs := by
      first | exact fun h => absurd (by decide +kernel) h | exact fun h => absurd (Part.mem_of_sub (by assumption) (by decide +kernel)) h | exact fun _ => rfl)
    (h_sent : Part.sent ∉ l → v4 = a.sent := by
      first | exact fun h => absurd (by decide +kernel) h | exact fun h => absurd (Part.mem_of_sub (by assumption) (by decide +kernel)) h | exact fun _ => rfl)
    (h_evt : Part.evt ∉ l → v5 = a.evt := by
      first | exact fun h => absurd (by decide +kernel) h | exact fun h => absurd (Part.mem_of_sub (by assumption) (by decide +kernel)) h | exact fun _ => rfl)
    (h_accepted : Part.accepted ∉ l → v6 = a.accepted := by
      first | exact fun h => absurd (by decide +kernel) h | exact fun h => absurd (Part.mem_of_sub (by assumption) (by decide +kernel)) h | exact fun _ => rfl)
    (h_ctx : Part.ctx ∉ l → v7 = a.ctx := by
      first | exact fun h => absurd (by decide +kernel) h | exact fun h => absurd (Part.mem_of_sub (by assumption) (by decide +kernel)) h | exact fun _ => rfl)
    (h_tables : Part.tables ∉ l → v8 = a.tables := by
      first | exact fun h => absurd (by decide +kernel) h | exact fun h => absurd (Part.mem_of_sub (by assumption) (by decide +kernel)) h | exact fun _ => rfl)
    (h_cut : Part.cut ∉ l → v9 = a.cut := by
      first | exact fun h => absurd (by decide +kernel) h | exact fun h => absurd (Part.mem_of_sub (by assumption) (by decide +kernel)) h | exact fun _ => rfl)
    (h_keys : Part.keys ∉ l → v10 = a.keys := by
      first | exact fun h => absurd (by decide +kernel) h | exact fun h => absurd (Part.mem_of_sub (by assumption) (by decide +kernel)) h | exact fun _ => rfl)
    (h_img : Part.img ∉ l → v12 = a.img := by
      first | exact fun h => absurd (by decide +kernel) h | exact fun h => absurd (Part.mem_of_sub (by assumption) (by decide +kernel)) h | exact fun _ => rfl)
    (h_decks : Part.decks ∉ l → v13 = a.decks := by
      first | exact fun h => absurd (by decide +kernel) h | exact fun h => absurd (Part.mem_of_sub (by assumption) (by decide +kernel)) h | exact fun _ => rfl)
    (h_loops : Part.loops ∉ l → v14 = a.loops := by
      first | exact fun h => absurd (by decide +kernel) h | exact fun h => absurd (Part.mem_of_sub (by assumption) (by decide +kernel)) h | exact fun _ => rfl)
    (h_traces : Part.traces ∉ l → v15 = a.traces := by
      first | exact fun h => absurd (by decide +kernel) h | exact fun h => absurd (Part.mem_of_sub (by assumption) (by decide +kernel)) h | exact fun _ => rfl)
    (h_lnk : Part.lnk ∉ l → v17 = a.lnk := by
      first | exact fun h => absurd (by decide +kernel) h | exact fun h => absurd (Part.mem_of_sub (by assumption) (by decide +kernel)) h | exact fun _ => rfl)
    (h_sec : Part.sec ∉ l → v18 = a.sec := by
      first | exact fun h => absurd (by decide +kernel) h | exact fun h => absurd (Part.mem_of_sub (by assumption) (by decide +kernel)) h | exact fun _ => rfl)
    (h_pwr : Part.pwr ∉ l → v19 = a.pwr := by
      first | exact fun h => absurd (by decide +kernel) h | exact fun h => absurd (Part.mem_of_sub (by assumption) (by decide +kernel)) h | exact fun _ => rfl)
    (h_tap : Part.tap ∉ l → v20 = a.tap := by
      first | exact fun h => absurd (by decide +kernel) h | exact fun h => absurd (Part.mem_of_sub (by assumption) (by decide +kernel)) h | exact fun _ => rfl)
    (h_shoe : Part.shoe ∉ l → { v11 with mem := a.shoe.mem } = a.shoe := by
      first | exact fun h => absurd (by decide +kernel) h | exact fun h => absurd (Part.mem_of_sub (by assumption) (by decide +kernel)) h | exact fun _ => rfl)
    (h_mem : Part.mem ∉ l → v11.mem = a.shoe.mem := by
      first | exact fun h => absurd (by decide +kernel) h | exact fun h => absurd (Part.mem_of_sub (by assumption) (by decide +kernel)) h | exact fun _ => rfl)
    (h_nvm : Part.nvm ∉ l → { v16 with bytes := a.nvm.bytes } = a.nvm := by
      first | exact fun h => absurd (by decide +kernel) h | exact fun h => absurd (Part.mem_of_sub (by assumption) (by decide +kernel)) h | exact fun _ => rfl)
    (h_bytes : Part.bytes ∉ l → v16.bytes = a.nvm.bytes := by
      first | exact fun h => absurd (by decide +kernel) h | exact fun h => absurd (Part.mem_of_sub (by assumption) (by decide +kernel)) h | exact fun _ => rfl)
    (h_canonical : Memory.wf a = true → Memory.wf ⟨v1, v2, v3, v4, v5, v6, v7, v8, v9, v10, v11, v12, v13, v14, v15, v16, v17, v18, v19, v20⟩ = true := by
      exact Memory.wf_congr rfl rfl)
    (h : Moves l s a) : Moves l s ⟨v1, v2, v3, v4, v5, v6, v7, v8, v9, v10, v11, v12, v13, v14, v15, v16, v17, v18, v19, v20⟩ := by
  refine h.trans ⟨⟨fun p hp => ?_⟩, h_canonical⟩
  cases p
  · exact h_pending hp
  · exact h_tick hp
  · exact h_regs hp
  · exact h_sent hp
  · exact h_evt hp
  · exact h_accepted hp
  · exact h_ctx hp
  · exact h_tables hp
  · exact h_cut hp
  · exact h_keys hp
  · exact h_shoe hp
  · exact h_mem hp
  · exact h_img hp
  · exact h_decks hp
  · exact h_loops hp
  · exact h_traces hp
  · exact h_nvm hp
  · exact h_bytes hp
  · exact h_lnk hp
  · exact h_sec hp
  · exact h_pwr hp
  · exact h_tap hp

theorem forEach_touches {α : Type} {l : List Part} {f : α → State → State} (h : ∀ x a, Moves l a (f x a)) (xs : List α) (s : State) :
    Moves l s (forEach xs f s) :=
  forEach_inv (fun a => Moves l s a) (fun x a k => k.trans (h x a)) xs s (Moves.refl l s)

theorem forEach_step {α : Type} {l : List Part} {f : α → State → State} {xs : List α} {s a : State} (hf : ∀ x b, Moves l b (f x b))
    (h : Moves l s a) : Moves l s (forEach xs f a) := h.trans (forEach_touches hf xs a)

theorem raise_touches (ev : Nat) (l : List Word) (s : State) : Moves [.evt, .sent] s (raise ev l s) := by
  rw [raise_evtOnly ev l s]
  refine Touches.moves ⟨fun p hp => ?_⟩ rfl rfl
  cases p <;> first | rfl | simp at hp

end Sys2Proof.Machine
end

