-- ==== Sys2Proof/Laws/Memory.lean ====
section
/-! SUPPORT. Every operation on the addressed memories keeps their canonical form, and the reset state has it. -/

namespace Sys2Proof.Machine

theorem reset_memory_wf : Memory.wf State.reset = true := by decide

/-- Values written one after another keep the canonical form. -/
theorem Sparse.Canonical.foldl_set {d : Byte} (g : Nat → Nat) (v : Nat → Byte) (l : List Nat) {m : Sparse Byte}
    (h : Sparse.Canonical (fun _ => d) m) :
    Sparse.Canonical (fun _ => d) (l.foldl (fun m i => Sparse.set d m (g i) (v i)) m) := by
  induction l generalizing m with
  | nil => exact h
  | cons a l ih => exact ih (Sparse.Canonical.set h (g a) (v a))

/-- A write to a chip keeps the canonical form (R265, R267). -/
theorem writeChip_wf (chip off : Nat) (bytes : List Byte) {s : State} (h : Memory.wf s = true) :
    Memory.wf (writeChip chip off bytes s) = true := by
  rw [memory_wf_iff] at *
  refine ⟨?_, h.2⟩
  exact Sparse.Canonical.foldl_set _ _ _ h.1

/-- The words of a stack returning to the never-written state keep it (R267). -/
theorem unwriteStack_wf (k : Nat) {s : State} (h : Memory.wf s = true) : Memory.wf (unwriteStack k s) = true := by
  rw [memory_wf_iff] at *
  exact ⟨h.1.keep (fun i => i / 2 ^ 35 != k), h.2⟩

/-- A device engine filling a chip keeps it (R267). -/
theorem engineFills_wf (i : Nat) {s : State} (h : Memory.wf s = true) : Memory.wf (engineFills i s) = true := by
  rw [memory_wf_iff] at *
  exact ⟨h.1.keep (fun a => a / 65536 != i), h.2⟩

/-- Programming bytes of the flash keeps it (R370). -/
theorem programBytes_canonical (a : Nat) (bytes : List Byte) {m : Sparse Byte} (h : Sparse.Canonical (fun _ => (0xFF : Byte)) m) :
    Sparse.Canonical (fun _ => (0xFF : Byte)) (programBytes a bytes m) :=
  Sparse.Canonical.foldl_set _ _ _ h

/-- Erasing a sector keeps it (R370). -/
theorem eraseSector_wf (bank sector : Nat) {s : State} (h : Memory.wf s = true) : Memory.wf (eraseSector bank sector s) = true := by
  rw [memory_wf_iff] at *
  exact ⟨h.1, h.2.keep (fun i => decide (i < 8388608 * bank + 65536 * sector) || decide (8388608 * bank + 65536 * sector + 65536 ≤ i))⟩

theorem fillBytes_mem {first count : Nat} {pattern : Word} {e : Nat × Byte} (h : e ∈ fillBytes first count pattern) :
    65536 * first ≤ e.1 ∧ e.1 < 65536 * (first + count) ∧ e.2 ≠ 0 := by
  obtain ⟨i, hi, he⟩ := List.mem_filterMap.1 h
  have hi := List.mem_range.1 hi
  dsimp only at he
  split at he
  · simp at he
  · next hb =>
    simp only [Option.some.injEq] at he
    subst he
    exact ⟨by simp, by dsimp only; omega, hb⟩

theorem fillBytes_pairwise (first count : Nat) (pattern : Word) :
    List.Pairwise (fun a b : Nat × Byte => a.1 < b.1) (fillBytes first count pattern) := by
  unfold fillBytes
  refine List.pairwise_filterMap.2 (List.pairwise_lt_range.imp ?_)
  intro a b hab x hx y hy
  dsimp only at hx hy
  split at hx <;> simp at hx
  split at hy <;> simp at hy
  subst hx; subst hy
  dsimp only
  omega

/-- A fill of a range keeps the canonical form (R268). -/
theorem replaceRange_canonical (first count : Nat) (pattern : Word) {m : Sparse Byte} (h : Sparse.Canonical (fun _ => (0 : Byte)) m) :
    Sparse.Canonical (fun _ => (0 : Byte))
      (replaceRange (65536 * first) (65536 * (first + count)) (fillBytes first count pattern) m) := by
  have low := h.keep (fun i => decide (i < 65536 * first))
  have high := h.keep (fun i => decide (65536 * (first + count) ≤ i))
  have inLow : ∀ e ∈ Sparse.keep (fun i => decide (i < 65536 * first)) m, e.1 < 65536 * first := fun e he => by
    simpa using (List.mem_filter.1 he).2
  have inHigh : ∀ e ∈ Sparse.keep (fun i => decide (65536 * (first + count) ≤ i)) m, 65536 * (first + count) ≤ e.1 := fun e he => by
    simpa using (List.mem_filter.1 he).2
  refine ⟨?_, fun e he => ?_⟩
  · refine List.pairwise_append.2 ⟨List.pairwise_append.2 ⟨low.1, fillBytes_pairwise .., ?_⟩, high.1, ?_⟩
    · intro a ha b hb
      exact lt_of_lt_of_le (inLow a ha) (fillBytes_mem hb).1
    · intro a ha b hb
      have hb := inHigh b hb
      rcases List.mem_append.1 ha with ha | ha
      · have := inLow a ha; omega
      · have := (fillBytes_mem ha).2.1; omega
  · rcases List.mem_append.1 he with he | he
    · rcases List.mem_append.1 he with he | he
      · exact low.2 e he
      · exact (fillBytes_mem he).2.2
    · exact high.2 e he

/-- The end of a fill keeps it (R268). -/
theorem opMicFillComplete_wf {s : State} (h : Memory.wf s = true) : Memory.wf (opMicFillComplete s) = true := by
  unfold opMicFillComplete
  split
  · exact h
  · rw [memory_wf_iff] at *
    simp only [raise_shoe, raise_nvm, State.setFld_shoe, State.setFld_nvm]
    exact ⟨replaceRange_canonical _ _ _ h.1, h.2⟩

theorem journalAdd_bytes (e : JEntry) (s : State) : (journalAdd e s).nvm.bytes = s.nvm.bytes := by
  unfold journalAdd
  dsimp only
  split
  · rfl
  · rw [forEach_keeps (fun a => a.nvm.bytes)]
    · rfl
    · intros; rfl

theorem journalAdd_shoe (e : JEntry) (s : State) : (journalAdd e s).shoe = s.shoe := by
  unfold journalAdd
  dsimp only
  split
  · rfl
  · rw [forEach_keeps (fun a => a.shoe)]
    · rfl
    · intros; rfl

theorem spoilSlot_nvm (bank sector : Nat) (s : State) : (spoilSlot bank sector s).nvm = s.nvm := by
  unfold spoilSlot
  split <;> rfl

theorem spoilSlot_shoe (bank sector : Nat) (s : State) : (spoilSlot bank sector s).shoe = s.shoe := by
  unfold spoilSlot
  split <;> rfl

/-- The end of a flash operation keeps it (R374, R376). -/
theorem applyFlashOp_wf (bank : Nat) (o : FlashOp) {s : State} (h : Memory.wf s = true) : Memory.wf (applyFlashOp bank o s) = true := by
  unfold applyFlashOp
  split
  · rw [memory_wf_iff] at *
    rw [spoilSlot_nvm, spoilSlot_shoe]
    exact ⟨h.1, programBytes_canonical _ _ h.2⟩
  · have e := eraseSector_wf bank o.sector h
    rw [memory_wf_iff] at *
    rw [spoilSlot_nvm, spoilSlot_shoe, journalAdd_bytes, journalAdd_shoe]
    exact e
  · exact h

/-- A Shoe with nothing listed, and the flash as it was. -/
theorem Memory.wf_empty {s t : State} (hm : t.shoe.mem = []) (hb : t.nvm.bytes = s.nvm.bytes) :
    Memory.wf s = true → Memory.wf t = true := by
  intro h
  rw [memory_wf_iff] at *
  exact ⟨hm ▸ ⟨List.Pairwise.nil, by simp⟩, hb ▸ h.2⟩

/-- Bytes programmed into the flash, and the Shoe as it was. -/
theorem Memory.wf_program {s t : State} {a : Nat} {l : List Byte} (hm : t.shoe.mem = s.shoe.mem) (hb : t.nvm.bytes = programBytes a l s.nvm.bytes) :
    Memory.wf s = true → Memory.wf t = true := by
  intro h
  rw [memory_wf_iff] at *
  exact ⟨hm ▸ h.1, hb ▸ programBytes_canonical _ _ h.2⟩

end Sys2Proof.Machine
end

