-- ==== Sys2Proof/Laws/FramesCore.lean ====
section
/-! SUPPORT. What the operations of registers, events, tasks, chips, blocks touch. -/

namespace Sys2Proof.Machine

set_option Elab.async false
set_option maxHeartbeats 4000000

theorem State.putTable_touches (s : State) (d : Nat) (p : Nat) (t : Table) : Moves [.tables] s (State.putTable s d p t) := by
  unfold State.putTable
  try dsimp only
  repeat' (first
    | with_reducible exact Moves.refl _ _
    | with_reducible assumption
    | (fail_if_no_progress with_reducible refine Moves.upd_tables (by decide +kernel) ?_)
    | (fail_if_no_progress with_reducible refine Moves.upd (h := ?_))
    | (dsimp only [id])
    | (split)
    | (intro _))

theorem State.putCtx_touches (s : State) (n : Nat) (c : Context) : Moves [.ctx] s (State.putCtx s n c) := by
  unfold State.putCtx
  try dsimp only
  repeat' (first
    | with_reducible exact Moves.refl _ _
    | with_reducible assumption
    | (fail_if_no_progress with_reducible refine Moves.upd_ctx (by decide +kernel) ?_)
    | (fail_if_no_progress with_reducible refine Moves.upd (h := ?_))
    | (dsimp only [id])
    | (split)
    | (intro _))

theorem State.resetRegs_touches (s : State) (p : Cls → Bool) (q : RegSpec → Nat → Bool) : Moves [.regs] s (State.resetRegs s p q) := by
  unfold State.resetRegs
  try dsimp only
  repeat' (first
    | with_reducible exact Moves.refl _ _
    | with_reducible assumption
    | (fail_if_no_progress with_reducible refine Moves.upd_regs (by decide +kernel) ?_)
    | (fail_if_no_progress with_reducible refine Moves.upd (h := ?_))
    | (dsimp only [id])
    | (split)
    | (intro _))

theorem State.putDeck_touches (s : State) (d : Nat) (k : Deck) : Moves [.decks] s (State.putDeck s d k) := by
  unfold State.putDeck
  try dsimp only
  repeat' (first
    | with_reducible exact Moves.refl _ _
    | with_reducible assumption
    | (fail_if_no_progress with_reducible refine Moves.upd_decks (by decide +kernel) ?_)
    | (fail_if_no_progress with_reducible refine Moves.upd (h := ?_))
    | (dsimp only [id])
    | (split)
    | (intro _))

theorem State.setReg_touches (s : State) (off : Nat) (v : Sys2Proof.Word) : Moves [.regs] s (State.setReg s off v) := by
  unfold State.setReg
  try dsimp only
  repeat' (first
    | with_reducible exact Moves.refl _ _
    | with_reducible assumption
    | (fail_if_no_progress with_reducible refine Moves.upd_regs (by decide +kernel) ?_)
    | (fail_if_no_progress with_reducible refine Moves.upd (h := ?_))
    | (dsimp only [id])
    | (split)
    | (intro _))

theorem State.setFld_touches (s : State) (off : Nat) (f : Fld) (v : Nat) : Moves [.regs] s (State.setFld s off f v) := by
  unfold State.setFld
  try dsimp only
  repeat' (first
    | with_reducible exact Moves.refl _ _
    | with_reducible assumption
    | (with_reducible apply Moves.step (State.setReg_touches ..); decide +kernel)
    | (fail_if_no_progress with_reducible refine Moves.upd_regs (by decide +kernel) ?_)
    | (fail_if_no_progress with_reducible refine Moves.upd (h := ?_))
    | (dsimp only [id])
    | (split)
    | (intro _))

theorem State.putTrace_touches (s : State) (d : Nat) (c : Nat) (v : Trace) : Moves [.traces] s (State.putTrace s d c v) := by
  unfold State.putTrace
  try dsimp only
  repeat' (first
    | with_reducible exact Moves.refl _ _
    | with_reducible assumption
    | (fail_if_no_progress with_reducible refine Moves.upd_traces (by decide +kernel) ?_)
    | (fail_if_no_progress with_reducible refine Moves.upd (h := ?_))
    | (dsimp only [id])
    | (split)
    | (intro _))

theorem State.putPort_touches (s : State) (p : Nat) (v : Port) : Moves [.lnk] s (State.putPort s p v) := by
  unfold State.putPort
  try dsimp only
  repeat' (first
    | with_reducible exact Moves.refl _ _
    | with_reducible assumption
    | (fail_if_no_progress with_reducible refine Moves.upd_lnk (by decide +kernel) ?_)
    | (fail_if_no_progress with_reducible refine Moves.upd (h := ?_))
    | (dsimp only [id])
    | (split)
    | (intro _))

theorem State.onCtx_touches (s : State) (n : Nat) (f : Context → Context) : Moves [.ctx] s (State.onCtx s n f) := by
  unfold State.onCtx
  try dsimp only
  repeat' (first
    | with_reducible exact Moves.refl _ _
    | with_reducible assumption
    | (with_reducible apply Moves.step (State.putCtx_touches ..); decide +kernel)
    | (fail_if_no_progress with_reducible refine Moves.upd_ctx (by decide +kernel) ?_)
    | (fail_if_no_progress with_reducible refine Moves.upd (h := ?_))
    | (dsimp only [id])
    | (split)
    | (intro _))

theorem State.onDeck_touches (s : State) (d : Nat) (f : Deck → Deck) : Moves [.decks] s (State.onDeck s d f) := by
  unfold State.onDeck
  try dsimp only
  repeat' (first
    | with_reducible exact Moves.refl _ _
    | with_reducible assumption
    | (with_reducible apply Moves.step (State.putDeck_touches ..); decide +kernel)
    | (fail_if_no_progress with_reducible refine Moves.upd_decks (by decide +kernel) ?_)
    | (fail_if_no_progress with_reducible refine Moves.upd (h := ?_))
    | (dsimp only [id])
    | (split)
    | (intro _))

theorem State.onMotion_touches (s : State) (d : Nat) (f : Motion → Motion) : Moves [.decks] s (State.onMotion s d f) := by
  unfold State.onMotion
  try dsimp only
  repeat' (first
    | with_reducible exact Moves.refl _ _
    | with_reducible assumption
    | (with_reducible apply Moves.step (State.onDeck_touches ..); decide +kernel)
    | (fail_if_no_progress with_reducible refine Moves.upd_decks (by decide +kernel) ?_)
    | (fail_if_no_progress with_reducible refine Moves.upd (h := ?_))
    | (dsimp only [id])
    | (split)
    | (intro _))

theorem State.onTable_touches (s : State) (d : Nat) (p : Nat) (f : Table → Table) : Moves [.tables] s (State.onTable s d p f) := by
  unfold State.onTable
  try dsimp only
  repeat' (first
    | with_reducible exact Moves.refl _ _
    | with_reducible assumption
    | (with_reducible apply Moves.step (State.putTable_touches ..); decide +kernel)
    | (fail_if_no_progress with_reducible refine Moves.upd_tables (by decide +kernel) ?_)
    | (fail_if_no_progress with_reducible refine Moves.upd (h := ?_))
    | (dsimp only [id])
    | (split)
    | (intro _))

theorem State.addFld_touches (s : State) (off : Nat) (f : Fld) (n : Nat) : Moves [.regs] s (State.addFld s off f n) := by
  unfold State.addFld
  try dsimp only
  repeat' (first
    | with_reducible exact Moves.refl _ _
    | with_reducible assumption
    | (with_reducible apply Moves.step (State.setFld_touches ..); decide +kernel)
    | (fail_if_no_progress with_reducible refine Moves.upd_regs (by decide +kernel) ?_)
    | (fail_if_no_progress with_reducible refine Moves.upd (h := ?_))
    | (dsimp only [id])
    | (split)
    | (intro _))

theorem State.incFld_touches (s : State) (off : Nat) (f : Fld) (n : Nat) : Moves [.regs] s (State.incFld s off f n) := by
  unfold State.incFld
  try dsimp only
  repeat' (first
    | with_reducible exact Moves.refl _ _
    | with_reducible assumption
    | (with_reducible apply Moves.step (State.setFld_touches ..); decide +kernel)
    | (fail_if_no_progress with_reducible refine Moves.upd_regs (by decide +kernel) ?_)
    | (fail_if_no_progress with_reducible refine Moves.upd (h := ?_))
    | (dsimp only [id])
    | (split)
    | (intro _))

theorem State.setPair_touches (s : State) (lo : Nat) (hi : Nat) (v : Nat) : Moves [.regs] s (State.setPair s lo hi v) := by
  unfold State.setPair
  try dsimp only
  repeat' (first
    | with_reducible exact Moves.refl _ _
    | with_reducible assumption
    | (with_reducible apply Moves.step (State.setReg_touches ..); decide +kernel)
    | (fail_if_no_progress with_reducible refine Moves.upd_regs (by decide +kernel) ?_)
    | (fail_if_no_progress with_reducible refine Moves.upd (h := ?_))
    | (dsimp only [id])
    | (split)
    | (intro _))

theorem State.putPool_touches (s : State) (k : Nat) (v : Pool) : Moves [.shoe] s (State.putPool s k v) := by
  unfold State.putPool
  try dsimp only
  repeat' (first
    | with_reducible exact Moves.refl _ _
    | with_reducible assumption
    | (fail_if_no_progress with_reducible refine Moves.upd_shoe (by decide +kernel) rfl ?_)
    | (fail_if_no_progress with_reducible refine Moves.upd (h := ?_))
    | (dsimp only [id])
    | (split)
    | (intro _))

theorem State.putKey_touches (s : State) (k : Nat) (v : KeySlot) : Moves [.keys] s (State.putKey s k v) := by
  unfold State.putKey
  try dsimp only
  repeat' (first
    | with_reducible exact Moves.refl _ _
    | with_reducible assumption
    | (fail_if_no_progress with_reducible refine Moves.upd_keys (by decide +kernel) ?_)
    | (fail_if_no_progress with_reducible refine Moves.upd (h := ?_))
    | (dsimp only [id])
    | (split)
    | (intro _))

theorem State.putLoop_touches (s : State) (d : Nat) (l : Nat) (v : Loop) : Moves [.loops] s (State.putLoop s d l v) := by
  unfold State.putLoop
  try dsimp only
  repeat' (first
    | with_reducible exact Moves.refl _ _
    | with_reducible assumption
    | (fail_if_no_progress with_reducible refine Moves.upd_loops (by decide +kernel) ?_)
    | (fail_if_no_progress with_reducible refine Moves.upd (h := ?_))
    | (dsimp only [id])
    | (split)
    | (intro _))

theorem raiseDeck_touches (d : Nat) (n : Nat) (details : List Sys2Proof.Word) (s : State) : Moves [.sent, .evt] s (raiseDeck d n details s) := by
  unfold raiseDeck
  try dsimp only
  repeat' (first
    | with_reducible exact Moves.refl _ _
    | with_reducible assumption
    | (with_reducible apply Moves.step (raise_touches ..); decide +kernel)
    | (fail_if_no_progress with_reducible refine Moves.upd_sent (by decide +kernel) ?_)
    | (fail_if_no_progress with_reducible refine Moves.upd_evt (by decide +kernel) ?_)
    | (fail_if_no_progress with_reducible refine Moves.upd (h := ?_))
    | (dsimp only [id])
    | (split)
    | (intro _))

theorem raiseKept_touches (ev : Nat) (details : List Word) (s : State) : Moves [.sent, .evt] s (raiseKept ev details s) := by
  have h : EvtOnly s (raiseKept ev details s) := by
    have k := (markFatal_evtOnly ev s).trans (recordEvent_evtOnly _ (raiseN_evtOnly 6) ev details (markFatal ev s))
    unfold raiseKept
    dsimp only
    split
    · exact k.trans (notifyEvent_evtOnly _ (raiseN_evtOnly 6) ..)
    · exact k
  rw [h]
  exact Moves.upd (h := Moves.refl _ _)

theorem chooseCarrier_touches (n : Nat) (s : State) : Moves [.ctx] s (chooseCarrier n s) := by
  unfold chooseCarrier
  try dsimp only
  repeat' (first
    | with_reducible exact Moves.refl _ _
    | with_reducible assumption
    | (with_reducible apply Moves.step (State.onCtx_touches ..); decide +kernel)
    | (fail_if_no_progress with_reducible refine Moves.upd_ctx (by decide +kernel) ?_)
    | (fail_if_no_progress with_reducible refine Moves.upd (h := ?_))
    | (dsimp only [id])
    | (split)
    | (intro _))

theorem unwriteStack_touches (k : Nat) (s : State) : Moves [.shoe, .mem] s (unwriteStack k s) :=
  ⟨⟨fun p hp => by cases p <;> first | rfl | simp at hp⟩, unwriteStack_wf k⟩

theorem substituteBypass_touches (s : State) : Moves [.regs, .sent, .evt, .tap] s (substituteBypass s) := by
  unfold substituteBypass
  try dsimp only
  repeat' (first
    | with_reducible exact Moves.refl _ _
    | with_reducible assumption
    | (with_reducible apply Moves.step (State.addFld_touches ..); decide +kernel)
    | (with_reducible apply Moves.step (raise_touches ..); decide +kernel)
    | (fail_if_no_progress with_reducible refine Moves.upd_regs (by decide +kernel) ?_)
    | (fail_if_no_progress with_reducible refine Moves.upd_sent (by decide +kernel) ?_)
    | (fail_if_no_progress with_reducible refine Moves.upd_evt (by decide +kernel) ?_)
    | (fail_if_no_progress with_reducible refine Moves.upd_tap (by decide +kernel) ?_)
    | (fail_if_no_progress with_reducible refine Moves.upd (h := ?_))
    | (dsimp only [id])
    | (split)
    | (intro _))

theorem refuseWrite_touches (off : Nat) (s : State) : Moves [.regs, .sent, .evt] s (refuseWrite off s) := by
  unfold refuseWrite
  try dsimp only
  repeat' (first
    | with_reducible exact Moves.refl _ _
    | with_reducible assumption
    | (with_reducible apply Moves.step (State.addFld_touches ..); decide +kernel)
    | (with_reducible apply Moves.step (State.setFld_touches ..); decide +kernel)
    | (with_reducible apply Moves.step (raise_touches ..); decide +kernel)
    | (fail_if_no_progress with_reducible refine Moves.upd_regs (by decide +kernel) ?_)
    | (fail_if_no_progress with_reducible refine Moves.upd_sent (by decide +kernel) ?_)
    | (fail_if_no_progress with_reducible refine Moves.upd_evt (by decide +kernel) ?_)
    | (fail_if_no_progress with_reducible refine Moves.upd (h := ?_))
    | (dsimp only [id])
    | (split)
    | (intro _))

theorem endTapInstruction_touches (ir : Nat) (s : State) : Moves [.shoe, .mem] s (endTapInstruction ir s) := by
  unfold endTapInstruction
  try dsimp only
  repeat' (first
    | with_reducible exact Moves.refl _ _
    | with_reducible assumption
    | (with_reducible apply Moves.step (unwriteStack_touches ..); decide +kernel)
    | (fail_if_no_progress with_reducible refine Moves.upd_shoe (by decide +kernel) rfl ?_)
    | (fail_if_no_progress with_reducible refine Moves.upd (h := ?_))
    | (dsimp only [id])
    | (split)
    | (intro _))

theorem emit_touches (m : Sent) (s : State) : Moves [.sent] s (emit m s) := by
  unfold emit
  try dsimp only
  repeat' (first
    | with_reducible exact Moves.refl _ _
    | with_reducible assumption
    | (fail_if_no_progress with_reducible refine Moves.upd_sent (by decide +kernel) ?_)
    | (fail_if_no_progress with_reducible refine Moves.upd (h := ?_))
    | (dsimp only [id])
    | (split)
    | (intro _))

theorem hostWrite_touches (addr : Nat) (bytes : List Sys2Proof.Byte) (s : State) : Moves [.sent] s (hostWrite addr bytes s) := by
  unfold hostWrite
  try dsimp only
  repeat' (first
    | with_reducible exact Moves.refl _ _
    | with_reducible assumption
    | (with_reducible apply Moves.step (emit_touches ..); decide +kernel)
    | (fail_if_no_progress with_reducible refine Moves.upd_sent (by decide +kernel) ?_)
    | (fail_if_no_progress with_reducible refine Moves.upd (h := ?_))
    | (dsimp only [id])
    | (split)
    | (intro _))

theorem setGuarantee_touches (d : Nat) (p : Nat) (k : Nat) (s : State) : Moves [.sent, .evt, .tables] s (setGuarantee d p k s) := by
  unfold setGuarantee
  try dsimp only
  repeat' (first
    | with_reducible exact Moves.refl _ _
    | with_reducible assumption
    | (with_reducible apply Moves.step (State.putTable_touches ..); decide +kernel)
    | (with_reducible apply Moves.step (raise_touches ..); decide +kernel)
    | (fail_if_no_progress with_reducible refine Moves.upd_sent (by decide +kernel) ?_)
    | (fail_if_no_progress with_reducible refine Moves.upd_evt (by decide +kernel) ?_)
    | (fail_if_no_progress with_reducible refine Moves.upd_tables (by decide +kernel) ?_)
    | (fail_if_no_progress with_reducible refine Moves.upd (h := ?_))
    | (dsimp only [id])
    | (split)
    | (intro _))

theorem deferError_touches (n : Nat) (cause : Nat) (lo : Nat) (hi : Nat) (s : State) : Moves [.regs, .sent, .evt, .ctx] s (deferError n cause lo hi s) := by
  unfold deferError
  try dsimp only
  repeat' (first
    | with_reducible exact Moves.refl _ _
    | with_reducible assumption
    | (with_reducible apply Moves.step (chooseCarrier_touches ..); decide +kernel)
    | (with_reducible apply Moves.step (State.setReg_touches ..); decide +kernel)
    | (with_reducible apply Moves.step (State.setPair_touches ..); decide +kernel)
    | (with_reducible apply Moves.step (State.onCtx_touches ..); decide +kernel)
    | (with_reducible apply Moves.step (State.setFld_touches ..); decide +kernel)
    | (with_reducible apply Moves.step (raise_touches ..); decide +kernel)
    | (fail_if_no_progress with_reducible refine Moves.upd_regs (by decide +kernel) ?_)
    | (fail_if_no_progress with_reducible refine Moves.upd_sent (by decide +kernel) ?_)
    | (fail_if_no_progress with_reducible refine Moves.upd_evt (by decide +kernel) ?_)
    | (fail_if_no_progress with_reducible refine Moves.upd_ctx (by decide +kernel) ?_)
    | (fail_if_no_progress with_reducible refine Moves.upd (h := ?_))
    | (dsimp only [id])
    | (split)
    | (intro _))

theorem State.onTask_touches (s : State) (n : Nat) (q : Nat) (f : Task → Task) : Moves [.ctx] s (State.onTask s n q f) := by
  unfold State.onTask
  try dsimp only
  repeat' (first
    | with_reducible exact Moves.refl _ _
    | with_reducible assumption
    | (with_reducible apply Moves.step (State.onCtx_touches ..); decide +kernel)
    | (fail_if_no_progress with_reducible refine Moves.upd_ctx (by decide +kernel) ?_)
    | (fail_if_no_progress with_reducible refine Moves.upd (h := ?_))
    | (dsimp only [id])
    | (split)
    | (intro _))

theorem refuseConfig_touches (n : Nat) (off : Nat) (s : State) : Moves [.sent, .evt] s (refuseConfig n off s) := by
  unfold refuseConfig
  try dsimp only
  repeat' (first
    | with_reducible exact Moves.refl _ _
    | with_reducible assumption
    | (with_reducible apply Moves.step (raise_touches ..); decide +kernel)
    | (fail_if_no_progress with_reducible refine Moves.upd_sent (by decide +kernel) ?_)
    | (fail_if_no_progress with_reducible refine Moves.upd_evt (by decide +kernel) ?_)
    | (fail_if_no_progress with_reducible refine Moves.upd (h := ?_))
    | (dsimp only [id])
    | (split)
    | (intro _))

theorem hostRead_touches (owner : Nat × Nat) (addr : Nat) (count : Nat) (s : State) : Moves [.sent, .lnk] s (hostRead owner addr count s) := by
  unfold hostRead
  try dsimp only
  repeat' (first
    | with_reducible exact Moves.refl _ _
    | with_reducible assumption
    | (with_reducible apply Moves.step (emit_touches ..); decide +kernel)
    | (fail_if_no_progress with_reducible refine Moves.upd_sent (by decide +kernel) ?_)
    | (fail_if_no_progress with_reducible refine Moves.upd_lnk (by decide +kernel) ?_)
    | (fail_if_no_progress with_reducible refine Moves.upd (h := ?_))
    | (dsimp only [id])
    | (split)
    | (intro _))

theorem fetchNext_touches (n : Nat) (q : Nat) (s : State) : Moves [.sent, .lnk] s (fetchNext n q s) := by
  unfold fetchNext
  try dsimp only
  repeat' (first
    | with_reducible exact Moves.refl _ _
    | with_reducible assumption
    | (with_reducible apply Moves.step (hostRead_touches ..); decide +kernel)
    | (fail_if_no_progress with_reducible refine Moves.upd_sent (by decide +kernel) ?_)
    | (fail_if_no_progress with_reducible refine Moves.upd_lnk (by decide +kernel) ?_)
    | (fail_if_no_progress with_reducible refine Moves.upd (h := ?_))
    | (dsimp only [id])
    | (split)
    | (intro _))

theorem startFetch_touches (n : Nat) (q : Nat) (ranges : List (Nat × Nat)) (s : State) : Moves [.sent, .ctx, .lnk] s (startFetch n q ranges s) := by
  unfold startFetch
  try dsimp only
  repeat' (first
    | with_reducible exact Moves.refl _ _
    | with_reducible assumption
    | (with_reducible apply Moves.step (State.onTask_touches ..); decide +kernel)
    | (with_reducible apply Moves.step (fetchNext_touches ..); decide +kernel)
    | (fail_if_no_progress with_reducible refine Moves.upd_sent (by decide +kernel) ?_)
    | (fail_if_no_progress with_reducible refine Moves.upd_ctx (by decide +kernel) ?_)
    | (fail_if_no_progress with_reducible refine Moves.upd_lnk (by decide +kernel) ?_)
    | (fail_if_no_progress with_reducible refine Moves.upd (h := ?_))
    | (dsimp only [id])
    | (split)
    | (intro _))

theorem finish_touches (n : Nat) (q : Nat) (c : Completion) (s : State) : Moves [.ctx] s (finish n q c s) := by
  unfold finish
  try dsimp only
  repeat' (first
    | with_reducible exact Moves.refl _ _
    | with_reducible assumption
    | (with_reducible apply Moves.step (State.onTask_touches ..); decide +kernel)
    | (fail_if_no_progress with_reducible refine Moves.upd_ctx (by decide +kernel) ?_)
    | (fail_if_no_progress with_reducible refine Moves.upd (h := ?_))
    | (dsimp only [id])
    | (split)
    | (intro _))

theorem State.ticked_touches (s : State) : Moves [.tick] s (State.ticked s) := by
  unfold State.ticked
  try dsimp only
  repeat' (first
    | with_reducible exact Moves.refl _ _
    | with_reducible assumption
    | (fail_if_no_progress with_reducible refine Moves.upd_tick (by decide +kernel) ?_)
    | (fail_if_no_progress with_reducible refine Moves.upd (h := ?_))
    | (dsimp only [id])
    | (split)
    | (intro _))

theorem withdrawTap_touches (s : State) : Moves [.regs, .sent, .evt, .shoe, .mem, .tap] s (withdrawTap s) := by
  unfold withdrawTap
  try dsimp only
  repeat' (first
    | with_reducible exact Moves.refl _ _
    | with_reducible assumption
    | (with_reducible apply Moves.step (endTapInstruction_touches ..); decide +kernel)
    | (with_reducible apply Moves.step (substituteBypass_touches ..); decide +kernel)
    | (fail_if_no_progress with_reducible refine Moves.upd_regs (by decide +kernel) ?_)
    | (fail_if_no_progress with_reducible refine Moves.upd_sent (by decide +kernel) ?_)
    | (fail_if_no_progress with_reducible refine Moves.upd_evt (by decide +kernel) ?_)
    | (fail_if_no_progress with_reducible refine Moves.upd_tap (by decide +kernel) ?_)
    | (fail_if_no_progress with_reducible refine Moves.upd_shoe (by decide +kernel) rfl ?_)
    | (fail_if_no_progress with_reducible refine Moves.upd (h := ?_))
    | (dsimp only [id])
    | (split)
    | (intro _))

theorem refuseTask_touches (op : Nat) (s : State) : Moves [.regs, .sent, .evt] s (refuseTask op s) := by
  unfold refuseTask
  try dsimp only
  repeat' (first
    | with_reducible exact Moves.refl _ _
    | with_reducible assumption
    | (with_reducible apply Moves.step (State.addFld_touches ..); decide +kernel)
    | (with_reducible apply Moves.step (raise_touches ..); decide +kernel)
    | (fail_if_no_progress with_reducible refine Moves.upd_regs (by decide +kernel) ?_)
    | (fail_if_no_progress with_reducible refine Moves.upd_sent (by decide +kernel) ?_)
    | (fail_if_no_progress with_reducible refine Moves.upd_evt (by decide +kernel) ?_)
    | (fail_if_no_progress with_reducible refine Moves.upd (h := ?_))
    | (dsimp only [id])
    | (split)
    | (intro _))

theorem setPosition_touches (n : Nat) (v : Nat) (s : State) : Moves [.regs] s (setPosition n v s) := by
  unfold setPosition
  try dsimp only
  repeat' (first
    | with_reducible exact Moves.refl _ _
    | with_reducible assumption
    | (with_reducible apply Moves.step (State.setPair_touches ..); decide +kernel)
    | (fail_if_no_progress with_reducible refine Moves.upd_regs (by decide +kernel) ?_)
    | (fail_if_no_progress with_reducible refine Moves.upd (h := ?_))
    | (dsimp only [id])
    | (split)
    | (intro _))

theorem allocFailed_touches (k : Nat) (s : State) : Moves [.sent, .evt, .shoe] s (allocFailed k s) := by
  unfold allocFailed
  try dsimp only
  repeat' (first
    | with_reducible exact Moves.refl _ _
    | with_reducible assumption
    | (with_reducible apply Moves.step (State.putPool_touches ..); decide +kernel)
    | (with_reducible apply Moves.step (raise_touches ..); decide +kernel)
    | (fail_if_no_progress with_reducible refine Moves.upd_sent (by decide +kernel) ?_)
    | (fail_if_no_progress with_reducible refine Moves.upd_evt (by decide +kernel) ?_)
    | (fail_if_no_progress with_reducible refine Moves.upd_shoe (by decide +kernel) rfl ?_)
    | (fail_if_no_progress with_reducible refine Moves.upd (h := ?_))
    | (dsimp only [id])
    | (split)
    | (intro _))

theorem lowWater_touches (k : Nat) (s : State) : Moves [.sent, .evt, .shoe] s (lowWater k s) := by
  unfold lowWater
  try dsimp only
  repeat' (first
    | with_reducible exact Moves.refl _ _
    | with_reducible assumption
    | (with_reducible apply Moves.step (State.putPool_touches ..); decide +kernel)
    | (with_reducible apply Moves.step (raise_touches ..); decide +kernel)
    | (fail_if_no_progress with_reducible refine Moves.upd_sent (by decide +kernel) ?_)
    | (fail_if_no_progress with_reducible refine Moves.upd_evt (by decide +kernel) ?_)
    | (fail_if_no_progress with_reducible refine Moves.upd_shoe (by decide +kernel) rfl ?_)
    | (fail_if_no_progress with_reducible refine Moves.upd (h := ?_))
    | (dsimp only [id])
    | (split)
    | (intro _))

theorem dropRef_touches (i : Nat) (t : ChipTag) (s : State) : Moves [.sent, .evt, .shoe] s (dropRef i t s) := by
  unfold dropRef
  try dsimp only
  repeat' (first
    | with_reducible exact Moves.refl _ _
    | with_reducible assumption
    | (with_reducible apply Moves.step (State.putPool_touches ..); decide +kernel)
    | (with_reducible apply Moves.step (lowWater_touches ..); decide +kernel)
    | (fail_if_no_progress with_reducible refine Moves.upd_sent (by decide +kernel) ?_)
    | (fail_if_no_progress with_reducible refine Moves.upd_evt (by decide +kernel) ?_)
    | (fail_if_no_progress with_reducible refine Moves.upd_shoe (by decide +kernel) rfl ?_)
    | (fail_if_no_progress with_reducible refine Moves.upd (h := ?_))
    | (dsimp only [id])
    | (split)
    | (intro _))

theorem freeOwned_touches (q : ChipTag → Bool) (s : State) : Moves [.sent, .evt, .shoe] s (freeOwned q s) := by
  unfold freeOwned
  try dsimp only
  repeat' (first
    | with_reducible exact Moves.refl _ _
    | with_reducible assumption
    | (with_reducible apply Moves.step (dropRef_touches ..); decide +kernel)
    | (with_reducible apply forEach_step)
    | (fail_if_no_progress with_reducible refine Moves.upd_sent (by decide +kernel) ?_)
    | (fail_if_no_progress with_reducible refine Moves.upd_evt (by decide +kernel) ?_)
    | (fail_if_no_progress with_reducible refine Moves.upd_shoe (by decide +kernel) rfl ?_)
    | (fail_if_no_progress with_reducible refine Moves.upd (h := ?_))
    | (dsimp only [id])
    | (split)
    | (intro _))

theorem refuseFree_touches (kind : Nat) (i : Nat) (pool : Nat) (cls : Nat) (s : State) : Moves [.regs, .sent, .evt, .shoe] s (refuseFree kind i pool cls s) := by
  unfold refuseFree
  try dsimp only
  repeat' (first
    | with_reducible exact Moves.refl _ _
    | with_reducible assumption
    | (with_reducible apply Moves.step (State.putPool_touches ..); decide +kernel)
    | (with_reducible apply Moves.step (State.setReg_touches ..); decide +kernel)
    | (with_reducible apply Moves.step (raise_touches ..); decide +kernel)
    | (fail_if_no_progress with_reducible refine Moves.upd_regs (by decide +kernel) ?_)
    | (fail_if_no_progress with_reducible refine Moves.upd_sent (by decide +kernel) ?_)
    | (fail_if_no_progress with_reducible refine Moves.upd_evt (by decide +kernel) ?_)
    | (fail_if_no_progress with_reducible refine Moves.upd_shoe (by decide +kernel) rfl ?_)
    | (fail_if_no_progress with_reducible refine Moves.upd (h := ?_))
    | (dsimp only [id])
    | (split)
    | (intro _))

theorem freeChip_touches (cls : Nat) (id : Nat) (i : Nat) (s : State) : Moves [.regs, .sent, .evt, .shoe] s (freeChip cls id i s) := by
  unfold freeChip
  try dsimp only
  repeat' (first
    | with_reducible exact Moves.refl _ _
    | with_reducible assumption
    | (with_reducible apply Moves.step (dropRef_touches ..); decide +kernel)
    | (with_reducible apply Moves.step (refuseFree_touches ..); decide +kernel)
    | (fail_if_no_progress with_reducible refine Moves.upd_regs (by decide +kernel) ?_)
    | (fail_if_no_progress with_reducible refine Moves.upd_sent (by decide +kernel) ?_)
    | (fail_if_no_progress with_reducible refine Moves.upd_evt (by decide +kernel) ?_)
    | (fail_if_no_progress with_reducible refine Moves.upd_shoe (by decide +kernel) rfl ?_)
    | (fail_if_no_progress with_reducible refine Moves.upd (h := ?_))
    | (dsimp only [id])
    | (split)
    | (intro _))

theorem freeList_touches (cls : Nat) (id : Nat) (l : List Nat) (s : State) : Moves [.regs, .sent, .evt, .shoe] s (freeList cls id l s) := by
  unfold freeList
  try dsimp only
  repeat' (first
    | with_reducible exact Moves.refl _ _
    | with_reducible assumption
    | (with_reducible apply Moves.step (freeChip_touches ..); decide +kernel)
    | (with_reducible apply forEach_step)
    | (fail_if_no_progress with_reducible refine Moves.upd_regs (by decide +kernel) ?_)
    | (fail_if_no_progress with_reducible refine Moves.upd_sent (by decide +kernel) ?_)
    | (fail_if_no_progress with_reducible refine Moves.upd_evt (by decide +kernel) ?_)
    | (fail_if_no_progress with_reducible refine Moves.upd_shoe (by decide +kernel) rfl ?_)
    | (fail_if_no_progress with_reducible refine Moves.upd (h := ?_))
    | (dsimp only [id])
    | (split)
    | (intro _))

theorem endHold_touches (i : Nat) (s : State) : Moves [.sent, .evt, .shoe] s (endHold i s) := by
  unfold endHold
  try dsimp only
  repeat' (first
    | with_reducible exact Moves.refl _ _
    | with_reducible assumption
    | (with_reducible apply Moves.step (dropRef_touches ..); decide +kernel)
    | (fail_if_no_progress with_reducible refine Moves.upd_sent (by decide +kernel) ?_)
    | (fail_if_no_progress with_reducible refine Moves.upd_evt (by decide +kernel) ?_)
    | (fail_if_no_progress with_reducible refine Moves.upd_shoe (by decide +kernel) rfl ?_)
    | (fail_if_no_progress with_reducible refine Moves.upd (h := ?_))
    | (dsimp only [id])
    | (split)
    | (intro _))

theorem engineFills_touches (i : Nat) (s : State) : Moves [.shoe, .mem] s (engineFills i s) :=
  ⟨⟨fun p hp => by cases p <;> first | rfl | simp at hp⟩, engineFills_wf i⟩

theorem takeChip_touches (k : Nat) (cls : Nat) (id : Nat) (s : State) : Moves [.tick, .shoe, .mem] s (takeChip k cls id s).2 := by
  unfold takeChip
  try dsimp only
  repeat' (first
    | with_reducible exact Moves.refl _ _
    | with_reducible assumption
    | (with_reducible apply Moves.step (State.ticked_touches ..); decide +kernel)
    | (with_reducible apply Moves.step (State.putPool_touches ..); decide +kernel)
    | (with_reducible apply Moves.step (engineFills_touches ..); decide +kernel)
    | (fail_if_no_progress with_reducible refine Moves.upd_tick (by decide +kernel) ?_)
    | (fail_if_no_progress with_reducible refine Moves.upd_shoe (by decide +kernel) rfl ?_)
    | (fail_if_no_progress with_reducible refine Moves.upd (h := ?_))
    | (dsimp only [id])
    | (split)
    | (intro _))

theorem takeChips_touches (x0 : Nat) (x1 : Nat) (x2 : Nat) (x3 : Nat) (s : State) : Moves [.tick, .shoe, .mem] s (takeChips x0 x1 x2 x3 s).2 := by
  induction x0 generalizing s with
  | zero => exact Moves.refl _ _
  | succ n ih => exact (takeChip_touches ..).trans (ih _)

theorem allocate_touches (n : Nat) (k : Nat) (cls : Nat) (id : Nat) (s : State) : Moves [.tick, .sent, .evt, .shoe, .mem] s (allocate n k cls id s).2 := by
  unfold allocate
  try dsimp only
  repeat' (first
    | with_reducible exact Moves.refl _ _
    | with_reducible assumption
    | (with_reducible apply Moves.step (lowWater_touches ..); decide +kernel)
    | (with_reducible apply Moves.step (takeChips_touches ..); decide +kernel)
    | (rename_i hq; with_reducible refine Moves.of_eq (by first | exact congrArg Prod.snd hq | exact congrArg (fun x => x.2.2) hq) (takeChips_touches ..) (by decide +kernel) ?_)
    | (with_reducible apply Moves.step (allocFailed_touches ..); decide +kernel)
    | (fail_if_no_progress with_reducible refine Moves.upd_tick (by decide +kernel) ?_)
    | (fail_if_no_progress with_reducible refine Moves.upd_sent (by decide +kernel) ?_)
    | (fail_if_no_progress with_reducible refine Moves.upd_evt (by decide +kernel) ?_)
    | (fail_if_no_progress with_reducible refine Moves.upd_shoe (by decide +kernel) rfl ?_)
    | (fail_if_no_progress with_reducible refine Moves.upd (h := ?_))
    | (dsimp only [id])
    | (split)
    | (intro _))

theorem addRef_touches (i : Nat) (s : State) : Moves [.shoe] s (addRef i s) := by
  unfold addRef
  try dsimp only
  repeat' (first
    | with_reducible exact Moves.refl _ _
    | with_reducible assumption
    | (fail_if_no_progress with_reducible refine Moves.upd_shoe (by decide +kernel) rfl ?_)
    | (fail_if_no_progress with_reducible refine Moves.upd (h := ?_))
    | (dsimp only [id])
    | (split)
    | (intro _))

theorem yieldPlain_touches (n : Nat) (i : Item) (s : State) : Moves [.tables] s (yieldPlain n i s) := by
  unfold yieldPlain
  try dsimp only
  repeat' (first
    | with_reducible exact Moves.refl _ _
    | with_reducible assumption
    | (with_reducible apply Moves.step (State.onTable_touches ..); decide +kernel)
    | (fail_if_no_progress with_reducible refine Moves.upd_tables (by decide +kernel) ?_)
    | (fail_if_no_progress with_reducible refine Moves.upd (h := ?_))
    | (dsimp only [id])
    | (split)
    | (intro _))

theorem yieldMark_touches (n : Nat) (q : Nat) (count : Nat) (s : State) : Moves [.regs, .ctx, .tables] s (yieldMark n q count s) := by
  unfold yieldMark
  try dsimp only
  repeat' (first
    | with_reducible exact Moves.refl _ _
    | with_reducible assumption
    | (with_reducible apply Moves.step (State.putTable_touches ..); decide +kernel)
    | (with_reducible apply Moves.step (finish_touches ..); decide +kernel)
    | (with_reducible apply Moves.step (State.onTask_touches ..); decide +kernel)
    | (with_reducible apply Moves.step (setPosition_touches ..); decide +kernel)
    | (fail_if_no_progress with_reducible refine Moves.upd_regs (by decide +kernel) ?_)
    | (fail_if_no_progress with_reducible refine Moves.upd_ctx (by decide +kernel) ?_)
    | (fail_if_no_progress with_reducible refine Moves.upd_tables (by decide +kernel) ?_)
    | (fail_if_no_progress with_reducible refine Moves.upd (h := ?_))
    | (dsimp only [id])
    | (split)
    | (intro _))

theorem finishWrites_touches (n : Nat) (l : List Nat) (s : State) : Moves [.ctx] s (finishWrites n l s) := by
  unfold finishWrites
  try dsimp only
  repeat' (first
    | with_reducible exact Moves.refl _ _
    | with_reducible assumption
    | (with_reducible apply Moves.step (finish_touches ..); decide +kernel)
    | (with_reducible apply forEach_step)
    | (fail_if_no_progress with_reducible refine Moves.upd_ctx (by decide +kernel) ?_)
    | (fail_if_no_progress with_reducible refine Moves.upd (h := ?_))
    | (dsimp only [id])
    | (split)
    | (intro _))

theorem dropReads_touches (n : Nat) (q : Nat) (s : State) : Moves [.lnk] s (dropReads n q s) := by
  unfold dropReads
  try dsimp only
  repeat' (first
    | with_reducible exact Moves.refl _ _
    | with_reducible assumption
    | (fail_if_no_progress with_reducible refine Moves.upd_lnk (by decide +kernel) ?_)
    | (fail_if_no_progress with_reducible refine Moves.upd (h := ?_))
    | (dsimp only [id])
    | (split)
    | (intro _))

theorem restartAfter_touches (n : Nat) (q : Nat) (s : State) : Moves [.ctx, .lnk] s (restartAfter n q s) := by
  unfold restartAfter
  try dsimp only
  repeat' (first
    | with_reducible exact Moves.refl _ _
    | with_reducible assumption
    | (with_reducible apply Moves.step (State.onTask_touches ..); decide +kernel)
    | (with_reducible apply Moves.step (dropReads_touches ..); decide +kernel)
    | (with_reducible apply forEach_step)
    | (fail_if_no_progress with_reducible refine Moves.upd_ctx (by decide +kernel) ?_)
    | (fail_if_no_progress with_reducible refine Moves.upd_lnk (by decide +kernel) ?_)
    | (fail_if_no_progress with_reducible refine Moves.upd (h := ?_))
    | (dsimp only [id])
    | (split)
    | (intro _))

theorem unqueue_touches (n : Nat) (s : State) : Moves [.cut] s (unqueue n s) := by
  unfold unqueue
  try dsimp only
  repeat' (first
    | with_reducible exact Moves.refl _ _
    | with_reducible assumption
    | (fail_if_no_progress with_reducible refine Moves.upd_cut (by decide +kernel) ?_)
    | (fail_if_no_progress with_reducible refine Moves.upd (h := ?_))
    | (dsimp only [id])
    | (split)
    | (intro _))

theorem discardUnsealed_touches (n : Nat) (s : State) : Moves [.ctx, .cut] s (discardUnsealed n s) := by
  unfold discardUnsealed
  try dsimp only
  repeat' (first
    | with_reducible exact Moves.refl _ _
    | with_reducible assumption
    | (with_reducible apply Moves.step (unqueue_touches ..); decide +kernel)
    | (with_reducible apply Moves.step (State.onCtx_touches ..); decide +kernel)
    | (fail_if_no_progress with_reducible refine Moves.upd_ctx (by decide +kernel) ?_)
    | (fail_if_no_progress with_reducible refine Moves.upd_cut (by decide +kernel) ?_)
    | (fail_if_no_progress with_reducible refine Moves.upd (h := ?_))
    | (dsimp only [id])
    | (split)
    | (intro _))

theorem failFrom_touches (n : Nat) (q : Nat) (c : Completion) (s : State) : Moves [.ctx, .cut, .lnk] s (failFrom n q c s) := by
  unfold failFrom
  try dsimp only
  repeat' (first
    | with_reducible exact Moves.refl _ _
    | with_reducible assumption
    | (with_reducible apply Moves.step (restartAfter_touches ..); decide +kernel)
    | (with_reducible apply Moves.step (dropReads_touches ..); decide +kernel)
    | (with_reducible apply Moves.step (finish_touches ..); decide +kernel)
    | (with_reducible apply Moves.step (discardUnsealed_touches ..); decide +kernel)
    | (fail_if_no_progress with_reducible refine Moves.upd_ctx (by decide +kernel) ?_)
    | (fail_if_no_progress with_reducible refine Moves.upd_cut (by decide +kernel) ?_)
    | (fail_if_no_progress with_reducible refine Moves.upd_lnk (by decide +kernel) ?_)
    | (fail_if_no_progress with_reducible refine Moves.upd (h := ?_))
    | (dsimp only [id])
    | (split)
    | (intro _))

theorem settleHead_touches (n : Nat) (s : State) : Moves [.ctx, .cut, .lnk] s (settleHead n s) := by
  unfold settleHead
  try dsimp only
  repeat' (first
    | with_reducible exact Moves.refl _ _
    | with_reducible assumption
    | (with_reducible apply Moves.step (failFrom_touches ..); decide +kernel)
    | (fail_if_no_progress with_reducible refine Moves.upd_ctx (by decide +kernel) ?_)
    | (fail_if_no_progress with_reducible refine Moves.upd_cut (by decide +kernel) ?_)
    | (fail_if_no_progress with_reducible refine Moves.upd_lnk (by decide +kernel) ?_)
    | (fail_if_no_progress with_reducible refine Moves.upd (h := ?_))
    | (dsimp only [id])
    | (split)
    | (intro _))

theorem sharedSlot_touches (users : List (Nat × Option Nat)) (s : State) : Moves [.sent, .evt, .tables] s (sharedSlot users s) := by
  unfold sharedSlot
  try dsimp only
  repeat' (first
    | with_reducible exact Moves.refl _ _
    | with_reducible assumption
    | (with_reducible apply Moves.step (setGuarantee_touches ..); decide +kernel)
    | (with_reducible apply forEach_step)
    | (fail_if_no_progress with_reducible refine Moves.upd_sent (by decide +kernel) ?_)
    | (fail_if_no_progress with_reducible refine Moves.upd_evt (by decide +kernel) ?_)
    | (fail_if_no_progress with_reducible refine Moves.upd_tables (by decide +kernel) ?_)
    | (fail_if_no_progress with_reducible refine Moves.upd (h := ?_))
    | (dsimp only [id])
    | (split)
    | (intro _))

theorem latchKey_touches (n : Nat) (s : State) : Moves [.sent, .evt, .tables, .keys] s (latchKey n s).2 := by
  unfold latchKey
  try dsimp only
  repeat' (first
    | with_reducible exact Moves.refl _ _
    | with_reducible assumption
    | (with_reducible apply Moves.step (sharedSlot_touches ..); decide +kernel)
    | (with_reducible apply Moves.step (State.putKey_touches ..); decide +kernel)
    | (with_reducible apply Moves.step (raise_touches ..); decide +kernel)
    | (fail_if_no_progress with_reducible refine Moves.upd_sent (by decide +kernel) ?_)
    | (fail_if_no_progress with_reducible refine Moves.upd_evt (by decide +kernel) ?_)
    | (fail_if_no_progress with_reducible refine Moves.upd_tables (by decide +kernel) ?_)
    | (fail_if_no_progress with_reducible refine Moves.upd_keys (by decide +kernel) ?_)
    | (fail_if_no_progress with_reducible refine Moves.upd (h := ?_))
    | (dsimp only [id])
    | (split)
    | (intro _))

theorem latchOpen_touches (n : Nat) (s : State) : Moves [.sent, .evt, .ctx, .tables, .keys] s (latchOpen n s) := by
  unfold latchOpen
  try dsimp only
  repeat' (first
    | with_reducible exact Moves.refl _ _
    | with_reducible assumption
    | (with_reducible apply Moves.step (latchKey_touches ..); decide +kernel)
    | (rename_i hq; with_reducible refine Moves.of_eq (by first | exact congrArg Prod.snd hq | exact congrArg (fun x => x.2.2) hq) (latchKey_touches ..) (by decide +kernel) ?_)
    | (with_reducible apply Moves.step (State.onCtx_touches ..); decide +kernel)
    | (fail_if_no_progress with_reducible refine Moves.upd_sent (by decide +kernel) ?_)
    | (fail_if_no_progress with_reducible refine Moves.upd_evt (by decide +kernel) ?_)
    | (fail_if_no_progress with_reducible refine Moves.upd_ctx (by decide +kernel) ?_)
    | (fail_if_no_progress with_reducible refine Moves.upd_tables (by decide +kernel) ?_)
    | (fail_if_no_progress with_reducible refine Moves.upd_keys (by decide +kernel) ?_)
    | (fail_if_no_progress with_reducible refine Moves.upd (h := ?_))
    | (dsimp only [id])
    | (split)
    | (intro _))

theorem settleActivation_touches (s : State) : Moves [.sent, .evt, .img] s (settleActivation s) := by
  unfold settleActivation
  try dsimp only
  repeat' (first
    | with_reducible exact Moves.refl _ _
    | with_reducible assumption
    | (with_reducible apply Moves.step (raise_touches ..); decide +kernel)
    | (fail_if_no_progress with_reducible refine Moves.upd_sent (by decide +kernel) ?_)
    | (fail_if_no_progress with_reducible refine Moves.upd_evt (by decide +kernel) ?_)
    | (fail_if_no_progress with_reducible refine Moves.upd_img (by decide +kernel) ?_)
    | (fail_if_no_progress with_reducible refine Moves.upd (h := ?_))
    | (dsimp only [id])
    | (split)
    | (intro _))

theorem takeCutterEpoch_touches (n : Nat) (s : State) : Moves [.regs, .sent, .evt, .ctx, .tables, .img] s (takeCutterEpoch n s) := by
  unfold takeCutterEpoch
  try dsimp only
  repeat' (first
    | with_reducible exact Moves.refl _ _
    | with_reducible assumption
    | (with_reducible apply Moves.step (State.onCtx_touches ..); decide +kernel)
    | (with_reducible apply Moves.step (setGuarantee_touches ..); decide +kernel)
    | (with_reducible apply Moves.step (State.incFld_touches ..); decide +kernel)
    | (with_reducible apply Moves.step (settleActivation_touches ..); decide +kernel)
    | (with_reducible apply Moves.step (raise_touches ..); decide +kernel)
    | (fail_if_no_progress with_reducible refine Moves.upd_regs (by decide +kernel) ?_)
    | (fail_if_no_progress with_reducible refine Moves.upd_sent (by decide +kernel) ?_)
    | (fail_if_no_progress with_reducible refine Moves.upd_evt (by decide +kernel) ?_)
    | (fail_if_no_progress with_reducible refine Moves.upd_ctx (by decide +kernel) ?_)
    | (fail_if_no_progress with_reducible refine Moves.upd_tables (by decide +kernel) ?_)
    | (fail_if_no_progress with_reducible refine Moves.upd_img (by decide +kernel) ?_)
    | (fail_if_no_progress with_reducible refine Moves.upd (h := ?_))
    | (dsimp only [id])
    | (split)
    | (intro _))

theorem dueEpoch_touches (n : Nat) (s : State) : Moves [.regs, .sent, .evt, .ctx, .tables, .img] s (dueEpoch n s) := by
  unfold dueEpoch
  try dsimp only
  repeat' (first
    | with_reducible exact Moves.refl _ _
    | with_reducible assumption
    | (with_reducible apply Moves.step (takeCutterEpoch_touches ..); decide +kernel)
    | (fail_if_no_progress with_reducible refine Moves.upd_regs (by decide +kernel) ?_)
    | (fail_if_no_progress with_reducible refine Moves.upd_sent (by decide +kernel) ?_)
    | (fail_if_no_progress with_reducible refine Moves.upd_evt (by decide +kernel) ?_)
    | (fail_if_no_progress with_reducible refine Moves.upd_ctx (by decide +kernel) ?_)
    | (fail_if_no_progress with_reducible refine Moves.upd_tables (by decide +kernel) ?_)
    | (fail_if_no_progress with_reducible refine Moves.upd_img (by decide +kernel) ?_)
    | (fail_if_no_progress with_reducible refine Moves.upd (h := ?_))
    | (dsimp only [id])
    | (split)
    | (intro _))

theorem closeBlock_touches (n : Nat) (s0 : State) : Moves [.regs, .sent, .evt, .ctx, .tables, .cut, .keys, .img, .lnk] s0 (closeBlock n s0) := by
  unfold closeBlock
  try dsimp only
  repeat' (first
    | with_reducible exact Moves.refl _ _
    | with_reducible assumption
    | (with_reducible apply Moves.step (settleHead_touches ..); decide +kernel)
    | (with_reducible apply Moves.step (latchOpen_touches ..); decide +kernel)
    | (with_reducible apply Moves.step (dueEpoch_touches ..); decide +kernel)
    | (with_reducible apply Moves.step (State.putCtx_touches ..); decide +kernel)
    | (fail_if_no_progress with_reducible refine Moves.upd_regs (by decide +kernel) ?_)
    | (fail_if_no_progress with_reducible refine Moves.upd_sent (by decide +kernel) ?_)
    | (fail_if_no_progress with_reducible refine Moves.upd_evt (by decide +kernel) ?_)
    | (fail_if_no_progress with_reducible refine Moves.upd_ctx (by decide +kernel) ?_)
    | (fail_if_no_progress with_reducible refine Moves.upd_tables (by decide +kernel) ?_)
    | (fail_if_no_progress with_reducible refine Moves.upd_cut (by decide +kernel) ?_)
    | (fail_if_no_progress with_reducible refine Moves.upd_keys (by decide +kernel) ?_)
    | (fail_if_no_progress with_reducible refine Moves.upd_img (by decide +kernel) ?_)
    | (fail_if_no_progress with_reducible refine Moves.upd_lnk (by decide +kernel) ?_)
    | (fail_if_no_progress with_reducible refine Moves.upd (h := ?_))
    | (dsimp only [id])
    | (split)
    | (intro _))

theorem yieldPass_touches (n : Nat) (k : Nat) (q : Nat) (s : State) : Moves [.ctx, .tables] s (yieldPass n k q s) := by
  unfold yieldPass
  try dsimp only
  repeat' (first
    | with_reducible exact Moves.refl _ _
    | with_reducible assumption
    | (with_reducible apply Moves.step (finish_touches ..); decide +kernel)
    | (with_reducible apply Moves.step (yieldPlain_touches ..); decide +kernel)
    | (fail_if_no_progress with_reducible refine Moves.upd_ctx (by decide +kernel) ?_)
    | (fail_if_no_progress with_reducible refine Moves.upd_tables (by decide +kernel) ?_)
    | (fail_if_no_progress with_reducible refine Moves.upd (h := ?_))
    | (dsimp only [id])
    | (split)
    | (intro _))

theorem waitSealed_touches (d : Nat) (p : Nat) (k : Nat) (s : State) : Moves [.sent, .evt, .tables] s (waitSealed d p k s) := by
  unfold waitSealed
  try dsimp only
  repeat' (first
    | with_reducible exact Moves.refl _ _
    | with_reducible assumption
    | (with_reducible apply Moves.step (State.onTable_touches ..); decide +kernel)
    | (with_reducible apply Moves.step (raise_touches ..); decide +kernel)
    | (fail_if_no_progress with_reducible refine Moves.upd_sent (by decide +kernel) ?_)
    | (fail_if_no_progress with_reducible refine Moves.upd_evt (by decide +kernel) ?_)
    | (fail_if_no_progress with_reducible refine Moves.upd_tables (by decide +kernel) ?_)
    | (fail_if_no_progress with_reducible refine Moves.upd (h := ?_))
    | (dsimp only [id])
    | (split)
    | (intro _))

theorem yieldBefore_touches (n : Nat) (s : State) : Moves [.ctx, .tables] s (yieldBefore n s) := by
  unfold yieldBefore
  try dsimp only
  repeat' (first
    | with_reducible exact Moves.refl _ _
    | with_reducible assumption
    | (with_reducible apply Moves.step (yieldPass_touches ..); decide +kernel)
    | (with_reducible apply Moves.step (State.onCtx_touches ..); decide +kernel)
    | (with_reducible apply forEach_step)
    | (fail_if_no_progress with_reducible refine Moves.upd_ctx (by decide +kernel) ?_)
    | (fail_if_no_progress with_reducible refine Moves.upd_tables (by decide +kernel) ?_)
    | (fail_if_no_progress with_reducible refine Moves.upd (h := ?_))
    | (dsimp only [id])
    | (split)
    | (intro _))

theorem yieldHeads_touches (n : Nat) (x1 : Nat) (x2 : State) : Moves [.regs, .ctx, .tables] x2 (yieldHeads n x1 x2) := by
  fun_induction yieldHeads n x1 x2 <;>
  (try dsimp only) <;>
  repeat' (first
    | with_reducible exact Moves.refl _ _
    | with_reducible assumption
    | (with_reducible apply Moves.step (finish_touches ..); decide +kernel)
    | (with_reducible apply Moves.step (yieldPlain_touches ..); decide +kernel)
    | (with_reducible apply Moves.step (yieldBefore_touches ..); decide +kernel)
    | (with_reducible apply Moves.step (yieldMark_touches ..); decide +kernel)
    | (with_reducible apply Moves.step (yieldPass_touches ..); decide +kernel)
    | (with_reducible apply Moves.step (State.putCtx_touches ..); decide +kernel)
    | (fail_if_no_progress with_reducible refine Moves.upd_regs (by decide +kernel) ?_)
    | (fail_if_no_progress with_reducible refine Moves.upd_ctx (by decide +kernel) ?_)
    | (fail_if_no_progress with_reducible refine Moves.upd_tables (by decide +kernel) ?_)
    | (fail_if_no_progress with_reducible refine Moves.upd (h := ?_))
    | (dsimp only [id])
    | (split)
    | (intro _)
    | (with_reducible refine Moves.trans ?_ (by with_reducible assumption)))

theorem advanceInput_touches (n : Nat) (s : State) : Moves [.regs, .sent, .evt, .ctx, .tables, .cut, .keys, .lnk] s (advanceInput n s) := by
  unfold advanceInput
  try dsimp only
  repeat' (first
    | with_reducible exact Moves.refl _ _
    | with_reducible assumption
    | (with_reducible apply Moves.step (yieldHeads_touches ..); decide +kernel)
    | (with_reducible apply Moves.step (settleHead_touches ..); decide +kernel)
    | (with_reducible apply Moves.step (latchOpen_touches ..); decide +kernel)
    | (fail_if_no_progress with_reducible refine Moves.upd_regs (by decide +kernel) ?_)
    | (fail_if_no_progress with_reducible refine Moves.upd_sent (by decide +kernel) ?_)
    | (fail_if_no_progress with_reducible refine Moves.upd_evt (by decide +kernel) ?_)
    | (fail_if_no_progress with_reducible refine Moves.upd_ctx (by decide +kernel) ?_)
    | (fail_if_no_progress with_reducible refine Moves.upd_tables (by decide +kernel) ?_)
    | (fail_if_no_progress with_reducible refine Moves.upd_cut (by decide +kernel) ?_)
    | (fail_if_no_progress with_reducible refine Moves.upd_keys (by decide +kernel) ?_)
    | (fail_if_no_progress with_reducible refine Moves.upd_lnk (by decide +kernel) ?_)
    | (fail_if_no_progress with_reducible refine Moves.upd (h := ?_))
    | (dsimp only [id])
    | (split)
    | (intro _))

theorem meterSeal_touches (n : Nat) (host : Nat) (sealedLen : Nat) (s : State) : Moves [.ctx] s (meterSeal n host sealedLen s) := by
  unfold meterSeal
  try dsimp only
  repeat' (first
    | with_reducible exact Moves.refl _ _
    | with_reducible assumption
    | (with_reducible apply Moves.step (State.onCtx_touches ..); decide +kernel)
    | (fail_if_no_progress with_reducible refine Moves.upd_ctx (by decide +kernel) ?_)
    | (fail_if_no_progress with_reducible refine Moves.upd (h := ?_))
    | (dsimp only [id])
    | (split)
    | (intro _))

theorem pushInput_touches (n : Nat) (l : List InItem) (s : State) : Moves [.regs, .sent, .evt, .ctx, .tables, .cut, .keys, .lnk] s (pushInput n l s) := by
  unfold pushInput
  try dsimp only
  repeat' (first
    | with_reducible exact Moves.refl _ _
    | with_reducible assumption
    | (with_reducible apply Moves.step (State.onCtx_touches ..); decide +kernel)
    | (with_reducible apply Moves.step (advanceInput_touches ..); decide +kernel)
    | (fail_if_no_progress with_reducible refine Moves.upd_regs (by decide +kernel) ?_)
    | (fail_if_no_progress with_reducible refine Moves.upd_sent (by decide +kernel) ?_)
    | (fail_if_no_progress with_reducible refine Moves.upd_evt (by decide +kernel) ?_)
    | (fail_if_no_progress with_reducible refine Moves.upd_ctx (by decide +kernel) ?_)
    | (fail_if_no_progress with_reducible refine Moves.upd_tables (by decide +kernel) ?_)
    | (fail_if_no_progress with_reducible refine Moves.upd_cut (by decide +kernel) ?_)
    | (fail_if_no_progress with_reducible refine Moves.upd_keys (by decide +kernel) ?_)
    | (fail_if_no_progress with_reducible refine Moves.upd_lnk (by decide +kernel) ?_)
    | (fail_if_no_progress with_reducible refine Moves.upd (h := ?_))
    | (dsimp only [id])
    | (split)
    | (intro _))

theorem commitTasks_touches (n : Nat) (b : Block) (s : State) : Moves [.ctx] s (commitTasks n b s) := by
  unfold commitTasks
  try dsimp only
  repeat' (first
    | with_reducible exact Moves.refl _ _
    | with_reducible assumption
    | (with_reducible apply Moves.step (State.onTask_touches ..); decide +kernel)
    | (with_reducible apply forEach_step)
    | (fail_if_no_progress with_reducible refine Moves.upd_ctx (by decide +kernel) ?_)
    | (fail_if_no_progress with_reducible refine Moves.upd (h := ?_))
    | (dsimp only [id])
    | (split)
    | (intro _))

theorem countObjects_touches (n : Nat) (x1 : Nat) (x2 : List Nat) (x3 : State) : Moves [.ctx] x3 (countObjects n x1 x2 x3) := by
  fun_induction countObjects n x1 x2 x3 <;>
  (try dsimp only) <;>
  repeat' (first
    | with_reducible exact Moves.refl _ _
    | with_reducible assumption
    | (with_reducible apply Moves.step (State.onTask_touches ..); decide +kernel)
    | (fail_if_no_progress with_reducible refine Moves.upd_ctx (by decide +kernel) ?_)
    | (fail_if_no_progress with_reducible refine Moves.upd (h := ?_))
    | (dsimp only [id])
    | (split)
    | (intro _)
    | (with_reducible refine Moves.trans ?_ (by with_reducible assumption)))

theorem sealHead_touches (n : Nat) (b : Block) (code : List Sys2Proof.Byte) (chips : List Nat) (s : State) : Moves [.regs, .sent, .evt, .ctx, .tables, .cut, .keys, .decks, .lnk] s (sealHead n b code chips s) := by
  unfold sealHead
  try dsimp only
  repeat' (first
    | with_reducible exact Moves.refl _ _
    | with_reducible assumption
    | (with_reducible apply Moves.step (State.putTable_touches ..); decide +kernel)
    | (with_reducible apply Moves.step (finishWrites_touches ..); decide +kernel)
    | (with_reducible apply Moves.step (State.onCtx_touches ..); decide +kernel)
    | (with_reducible apply Moves.step (meterSeal_touches ..); decide +kernel)
    | (with_reducible apply Moves.step (commitTasks_touches ..); decide +kernel)
    | (with_reducible apply Moves.step (advanceInput_touches ..); decide +kernel)
    | (with_reducible apply Moves.step (setPosition_touches ..); decide +kernel)
    | (with_reducible apply Moves.step (State.onDeck_touches ..); decide +kernel)
    | (with_reducible apply Moves.step (countObjects_touches ..); decide +kernel)
    | (fail_if_no_progress with_reducible refine Moves.upd_regs (by decide +kernel) ?_)
    | (fail_if_no_progress with_reducible refine Moves.upd_sent (by decide +kernel) ?_)
    | (fail_if_no_progress with_reducible refine Moves.upd_evt (by decide +kernel) ?_)
    | (fail_if_no_progress with_reducible refine Moves.upd_ctx (by decide +kernel) ?_)
    | (fail_if_no_progress with_reducible refine Moves.upd_tables (by decide +kernel) ?_)
    | (fail_if_no_progress with_reducible refine Moves.upd_cut (by decide +kernel) ?_)
    | (fail_if_no_progress with_reducible refine Moves.upd_keys (by decide +kernel) ?_)
    | (fail_if_no_progress with_reducible refine Moves.upd_decks (by decide +kernel) ?_)
    | (fail_if_no_progress with_reducible refine Moves.upd_lnk (by decide +kernel) ?_)
    | (fail_if_no_progress with_reducible refine Moves.upd (h := ?_))
    | (dsimp only [id])
    | (split)
    | (intro _))

theorem sealNextBlock_touches (n : Nat) (s0 : State) : Moves [.tick, .regs, .sent, .evt, .ctx, .tables, .cut, .keys, .shoe, .mem, .decks, .lnk] s0 (sealNextBlock n s0) := by
  unfold sealNextBlock
  try dsimp only
  repeat' (first
    | with_reducible exact Moves.refl _ _
    | with_reducible assumption
    | (with_reducible apply Moves.step (settleHead_touches ..); decide +kernel)
    | (with_reducible apply Moves.step (State.onCtx_touches ..); decide +kernel)
    | (with_reducible apply Moves.step (waitSealed_touches ..); decide +kernel)
    | (with_reducible apply Moves.step (allocate_touches ..); decide +kernel)
    | (rename_i hq; with_reducible refine Moves.of_eq (by first | exact congrArg Prod.snd hq | exact congrArg (fun x => x.2.2) hq) (allocate_touches ..) (by decide +kernel) ?_)
    | (with_reducible apply Moves.step (sealHead_touches ..); decide +kernel)
    | (with_reducible apply Moves.step (State.onTable_touches ..); decide +kernel)
    | (with_reducible apply Moves.step (raise_touches ..); decide +kernel)
    | (fail_if_no_progress with_reducible refine Moves.upd_tick (by decide +kernel) ?_)
    | (fail_if_no_progress with_reducible refine Moves.upd_regs (by decide +kernel) ?_)
    | (fail_if_no_progress with_reducible refine Moves.upd_sent (by decide +kernel) ?_)
    | (fail_if_no_progress with_reducible refine Moves.upd_evt (by decide +kernel) ?_)
    | (fail_if_no_progress with_reducible refine Moves.upd_ctx (by decide +kernel) ?_)
    | (fail_if_no_progress with_reducible refine Moves.upd_tables (by decide +kernel) ?_)
    | (fail_if_no_progress with_reducible refine Moves.upd_cut (by decide +kernel) ?_)
    | (fail_if_no_progress with_reducible refine Moves.upd_keys (by decide +kernel) ?_)
    | (fail_if_no_progress with_reducible refine Moves.upd_decks (by decide +kernel) ?_)
    | (fail_if_no_progress with_reducible refine Moves.upd_lnk (by decide +kernel) ?_)
    | (fail_if_no_progress with_reducible refine Moves.upd_shoe (by decide +kernel) rfl ?_)
    | (fail_if_no_progress with_reducible refine Moves.upd (h := ?_))
    | (dsimp only [id])
    | (split)
    | (intro _))

theorem waitPool_touches (d : Nat) (p : Nat) (k : Nat) (s : State) : Moves [.sent, .evt, .tables] s (waitPool d p k s) := by
  unfold waitPool
  try dsimp only
  repeat' (first
    | with_reducible exact Moves.refl _ _
    | with_reducible assumption
    | (with_reducible apply Moves.step (State.onTable_touches ..); decide +kernel)
    | (with_reducible apply Moves.step (raise_touches ..); decide +kernel)
    | (fail_if_no_progress with_reducible refine Moves.upd_sent (by decide +kernel) ?_)
    | (fail_if_no_progress with_reducible refine Moves.upd_evt (by decide +kernel) ?_)
    | (fail_if_no_progress with_reducible refine Moves.upd_tables (by decide +kernel) ?_)
    | (fail_if_no_progress with_reducible refine Moves.upd (h := ?_))
    | (dsimp only [id])
    | (split)
    | (intro _))

end Sys2Proof.Machine
end

