-- ==== Sys2Proof/Laws/FramesKeys.lean ====
section
/-! SUPPORT. What the operations of keys, stops and hands touch. -/

namespace Sys2Proof.Machine

set_option Elab.async false
set_option maxHeartbeats 4000000

theorem haltEngines_touches (w : EngineWork) (s : State) : Moves [.cut] s (haltEngines w s) := by
  unfold haltEngines
  try dsimp only
  repeat' (first
    | with_reducible exact Moves.refl _ _
    | with_reducible assumption
    | (fail_if_no_progress with_reducible refine Moves.upd_cut (by decide +kernel) ?_)
    | (fail_if_no_progress with_reducible refine Moves.upd (h := ?_))
    | (dsimp only [id])
    | (split)
    | (intro _))

theorem endRead_touches (n : Nat) (c : Completion) (s : State) : Moves [.sent, .evt, .ctx, .cut, .shoe, .lnk] s (endRead n c s) := by
  unfold endRead
  try dsimp only
  repeat' (first
    | with_reducible exact Moves.refl _ _
    | with_reducible assumption
    | (with_reducible apply Moves.step (haltEngines_touches ..); decide +kernel)
    | (with_reducible apply Moves.step (finish_touches ..); decide +kernel)
    | (with_reducible apply Moves.step (dropReads_touches ..); decide +kernel)
    | (with_reducible apply Moves.step (State.onCtx_touches ..); decide +kernel)
    | (with_reducible apply Moves.step (endHold_touches ..); decide +kernel)
    | (with_reducible apply forEach_step)
    | (fail_if_no_progress with_reducible refine Moves.upd_sent (by decide +kernel) ?_)
    | (fail_if_no_progress with_reducible refine Moves.upd_evt (by decide +kernel) ?_)
    | (fail_if_no_progress with_reducible refine Moves.upd_ctx (by decide +kernel) ?_)
    | (fail_if_no_progress with_reducible refine Moves.upd_cut (by decide +kernel) ?_)
    | (fail_if_no_progress with_reducible refine Moves.upd_lnk (by decide +kernel) ?_)
    | (fail_if_no_progress with_reducible refine Moves.upd_shoe (by decide +kernel) rfl ?_)
    | (fail_if_no_progress with_reducible refine Moves.upd (h := ?_))
    | (dsimp only [id])
    | (split)
    | (intro _))

theorem commits_touches (n : Nat) (q : Nat) (s : State) : Moves [.ctx] s (commits n q s) := by
  unfold commits
  try dsimp only
  repeat' (first
    | with_reducible exact Moves.refl _ _
    | with_reducible assumption
    | (with_reducible apply Moves.step (State.onTask_touches ..); decide +kernel)
    | (fail_if_no_progress with_reducible refine Moves.upd_ctx (by decide +kernel) ?_)
    | (fail_if_no_progress with_reducible refine Moves.upd (h := ?_))
    | (dsimp only [id])
    | (split)
    | (intro _))

theorem zeroFill_touches (r : Reader) (s : State) : Moves [.sent] s (zeroFill r s) := by
  unfold zeroFill
  try dsimp only
  repeat' (first
    | with_reducible exact Moves.refl _ _
    | with_reducible assumption
    | (with_reducible apply Moves.step (hostWrite_touches ..); decide +kernel)
    | (with_reducible apply forEach_step)
    | (fail_if_no_progress with_reducible refine Moves.upd_sent (by decide +kernel) ?_)
    | (fail_if_no_progress with_reducible refine Moves.upd (h := ?_))
    | (dsimp only [id])
    | (split)
    | (intro _))

theorem failRead_touches (n : Nat) (c : Completion) (s : State) : Moves [.regs, .sent, .evt, .ctx, .cut, .shoe, .lnk] s (failRead n c s) := by
  unfold failRead
  try dsimp only
  repeat' (first
    | with_reducible exact Moves.refl _ _
    | with_reducible assumption
    | (with_reducible apply Moves.step (endRead_touches ..); decide +kernel)
    | (with_reducible apply Moves.step (commits_touches ..); decide +kernel)
    | (with_reducible apply Moves.step (zeroFill_touches ..); decide +kernel)
    | (with_reducible apply Moves.step (setPosition_touches ..); decide +kernel)
    | (fail_if_no_progress with_reducible refine Moves.upd_regs (by decide +kernel) ?_)
    | (fail_if_no_progress with_reducible refine Moves.upd_sent (by decide +kernel) ?_)
    | (fail_if_no_progress with_reducible refine Moves.upd_evt (by decide +kernel) ?_)
    | (fail_if_no_progress with_reducible refine Moves.upd_ctx (by decide +kernel) ?_)
    | (fail_if_no_progress with_reducible refine Moves.upd_cut (by decide +kernel) ?_)
    | (fail_if_no_progress with_reducible refine Moves.upd_lnk (by decide +kernel) ?_)
    | (fail_if_no_progress with_reducible refine Moves.upd_shoe (by decide +kernel) rfl ?_)
    | (fail_if_no_progress with_reducible refine Moves.upd (h := ?_))
    | (dsimp only [id])
    | (split)
    | (intro _))

theorem abandonOpen_touches (k : Nat) (n : Nat) (s : State) : Moves [.regs, .sent, .evt, .ctx, .cut, .shoe, .lnk] s (abandonOpen k n s) := by
  unfold abandonOpen
  try dsimp only
  repeat' (first
    | with_reducible exact Moves.refl _ _
    | with_reducible assumption
    | (with_reducible apply Moves.step (failRead_touches ..); decide +kernel)
    | (fail_if_no_progress with_reducible refine Moves.upd_regs (by decide +kernel) ?_)
    | (fail_if_no_progress with_reducible refine Moves.upd_sent (by decide +kernel) ?_)
    | (fail_if_no_progress with_reducible refine Moves.upd_evt (by decide +kernel) ?_)
    | (fail_if_no_progress with_reducible refine Moves.upd_ctx (by decide +kernel) ?_)
    | (fail_if_no_progress with_reducible refine Moves.upd_cut (by decide +kernel) ?_)
    | (fail_if_no_progress with_reducible refine Moves.upd_lnk (by decide +kernel) ?_)
    | (fail_if_no_progress with_reducible refine Moves.upd_shoe (by decide +kernel) rfl ?_)
    | (fail_if_no_progress with_reducible refine Moves.upd (h := ?_))
    | (dsimp only [id])
    | (split)
    | (intro _))

theorem opKeyCommandDone_touches (s : State) : Moves [.regs] s (opKeyCommandDone s) := by
  unfold opKeyCommandDone
  try dsimp only
  repeat' (first
    | with_reducible exact Moves.refl _ _
    | with_reducible assumption
    | (with_reducible apply Moves.step (State.setFld_touches ..); decide +kernel)
    | (fail_if_no_progress with_reducible refine Moves.upd_regs (by decide +kernel) ?_)
    | (fail_if_no_progress with_reducible refine Moves.upd (h := ?_))
    | (dsimp only [id])
    | (split)
    | (intro _))

theorem keyMid_touches (k : Nat) (s : State) : Moves [.sent, .evt, .tables] s (keyMid k s) := by
  unfold keyMid
  try dsimp only
  repeat' (first
    | with_reducible exact Moves.refl _ _
    | with_reducible assumption
    | (with_reducible apply Moves.step (setGuarantee_touches ..); decide +kernel)
    | (with_reducible apply forEach_step)
    | (fail_if_no_progress with_reducible refine Moves.upd_sent (by decide +kernel) ?_)
    | (fail_if_no_progress with_reducible refine Moves.upd_evt (by decide +kernel) ?_)
    | (fail_if_no_progress with_reducible refine Moves.upd_tables (by decide +kernel) ?_)
    | (fail_if_no_progress with_reducible refine Moves.upd (h := ?_))
    | (dsimp only [id])
    | (split)
    | (intro _))

theorem keyResult_touches (r : Nat) (s : State) : Moves [.regs] s (keyResult r s) := by
  unfold keyResult
  try dsimp only
  repeat' (first
    | with_reducible exact Moves.refl _ _
    | with_reducible assumption
    | (with_reducible apply Moves.step (State.setFld_touches ..); decide +kernel)
    | (fail_if_no_progress with_reducible refine Moves.upd_regs (by decide +kernel) ?_)
    | (fail_if_no_progress with_reducible refine Moves.upd (h := ?_))
    | (dsimp only [id])
    | (split)
    | (intro _))

theorem zeroiseSlot_touches (k : Nat) (s : State) : Moves [.regs, .sent, .evt, .ctx, .tables, .cut, .keys, .shoe, .lnk] s (zeroiseSlot k s) := by
  unfold zeroiseSlot
  try dsimp only
  repeat' (first
    | with_reducible exact Moves.refl _ _
    | with_reducible assumption
    | (with_reducible apply Moves.step (abandonOpen_touches ..); decide +kernel)
    | (with_reducible apply Moves.step (keyMid_touches ..); decide +kernel)
    | (with_reducible apply Moves.step (State.putKey_touches ..); decide +kernel)
    | (with_reducible apply Moves.step (settleHead_touches ..); decide +kernel)
    | (with_reducible apply Moves.step (State.onCtx_touches ..); decide +kernel)
    | (with_reducible apply forEach_step)
    | (fail_if_no_progress with_reducible refine Moves.upd_regs (by decide +kernel) ?_)
    | (fail_if_no_progress with_reducible refine Moves.upd_sent (by decide +kernel) ?_)
    | (fail_if_no_progress with_reducible refine Moves.upd_evt (by decide +kernel) ?_)
    | (fail_if_no_progress with_reducible refine Moves.upd_ctx (by decide +kernel) ?_)
    | (fail_if_no_progress with_reducible refine Moves.upd_tables (by decide +kernel) ?_)
    | (fail_if_no_progress with_reducible refine Moves.upd_cut (by decide +kernel) ?_)
    | (fail_if_no_progress with_reducible refine Moves.upd_keys (by decide +kernel) ?_)
    | (fail_if_no_progress with_reducible refine Moves.upd_lnk (by decide +kernel) ?_)
    | (fail_if_no_progress with_reducible refine Moves.upd_shoe (by decide +kernel) rfl ?_)
    | (fail_if_no_progress with_reducible refine Moves.upd (h := ?_))
    | (dsimp only [id])
    | (split)
    | (intro _))

theorem keyCommand_touches {l : List Part} (hsub : [.regs, .sent, .evt] ⊆ l) {f : State → State} (hf : ∀  a, Moves l a (f  a)) (op : Nat) (s : State) : Moves l s (keyCommand op f s) := by
  unfold keyCommand
  try dsimp only
  repeat' (first
    | (with_reducible apply Moves.trans ?_ (hf ..))
    | with_reducible exact Moves.refl _ _
    | with_reducible assumption
    | (with_reducible apply Moves.step (State.setFld_touches ..); exact List.Subset.trans (by decide +kernel) hsub)
    | (with_reducible apply Moves.step (keyResult_touches ..); exact List.Subset.trans (by decide +kernel) hsub)
    | (with_reducible apply Moves.step (raise_touches ..); exact List.Subset.trans (by decide +kernel) hsub)
    | (dsimp only [id])
    | (split)
    | (intro _)
    | (fail_if_no_progress with_reducible refine Moves.upd_regs (Part.mem_of_sub hsub (by decide +kernel)) ?_)
    | (fail_if_no_progress with_reducible refine Moves.upd_sent (Part.mem_of_sub hsub (by decide +kernel)) ?_)
    | (fail_if_no_progress with_reducible refine Moves.upd_evt (Part.mem_of_sub hsub (by decide +kernel)) ?_)
    | (fail_if_no_progress with_reducible refine Moves.upd (h := ?_)))

theorem keyCommand_step {l : List Part} (hsub : [.regs, .sent, .evt] ⊆ l) {f : State → State} (hf : ∀  a, Moves l a (f  a)) {op : Nat} {s a : State} (h : Moves l s a) : Moves l s (keyCommand op f a) :=
  h.trans (keyCommand_touches hsub hf ..)

theorem keyMidAll_touches (s : State) : Moves [.sent, .evt, .tables] s (keyMidAll s) := by
  unfold keyMidAll
  try dsimp only
  repeat' (first
    | with_reducible exact Moves.refl _ _
    | with_reducible assumption
    | (with_reducible apply Moves.step (setGuarantee_touches ..); decide +kernel)
    | (with_reducible apply forEach_step)
    | (fail_if_no_progress with_reducible refine Moves.upd_sent (by decide +kernel) ?_)
    | (fail_if_no_progress with_reducible refine Moves.upd_evt (by decide +kernel) ?_)
    | (fail_if_no_progress with_reducible refine Moves.upd_tables (by decide +kernel) ?_)
    | (fail_if_no_progress with_reducible refine Moves.upd (h := ?_))
    | (dsimp only [id])
    | (split)
    | (intro _))

theorem clearAll_touches (trigger : Nat) (s : State) : Moves [.regs, .sent, .evt, .ctx, .tables, .cut, .keys, .shoe, .lnk] s (clearAll trigger s) := by
  unfold clearAll
  try dsimp only
  repeat' (first
    | with_reducible exact Moves.refl _ _
    | with_reducible assumption
    | (with_reducible apply Moves.step (keyMidAll_touches ..); decide +kernel)
    | (with_reducible apply Moves.step (zeroiseSlot_touches ..); decide +kernel)
    | (with_reducible apply Moves.step (raise_touches ..); decide +kernel)
    | (with_reducible apply forEach_step)
    | (fail_if_no_progress with_reducible refine Moves.upd_regs (by decide +kernel) ?_)
    | (fail_if_no_progress with_reducible refine Moves.upd_sent (by decide +kernel) ?_)
    | (fail_if_no_progress with_reducible refine Moves.upd_evt (by decide +kernel) ?_)
    | (fail_if_no_progress with_reducible refine Moves.upd_ctx (by decide +kernel) ?_)
    | (fail_if_no_progress with_reducible refine Moves.upd_tables (by decide +kernel) ?_)
    | (fail_if_no_progress with_reducible refine Moves.upd_cut (by decide +kernel) ?_)
    | (fail_if_no_progress with_reducible refine Moves.upd_keys (by decide +kernel) ?_)
    | (fail_if_no_progress with_reducible refine Moves.upd_lnk (by decide +kernel) ?_)
    | (fail_if_no_progress with_reducible refine Moves.upd_shoe (by decide +kernel) rfl ?_)
    | (fail_if_no_progress with_reducible refine Moves.upd (h := ?_))
    | (dsimp only [id])
    | (split)
    | (intro _))

theorem opKeyClearAll_touches (s : State) : Moves [.regs, .sent, .evt, .ctx, .tables, .cut, .keys, .shoe, .lnk] s (opKeyClearAll s) := by
  unfold opKeyClearAll
  try dsimp only
  repeat' (first
    | with_reducible exact Moves.refl _ _
    | with_reducible assumption
    | (with_reducible apply keyCommand_step; decide +kernel)
    | (with_reducible apply Moves.step (clearAll_touches ..); decide +kernel)
    | (fail_if_no_progress with_reducible refine Moves.upd_regs (by decide +kernel) ?_)
    | (fail_if_no_progress with_reducible refine Moves.upd_sent (by decide +kernel) ?_)
    | (fail_if_no_progress with_reducible refine Moves.upd_evt (by decide +kernel) ?_)
    | (fail_if_no_progress with_reducible refine Moves.upd_ctx (by decide +kernel) ?_)
    | (fail_if_no_progress with_reducible refine Moves.upd_tables (by decide +kernel) ?_)
    | (fail_if_no_progress with_reducible refine Moves.upd_cut (by decide +kernel) ?_)
    | (fail_if_no_progress with_reducible refine Moves.upd_keys (by decide +kernel) ?_)
    | (fail_if_no_progress with_reducible refine Moves.upd_lnk (by decide +kernel) ?_)
    | (fail_if_no_progress with_reducible refine Moves.upd_shoe (by decide +kernel) rfl ?_)
    | (fail_if_no_progress with_reducible refine Moves.upd (h := ?_))
    | (dsimp only [id])
    | (split)
    | (intro _))

theorem clearStaging_touches (s : State) : Moves [.regs] s (clearStaging s) := by
  unfold clearStaging
  try dsimp only
  repeat' (first
    | with_reducible exact Moves.refl _ _
    | with_reducible assumption
    | (with_reducible apply Moves.step (State.setReg_touches ..); decide +kernel)
    | (with_reducible apply forEach_step)
    | (fail_if_no_progress with_reducible refine Moves.upd_regs (by decide +kernel) ?_)
    | (fail_if_no_progress with_reducible refine Moves.upd (h := ?_))
    | (dsimp only [id])
    | (split)
    | (intro _))

theorem opKeyZeroise_touches (s : State) : Moves [.regs, .sent, .evt, .ctx, .tables, .cut, .keys, .shoe, .lnk] s (opKeyZeroise s) := by
  unfold opKeyZeroise
  try dsimp only
  repeat' (first
    | with_reducible exact Moves.refl _ _
    | with_reducible assumption
    | (with_reducible apply keyCommand_step; decide +kernel)
    | (with_reducible apply Moves.step (zeroiseSlot_touches ..); decide +kernel)
    | (with_reducible apply Moves.step (raise_touches ..); decide +kernel)
    | (fail_if_no_progress with_reducible refine Moves.upd_regs (by decide +kernel) ?_)
    | (fail_if_no_progress with_reducible refine Moves.upd_sent (by decide +kernel) ?_)
    | (fail_if_no_progress with_reducible refine Moves.upd_evt (by decide +kernel) ?_)
    | (fail_if_no_progress with_reducible refine Moves.upd_ctx (by decide +kernel) ?_)
    | (fail_if_no_progress with_reducible refine Moves.upd_tables (by decide +kernel) ?_)
    | (fail_if_no_progress with_reducible refine Moves.upd_cut (by decide +kernel) ?_)
    | (fail_if_no_progress with_reducible refine Moves.upd_keys (by decide +kernel) ?_)
    | (fail_if_no_progress with_reducible refine Moves.upd_lnk (by decide +kernel) ?_)
    | (fail_if_no_progress with_reducible refine Moves.upd_shoe (by decide +kernel) rfl ?_)
    | (fail_if_no_progress with_reducible refine Moves.upd (h := ?_))
    | (dsimp only [id])
    | (split)
    | (intro _))

theorem opKeyLoad_touches (s : State) : Moves [.regs, .sent, .evt, .tables, .keys] s (opKeyLoad s) := by
  unfold opKeyLoad
  try dsimp only
  repeat' (first
    | with_reducible exact Moves.refl _ _
    | with_reducible assumption
    | (with_reducible apply Moves.step (clearStaging_touches ..); decide +kernel)
    | (with_reducible apply Moves.step (keyMid_touches ..); decide +kernel)
    | (with_reducible apply keyCommand_step; decide +kernel)
    | (with_reducible apply Moves.step (State.putKey_touches ..); decide +kernel)
    | (fail_if_no_progress with_reducible refine Moves.upd_regs (by decide +kernel) ?_)
    | (fail_if_no_progress with_reducible refine Moves.upd_sent (by decide +kernel) ?_)
    | (fail_if_no_progress with_reducible refine Moves.upd_evt (by decide +kernel) ?_)
    | (fail_if_no_progress with_reducible refine Moves.upd_tables (by decide +kernel) ?_)
    | (fail_if_no_progress with_reducible refine Moves.upd_keys (by decide +kernel) ?_)
    | (fail_if_no_progress with_reducible refine Moves.upd (h := ?_))
    | (dsimp only [id])
    | (split)
    | (intro _))

theorem sendRecord_touches (d : Nat) (bytes : List Sys2Proof.Byte) (s : State) : Moves [.sent] s (sendRecord d bytes s) := by
  unfold sendRecord
  try dsimp only
  repeat' (first
    | with_reducible exact Moves.refl _ _
    | with_reducible assumption
    | (with_reducible apply Moves.step (emit_touches ..); decide +kernel)
    | (fail_if_no_progress with_reducible refine Moves.upd_sent (by decide +kernel) ?_)
    | (fail_if_no_progress with_reducible refine Moves.upd (h := ?_))
    | (dsimp only [id])
    | (split)
    | (intro _))

theorem sendMode_touches (d : Nat) (mode : Nat) (profile : Nat) (base : Sys2Proof.Word) (start : Sys2Proof.Word) (s : State) : Moves [.sent, .decks] s (sendMode d mode profile base start s) := by
  unfold sendMode
  try dsimp only
  repeat' (first
    | with_reducible exact Moves.refl _ _
    | with_reducible assumption
    | (with_reducible apply Moves.step (sendRecord_touches ..); decide +kernel)
    | (with_reducible apply Moves.step (State.putDeck_touches ..); decide +kernel)
    | (fail_if_no_progress with_reducible refine Moves.upd_sent (by decide +kernel) ?_)
    | (fail_if_no_progress with_reducible refine Moves.upd_decks (by decide +kernel) ?_)
    | (fail_if_no_progress with_reducible refine Moves.upd (h := ?_))
    | (dsimp only [id])
    | (split)
    | (intro _))

theorem recordCause_touches (d : Nat) (b : Nat) (s : State) : Moves [.decks] s (recordCause d b s) := by
  unfold recordCause
  try dsimp only
  repeat' (first
    | with_reducible exact Moves.refl _ _
    | with_reducible assumption
    | (with_reducible apply Moves.step (State.onDeck_touches ..); decide +kernel)
    | (fail_if_no_progress with_reducible refine Moves.upd_decks (by decide +kernel) ?_)
    | (fail_if_no_progress with_reducible refine Moves.upd (h := ?_))
    | (dsimp only [id])
    | (split)
    | (intro _))

theorem keepRead_touches (n : Nat) (reason : Nat) (s : State) : Moves [.regs, .sent, .evt, .ctx, .cut, .shoe, .lnk] s (keepRead n reason s) := by
  unfold keepRead
  try dsimp only
  repeat' (first
    | with_reducible exact Moves.refl _ _
    | with_reducible assumption
    | (with_reducible apply Moves.step (hostWrite_touches ..); decide +kernel)
    | (with_reducible apply Moves.step (endRead_touches ..); decide +kernel)
    | (with_reducible apply Moves.step (commits_touches ..); decide +kernel)
    | (with_reducible apply Moves.step (setPosition_touches ..); decide +kernel)
    | (with_reducible apply forEach_step)
    | (fail_if_no_progress with_reducible refine Moves.upd_regs (by decide +kernel) ?_)
    | (fail_if_no_progress with_reducible refine Moves.upd_sent (by decide +kernel) ?_)
    | (fail_if_no_progress with_reducible refine Moves.upd_evt (by decide +kernel) ?_)
    | (fail_if_no_progress with_reducible refine Moves.upd_ctx (by decide +kernel) ?_)
    | (fail_if_no_progress with_reducible refine Moves.upd_cut (by decide +kernel) ?_)
    | (fail_if_no_progress with_reducible refine Moves.upd_lnk (by decide +kernel) ?_)
    | (fail_if_no_progress with_reducible refine Moves.upd_shoe (by decide +kernel) rfl ?_)
    | (fail_if_no_progress with_reducible refine Moves.upd (h := ?_))
    | (dsimp only [id])
    | (split)
    | (intro _))

theorem stopContext_touches (n : Nat) (s : State) : Moves [.regs, .sent, .evt, .ctx, .cut, .shoe, .lnk] s (stopContext n s) := by
  unfold stopContext
  try dsimp only
  repeat' (first
    | with_reducible exact Moves.refl _ _
    | with_reducible assumption
    | (with_reducible apply Moves.step (keepRead_touches ..); decide +kernel)
    | (with_reducible apply Moves.step (finish_touches ..); decide +kernel)
    | (with_reducible apply Moves.step (dropReads_touches ..); decide +kernel)
    | (with_reducible apply Moves.step (discardUnsealed_touches ..); decide +kernel)
    | (with_reducible apply forEach_step)
    | (fail_if_no_progress with_reducible refine Moves.upd_regs (by decide +kernel) ?_)
    | (fail_if_no_progress with_reducible refine Moves.upd_sent (by decide +kernel) ?_)
    | (fail_if_no_progress with_reducible refine Moves.upd_evt (by decide +kernel) ?_)
    | (fail_if_no_progress with_reducible refine Moves.upd_ctx (by decide +kernel) ?_)
    | (fail_if_no_progress with_reducible refine Moves.upd_cut (by decide +kernel) ?_)
    | (fail_if_no_progress with_reducible refine Moves.upd_lnk (by decide +kernel) ?_)
    | (fail_if_no_progress with_reducible refine Moves.upd_shoe (by decide +kernel) rfl ?_)
    | (fail_if_no_progress with_reducible refine Moves.upd (h := ?_))
    | (dsimp only [id])
    | (split)
    | (intro _))

theorem stopSeat_touches (d : Nat) (s : State) : Moves [.ctx, .tables] s (stopSeat d s) := by
  unfold stopSeat
  try dsimp only
  repeat' (first
    | with_reducible exact Moves.refl _ _
    | with_reducible assumption
    | (with_reducible apply Moves.step (finish_touches ..); decide +kernel)
    | (with_reducible apply Moves.step (State.onTable_touches ..); decide +kernel)
    | (fail_if_no_progress with_reducible refine Moves.upd_ctx (by decide +kernel) ?_)
    | (fail_if_no_progress with_reducible refine Moves.upd_tables (by decide +kernel) ?_)
    | (fail_if_no_progress with_reducible refine Moves.upd (h := ?_))
    | (dsimp only [id])
    | (split)
    | (intro _))

theorem endAdmin_touches (d : Nat) (s : State) : Moves [.decks] s (endAdmin d s) := by
  unfold endAdmin
  try dsimp only
  repeat' (first
    | with_reducible exact Moves.refl _ _
    | with_reducible assumption
    | (with_reducible apply Moves.step (State.onDeck_touches ..); decide +kernel)
    | (with_reducible apply forEach_step)
    | (fail_if_no_progress with_reducible refine Moves.upd_decks (by decide +kernel) ?_)
    | (fail_if_no_progress with_reducible refine Moves.upd (h := ?_))
    | (dsimp only [id])
    | (split)
    | (intro _))

theorem stopAdmin_touches (d : Nat) (s : State) : Moves [.ctx, .decks] s (stopAdmin d s) := by
  unfold stopAdmin
  try dsimp only
  repeat' (first
    | with_reducible exact Moves.refl _ _
    | with_reducible assumption
    | (with_reducible apply Moves.step (finish_touches ..); decide +kernel)
    | (with_reducible apply Moves.step (State.onDeck_touches ..); decide +kernel)
    | (with_reducible apply Moves.step (endAdmin_touches ..); decide +kernel)
    | (with_reducible apply forEach_step)
    | (fail_if_no_progress with_reducible refine Moves.upd_ctx (by decide +kernel) ?_)
    | (fail_if_no_progress with_reducible refine Moves.upd_decks (by decide +kernel) ?_)
    | (fail_if_no_progress with_reducible refine Moves.upd (h := ?_))
    | (dsimp only [id])
    | (split)
    | (intro _))

theorem stopTasks_touches (d : Nat) (s : State) : Moves [.regs, .sent, .evt, .ctx, .tables, .cut, .shoe, .decks, .lnk] s (stopTasks d s) := by
  unfold stopTasks
  try dsimp only
  repeat' (first
    | with_reducible exact Moves.refl _ _
    | with_reducible assumption
    | (with_reducible apply Moves.step (stopContext_touches ..); decide +kernel)
    | (with_reducible apply Moves.step (stopSeat_touches ..); decide +kernel)
    | (with_reducible apply Moves.step (stopAdmin_touches ..); decide +kernel)
    | (with_reducible apply forEach_step)
    | (fail_if_no_progress with_reducible refine Moves.upd_regs (by decide +kernel) ?_)
    | (fail_if_no_progress with_reducible refine Moves.upd_sent (by decide +kernel) ?_)
    | (fail_if_no_progress with_reducible refine Moves.upd_evt (by decide +kernel) ?_)
    | (fail_if_no_progress with_reducible refine Moves.upd_ctx (by decide +kernel) ?_)
    | (fail_if_no_progress with_reducible refine Moves.upd_tables (by decide +kernel) ?_)
    | (fail_if_no_progress with_reducible refine Moves.upd_cut (by decide +kernel) ?_)
    | (fail_if_no_progress with_reducible refine Moves.upd_decks (by decide +kernel) ?_)
    | (fail_if_no_progress with_reducible refine Moves.upd_lnk (by decide +kernel) ?_)
    | (fail_if_no_progress with_reducible refine Moves.upd_shoe (by decide +kernel) rfl ?_)
    | (fail_if_no_progress with_reducible refine Moves.upd (h := ?_))
    | (dsimp only [id])
    | (split)
    | (intro _))

theorem deferExposed_touches (d : Nat) (cause : Nat) (s : State) : Moves [.regs, .sent, .evt, .ctx] s (deferExposed d cause s) := by
  unfold deferExposed
  try dsimp only
  repeat' (first
    | with_reducible exact Moves.refl _ _
    | with_reducible assumption
    | (with_reducible apply Moves.step (deferError_touches ..); decide +kernel)
    | (with_reducible apply forEach_step)
    | (fail_if_no_progress with_reducible refine Moves.upd_regs (by decide +kernel) ?_)
    | (fail_if_no_progress with_reducible refine Moves.upd_sent (by decide +kernel) ?_)
    | (fail_if_no_progress with_reducible refine Moves.upd_evt (by decide +kernel) ?_)
    | (fail_if_no_progress with_reducible refine Moves.upd_ctx (by decide +kernel) ?_)
    | (fail_if_no_progress with_reducible refine Moves.upd (h := ?_))
    | (dsimp only [id])
    | (split)
    | (intro _))

theorem beginStop_touches (d : Nat) (b : Nat) (s : State) : Moves [.sent, .decks, .loops] s (beginStop d b s) := by
  unfold beginStop
  try dsimp only
  repeat' (first
    | with_reducible exact Moves.refl _ _
    | with_reducible assumption
    | (with_reducible apply Moves.step (State.putLoop_touches ..); decide +kernel)
    | (with_reducible apply Moves.step (State.putDeck_touches ..); decide +kernel)
    | (with_reducible apply Moves.step (sendMode_touches ..); decide +kernel)
    | (with_reducible apply forEach_step)
    | (fail_if_no_progress with_reducible refine Moves.upd_sent (by decide +kernel) ?_)
    | (fail_if_no_progress with_reducible refine Moves.upd_decks (by decide +kernel) ?_)
    | (fail_if_no_progress with_reducible refine Moves.upd_loops (by decide +kernel) ?_)
    | (fail_if_no_progress with_reducible refine Moves.upd (h := ?_))
    | (dsimp only [id])
    | (split)
    | (intro _))

theorem stopDeck_touches (d : Nat) (b : Nat) (cause : Nat) (s : State) : Moves [.regs, .sent, .evt, .ctx, .tables, .cut, .shoe, .decks, .loops, .lnk] s (stopDeck d b cause s) := by
  unfold stopDeck
  try dsimp only
  repeat' (first
    | with_reducible exact Moves.refl _ _
    | with_reducible assumption
    | (with_reducible apply Moves.step (recordCause_touches ..); decide +kernel)
    | (with_reducible apply Moves.step (stopTasks_touches ..); decide +kernel)
    | (with_reducible apply Moves.step (deferExposed_touches ..); decide +kernel)
    | (with_reducible apply Moves.step (beginStop_touches ..); decide +kernel)
    | (fail_if_no_progress with_reducible refine Moves.upd_regs (by decide +kernel) ?_)
    | (fail_if_no_progress with_reducible refine Moves.upd_sent (by decide +kernel) ?_)
    | (fail_if_no_progress with_reducible refine Moves.upd_evt (by decide +kernel) ?_)
    | (fail_if_no_progress with_reducible refine Moves.upd_ctx (by decide +kernel) ?_)
    | (fail_if_no_progress with_reducible refine Moves.upd_tables (by decide +kernel) ?_)
    | (fail_if_no_progress with_reducible refine Moves.upd_cut (by decide +kernel) ?_)
    | (fail_if_no_progress with_reducible refine Moves.upd_decks (by decide +kernel) ?_)
    | (fail_if_no_progress with_reducible refine Moves.upd_loops (by decide +kernel) ?_)
    | (fail_if_no_progress with_reducible refine Moves.upd_lnk (by decide +kernel) ?_)
    | (fail_if_no_progress with_reducible refine Moves.upd_shoe (by decide +kernel) rfl ?_)
    | (fail_if_no_progress with_reducible refine Moves.upd (h := ?_))
    | (dsimp only [id])
    | (split)
    | (intro _))

theorem controlledStop_touches (d : Nat) (b : Nat) (cause : Nat) (s : State) : Moves [.regs, .sent, .evt, .ctx, .tables, .cut, .shoe, .decks, .loops, .lnk] s (controlledStop d b cause s) := by
  unfold controlledStop
  try dsimp only
  repeat' (first
    | with_reducible exact Moves.refl _ _
    | with_reducible assumption
    | (with_reducible apply Moves.step (stopDeck_touches ..); decide +kernel)
    | (with_reducible apply forEach_step)
    | (fail_if_no_progress with_reducible refine Moves.upd_regs (by decide +kernel) ?_)
    | (fail_if_no_progress with_reducible refine Moves.upd_sent (by decide +kernel) ?_)
    | (fail_if_no_progress with_reducible refine Moves.upd_evt (by decide +kernel) ?_)
    | (fail_if_no_progress with_reducible refine Moves.upd_ctx (by decide +kernel) ?_)
    | (fail_if_no_progress with_reducible refine Moves.upd_tables (by decide +kernel) ?_)
    | (fail_if_no_progress with_reducible refine Moves.upd_cut (by decide +kernel) ?_)
    | (fail_if_no_progress with_reducible refine Moves.upd_decks (by decide +kernel) ?_)
    | (fail_if_no_progress with_reducible refine Moves.upd_loops (by decide +kernel) ?_)
    | (fail_if_no_progress with_reducible refine Moves.upd_lnk (by decide +kernel) ?_)
    | (fail_if_no_progress with_reducible refine Moves.upd_shoe (by decide +kernel) rfl ?_)
    | (fail_if_no_progress with_reducible refine Moves.upd (h := ?_))
    | (dsimp only [id])
    | (split)
    | (intro _))

theorem motorOff_touches (d : Nat) (s : State) : Moves [.decks] s (motorOff d s) := by
  unfold motorOff
  try dsimp only
  repeat' (first
    | with_reducible exact Moves.refl _ _
    | with_reducible assumption
    | (with_reducible apply Moves.step (State.onDeck_touches ..); decide +kernel)
    | (fail_if_no_progress with_reducible refine Moves.upd_decks (by decide +kernel) ?_)
    | (fail_if_no_progress with_reducible refine Moves.upd (h := ?_))
    | (dsimp only [id])
    | (split)
    | (intro _))

theorem setLinkState_touches (d : Nat) (v : Nat) (s : State) : Moves [.regs] s (setLinkState d v s) := by
  unfold setLinkState
  try dsimp only
  repeat' (first
    | with_reducible exact Moves.refl _ _
    | with_reducible assumption
    | (with_reducible apply Moves.step (State.setFld_touches ..); decide +kernel)
    | (fail_if_no_progress with_reducible refine Moves.upd_regs (by decide +kernel) ?_)
    | (fail_if_no_progress with_reducible refine Moves.upd (h := ?_))
    | (dsimp only [id])
    | (split)
    | (intro _))

theorem stopLoad_touches (d : Nat) (s : State) : Moves [.ctx, .decks] s (stopLoad d s) := by
  unfold stopLoad
  try dsimp only
  repeat' (first
    | with_reducible exact Moves.refl _ _
    | with_reducible assumption
    | (with_reducible apply Moves.step (finish_touches ..); decide +kernel)
    | (with_reducible apply Moves.step (endAdmin_touches ..); decide +kernel)
    | (fail_if_no_progress with_reducible refine Moves.upd_ctx (by decide +kernel) ?_)
    | (fail_if_no_progress with_reducible refine Moves.upd_decks (by decide +kernel) ?_)
    | (fail_if_no_progress with_reducible refine Moves.upd (h := ?_))
    | (dsimp only [id])
    | (split)
    | (intro _))

theorem linkFault_touches (d : Nat) (cause : Nat) (atOnce : Bool) (s : State) : Moves [.regs, .sent, .evt, .ctx, .tables, .cut, .shoe, .decks, .loops, .lnk] s (linkFault d cause atOnce s) := by
  unfold linkFault
  try dsimp only
  repeat' (first
    | with_reducible exact Moves.refl _ _
    | with_reducible assumption
    | (with_reducible apply Moves.step (motorOff_touches ..); decide +kernel)
    | (with_reducible apply Moves.step (controlledStop_touches ..); decide +kernel)
    | (with_reducible apply Moves.step (State.setFld_touches ..); decide +kernel)
    | (with_reducible apply Moves.step (State.onDeck_touches ..); decide +kernel)
    | (with_reducible apply Moves.step (setLinkState_touches ..); decide +kernel)
    | (with_reducible apply Moves.step (raiseDeck_touches ..); decide +kernel)
    | (with_reducible apply Moves.step (stopLoad_touches ..); decide +kernel)
    | (fail_if_no_progress with_reducible refine Moves.upd_regs (by decide +kernel) ?_)
    | (fail_if_no_progress with_reducible refine Moves.upd_sent (by decide +kernel) ?_)
    | (fail_if_no_progress with_reducible refine Moves.upd_evt (by decide +kernel) ?_)
    | (fail_if_no_progress with_reducible refine Moves.upd_ctx (by decide +kernel) ?_)
    | (fail_if_no_progress with_reducible refine Moves.upd_tables (by decide +kernel) ?_)
    | (fail_if_no_progress with_reducible refine Moves.upd_cut (by decide +kernel) ?_)
    | (fail_if_no_progress with_reducible refine Moves.upd_decks (by decide +kernel) ?_)
    | (fail_if_no_progress with_reducible refine Moves.upd_loops (by decide +kernel) ?_)
    | (fail_if_no_progress with_reducible refine Moves.upd_lnk (by decide +kernel) ?_)
    | (fail_if_no_progress with_reducible refine Moves.upd_shoe (by decide +kernel) rfl ?_)
    | (fail_if_no_progress with_reducible refine Moves.upd (h := ?_))
    | (dsimp only [id])
    | (split)
    | (intro _))

end Sys2Proof.Machine
end

