-- ==== Sys2Proof/Laws/FramesTasks.lean ====
section
/-! SUPPORT. What the operations of the Dealer, tasks and windows touch. -/

namespace Sys2Proof.Machine

set_option Elab.async false
set_option maxHeartbeats 4000000

theorem nameImages_touches (x0 : List Trick) (x1 : State) : Moves [.decks] x1 (nameImages x0 x1).2 := by
  fun_induction nameImages x0 x1 <;>
  (try dsimp only) <;>
  repeat' (first
    | with_reducible exact Moves.refl _ _
    | with_reducible assumption
    | (with_reducible apply Moves.step (State.onDeck_touches ..); decide +kernel)
    | (fail_if_no_progress with_reducible refine Moves.upd_decks (by decide +kernel) ?_)
    | (fail_if_no_progress with_reducible refine Moves.upd (h := ?_))
    | (dsimp only [id])
    | (split)
    | (intro _)
    | (with_reducible refine Moves.trans ?_ (by with_reducible assumption)))

theorem closeRound_touches (td : Nat) (p : Nat) (s : State) : Moves [.sent, .evt, .tables, .decks] s (closeRound td p s) := by
  unfold closeRound
  try dsimp only
  repeat' (first
    | with_reducible exact Moves.refl _ _
    | with_reducible assumption
    | (with_reducible apply Moves.step (State.onDeck_touches ..); decide +kernel)
    | (with_reducible apply Moves.step (State.onTable_touches ..); decide +kernel)
    | (with_reducible apply Moves.step (raise_touches ..); decide +kernel)
    | (with_reducible apply forEach_step)
    | (fail_if_no_progress with_reducible refine Moves.upd_sent (by decide +kernel) ?_)
    | (fail_if_no_progress with_reducible refine Moves.upd_evt (by decide +kernel) ?_)
    | (fail_if_no_progress with_reducible refine Moves.upd_tables (by decide +kernel) ?_)
    | (fail_if_no_progress with_reducible refine Moves.upd_decks (by decide +kernel) ?_)
    | (fail_if_no_progress with_reducible refine Moves.upd (h := ?_))
    | (dsimp only [id])
    | (split)
    | (intro _))

theorem imageChips_touches {d u : Nat} {s t : State} {c : List Nat} (h : imageChips d u s = .ok (c, t)) :
    Moves [.tick, .sent, .evt, .shoe, .mem, .decks] s t := by
  unfold imageChips at h
  dsimp only at h
  split at h
  · cases h
  · injection h with h; injection h with h1 h2; subst h2
    apply Moves.step (State.onDeck_touches ..); decide +kernel
    refine Moves.trans ?_ (forEach_touches ?_ ..)
    · exact (allocate_touches ..).mono (by decide +kernel)
    · intro x a; exact (addRef_touches ..).mono (by decide +kernel)

theorem imageAll_touches {l : List Trick} {s t : State} {ts : List Trick} (h : imageAll l s = .ok (ts, t)) :
    Moves [.tick, .sent, .evt, .shoe, .mem, .decks] s t := by
  induction l generalizing s ts t with
  | nil => simp [imageAll] at h; rw [h.2]; exact Moves.refl _ _
  | cons x l ih =>
    unfold imageAll at h
    split at h
    · cases h
    · split at h
      · cases h
      · injection h with h; injection h with h1 h2; subst h2
        exact (imageChips_touches ‹_›).trans (ih ‹_›)

theorem closeHand_touches {td p : Nat} {s t : State} (h : closeHand td p s = .ok t) :
    Moves [.tick, .sent, .evt, .tables, .shoe, .mem, .decks] s t := by
  unfold closeHand at h
  dsimp only at h
  split at h
  · injection h with h; subst h; exact Moves.refl _ _
  · split at h
    · cases h
    · rename_i hs s1 hq
      have key : Moves [.tick, .sent, .evt, .tables, .shoe, .mem, .decks] s s1 := by
        revert hq
        generalize (handSet _ _ _ _ _ _).1 = xs
        generalize hacc : (Except.ok ([], s) : Except PackStop (List Hand × State)) = acc
        have hb : ∀ v a, acc = .ok (v, a) → Moves [.tick, .sent, .evt, .tables, .shoe, .mem, .decks] s a := by
          intro v a e; rw [← hacc] at e; cases e; exact Moves.refl _ _
        clear hacc
        induction xs generalizing acc with
        | nil => intro e; exact hb _ _ e
        | cons x xs ih =>
          rw [List.foldl_cons]
          refine ih _ ?_
          intro v a e
          split at e
          · cases e
          · split at e
            · cases e
            · cases e
              apply Moves.step (nameImages_touches ..); decide +kernel
              apply Moves.step (imageAll_touches (by assumption)); decide +kernel
              exact hb _ _ rfl
      split at h <;> (injection h with h; subst h)
      · apply Moves.step (closeRound_touches ..); decide +kernel
        apply Moves.step (State.onTable_touches ..); decide +kernel
        exact key
      · apply Moves.step (State.onTable_touches ..); decide +kernel
        exact key

theorem openImage_touches {td : Nat} {p : Nat} {s : State} {t : State} (h : openImage td p s = .ok t) : Moves [.tick, .sent, .evt, .tables, .shoe, .mem, .decks] s t := by
  unfold openImage at h
  try dsimp only at h
  all_goals repeat' (first
    | (injection h with h; subst h)
    | (cases h; done)
    | (rw [Option.map_eq_some_iff] at h; obtain ⟨_, _, h⟩ := h; subst h)
    | split at h)
  all_goals repeat' (first
    | with_reducible exact Moves.refl _ _
    | with_reducible assumption
    | (with_reducible apply Moves.step (imageChips_touches (by assumption)); decide +kernel)
    | (with_reducible apply Moves.step (State.onTable_touches ..); decide +kernel)
    | (fail_if_no_progress with_reducible refine Moves.upd_tick (by decide +kernel) ?_)
    | (fail_if_no_progress with_reducible refine Moves.upd_sent (by decide +kernel) ?_)
    | (fail_if_no_progress with_reducible refine Moves.upd_evt (by decide +kernel) ?_)
    | (fail_if_no_progress with_reducible refine Moves.upd_tables (by decide +kernel) ?_)
    | (fail_if_no_progress with_reducible refine Moves.upd_decks (by decide +kernel) ?_)
    | (fail_if_no_progress with_reducible refine Moves.upd_shoe (by decide +kernel) rfl ?_)
    | (fail_if_no_progress with_reducible refine Moves.upd (h := ?_))
    | (dsimp only [id])
    | (split)
    | (intro _))

theorem closeTrick_touches {td : Nat} {p : Nat} {s0 : State} {t : State} (h : closeTrick td p s0 = .ok t) : Moves [.tick, .sent, .evt, .tables, .shoe, .mem, .decks] s0 t := by
  unfold closeTrick at h
  try dsimp only at h
  all_goals repeat' (first
    | (injection h with h; subst h)
    | (cases h; done)
    | (rw [Option.map_eq_some_iff] at h; obtain ⟨_, _, h⟩ := h; subst h)
    | split at h)
  all_goals repeat' (first
    | with_reducible exact Moves.refl _ _
    | with_reducible assumption
    | (with_reducible apply Moves.step (nameImages_touches ..); decide +kernel)
    | (rename_i hq; with_reducible refine Moves.of_eq (by first | exact congrArg Prod.snd hq | exact congrArg (fun x => x.2.2) hq) (nameImages_touches ..) (by decide +kernel) ?_)
    | (with_reducible apply Moves.step (closeHand_touches (by assumption)); decide +kernel)
    | (with_reducible apply Moves.step (openImage_touches (by assumption)); decide +kernel)
    | (with_reducible apply Moves.step (setGuarantee_touches ..); decide +kernel)
    | (with_reducible apply Moves.step (State.onTable_touches ..); decide +kernel)
    | (fail_if_no_progress with_reducible refine Moves.upd_tick (by decide +kernel) ?_)
    | (fail_if_no_progress with_reducible refine Moves.upd_sent (by decide +kernel) ?_)
    | (fail_if_no_progress with_reducible refine Moves.upd_evt (by decide +kernel) ?_)
    | (fail_if_no_progress with_reducible refine Moves.upd_tables (by decide +kernel) ?_)
    | (fail_if_no_progress with_reducible refine Moves.upd_decks (by decide +kernel) ?_)
    | (fail_if_no_progress with_reducible refine Moves.upd_shoe (by decide +kernel) rfl ?_)
    | (fail_if_no_progress with_reducible refine Moves.upd (h := ?_))
    | (dsimp only [id])
    | (split)
    | (intro _))

theorem roomFor_touches {td : Nat} {p : Nat} {need : ℤ} {s : State} {t : State} (h : roomFor td p need s = .ok t) : Moves [.tick, .sent, .evt, .tables, .shoe, .mem, .decks] s t := by
  unfold roomFor at h
  try dsimp only at h
  all_goals repeat' (first
    | (injection h with h; subst h)
    | (cases h; done)
    | (rw [Option.map_eq_some_iff] at h; obtain ⟨_, _, h⟩ := h; subst h)
    | split at h)
  all_goals repeat' (first
    | with_reducible exact Moves.refl _ _
    | with_reducible assumption
    | (with_reducible apply Moves.step (closeTrick_touches (by assumption)); decide +kernel)
    | (fail_if_no_progress with_reducible refine Moves.upd_tick (by decide +kernel) ?_)
    | (fail_if_no_progress with_reducible refine Moves.upd_sent (by decide +kernel) ?_)
    | (fail_if_no_progress with_reducible refine Moves.upd_evt (by decide +kernel) ?_)
    | (fail_if_no_progress with_reducible refine Moves.upd_tables (by decide +kernel) ?_)
    | (fail_if_no_progress with_reducible refine Moves.upd_decks (by decide +kernel) ?_)
    | (fail_if_no_progress with_reducible refine Moves.upd_shoe (by decide +kernel) rfl ?_)
    | (fail_if_no_progress with_reducible refine Moves.upd (h := ?_))
    | (dsimp only [id])
    | (split)
    | (intro _))

theorem putBack_touches (td : Nat) (p : Nat) (i : Item) (s : State) : Moves [.tables] s (putBack td p i s) := by
  unfold putBack
  try dsimp only
  repeat' (first
    | with_reducible exact Moves.refl _ _
    | with_reducible assumption
    | (with_reducible apply Moves.step (State.onTable_touches ..); decide +kernel)
    | (fail_if_no_progress with_reducible refine Moves.upd_tables (by decide +kernel) ?_)
    | (fail_if_no_progress with_reducible refine Moves.upd (h := ?_))
    | (dsimp only [id])
    | (split)
    | (intro _))

theorem usesFormat_touches (ctx : Nat) (tasks : List Nat) (epoch : Nat) (s : State) : Moves [.ctx] s (usesFormat ctx tasks epoch s) := by
  unfold usesFormat
  try dsimp only
  repeat' (first
    | with_reducible exact Moves.refl _ _
    | with_reducible assumption
    | (with_reducible apply Moves.step (State.onTask_touches ..); decide +kernel)
    | (with_reducible apply forEach_step)
    | (fail_if_no_progress with_reducible refine Moves.upd_ctx (by decide +kernel) ?_)
    | (fail_if_no_progress with_reducible refine Moves.upd (h := ?_))
    | (dsimp only [id])
    | (split)
    | (intro _))

theorem emitEntry_touches {td : Nat} {p : Nat} {e : Entry} {s : State} {t : State} (h : emitEntry td p e s = .ok t) : Moves [.tick, .sent, .evt, .ctx, .tables, .shoe, .mem, .decks] s t := by
  unfold emitEntry at h
  try dsimp only at h
  all_goals repeat' (first
    | (injection h with h; subst h)
    | (cases h; done)
    | (rw [Option.map_eq_some_iff] at h; obtain ⟨_, _, h⟩ := h; subst h)
    | split at h)
  all_goals repeat' (first
    | with_reducible exact Moves.refl _ _
    | with_reducible assumption
    | (with_reducible apply Moves.step (usesFormat_touches ..); decide +kernel)
    | (with_reducible apply Moves.step (openImage_touches (by assumption)); decide +kernel)
    | (with_reducible apply Moves.step (State.onTable_touches ..); decide +kernel)
    | (fail_if_no_progress with_reducible refine Moves.upd_tick (by decide +kernel) ?_)
    | (fail_if_no_progress with_reducible refine Moves.upd_sent (by decide +kernel) ?_)
    | (fail_if_no_progress with_reducible refine Moves.upd_evt (by decide +kernel) ?_)
    | (fail_if_no_progress with_reducible refine Moves.upd_ctx (by decide +kernel) ?_)
    | (fail_if_no_progress with_reducible refine Moves.upd_tables (by decide +kernel) ?_)
    | (fail_if_no_progress with_reducible refine Moves.upd_decks (by decide +kernel) ?_)
    | (fail_if_no_progress with_reducible refine Moves.upd_shoe (by decide +kernel) rfl ?_)
    | (fail_if_no_progress with_reducible refine Moves.upd (h := ?_))
    | (dsimp only [id])
    | (split)
    | (intro _))

theorem freeBlock_touches (b : Sealed) (s : State) : Moves [.regs, .sent, .evt, .shoe] s (freeBlock b s) := by
  unfold freeBlock
  try dsimp only
  repeat' (first
    | with_reducible exact Moves.refl _ _
    | with_reducible assumption
    | (with_reducible apply Moves.step (freeList_touches ..); decide +kernel)
    | (fail_if_no_progress with_reducible refine Moves.upd_regs (by decide +kernel) ?_)
    | (fail_if_no_progress with_reducible refine Moves.upd_sent (by decide +kernel) ?_)
    | (fail_if_no_progress with_reducible refine Moves.upd_evt (by decide +kernel) ?_)
    | (fail_if_no_progress with_reducible refine Moves.upd_shoe (by decide +kernel) rfl ?_)
    | (fail_if_no_progress with_reducible refine Moves.upd (h := ?_))
    | (dsimp only [id])
    | (split)
    | (intro _))

theorem packBlock_touches {td : Nat} {p : Nat} {b : Sealed} {x3 : Nat} {x4 : Nat} {x5 : State} {t : State} (h : packBlock td p b x3 x4 x5 = .ok t) : Moves [.tick, .regs, .sent, .evt, .ctx, .tables, .shoe, .mem, .decks] x5 t := by
  fun_induction packBlock td p b x3 x4 x5 <;> (try dsimp only at h)
  all_goals repeat' (first
    | (injection h with h; subst h)
    | (cases h; done)
    | (rw [Option.map_eq_some_iff] at h; obtain ⟨_, _, h⟩ := h; subst h)
    | split at h)
  all_goals repeat' (first
    | with_reducible exact Moves.refl _ _
    | with_reducible assumption
    | (with_reducible apply Moves.step (roomFor_touches (by assumption)); decide +kernel)
    | (with_reducible apply Moves.step (putBack_touches ..); decide +kernel)
    | (with_reducible apply Moves.step (emitEntry_touches (by assumption)); decide +kernel)
    | (with_reducible apply Moves.step (freeBlock_touches ..); decide +kernel)
    | (fail_if_no_progress with_reducible refine Moves.upd_tick (by decide +kernel) ?_)
    | (fail_if_no_progress with_reducible refine Moves.upd_regs (by decide +kernel) ?_)
    | (fail_if_no_progress with_reducible refine Moves.upd_sent (by decide +kernel) ?_)
    | (fail_if_no_progress with_reducible refine Moves.upd_evt (by decide +kernel) ?_)
    | (fail_if_no_progress with_reducible refine Moves.upd_ctx (by decide +kernel) ?_)
    | (fail_if_no_progress with_reducible refine Moves.upd_tables (by decide +kernel) ?_)
    | (fail_if_no_progress with_reducible refine Moves.upd_decks (by decide +kernel) ?_)
    | (fail_if_no_progress with_reducible refine Moves.upd_shoe (by decide +kernel) rfl ?_)
    | (fail_if_no_progress with_reducible refine Moves.upd (h := ?_))
    | (dsimp only [id])
    | (split)
    | (intro _)
    | (with_reducible refine Moves.trans ?_ ((by assumption : packBlock _ _ _ _ _ _ = .ok t → Moves _ _ t) (by assumption))))

theorem endTurn_touches (td : Nat) (p : Nat) (s : State) : Moves [.tables] s (endTurn td p s) := by
  unfold endTurn
  try dsimp only
  repeat' (first
    | with_reducible exact Moves.refl _ _
    | with_reducible assumption
    | (with_reducible apply Moves.step (State.onTable_touches ..); decide +kernel)
    | (fail_if_no_progress with_reducible refine Moves.upd_tables (by decide +kernel) ?_)
    | (fail_if_no_progress with_reducible refine Moves.upd (h := ?_))
    | (dsimp only [id])
    | (split)
    | (intro _))

theorem closeAll_touches {td p : Nat} {s t : State} (h : closeAll td p s = .ok t) :
    Moves [.tick, .sent, .evt, .tables, .shoe, .mem, .decks] s t := by
  unfold closeAll at h
  dsimp only at h
  split at h
  · cases h
  · rename_i s1 hq
    have k1 : Moves [.tick, .sent, .evt, .tables, .shoe, .mem, .decks] s s1 := by
      split at hq
      · injection hq with hq; subst hq; exact Moves.refl _ _
      · exact (closeTrick_touches hq).mono (by decide +kernel)
    split at h
    · cases h
    · injection h with h; subst h
      apply Moves.step (closeRound_touches ..); decide +kernel
      apply Moves.step (closeHand_touches (by assumption)); decide +kernel
      exact k1

theorem reachSync_touches {td : Nat} {p : Nat} {n : Nat} {q : Nat} {s : State} {t : State} (h : reachSync td p n q s = .ok t) : Moves [.tick, .sent, .evt, .ctx, .tables, .shoe, .mem, .decks] s t := by
  unfold reachSync at h
  try dsimp only at h
  all_goals repeat' (first
    | (injection h with h; subst h)
    | (cases h; done)
    | (rw [Option.map_eq_some_iff] at h; obtain ⟨_, _, h⟩ := h; subst h)
    | split at h)
  all_goals repeat' (first
    | with_reducible exact Moves.refl _ _
    | with_reducible assumption
    | (with_reducible apply Moves.step (State.onTask_touches ..); decide +kernel)
    | (with_reducible apply Moves.step (closeAll_touches (by assumption)); decide +kernel)
    | (with_reducible apply Moves.step (finish_touches ..); decide +kernel)
    | (fail_if_no_progress with_reducible refine Moves.upd_tick (by decide +kernel) ?_)
    | (fail_if_no_progress with_reducible refine Moves.upd_sent (by decide +kernel) ?_)
    | (fail_if_no_progress with_reducible refine Moves.upd_evt (by decide +kernel) ?_)
    | (fail_if_no_progress with_reducible refine Moves.upd_ctx (by decide +kernel) ?_)
    | (fail_if_no_progress with_reducible refine Moves.upd_tables (by decide +kernel) ?_)
    | (fail_if_no_progress with_reducible refine Moves.upd_decks (by decide +kernel) ?_)
    | (fail_if_no_progress with_reducible refine Moves.upd_shoe (by decide +kernel) rfl ?_)
    | (fail_if_no_progress with_reducible refine Moves.upd (h := ?_))
    | (dsimp only [id])
    | (split)
    | (intro _))

theorem seatItem_touches {td : Nat} {p : Nat} {i : Item} {rest : List Item} {s : State} {t : State} (h : seatItem td p i rest s = .ok t) : Moves [.tick, .regs, .sent, .evt, .ctx, .tables, .shoe, .mem, .decks] s t := by
  unfold seatItem at h
  try dsimp only at h
  all_goals repeat' (first
    | (injection h with h; subst h)
    | (cases h; done)
    | (rw [Option.map_eq_some_iff] at h; obtain ⟨_, _, h⟩ := h; subst h)
    | split at h)
  all_goals repeat' (first
    | with_reducible exact Moves.refl _ _
    | with_reducible assumption
    | (with_reducible apply Moves.step (State.putTable_touches ..); decide +kernel)
    | (with_reducible apply Moves.step (emitEntry_touches (by assumption)); decide +kernel)
    | (with_reducible apply Moves.step (endTurn_touches ..); decide +kernel)
    | (with_reducible apply Moves.step (reachSync_touches (by assumption)); decide +kernel)
    | (with_reducible apply Moves.step (freeBlock_touches ..); decide +kernel)
    | (with_reducible apply Moves.step (State.onTable_touches ..); decide +kernel)
    | (fail_if_no_progress with_reducible refine Moves.upd_tick (by decide +kernel) ?_)
    | (fail_if_no_progress with_reducible refine Moves.upd_regs (by decide +kernel) ?_)
    | (fail_if_no_progress with_reducible refine Moves.upd_sent (by decide +kernel) ?_)
    | (fail_if_no_progress with_reducible refine Moves.upd_evt (by decide +kernel) ?_)
    | (fail_if_no_progress with_reducible refine Moves.upd_ctx (by decide +kernel) ?_)
    | (fail_if_no_progress with_reducible refine Moves.upd_tables (by decide +kernel) ?_)
    | (fail_if_no_progress with_reducible refine Moves.upd_decks (by decide +kernel) ?_)
    | (fail_if_no_progress with_reducible refine Moves.upd_shoe (by decide +kernel) rfl ?_)
    | (fail_if_no_progress with_reducible refine Moves.upd (h := ?_))
    | (dsimp only [id])
    | (split)
    | (intro _))

theorem seatTurn_touches {td : Nat} {p : Nat} {s : State} {t : State} (h : seatTurn td p s = .ok t) : Moves [.tick, .regs, .sent, .evt, .ctx, .tables, .shoe, .mem, .decks] s t := by
  unfold seatTurn at h
  try dsimp only at h
  all_goals repeat' (first
    | (injection h with h; subst h)
    | (cases h; done)
    | (rw [Option.map_eq_some_iff] at h; obtain ⟨_, _, h⟩ := h; subst h)
    | split at h)
  all_goals repeat' (first
    | with_reducible exact Moves.refl _ _
    | with_reducible assumption
    | (with_reducible apply Moves.step (State.putTable_touches ..); decide +kernel)
    | (with_reducible apply Moves.step (closeTrick_touches (by assumption)); decide +kernel)
    | (with_reducible apply Moves.step (seatItem_touches (by assumption)); decide +kernel)
    | (with_reducible apply Moves.step (endTurn_touches ..); decide +kernel)
    | (with_reducible apply Moves.step (State.onTable_touches ..); decide +kernel)
    | (fail_if_no_progress with_reducible refine Moves.upd_tick (by decide +kernel) ?_)
    | (fail_if_no_progress with_reducible refine Moves.upd_regs (by decide +kernel) ?_)
    | (fail_if_no_progress with_reducible refine Moves.upd_sent (by decide +kernel) ?_)
    | (fail_if_no_progress with_reducible refine Moves.upd_evt (by decide +kernel) ?_)
    | (fail_if_no_progress with_reducible refine Moves.upd_ctx (by decide +kernel) ?_)
    | (fail_if_no_progress with_reducible refine Moves.upd_tables (by decide +kernel) ?_)
    | (fail_if_no_progress with_reducible refine Moves.upd_decks (by decide +kernel) ?_)
    | (fail_if_no_progress with_reducible refine Moves.upd_shoe (by decide +kernel) rfl ?_)
    | (fail_if_no_progress with_reducible refine Moves.upd (h := ?_))
    | (dsimp only [id])
    | (split)
    | (intro _))

theorem discardData_touches (n : Nat) (s : State) : Moves [.regs, .sent, .evt, .ctx, .tables, .cut, .keys, .lnk] s (discardData n s) := by
  unfold discardData
  try dsimp only
  repeat' (first
    | with_reducible exact Moves.refl _ _
    | with_reducible assumption
    | (with_reducible apply Moves.step (discardUnsealed_touches ..); decide +kernel)
    | (with_reducible apply Moves.step (State.onCtx_touches ..); decide +kernel)
    | (with_reducible apply Moves.step (advanceInput_touches ..); decide +kernel)
    | (fail_if_no_progress with_reducible refine Moves.upd_regs (by decide +kernel) ?_)
    | (fail_if_no_progress with_reducible refine Moves.upd_sent (by decide +kernel) ?_)
    | (fail_if_no_progress with_reducible refine Moves.upd_evt (by decide +kernel) ?_)
    | (fail_if_no_progress with_reducible refine Moves.upd_ctx (by decide +kernel) ?_)
    | (fail_if_no_progress with_reducible refine Moves.upd_tables (by decide +kernel) ?_)
    | (fail_if_no_progress with_reducible refine Moves.upd_cut (by decide +kernel) ?_)
    | (fail_if_no_progress with_reducible refine Moves.upd_keys (by decide +kernel) ?_)
    | (fail_if_no_progress with_reducible refine Moves.upd_lnk (by decide +kernel) ?_)
    | (fail_if_no_progress with_reducible refine Moves.upd (h := ?_))
    | (dsimp only [id])
    | (split)
    | (intro _))

theorem freeImage_touches (t : Trick) (s : State) : Moves [.regs, .sent, .evt, .shoe] s (freeImage t s) := by
  unfold freeImage
  try dsimp only
  repeat' (first
    | with_reducible exact Moves.refl _ _
    | with_reducible assumption
    | (with_reducible apply Moves.step (freeList_touches ..); decide +kernel)
    | (fail_if_no_progress with_reducible refine Moves.upd_regs (by decide +kernel) ?_)
    | (fail_if_no_progress with_reducible refine Moves.upd_sent (by decide +kernel) ?_)
    | (fail_if_no_progress with_reducible refine Moves.upd_evt (by decide +kernel) ?_)
    | (fail_if_no_progress with_reducible refine Moves.upd_shoe (by decide +kernel) rfl ?_)
    | (fail_if_no_progress with_reducible refine Moves.upd (h := ?_))
    | (dsimp only [id])
    | (split)
    | (intro _))

theorem nextSeat_touches {td : Nat} {p : Nat} {x2 : Nat} {x3 : State} {t : State} (h : nextSeat td p x2 x3 = .ok t) : Moves [.tick, .sent, .evt, .tables, .shoe, .mem, .decks] x3 t := by
  fun_induction nextSeat td p x2 x3 <;> (try dsimp only at h)
  all_goals repeat' (first
    | (injection h with h; subst h)
    | (cases h; done)
    | (rw [Option.map_eq_some_iff] at h; obtain ⟨_, _, h⟩ := h; subst h)
    | split at h)
  all_goals repeat' (first
    | with_reducible exact Moves.refl _ _
    | with_reducible assumption
    | (with_reducible apply Moves.step (closeTrick_touches (by assumption)); decide +kernel)
    | (with_reducible apply Moves.step (State.onTable_touches ..); decide +kernel)
    | (fail_if_no_progress with_reducible refine Moves.upd_tick (by decide +kernel) ?_)
    | (fail_if_no_progress with_reducible refine Moves.upd_sent (by decide +kernel) ?_)
    | (fail_if_no_progress with_reducible refine Moves.upd_evt (by decide +kernel) ?_)
    | (fail_if_no_progress with_reducible refine Moves.upd_tables (by decide +kernel) ?_)
    | (fail_if_no_progress with_reducible refine Moves.upd_decks (by decide +kernel) ?_)
    | (fail_if_no_progress with_reducible refine Moves.upd_shoe (by decide +kernel) rfl ?_)
    | (fail_if_no_progress with_reducible refine Moves.upd (h := ?_))
    | (dsimp only [id])
    | (split)
    | (intro _)
    | (with_reducible refine Moves.trans ?_ ((by assumption : nextSeat _ _ _ _ = .ok t → Moves _ _ t) (by assumption))))

theorem endOfPartition_touches (n : Nat) (objects : Nat) (s : State) : Moves [.ctx, .lnk] s (endOfPartition n objects s) := by
  unfold endOfPartition
  try dsimp only
  repeat' (first
    | with_reducible exact Moves.refl _ _
    | with_reducible assumption
    | (with_reducible apply Moves.step (finish_touches ..); decide +kernel)
    | (with_reducible apply Moves.step (dropReads_touches ..); decide +kernel)
    | (with_reducible apply forEach_step)
    | (fail_if_no_progress with_reducible refine Moves.upd_ctx (by decide +kernel) ?_)
    | (fail_if_no_progress with_reducible refine Moves.upd_lnk (by decide +kernel) ?_)
    | (fail_if_no_progress with_reducible refine Moves.upd (h := ?_))
    | (dsimp only [id])
    | (split)
    | (intro _))

theorem refuseEndZone_touches (td : Nat) (p : Nat) (s : State) : Moves [.regs, .sent, .evt, .ctx, .tables, .cut, .keys, .shoe, .lnk] s (refuseEndZone td p s) := by
  unfold refuseEndZone
  try dsimp only
  repeat' (first
    | with_reducible exact Moves.refl _ _
    | with_reducible assumption
    | (with_reducible apply Moves.step (State.putTable_touches ..); decide +kernel)
    | (with_reducible apply Moves.step (freeList_touches ..); decide +kernel)
    | (with_reducible apply Moves.step (discardData_touches ..); decide +kernel)
    | (with_reducible apply Moves.step (setPosition_touches ..); decide +kernel)
    | (with_reducible apply Moves.step (endOfPartition_touches ..); decide +kernel)
    | (with_reducible apply Moves.step (deferError_touches ..); decide +kernel)
    | (with_reducible apply forEach_step)
    | (fail_if_no_progress with_reducible refine Moves.upd_regs (by decide +kernel) ?_)
    | (fail_if_no_progress with_reducible refine Moves.upd_sent (by decide +kernel) ?_)
    | (fail_if_no_progress with_reducible refine Moves.upd_evt (by decide +kernel) ?_)
    | (fail_if_no_progress with_reducible refine Moves.upd_ctx (by decide +kernel) ?_)
    | (fail_if_no_progress with_reducible refine Moves.upd_tables (by decide +kernel) ?_)
    | (fail_if_no_progress with_reducible refine Moves.upd_cut (by decide +kernel) ?_)
    | (fail_if_no_progress with_reducible refine Moves.upd_keys (by decide +kernel) ?_)
    | (fail_if_no_progress with_reducible refine Moves.upd_lnk (by decide +kernel) ?_)
    | (fail_if_no_progress with_reducible refine Moves.upd_shoe (by decide +kernel) rfl ?_)
    | (fail_if_no_progress with_reducible refine Moves.upd (h := ?_))
    | (dsimp only [id])
    | (split)
    | (intro _))

theorem settlePack_touches {l : List Part} {td p : Nat} {s : State} {r : Pack} (hsub : [.regs, .sent, .evt, .ctx, .tables, .cut, .keys, .shoe, .lnk] ⊆ l)
    (hr : ∀ t, r = .ok t → Moves l s t) : Moves l s (settlePack td p s r) := by
  unfold settlePack
  split
  · exact hr _ rfl
  · apply Moves.step (waitPool_touches ..); exact List.Subset.trans (by decide +kernel) hsub
    split
    · exact (allocFailed_touches ..).mono (List.Subset.trans (by decide +kernel) hsub)
    · exact Moves.refl _ _
  · exact (refuseEndZone_touches ..).mono (List.Subset.trans (by decide +kernel) hsub)
theorem settlePack_step {l : List Part} {td p : Nat} {s0 s : State} {r : Pack}
    (hsub : [.regs, .sent, .evt, .ctx, .tables, .cut, .keys, .shoe, .lnk] ⊆ l)
    (hr : ∀ t, r = .ok t → Moves l s0 t) (h : Moves l s0 s) : Moves l s0 (settlePack td p s r) := by
  unfold settlePack
  split
  · exact hr _ rfl
  · apply Moves.step (waitPool_touches ..); exact List.Subset.trans (by decide +kernel) hsub
    split
    · exact h.trans ((allocFailed_touches ..).mono (List.Subset.trans (by decide +kernel) hsub))
    · exact h
  · exact h.trans ((refuseEndZone_touches ..).mono (List.Subset.trans (by decide +kernel) hsub))

theorem packItemOf_touches {td : Nat} {p : Nat} {i : Item} {s : State} {t : State} (h : packItemOf td p i s = .ok t) : Moves [.tick, .regs, .sent, .evt, .ctx, .tables, .shoe, .mem, .decks] s t := by
  unfold packItemOf at h
  try dsimp only at h
  all_goals repeat' (first
    | (injection h with h; subst h)
    | (cases h; done)
    | (rw [Option.map_eq_some_iff] at h; obtain ⟨_, _, h⟩ := h; subst h)
    | split at h)
  all_goals repeat' (first
    | with_reducible exact Moves.refl _ _
    | with_reducible assumption
    | (with_reducible apply Moves.step (roomFor_touches (by assumption)); decide +kernel)
    | (with_reducible apply Moves.step (packBlock_touches (by assumption)); decide +kernel)
    | (with_reducible apply Moves.step (putBack_touches ..); decide +kernel)
    | (with_reducible apply Moves.step (emitEntry_touches (by assumption)); decide +kernel)
    | (with_reducible apply Moves.step (reachSync_touches (by assumption)); decide +kernel)
    | (fail_if_no_progress with_reducible refine Moves.upd_tick (by decide +kernel) ?_)
    | (fail_if_no_progress with_reducible refine Moves.upd_regs (by decide +kernel) ?_)
    | (fail_if_no_progress with_reducible refine Moves.upd_sent (by decide +kernel) ?_)
    | (fail_if_no_progress with_reducible refine Moves.upd_evt (by decide +kernel) ?_)
    | (fail_if_no_progress with_reducible refine Moves.upd_ctx (by decide +kernel) ?_)
    | (fail_if_no_progress with_reducible refine Moves.upd_tables (by decide +kernel) ?_)
    | (fail_if_no_progress with_reducible refine Moves.upd_decks (by decide +kernel) ?_)
    | (fail_if_no_progress with_reducible refine Moves.upd_shoe (by decide +kernel) rfl ?_)
    | (fail_if_no_progress with_reducible refine Moves.upd (h := ?_))
    | (dsimp only [id])
    | (split)
    | (intro _))

theorem opPackItem_touches (td p : Nat) (s : State) : Moves [.tick, .regs, .sent, .evt, .ctx, .tables, .cut, .keys, .shoe, .mem, .decks, .lnk] s (opPackItem td p s) := by
  unfold opPackItem
  dsimp only
  split
  · split
    · exact Moves.refl _ _
    · refine settlePack_touches (by decide +kernel) fun t h => ?_
      exact Moves.trans ((State.putTable_touches ..).mono (by decide +kernel)) ((packItemOf_touches h).mono (by decide +kernel))
  · exact Moves.refl _ _

theorem vacate_touches (td : Nat) (p : Nat) (s : State) : Moves [.tables] s (vacate td p s) := by
  unfold vacate
  try dsimp only
  repeat' (first
    | with_reducible exact Moves.refl _ _
    | with_reducible assumption
    | (with_reducible apply Moves.step (State.onTable_touches ..); decide +kernel)
    | (fail_if_no_progress with_reducible refine Moves.upd_tables (by decide +kernel) ?_)
    | (fail_if_no_progress with_reducible refine Moves.upd (h := ?_))
    | (dsimp only [id])
    | (split)
    | (intro _))

theorem opFixedSeatTurn_touches (td p : Nat) (s : State) : Moves [.tick, .regs, .sent, .evt, .ctx, .tables, .cut, .keys, .shoe, .mem, .decks, .lnk] s (opFixedSeatTurn td p s) := by
  unfold opFixedSeatTurn
  dsimp only
  split
  · refine settlePack_touches (by decide +kernel) fun t h => ?_
    have k0 : Moves [.tick, .regs, .sent, .evt, .ctx, .tables, .cut, .keys, .shoe, .mem, .decks, .lnk] s (if (s.tableAt td p).inTurn then s else s.putTable td p (beginTurn (s.tableAt td p) 0)) := by
      split
      · exact Moves.refl _ _
      · exact (State.putTable_touches ..).mono (by decide +kernel)
    refine k0.trans ?_
    revert h
    generalize (if (s.tableAt td p).inTurn then s else s.putTable td p (beginTurn (s.tableAt td p) 0)) = s0
    intro h
    rcases h1 : nextSeat td p ((s.tableAt td p).plan.length + 2) s0 with e | s1 <;> rw [h1] at h
    · cases h
    · dsimp only at h
      refine Moves.trans ((nextSeat_touches h1).mono (by decide +kernel)) ?_
      split at h
      · cases h; exact Moves.refl _ _
      · rcases h2 : seatTurn td p s1 with e | s2 <;> rw [h2] at h
        · cases h
        · dsimp only at h
          refine Moves.trans ((seatTurn_touches h2).mono (by decide +kernel)) ?_
          refine Moves.trans ((vacate_touches td p s2).mono (by decide +kernel)) ?_
          split at h
          · cases h; exact Moves.refl _ _
          · exact (nextSeat_touches h).mono (by decide +kernel)
  · exact Moves.refl _ _

theorem opSeatAlert_touches (td : Nat) (p : Nat) (s : State) : Moves [.sent, .evt, .tables] s (opSeatAlert td p s) := by
  unfold opSeatAlert
  try dsimp only
  repeat' (first
    | with_reducible exact Moves.refl _ _
    | with_reducible assumption
    | (with_reducible apply Moves.step (State.putTable_touches ..); decide +kernel)
    | (with_reducible apply Moves.step (raise_touches ..); decide +kernel)
    | (fail_if_no_progress with_reducible refine Moves.upd_sent (by decide +kernel) ?_)
    | (fail_if_no_progress with_reducible refine Moves.upd_evt (by decide +kernel) ?_)
    | (fail_if_no_progress with_reducible refine Moves.upd_tables (by decide +kernel) ?_)
    | (fail_if_no_progress with_reducible refine Moves.upd (h := ?_))
    | (dsimp only [id])
    | (split)
    | (intro _))

theorem beginTask_touches {l : List Part} (hsub : [.ctx] ⊆ l) {f : Task → State → State} (hf : ∀ x1 a, Moves l a (f x1 a)) (op : Nat) (n : Nat) (s : State) : Moves l s (beginTask op n f s) := by
  unfold beginTask
  try dsimp only
  repeat' (first
    | (with_reducible apply Moves.trans ?_ (hf ..))
    | with_reducible exact Moves.refl _ _
    | with_reducible assumption
    | (with_reducible apply Moves.step (finish_touches ..); exact List.Subset.trans (by decide +kernel) hsub)
    | (dsimp only [id])
    | (split)
    | (intro _)
    | (fail_if_no_progress with_reducible refine Moves.upd_ctx (Part.mem_of_sub hsub (by decide +kernel)) ?_)
    | (fail_if_no_progress with_reducible refine Moves.upd (h := ?_)))

theorem beginTask_step {l : List Part} (hsub : [.ctx] ⊆ l) {f : Task → State → State} (hf : ∀ x1 a, Moves l a (f x1 a)) {op : Nat} {n : Nat} {s a : State} (h : Moves l s a) : Moves l s (beginTask op n f a) :=
  h.trans (beginTask_touches hsub hf ..)

theorem opFetchResume_touches (n : Nat) (s : State) : Moves [.sent, .ctx, .lnk] s (opFetchResume n s) := by
  unfold opFetchResume
  try dsimp only
  repeat' (first
    | with_reducible exact Moves.refl _ _
    | with_reducible assumption
    | (with_reducible apply Moves.step (fetchNext_touches ..); decide +kernel)
    | (with_reducible apply Moves.step (State.onCtx_touches ..); decide +kernel)
    | (with_reducible apply forEach_step)
    | (fail_if_no_progress with_reducible refine Moves.upd_sent (by decide +kernel) ?_)
    | (fail_if_no_progress with_reducible refine Moves.upd_ctx (by decide +kernel) ?_)
    | (fail_if_no_progress with_reducible refine Moves.upd_lnk (by decide +kernel) ?_)
    | (fail_if_no_progress with_reducible refine Moves.upd (h := ?_))
    | (dsimp only [id])
    | (split)
    | (intro _))

theorem makeActive_touches (td : Nat) (p : Nat) (s : State) : Moves [.tables, .decks] s (makeActive td p s) := by
  unfold makeActive
  try dsimp only
  repeat' (first
    | with_reducible exact Moves.refl _ _
    | with_reducible assumption
    | (with_reducible apply Moves.step (State.onDeck_touches ..); decide +kernel)
    | (with_reducible apply Moves.step (State.onTable_touches ..); decide +kernel)
    | (with_reducible apply forEach_step)
    | (fail_if_no_progress with_reducible refine Moves.upd_tables (by decide +kernel) ?_)
    | (fail_if_no_progress with_reducible refine Moves.upd_decks (by decide +kernel) ?_)
    | (fail_if_no_progress with_reducible refine Moves.upd (h := ?_))
    | (dsimp only [id])
    | (split)
    | (intro _))

theorem leaveIdle_touches (s : State) : Moves [.sent, .evt, .pwr] s (leaveIdle s) := by
  unfold leaveIdle
  try dsimp only
  repeat' (first
    | with_reducible exact Moves.refl _ _
    | with_reducible assumption
    | (with_reducible apply Moves.step (raise_touches ..); decide +kernel)
    | (fail_if_no_progress with_reducible refine Moves.upd_sent (by decide +kernel) ?_)
    | (fail_if_no_progress with_reducible refine Moves.upd_evt (by decide +kernel) ?_)
    | (fail_if_no_progress with_reducible refine Moves.upd_pwr (by decide +kernel) ?_)
    | (fail_if_no_progress with_reducible refine Moves.upd (h := ?_))
    | (dsimp only [id])
    | (split)
    | (intro _))

theorem wantTape_touches (d : Nat) (target : Nat × Sys2Proof.Word) (s : State) : Moves [.sent, .evt, .decks, .pwr] s (wantTape d target s) := by
  unfold wantTape
  try dsimp only
  repeat' (first
    | with_reducible exact Moves.refl _ _
    | with_reducible assumption
    | (with_reducible apply Moves.step (leaveIdle_touches ..); decide +kernel)
    | (with_reducible apply Moves.step (State.putDeck_touches ..); decide +kernel)
    | (fail_if_no_progress with_reducible refine Moves.upd_sent (by decide +kernel) ?_)
    | (fail_if_no_progress with_reducible refine Moves.upd_evt (by decide +kernel) ?_)
    | (fail_if_no_progress with_reducible refine Moves.upd_decks (by decide +kernel) ?_)
    | (fail_if_no_progress with_reducible refine Moves.upd_pwr (by decide +kernel) ?_)
    | (fail_if_no_progress with_reducible refine Moves.upd (h := ?_))
    | (dsimp only [id])
    | (split)
    | (intro _))

theorem wantPartition_touches (td : Nat) (p : Nat) (s : State) : Moves [.sent, .evt, .decks, .pwr] s (wantPartition td p s) := by
  unfold wantPartition
  try dsimp only
  repeat' (first
    | with_reducible exact Moves.refl _ _
    | with_reducible assumption
    | (with_reducible apply Moves.step (wantTape_touches ..); decide +kernel)
    | (with_reducible apply forEach_step)
    | (fail_if_no_progress with_reducible refine Moves.upd_sent (by decide +kernel) ?_)
    | (fail_if_no_progress with_reducible refine Moves.upd_evt (by decide +kernel) ?_)
    | (fail_if_no_progress with_reducible refine Moves.upd_decks (by decide +kernel) ?_)
    | (fail_if_no_progress with_reducible refine Moves.upd_pwr (by decide +kernel) ?_)
    | (fail_if_no_progress with_reducible refine Moves.upd (h := ?_))
    | (dsimp only [id])
    | (split)
    | (intro _))

theorem enterTable_touches (n : Nat) (s : State) : Moves [.sent, .evt, .tables, .decks, .pwr] s (enterTable n s).2 := by
  unfold enterTable
  try dsimp only
  repeat' (first
    | with_reducible exact Moves.refl _ _
    | with_reducible assumption
    | (with_reducible apply Moves.step (makeActive_touches ..); decide +kernel)
    | (with_reducible apply Moves.step (wantPartition_touches ..); decide +kernel)
    | (with_reducible apply Moves.step (State.onTable_touches ..); decide +kernel)
    | (fail_if_no_progress with_reducible refine Moves.upd_sent (by decide +kernel) ?_)
    | (fail_if_no_progress with_reducible refine Moves.upd_evt (by decide +kernel) ?_)
    | (fail_if_no_progress with_reducible refine Moves.upd_tables (by decide +kernel) ?_)
    | (fail_if_no_progress with_reducible refine Moves.upd_decks (by decide +kernel) ?_)
    | (fail_if_no_progress with_reducible refine Moves.upd_pwr (by decide +kernel) ?_)
    | (fail_if_no_progress with_reducible refine Moves.upd (h := ?_))
    | (dsimp only [id])
    | (split)
    | (intro _))

theorem onTableReady_touches {l : List Part} (hsub : [.sent, .evt, .ctx, .tables, .decks, .pwr] ⊆ l) {f : State → State} (hf : ∀  a, Moves l a (f  a)) (n : Nat) (q : Nat) (s : State) : Moves l s (onTableReady n q f s) := by
  unfold onTableReady
  try dsimp only
  repeat' (first
    | (with_reducible apply Moves.trans ?_ (hf ..))
    | with_reducible exact Moves.refl _ _
    | with_reducible assumption
    | (with_reducible apply Moves.step (State.onTask_touches ..); exact List.Subset.trans (by decide +kernel) hsub)
    | (with_reducible apply Moves.step (enterTable_touches ..); exact List.Subset.trans (by decide +kernel) hsub)
    | (rename_i hq; with_reducible refine Moves.of_eq (by first | exact congrArg Prod.snd hq | exact congrArg (fun x => x.2.2) hq) (enterTable_touches ..) (List.Subset.trans (by decide +kernel) hsub) ?_)
    | (dsimp only [id])
    | (split)
    | (intro _)
    | (fail_if_no_progress with_reducible refine Moves.upd_sent (Part.mem_of_sub hsub (by decide +kernel)) ?_)
    | (fail_if_no_progress with_reducible refine Moves.upd_evt (Part.mem_of_sub hsub (by decide +kernel)) ?_)
    | (fail_if_no_progress with_reducible refine Moves.upd_ctx (Part.mem_of_sub hsub (by decide +kernel)) ?_)
    | (fail_if_no_progress with_reducible refine Moves.upd_tables (Part.mem_of_sub hsub (by decide +kernel)) ?_)
    | (fail_if_no_progress with_reducible refine Moves.upd_decks (Part.mem_of_sub hsub (by decide +kernel)) ?_)
    | (fail_if_no_progress with_reducible refine Moves.upd_pwr (Part.mem_of_sub hsub (by decide +kernel)) ?_)
    | (fail_if_no_progress with_reducible refine Moves.upd (h := ?_)))

theorem onTableReady_step {l : List Part} (hsub : [.sent, .evt, .ctx, .tables, .decks, .pwr] ⊆ l) {f : State → State} (hf : ∀  a, Moves l a (f  a)) {n : Nat} {q : Nat} {s a : State} (h : Moves l s a) : Moves l s (onTableReady n q f a) :=
  h.trans (onTableReady_touches hsub hf ..)

theorem commence_touches (n : Nat) (q : Nat) (s : State) : Moves [.ctx] s (commence n q s) := by
  unfold commence
  try dsimp only
  repeat' (first
    | with_reducible exact Moves.refl _ _
    | with_reducible assumption
    | (with_reducible apply Moves.step (State.onTask_touches ..); decide +kernel)
    | (fail_if_no_progress with_reducible refine Moves.upd_ctx (by decide +kernel) ?_)
    | (fail_if_no_progress with_reducible refine Moves.upd (h := ?_))
    | (dsimp only [id])
    | (split)
    | (intro _))

theorem commenceOpen_touches (n : Nat) (q : Nat) (s : State) : Moves [.ctx] s (commenceOpen n q s) := by
  unfold commenceOpen
  try dsimp only
  repeat' (first
    | with_reducible exact Moves.refl _ _
    | with_reducible assumption
    | (with_reducible apply Moves.step (State.onTask_touches ..); decide +kernel)
    | (fail_if_no_progress with_reducible refine Moves.upd_ctx (by decide +kernel) ?_)
    | (fail_if_no_progress with_reducible refine Moves.upd (h := ?_))
    | (dsimp only [id])
    | (split)
    | (intro _))

theorem unlessRefused_touches {l : List Part} (hsub : [.ctx] ⊆ l) {f : State → State} (hf : ∀  a, Moves l a (f  a)) (n : Nat) (q : Nat) (r : Option Completion) (s : State) : Moves l s (unlessRefused n q r f s) := by
  unfold unlessRefused
  try dsimp only
  repeat' (first
    | (with_reducible apply Moves.trans ?_ (hf ..))
    | with_reducible exact Moves.refl _ _
    | with_reducible assumption
    | (with_reducible apply Moves.step (finish_touches ..); exact List.Subset.trans (by decide +kernel) hsub)
    | (dsimp only [id])
    | (split)
    | (intro _)
    | (fail_if_no_progress with_reducible refine Moves.upd_ctx (Part.mem_of_sub hsub (by decide +kernel)) ?_)
    | (fail_if_no_progress with_reducible refine Moves.upd (h := ?_)))

theorem unlessRefused_step {l : List Part} (hsub : [.ctx] ⊆ l) {f : State → State} (hf : ∀  a, Moves l a (f  a)) {n : Nat} {q : Nat} {r : Option Completion} {s a : State} (h : Moves l s a) : Moves l s (unlessRefused n q r f a) :=
  h.trans (unlessRefused_touches hsub hf ..)

theorem runItem_touches (n : Nat) (op : Nat) (refusals : State → Option Completion) (item : Nat → InItem) (t : Task) (s : State) : Moves [.regs, .sent, .evt, .ctx, .tables, .cut, .keys, .decks, .lnk, .pwr] s (runItem n op refusals item t s) := by
  unfold runItem
  try dsimp only
  repeat' (first
    | with_reducible exact Moves.refl _ _
    | with_reducible assumption
    | (with_reducible apply onTableReady_step; decide +kernel)
    | (with_reducible apply Moves.step (pushInput_touches ..); decide +kernel)
    | (with_reducible apply Moves.step (commence_touches ..); decide +kernel)
    | (with_reducible apply Moves.step (commenceOpen_touches ..); decide +kernel)
    | (with_reducible apply unlessRefused_step; decide +kernel)
    | (fail_if_no_progress with_reducible refine Moves.upd_regs (by decide +kernel) ?_)
    | (fail_if_no_progress with_reducible refine Moves.upd_sent (by decide +kernel) ?_)
    | (fail_if_no_progress with_reducible refine Moves.upd_evt (by decide +kernel) ?_)
    | (fail_if_no_progress with_reducible refine Moves.upd_ctx (by decide +kernel) ?_)
    | (fail_if_no_progress with_reducible refine Moves.upd_tables (by decide +kernel) ?_)
    | (fail_if_no_progress with_reducible refine Moves.upd_cut (by decide +kernel) ?_)
    | (fail_if_no_progress with_reducible refine Moves.upd_keys (by decide +kernel) ?_)
    | (fail_if_no_progress with_reducible refine Moves.upd_decks (by decide +kernel) ?_)
    | (fail_if_no_progress with_reducible refine Moves.upd_lnk (by decide +kernel) ?_)
    | (fail_if_no_progress with_reducible refine Moves.upd_pwr (by decide +kernel) ?_)
    | (fail_if_no_progress with_reducible refine Moves.upd (h := ?_))
    | (dsimp only [id])
    | (split)
    | (intro _))

theorem opPass_touches (n : Nat) (s : State) : Moves [.regs, .sent, .evt, .ctx, .tables, .cut, .keys, .decks, .lnk, .pwr] s (opPass n s) := by
  unfold opPass
  try dsimp only
  repeat' (first
    | with_reducible exact Moves.refl _ _
    | with_reducible assumption
    | (with_reducible apply Moves.step (runItem_touches ..); decide +kernel)
    | (with_reducible apply beginTask_step; decide +kernel)
    | (fail_if_no_progress with_reducible refine Moves.upd_regs (by decide +kernel) ?_)
    | (fail_if_no_progress with_reducible refine Moves.upd_sent (by decide +kernel) ?_)
    | (fail_if_no_progress with_reducible refine Moves.upd_evt (by decide +kernel) ?_)
    | (fail_if_no_progress with_reducible refine Moves.upd_ctx (by decide +kernel) ?_)
    | (fail_if_no_progress with_reducible refine Moves.upd_tables (by decide +kernel) ?_)
    | (fail_if_no_progress with_reducible refine Moves.upd_cut (by decide +kernel) ?_)
    | (fail_if_no_progress with_reducible refine Moves.upd_keys (by decide +kernel) ?_)
    | (fail_if_no_progress with_reducible refine Moves.upd_decks (by decide +kernel) ?_)
    | (fail_if_no_progress with_reducible refine Moves.upd_lnk (by decide +kernel) ?_)
    | (fail_if_no_progress with_reducible refine Moves.upd_pwr (by decide +kernel) ?_)
    | (fail_if_no_progress with_reducible refine Moves.upd (h := ?_))
    | (dsimp only [id])
    | (split)
    | (intro _))

theorem fetchMore_touches (n : Nat) (q : Nat) (s : State) : Moves [.sent, .ctx, .lnk] s (fetchMore n q s) := by
  unfold fetchMore
  try dsimp only
  repeat' (first
    | with_reducible exact Moves.refl _ _
    | with_reducible assumption
    | (with_reducible apply Moves.step (fetchNext_touches ..); decide +kernel)
    | (with_reducible apply Moves.step (State.onCtx_touches ..); decide +kernel)
    | (fail_if_no_progress with_reducible refine Moves.upd_sent (by decide +kernel) ?_)
    | (fail_if_no_progress with_reducible refine Moves.upd_ctx (by decide +kernel) ?_)
    | (fail_if_no_progress with_reducible refine Moves.upd_lnk (by decide +kernel) ?_)
    | (fail_if_no_progress with_reducible refine Moves.upd (h := ?_))
    | (dsimp only [id])
    | (split)
    | (intro _))

theorem opMark_touches (n : Nat) (s : State) : Moves [.regs, .sent, .evt, .ctx, .tables, .cut, .keys, .decks, .lnk, .pwr] s (opMark n s) := by
  unfold opMark
  try dsimp only
  repeat' (first
    | with_reducible exact Moves.refl _ _
    | with_reducible assumption
    | (with_reducible apply Moves.step (runItem_touches ..); decide +kernel)
    | (with_reducible apply beginTask_step; decide +kernel)
    | (fail_if_no_progress with_reducible refine Moves.upd_regs (by decide +kernel) ?_)
    | (fail_if_no_progress with_reducible refine Moves.upd_sent (by decide +kernel) ?_)
    | (fail_if_no_progress with_reducible refine Moves.upd_evt (by decide +kernel) ?_)
    | (fail_if_no_progress with_reducible refine Moves.upd_ctx (by decide +kernel) ?_)
    | (fail_if_no_progress with_reducible refine Moves.upd_tables (by decide +kernel) ?_)
    | (fail_if_no_progress with_reducible refine Moves.upd_cut (by decide +kernel) ?_)
    | (fail_if_no_progress with_reducible refine Moves.upd_keys (by decide +kernel) ?_)
    | (fail_if_no_progress with_reducible refine Moves.upd_decks (by decide +kernel) ?_)
    | (fail_if_no_progress with_reducible refine Moves.upd_lnk (by decide +kernel) ?_)
    | (fail_if_no_progress with_reducible refine Moves.upd_pwr (by decide +kernel) ?_)
    | (fail_if_no_progress with_reducible refine Moves.upd (h := ?_))
    | (dsimp only [id])
    | (split)
    | (intro _))

theorem writeData_touches (n : Nat) (t : Task) (s : State) : Moves [.regs, .sent, .evt, .ctx, .tables, .cut, .keys, .lnk] s (writeData n t s) := by
  unfold writeData
  try dsimp only
  repeat' (first
    | with_reducible exact Moves.refl _ _
    | with_reducible assumption
    | (with_reducible apply Moves.step (State.onTask_touches ..); decide +kernel)
    | (with_reducible apply Moves.step (pushInput_touches ..); decide +kernel)
    | (with_reducible apply Moves.step (fetchMore_touches ..); decide +kernel)
    | (fail_if_no_progress with_reducible refine Moves.upd_regs (by decide +kernel) ?_)
    | (fail_if_no_progress with_reducible refine Moves.upd_sent (by decide +kernel) ?_)
    | (fail_if_no_progress with_reducible refine Moves.upd_evt (by decide +kernel) ?_)
    | (fail_if_no_progress with_reducible refine Moves.upd_ctx (by decide +kernel) ?_)
    | (fail_if_no_progress with_reducible refine Moves.upd_tables (by decide +kernel) ?_)
    | (fail_if_no_progress with_reducible refine Moves.upd_cut (by decide +kernel) ?_)
    | (fail_if_no_progress with_reducible refine Moves.upd_keys (by decide +kernel) ?_)
    | (fail_if_no_progress with_reducible refine Moves.upd_lnk (by decide +kernel) ?_)
    | (fail_if_no_progress with_reducible refine Moves.upd (h := ?_))
    | (dsimp only [id])
    | (split)
    | (intro _))

theorem truncate_touches (n : Nat) (start : Nat) (s : State) : Moves [.regs, .sent, .evt, .tables, .shoe] s (truncate n start s) := by
  unfold truncate
  try dsimp only
  repeat' (first
    | with_reducible exact Moves.refl _ _
    | with_reducible assumption
    | (with_reducible apply Moves.step (freeList_touches ..); decide +kernel)
    | (with_reducible apply Moves.step (setGuarantee_touches ..); decide +kernel)
    | (with_reducible apply Moves.step (State.onTable_touches ..); decide +kernel)
    | (with_reducible apply Moves.step (setPosition_touches ..); decide +kernel)
    | (with_reducible apply forEach_step)
    | (fail_if_no_progress with_reducible refine Moves.upd_regs (by decide +kernel) ?_)
    | (fail_if_no_progress with_reducible refine Moves.upd_sent (by decide +kernel) ?_)
    | (fail_if_no_progress with_reducible refine Moves.upd_evt (by decide +kernel) ?_)
    | (fail_if_no_progress with_reducible refine Moves.upd_tables (by decide +kernel) ?_)
    | (fail_if_no_progress with_reducible refine Moves.upd_shoe (by decide +kernel) rfl ?_)
    | (fail_if_no_progress with_reducible refine Moves.upd (h := ?_))
    | (dsimp only [id])
    | (split)
    | (intro _))

theorem runWrite_touches (n : Nat) (t : Task) (s : State) : Moves [.regs, .sent, .evt, .ctx, .tables, .shoe, .decks, .lnk, .pwr] s (runWrite n t s) := by
  unfold runWrite
  try dsimp only
  repeat' (first
    | with_reducible exact Moves.refl _ _
    | with_reducible assumption
    | (with_reducible apply onTableReady_step; decide +kernel)
    | (with_reducible apply Moves.step (truncate_touches ..); decide +kernel)
    | (with_reducible apply Moves.step (State.onTask_touches ..); decide +kernel)
    | (with_reducible apply Moves.step (fetchMore_touches ..); decide +kernel)
    | (with_reducible apply unlessRefused_step; decide +kernel)
    | (fail_if_no_progress with_reducible refine Moves.upd_regs (by decide +kernel) ?_)
    | (fail_if_no_progress with_reducible refine Moves.upd_sent (by decide +kernel) ?_)
    | (fail_if_no_progress with_reducible refine Moves.upd_evt (by decide +kernel) ?_)
    | (fail_if_no_progress with_reducible refine Moves.upd_ctx (by decide +kernel) ?_)
    | (fail_if_no_progress with_reducible refine Moves.upd_tables (by decide +kernel) ?_)
    | (fail_if_no_progress with_reducible refine Moves.upd_decks (by decide +kernel) ?_)
    | (fail_if_no_progress with_reducible refine Moves.upd_lnk (by decide +kernel) ?_)
    | (fail_if_no_progress with_reducible refine Moves.upd_pwr (by decide +kernel) ?_)
    | (fail_if_no_progress with_reducible refine Moves.upd_shoe (by decide +kernel) rfl ?_)
    | (fail_if_no_progress with_reducible refine Moves.upd (h := ?_))
    | (dsimp only [id])
    | (split)
    | (intro _))

theorem opWrite_touches (n : Nat) (s : State) : Moves [.regs, .sent, .evt, .ctx, .tables, .shoe, .decks, .lnk, .pwr] s (opWrite n s) := by
  unfold opWrite
  try dsimp only
  repeat' (first
    | with_reducible exact Moves.refl _ _
    | with_reducible assumption
    | (with_reducible apply Moves.step (startFetch_touches ..); decide +kernel)
    | (with_reducible apply Moves.step (runWrite_touches ..); decide +kernel)
    | (with_reducible apply beginTask_step; decide +kernel)
    | (fail_if_no_progress with_reducible refine Moves.upd_regs (by decide +kernel) ?_)
    | (fail_if_no_progress with_reducible refine Moves.upd_sent (by decide +kernel) ?_)
    | (fail_if_no_progress with_reducible refine Moves.upd_evt (by decide +kernel) ?_)
    | (fail_if_no_progress with_reducible refine Moves.upd_ctx (by decide +kernel) ?_)
    | (fail_if_no_progress with_reducible refine Moves.upd_tables (by decide +kernel) ?_)
    | (fail_if_no_progress with_reducible refine Moves.upd_decks (by decide +kernel) ?_)
    | (fail_if_no_progress with_reducible refine Moves.upd_lnk (by decide +kernel) ?_)
    | (fail_if_no_progress with_reducible refine Moves.upd_pwr (by decide +kernel) ?_)
    | (fail_if_no_progress with_reducible refine Moves.upd_shoe (by decide +kernel) rfl ?_)
    | (fail_if_no_progress with_reducible refine Moves.upd (h := ?_))
    | (dsimp only [id])
    | (split)
    | (intro _))

theorem opSync_touches (n : Nat) (s : State) : Moves [.regs, .sent, .evt, .ctx, .tables, .cut, .keys, .decks, .lnk, .pwr] s (opSync n s) := by
  unfold opSync
  try dsimp only
  repeat' (first
    | with_reducible exact Moves.refl _ _
    | with_reducible assumption
    | (with_reducible apply Moves.step (runItem_touches ..); decide +kernel)
    | (with_reducible apply beginTask_step; decide +kernel)
    | (fail_if_no_progress with_reducible refine Moves.upd_regs (by decide +kernel) ?_)
    | (fail_if_no_progress with_reducible refine Moves.upd_sent (by decide +kernel) ?_)
    | (fail_if_no_progress with_reducible refine Moves.upd_evt (by decide +kernel) ?_)
    | (fail_if_no_progress with_reducible refine Moves.upd_ctx (by decide +kernel) ?_)
    | (fail_if_no_progress with_reducible refine Moves.upd_tables (by decide +kernel) ?_)
    | (fail_if_no_progress with_reducible refine Moves.upd_cut (by decide +kernel) ?_)
    | (fail_if_no_progress with_reducible refine Moves.upd_keys (by decide +kernel) ?_)
    | (fail_if_no_progress with_reducible refine Moves.upd_decks (by decide +kernel) ?_)
    | (fail_if_no_progress with_reducible refine Moves.upd_lnk (by decide +kernel) ?_)
    | (fail_if_no_progress with_reducible refine Moves.upd_pwr (by decide +kernel) ?_)
    | (fail_if_no_progress with_reducible refine Moves.upd (h := ?_))
    | (dsimp only [id])
    | (split)
    | (intro _))

theorem opPosition_touches (n : Nat) (s : State) : Moves [.ctx] s (opPosition n s) := by
  unfold opPosition
  try dsimp only
  repeat' (first
    | with_reducible exact Moves.refl _ _
    | with_reducible assumption
    | (with_reducible apply Moves.step (finish_touches ..); decide +kernel)
    | (with_reducible apply beginTask_step; decide +kernel)
    | (with_reducible apply Moves.step (commence_touches ..); decide +kernel)
    | (with_reducible apply unlessRefused_step; decide +kernel)
    | (fail_if_no_progress with_reducible refine Moves.upd_ctx (by decide +kernel) ?_)
    | (fail_if_no_progress with_reducible refine Moves.upd (h := ?_))
    | (dsimp only [id])
    | (split)
    | (intro _))

theorem writeDescriptors_touches (n : Nat) (t : Task) (s : State) : Moves [.regs, .sent, .evt, .ctx, .tables, .shoe, .decks, .lnk, .pwr] s (writeDescriptors n t s) := by
  unfold writeDescriptors
  try dsimp only
  repeat' (first
    | with_reducible exact Moves.refl _ _
    | with_reducible assumption
    | (with_reducible apply Moves.step (State.onTask_touches ..); decide +kernel)
    | (with_reducible apply Moves.step (runWrite_touches ..); decide +kernel)
    | (with_reducible apply Moves.step (finish_touches ..); decide +kernel)
    | (fail_if_no_progress with_reducible refine Moves.upd_regs (by decide +kernel) ?_)
    | (fail_if_no_progress with_reducible refine Moves.upd_sent (by decide +kernel) ?_)
    | (fail_if_no_progress with_reducible refine Moves.upd_evt (by decide +kernel) ?_)
    | (fail_if_no_progress with_reducible refine Moves.upd_ctx (by decide +kernel) ?_)
    | (fail_if_no_progress with_reducible refine Moves.upd_tables (by decide +kernel) ?_)
    | (fail_if_no_progress with_reducible refine Moves.upd_decks (by decide +kernel) ?_)
    | (fail_if_no_progress with_reducible refine Moves.upd_lnk (by decide +kernel) ?_)
    | (fail_if_no_progress with_reducible refine Moves.upd_pwr (by decide +kernel) ?_)
    | (fail_if_no_progress with_reducible refine Moves.upd_shoe (by decide +kernel) rfl ?_)
    | (fail_if_no_progress with_reducible refine Moves.upd (h := ?_))
    | (dsimp only [id])
    | (split)
    | (intro _))

theorem opBarrier_touches (n : Nat) (s : State) : Moves [.ctx] s (opBarrier n s) := by
  unfold opBarrier
  try dsimp only
  repeat' (first
    | with_reducible exact Moves.refl _ _
    | with_reducible assumption
    | (with_reducible apply Moves.step (finish_touches ..); decide +kernel)
    | (with_reducible apply beginTask_step; decide +kernel)
    | (with_reducible apply Moves.step (commence_touches ..); decide +kernel)
    | (fail_if_no_progress with_reducible refine Moves.upd_ctx (by decide +kernel) ?_)
    | (fail_if_no_progress with_reducible refine Moves.upd (h := ?_))
    | (dsimp only [id])
    | (split)
    | (intro _))

theorem opFlush_touches (n : Nat) (s : State) : Moves [.regs, .sent, .evt, .ctx, .tables, .cut, .keys, .decks, .lnk, .pwr] s (opFlush n s) := by
  unfold opFlush
  try dsimp only
  repeat' (first
    | with_reducible exact Moves.refl _ _
    | with_reducible assumption
    | (with_reducible apply Moves.step (runItem_touches ..); decide +kernel)
    | (with_reducible apply beginTask_step; decide +kernel)
    | (fail_if_no_progress with_reducible refine Moves.upd_regs (by decide +kernel) ?_)
    | (fail_if_no_progress with_reducible refine Moves.upd_sent (by decide +kernel) ?_)
    | (fail_if_no_progress with_reducible refine Moves.upd_evt (by decide +kernel) ?_)
    | (fail_if_no_progress with_reducible refine Moves.upd_ctx (by decide +kernel) ?_)
    | (fail_if_no_progress with_reducible refine Moves.upd_tables (by decide +kernel) ?_)
    | (fail_if_no_progress with_reducible refine Moves.upd_cut (by decide +kernel) ?_)
    | (fail_if_no_progress with_reducible refine Moves.upd_keys (by decide +kernel) ?_)
    | (fail_if_no_progress with_reducible refine Moves.upd_decks (by decide +kernel) ?_)
    | (fail_if_no_progress with_reducible refine Moves.upd_lnk (by decide +kernel) ?_)
    | (fail_if_no_progress with_reducible refine Moves.upd_pwr (by decide +kernel) ?_)
    | (fail_if_no_progress with_reducible refine Moves.upd (h := ?_))
    | (dsimp only [id])
    | (split)
    | (intro _))

theorem cancelEntry_touches (s : State) : Moves [.sent, .evt, .ctx, .pwr] s (cancelEntry s) := by
  unfold cancelEntry
  try dsimp only
  repeat' (first
    | with_reducible exact Moves.refl _ _
    | with_reducible assumption
    | (with_reducible apply Moves.step (leaveIdle_touches ..); decide +kernel)
    | (with_reducible apply Moves.step (finish_touches ..); decide +kernel)
    | (fail_if_no_progress with_reducible refine Moves.upd_sent (by decide +kernel) ?_)
    | (fail_if_no_progress with_reducible refine Moves.upd_evt (by decide +kernel) ?_)
    | (fail_if_no_progress with_reducible refine Moves.upd_ctx (by decide +kernel) ?_)
    | (fail_if_no_progress with_reducible refine Moves.upd_pwr (by decide +kernel) ?_)
    | (fail_if_no_progress with_reducible refine Moves.upd (h := ?_))
    | (dsimp only [id])
    | (split)
    | (intro _))

theorem acceptTask_touches (n : Nat) (s : State) : Moves [.sent, .evt, .accepted, .ctx, .pwr] s (acceptTask n s) := by
  unfold acceptTask
  try dsimp only
  repeat' (first
    | with_reducible exact Moves.refl _ _
    | with_reducible assumption
    | (with_reducible apply Moves.step (cancelEntry_touches ..); decide +kernel)
    | (with_reducible apply Moves.step (chooseCarrier_touches ..); decide +kernel)
    | (with_reducible apply Moves.step (State.onCtx_touches ..); decide +kernel)
    | (fail_if_no_progress with_reducible refine Moves.upd_sent (by decide +kernel) ?_)
    | (fail_if_no_progress with_reducible refine Moves.upd_evt (by decide +kernel) ?_)
    | (fail_if_no_progress with_reducible refine Moves.upd_accepted (by decide +kernel) ?_)
    | (fail_if_no_progress with_reducible refine Moves.upd_ctx (by decide +kernel) ?_)
    | (fail_if_no_progress with_reducible refine Moves.upd_pwr (by decide +kernel) ?_)
    | (fail_if_no_progress with_reducible refine Moves.upd (h := ?_))
    | (dsimp only [id])
    | (split)
    | (intro _))

theorem opDoorbell_touches (n : Nat) (s : State) : Moves [.regs, .sent, .evt, .accepted, .ctx, .pwr] s (opDoorbell n s) := by
  unfold opDoorbell
  try dsimp only
  repeat' (first
    | with_reducible exact Moves.refl _ _
    | with_reducible assumption
    | (with_reducible apply Moves.step (State.setFld_touches ..); decide +kernel)
    | (with_reducible apply Moves.step (State.incFld_touches ..); decide +kernel)
    | (with_reducible apply Moves.step (acceptTask_touches ..); decide +kernel)
    | (with_reducible apply Moves.step (refuseConfig_touches ..); decide +kernel)
    | (fail_if_no_progress with_reducible refine Moves.upd_regs (by decide +kernel) ?_)
    | (fail_if_no_progress with_reducible refine Moves.upd_sent (by decide +kernel) ?_)
    | (fail_if_no_progress with_reducible refine Moves.upd_evt (by decide +kernel) ?_)
    | (fail_if_no_progress with_reducible refine Moves.upd_accepted (by decide +kernel) ?_)
    | (fail_if_no_progress with_reducible refine Moves.upd_ctx (by decide +kernel) ?_)
    | (fail_if_no_progress with_reducible refine Moves.upd_pwr (by decide +kernel) ?_)
    | (fail_if_no_progress with_reducible refine Moves.upd (h := ?_))
    | (dsimp only [id])
    | (split)
    | (intro _))

theorem recordDeferred_touches (n : Nat) (s : State) : Moves [.sent, .evt] s (recordDeferred n s) := by
  unfold recordDeferred
  try dsimp only
  repeat' (first
    | with_reducible exact Moves.refl _ _
    | with_reducible assumption
    | (with_reducible apply Moves.step (raise_touches ..); decide +kernel)
    | (fail_if_no_progress with_reducible refine Moves.upd_sent (by decide +kernel) ?_)
    | (fail_if_no_progress with_reducible refine Moves.upd_evt (by decide +kernel) ?_)
    | (fail_if_no_progress with_reducible refine Moves.upd (h := ?_))
    | (dsimp only [id])
    | (split)
    | (intro _))

theorem applyWrite_touches (off : Nat) (v : Sys2Proof.Word) (s : State) : Moves [.regs] s (applyWrite off v s) := by
  unfold applyWrite
  try dsimp only
  repeat' (first
    | with_reducible exact Moves.refl _ _
    | with_reducible assumption
    | (with_reducible apply Moves.step (State.setReg_touches ..); decide +kernel)
    | (fail_if_no_progress with_reducible refine Moves.upd_regs (by decide +kernel) ?_)
    | (fail_if_no_progress with_reducible refine Moves.upd (h := ?_))
    | (dsimp only [id])
    | (split)
    | (intro _))

theorem releaseHolder_touches (n : Nat) (s : State) : Moves [.tables] s (releaseHolder n s) := by
  unfold releaseHolder
  try dsimp only
  repeat' (first
    | with_reducible exact Moves.refl _ _
    | with_reducible assumption
    | (fail_if_no_progress with_reducible refine Moves.upd_tables (by decide +kernel) ?_)
    | (fail_if_no_progress with_reducible refine Moves.upd (h := ?_))
    | (dsimp only [id])
    | (split)
    | (intro _))

theorem opCtxConfigWrite_touches (n : Nat) (reg : Sys2Proof.CtxConfigReg) (v : Sys2Proof.Word) (s : State) : Moves [.regs, .sent, .evt, .tables] s (opCtxConfigWrite n reg v s) := by
  unfold opCtxConfigWrite
  try dsimp only
  repeat' (first
    | with_reducible exact Moves.refl _ _
    | with_reducible assumption
    | (with_reducible apply Moves.step (refuseConfig_touches ..); decide +kernel)
    | (with_reducible apply Moves.step (applyWrite_touches ..); decide +kernel)
    | (with_reducible apply Moves.step (releaseHolder_touches ..); decide +kernel)
    | (fail_if_no_progress with_reducible refine Moves.upd_regs (by decide +kernel) ?_)
    | (fail_if_no_progress with_reducible refine Moves.upd_sent (by decide +kernel) ?_)
    | (fail_if_no_progress with_reducible refine Moves.upd_evt (by decide +kernel) ?_)
    | (fail_if_no_progress with_reducible refine Moves.upd_tables (by decide +kernel) ?_)
    | (fail_if_no_progress with_reducible refine Moves.upd (h := ?_))
    | (dsimp only [id])
    | (split)
    | (intro _))

theorem withdraw_touches (n : Nat) (q : Nat) (s : State) : Moves [.regs, .sent, .evt, .ctx, .tables, .cut, .keys, .lnk] s (withdraw n q s) := by
  unfold withdraw
  try dsimp only
  repeat' (first
    | with_reducible exact Moves.refl _ _
    | with_reducible assumption
    | (with_reducible apply Moves.step (unqueue_touches ..); decide +kernel)
    | (with_reducible apply Moves.step (State.onCtx_touches ..); decide +kernel)
    | (with_reducible apply Moves.step (advanceInput_touches ..); decide +kernel)
    | (fail_if_no_progress with_reducible refine Moves.upd_regs (by decide +kernel) ?_)
    | (fail_if_no_progress with_reducible refine Moves.upd_sent (by decide +kernel) ?_)
    | (fail_if_no_progress with_reducible refine Moves.upd_evt (by decide +kernel) ?_)
    | (fail_if_no_progress with_reducible refine Moves.upd_ctx (by decide +kernel) ?_)
    | (fail_if_no_progress with_reducible refine Moves.upd_tables (by decide +kernel) ?_)
    | (fail_if_no_progress with_reducible refine Moves.upd_cut (by decide +kernel) ?_)
    | (fail_if_no_progress with_reducible refine Moves.upd_keys (by decide +kernel) ?_)
    | (fail_if_no_progress with_reducible refine Moves.upd_lnk (by decide +kernel) ?_)
    | (fail_if_no_progress with_reducible refine Moves.upd (h := ?_))
    | (dsimp only [id])
    | (split)
    | (intro _))

theorem stall_touches (n : Nat) (s : State) : Moves [.sent, .evt, .ctx] s (stall n s) := by
  unfold stall
  try dsimp only
  repeat' (first
    | with_reducible exact Moves.refl _ _
    | with_reducible assumption
    | (with_reducible apply Moves.step (State.onCtx_touches ..); decide +kernel)
    | (with_reducible apply Moves.step (raise_touches ..); decide +kernel)
    | (fail_if_no_progress with_reducible refine Moves.upd_sent (by decide +kernel) ?_)
    | (fail_if_no_progress with_reducible refine Moves.upd_evt (by decide +kernel) ?_)
    | (fail_if_no_progress with_reducible refine Moves.upd_ctx (by decide +kernel) ?_)
    | (fail_if_no_progress with_reducible refine Moves.upd (h := ?_))
    | (dsimp only [id])
    | (split)
    | (intro _))

theorem setAbort_touches (n : Nat) (v : Nat) (s : State) : Moves [.regs] s (setAbort n v s) := by
  unfold setAbort
  try dsimp only
  repeat' (first
    | with_reducible exact Moves.refl _ _
    | with_reducible assumption
    | (with_reducible apply Moves.step (State.setFld_touches ..); decide +kernel)
    | (fail_if_no_progress with_reducible refine Moves.upd_regs (by decide +kernel) ?_)
    | (fail_if_no_progress with_reducible refine Moves.upd (h := ?_))
    | (dsimp only [id])
    | (split)
    | (intro _))

theorem settleAbort_touches (n : Nat) (q : Nat) (s : State) : Moves [.regs, .ctx] s (settleAbort n q s) := by
  unfold settleAbort
  try dsimp only
  repeat' (first
    | with_reducible exact Moves.refl _ _
    | with_reducible assumption
    | (with_reducible apply Moves.step (State.onCtx_touches ..); decide +kernel)
    | (with_reducible apply Moves.step (setAbort_touches ..); decide +kernel)
    | (fail_if_no_progress with_reducible refine Moves.upd_regs (by decide +kernel) ?_)
    | (fail_if_no_progress with_reducible refine Moves.upd_ctx (by decide +kernel) ?_)
    | (fail_if_no_progress with_reducible refine Moves.upd (h := ?_))
    | (dsimp only [id])
    | (split)
    | (intro _))

theorem writeEntry_touches (n : Nat) (t : Task) (c : Completion) (s : State) : Moves [.regs, .sent, .evt, .ctx] s (writeEntry n t c s) := by
  unfold writeEntry
  try dsimp only
  repeat' (first
    | with_reducible exact Moves.refl _ _
    | with_reducible assumption
    | (with_reducible apply Moves.step (emit_touches ..); decide +kernel)
    | (with_reducible apply Moves.step (State.setReg_touches ..); decide +kernel)
    | (with_reducible apply Moves.step (settleAbort_touches ..); decide +kernel)
    | (with_reducible apply Moves.step (State.onCtx_touches ..); decide +kernel)
    | (with_reducible apply Moves.step (raise_touches ..); decide +kernel)
    | (fail_if_no_progress with_reducible refine Moves.upd_regs (by decide +kernel) ?_)
    | (fail_if_no_progress with_reducible refine Moves.upd_sent (by decide +kernel) ?_)
    | (fail_if_no_progress with_reducible refine Moves.upd_evt (by decide +kernel) ?_)
    | (fail_if_no_progress with_reducible refine Moves.upd_ctx (by decide +kernel) ?_)
    | (fail_if_no_progress with_reducible refine Moves.upd (h := ?_))
    | (dsimp only [id])
    | (split)
    | (intro _))

theorem settleHold_touches (td : Nat) (s : State) : Moves [.decks] s (settleHold td s) := by
  unfold settleHold
  try dsimp only
  repeat' (first
    | with_reducible exact Moves.refl _ _
    | with_reducible assumption
    | (with_reducible apply Moves.step (State.onDeck_touches ..); decide +kernel)
    | (with_reducible apply forEach_step)
    | (fail_if_no_progress with_reducible refine Moves.upd_decks (by decide +kernel) ?_)
    | (fail_if_no_progress with_reducible refine Moves.upd (h := ?_))
    | (dsimp only [id])
    | (split)
    | (intro _))

theorem deliver_touches (n : Nat) (t : Task) (c : Completion) (s : State) : Moves [.regs, .sent, .evt, .ctx, .decks] s (deliver n t c s) := by
  unfold deliver
  try dsimp only
  repeat' (first
    | with_reducible exact Moves.refl _ _
    | with_reducible assumption
    | (with_reducible apply Moves.step (stall_touches ..); decide +kernel)
    | (with_reducible apply Moves.step (writeEntry_touches ..); decide +kernel)
    | (with_reducible apply Moves.step (settleHold_touches ..); decide +kernel)
    | (fail_if_no_progress with_reducible refine Moves.upd_regs (by decide +kernel) ?_)
    | (fail_if_no_progress with_reducible refine Moves.upd_sent (by decide +kernel) ?_)
    | (fail_if_no_progress with_reducible refine Moves.upd_evt (by decide +kernel) ?_)
    | (fail_if_no_progress with_reducible refine Moves.upd_ctx (by decide +kernel) ?_)
    | (fail_if_no_progress with_reducible refine Moves.upd_decks (by decide +kernel) ?_)
    | (fail_if_no_progress with_reducible refine Moves.upd (h := ?_))
    | (dsimp only [id])
    | (split)
    | (intro _))

theorem dropJob_touches (n : Nat) (q : Nat) (s : State) : Moves [.regs, .sent, .evt, .ctx, .cut, .shoe] s (dropJob n q s) := by
  unfold dropJob
  try dsimp only
  repeat' (first
    | with_reducible exact Moves.refl _ _
    | with_reducible assumption
    | (with_reducible apply Moves.step (freeList_touches ..); decide +kernel)
    | (with_reducible apply Moves.step (State.onCtx_touches ..); decide +kernel)
    | (with_reducible apply Moves.step (haltEngines_touches ..); decide +kernel)
    | (fail_if_no_progress with_reducible refine Moves.upd_regs (by decide +kernel) ?_)
    | (fail_if_no_progress with_reducible refine Moves.upd_sent (by decide +kernel) ?_)
    | (fail_if_no_progress with_reducible refine Moves.upd_evt (by decide +kernel) ?_)
    | (fail_if_no_progress with_reducible refine Moves.upd_ctx (by decide +kernel) ?_)
    | (fail_if_no_progress with_reducible refine Moves.upd_cut (by decide +kernel) ?_)
    | (fail_if_no_progress with_reducible refine Moves.upd_shoe (by decide +kernel) rfl ?_)
    | (fail_if_no_progress with_reducible refine Moves.upd (h := ?_))
    | (dsimp only [id])
    | (split)
    | (intro _))

theorem catchTask_touches (n : Nat) (t : Task) (s : State) : Moves [.regs, .sent, .evt, .ctx, .tables, .cut, .keys, .shoe, .lnk] s (catchTask n t s) := by
  unfold catchTask
  try dsimp only
  repeat' (first
    | with_reducible exact Moves.refl _ _
    | with_reducible assumption
    | (with_reducible apply Moves.step (withdraw_touches ..); decide +kernel)
    | (with_reducible apply Moves.step (chooseCarrier_touches ..); decide +kernel)
    | (with_reducible apply Moves.step (endRead_touches ..); decide +kernel)
    | (with_reducible apply Moves.step (finish_touches ..); decide +kernel)
    | (with_reducible apply Moves.step (dropReads_touches ..); decide +kernel)
    | (with_reducible apply Moves.step (State.onTask_touches ..); decide +kernel)
    | (with_reducible apply Moves.step (dropJob_touches ..); decide +kernel)
    | (fail_if_no_progress with_reducible refine Moves.upd_regs (by decide +kernel) ?_)
    | (fail_if_no_progress with_reducible refine Moves.upd_sent (by decide +kernel) ?_)
    | (fail_if_no_progress with_reducible refine Moves.upd_evt (by decide +kernel) ?_)
    | (fail_if_no_progress with_reducible refine Moves.upd_ctx (by decide +kernel) ?_)
    | (fail_if_no_progress with_reducible refine Moves.upd_tables (by decide +kernel) ?_)
    | (fail_if_no_progress with_reducible refine Moves.upd_cut (by decide +kernel) ?_)
    | (fail_if_no_progress with_reducible refine Moves.upd_keys (by decide +kernel) ?_)
    | (fail_if_no_progress with_reducible refine Moves.upd_lnk (by decide +kernel) ?_)
    | (fail_if_no_progress with_reducible refine Moves.upd_shoe (by decide +kernel) rfl ?_)
    | (fail_if_no_progress with_reducible refine Moves.upd (h := ?_))
    | (dsimp only [id])
    | (split)
    | (intro _))

theorem leaveSeat_touches (n : Nat) (s : State) : Moves [.sent, .evt, .ctx, .tables] s (leaveSeat n s) := by
  unfold leaveSeat
  try dsimp only
  repeat' (first
    | with_reducible exact Moves.refl _ _
    | with_reducible assumption
    | (with_reducible apply Moves.step (State.onCtx_touches ..); decide +kernel)
    | (with_reducible apply Moves.step (setGuarantee_touches ..); decide +kernel)
    | (with_reducible apply Moves.step (State.onTable_touches ..); decide +kernel)
    | (fail_if_no_progress with_reducible refine Moves.upd_sent (by decide +kernel) ?_)
    | (fail_if_no_progress with_reducible refine Moves.upd_evt (by decide +kernel) ?_)
    | (fail_if_no_progress with_reducible refine Moves.upd_ctx (by decide +kernel) ?_)
    | (fail_if_no_progress with_reducible refine Moves.upd_tables (by decide +kernel) ?_)
    | (fail_if_no_progress with_reducible refine Moves.upd (h := ?_))
    | (dsimp only [id])
    | (split)
    | (intro _))

theorem opAbortRequest_touches (n : Nat) (tag : Sys2Proof.Word) (s : State) : Moves [.regs, .sent, .evt, .ctx, .tables, .cut, .keys, .shoe, .lnk] s (opAbortRequest n tag s) := by
  unfold opAbortRequest
  try dsimp only
  repeat' (first
    | with_reducible exact Moves.refl _ _
    | with_reducible assumption
    | (with_reducible apply Moves.step (State.incFld_touches ..); decide +kernel)
    | (with_reducible apply Moves.step (setAbort_touches ..); decide +kernel)
    | (with_reducible apply Moves.step (State.onCtx_touches ..); decide +kernel)
    | (with_reducible apply Moves.step (catchTask_touches ..); decide +kernel)
    | (fail_if_no_progress with_reducible refine Moves.upd_regs (by decide +kernel) ?_)
    | (fail_if_no_progress with_reducible refine Moves.upd_sent (by decide +kernel) ?_)
    | (fail_if_no_progress with_reducible refine Moves.upd_evt (by decide +kernel) ?_)
    | (fail_if_no_progress with_reducible refine Moves.upd_ctx (by decide +kernel) ?_)
    | (fail_if_no_progress with_reducible refine Moves.upd_tables (by decide +kernel) ?_)
    | (fail_if_no_progress with_reducible refine Moves.upd_cut (by decide +kernel) ?_)
    | (fail_if_no_progress with_reducible refine Moves.upd_keys (by decide +kernel) ?_)
    | (fail_if_no_progress with_reducible refine Moves.upd_lnk (by decide +kernel) ?_)
    | (fail_if_no_progress with_reducible refine Moves.upd_shoe (by decide +kernel) rfl ?_)
    | (fail_if_no_progress with_reducible refine Moves.upd (h := ?_))
    | (dsimp only [id])
    | (split)
    | (intro _))

theorem beginCtxReset_touches (n : Nat) (s : State) : Moves [.sent, .evt, .ctx, .tables] s (beginCtxReset n s) := by
  unfold beginCtxReset
  try dsimp only
  repeat' (first
    | with_reducible exact Moves.refl _ _
    | with_reducible assumption
    | (with_reducible apply Moves.step (State.onCtx_touches ..); decide +kernel)
    | (with_reducible apply Moves.step (leaveSeat_touches ..); decide +kernel)
    | (fail_if_no_progress with_reducible refine Moves.upd_sent (by decide +kernel) ?_)
    | (fail_if_no_progress with_reducible refine Moves.upd_evt (by decide +kernel) ?_)
    | (fail_if_no_progress with_reducible refine Moves.upd_ctx (by decide +kernel) ?_)
    | (fail_if_no_progress with_reducible refine Moves.upd_tables (by decide +kernel) ?_)
    | (fail_if_no_progress with_reducible refine Moves.upd (h := ?_))
    | (dsimp only [id])
    | (split)
    | (intro _))

theorem opCtxReset_touches (n : Nat) (s : State) : Moves [.regs, .sent, .evt, .ctx, .tables, .pwr] s (opCtxReset n s) := by
  unfold opCtxReset
  try dsimp only
  repeat' (first
    | with_reducible exact Moves.refl _ _
    | with_reducible assumption
    | (with_reducible apply Moves.step (beginCtxReset_touches ..); decide +kernel)
    | (with_reducible apply Moves.step (State.setFld_touches ..); decide +kernel)
    | (fail_if_no_progress with_reducible refine Moves.upd_regs (by decide +kernel) ?_)
    | (fail_if_no_progress with_reducible refine Moves.upd_sent (by decide +kernel) ?_)
    | (fail_if_no_progress with_reducible refine Moves.upd_evt (by decide +kernel) ?_)
    | (fail_if_no_progress with_reducible refine Moves.upd_ctx (by decide +kernel) ?_)
    | (fail_if_no_progress with_reducible refine Moves.upd_tables (by decide +kernel) ?_)
    | (fail_if_no_progress with_reducible refine Moves.upd_pwr (by decide +kernel) ?_)
    | (fail_if_no_progress with_reducible refine Moves.upd (h := ?_))
    | (dsimp only [id])
    | (split)
    | (intro _))

theorem opTaskRecordWrite_touches (n : Nat) (k : Nat) (v : Sys2Proof.Word) (s : State) : Moves [.regs, .sent, .evt] s (opTaskRecordWrite n k v s) := by
  unfold opTaskRecordWrite
  try dsimp only
  repeat' (first
    | with_reducible exact Moves.refl _ _
    | with_reducible assumption
    | (with_reducible apply Moves.step (refuseConfig_touches ..); decide +kernel)
    | (with_reducible apply Moves.step (State.setReg_touches ..); decide +kernel)
    | (fail_if_no_progress with_reducible refine Moves.upd_regs (by decide +kernel) ?_)
    | (fail_if_no_progress with_reducible refine Moves.upd_sent (by decide +kernel) ?_)
    | (fail_if_no_progress with_reducible refine Moves.upd_evt (by decide +kernel) ?_)
    | (fail_if_no_progress with_reducible refine Moves.upd (h := ?_))
    | (dsimp only [id])
    | (split)
    | (intro _))

theorem opDeferredErrorDelivery_touches (n : Nat) (s : State) : Moves [.regs, .sent, .evt, .ctx] s (opDeferredErrorDelivery n s) := by
  unfold opDeferredErrorDelivery
  try dsimp only
  repeat' (first
    | with_reducible exact Moves.refl _ _
    | with_reducible assumption
    | (with_reducible apply Moves.step (stall_touches ..); decide +kernel)
    | (with_reducible apply Moves.step (State.setFld_touches ..); decide +kernel)
    | (with_reducible apply Moves.step (writeEntry_touches ..); decide +kernel)
    | (fail_if_no_progress with_reducible refine Moves.upd_regs (by decide +kernel) ?_)
    | (fail_if_no_progress with_reducible refine Moves.upd_sent (by decide +kernel) ?_)
    | (fail_if_no_progress with_reducible refine Moves.upd_evt (by decide +kernel) ?_)
    | (fail_if_no_progress with_reducible refine Moves.upd_ctx (by decide +kernel) ?_)
    | (fail_if_no_progress with_reducible refine Moves.upd (h := ?_))
    | (dsimp only [id])
    | (split)
    | (intro _))

theorem opCtxResetComplete_touches (n : Nat) (s : State) : Moves [.regs, .sent, .evt, .ctx, .tables, .img] s (opCtxResetComplete n s) := by
  unfold opCtxResetComplete
  try dsimp only
  repeat' (first
    | with_reducible exact Moves.refl _ _
    | with_reducible assumption
    | (with_reducible apply Moves.step (takeCutterEpoch_touches ..); decide +kernel)
    | (with_reducible apply Moves.step (vacate_touches ..); decide +kernel)
    | (with_reducible apply Moves.step (State.resetRegs_touches ..); decide +kernel)
    | (with_reducible apply Moves.step (releaseHolder_touches ..); decide +kernel)
    | (with_reducible apply Moves.step (recordDeferred_touches ..); decide +kernel)
    | (with_reducible apply Moves.step (State.onCtx_touches ..); decide +kernel)
    | (with_reducible apply Moves.step (setGuarantee_touches ..); decide +kernel)
    | (fail_if_no_progress with_reducible refine Moves.upd_regs (by decide +kernel) ?_)
    | (fail_if_no_progress with_reducible refine Moves.upd_sent (by decide +kernel) ?_)
    | (fail_if_no_progress with_reducible refine Moves.upd_evt (by decide +kernel) ?_)
    | (fail_if_no_progress with_reducible refine Moves.upd_ctx (by decide +kernel) ?_)
    | (fail_if_no_progress with_reducible refine Moves.upd_tables (by decide +kernel) ?_)
    | (fail_if_no_progress with_reducible refine Moves.upd_img (by decide +kernel) ?_)
    | (fail_if_no_progress with_reducible refine Moves.upd (h := ?_))
    | (dsimp only [id])
    | (split)
    | (intro _))

end Sys2Proof.Machine
end

