-- ==== Sys2Proof/Laws/FramesRestore.lean ====
section
/-! SUPPORT. What the operations of the restore tasks and the engines touch. -/

namespace Sys2Proof.Machine

set_option Elab.async false
set_option maxHeartbeats 4000000

theorem authFail_touches (n : Nat) (b : Sealed) (s : State) : Moves [.regs, .sent, .evt, .ctx, .cut, .shoe, .lnk] s (authFail n b s) := by
  unfold authFail
  try dsimp only
  repeat' (first
    | with_reducible exact Moves.refl _ _
    | with_reducible assumption
    | (with_reducible apply Moves.step (failRead_touches ..); decide +kernel)
    | (with_reducible apply Moves.step (raise_touches ..); decide +kernel)
    | (fail_if_no_progress with_reducible refine Moves.upd_regs (by decide +kernel) ?_)
    | (fail_if_no_progress with_reducible refine Moves.upd_sent (by decide +kernel) ?_)
    | (fail_if_no_progress with_reducible refine Moves.upd_evt (by decide +kernel) ?_)
    | (fail_if_no_progress with_reducible refine Moves.upd_ctx (by decide +kernel) ?_)
    | (fail_if_no_progress with_reducible refine Moves.upd_cut (by decide +kernel) ?_)
    | (fail_if_no_progress with_reducible refine Moves.upd_lnk (by decide +kernel) ?_)
    | (fail_if_no_progress with_reducible refine Moves.upd_shoe (by decide +kernel) rfl ?_)
    | (fail_if_no_progress with_reducible refine Moves.upd (h := ?_))
    | (dsimp only [id])
    | (split)
    | (intro _))

theorem beginOpen_touches (n : Nat) (b : Sealed) (keyed : Bool) (s : State) : Moves [.regs, .sent, .evt, .ctx, .cut, .shoe, .lnk] s (beginOpen n b keyed s) := by
  unfold beginOpen
  try dsimp only
  repeat' (first
    | with_reducible exact Moves.refl _ _
    | with_reducible assumption
    | (with_reducible apply Moves.step (keepRead_touches ..); decide +kernel)
    | (with_reducible apply Moves.step (addRef_touches ..); decide +kernel)
    | (with_reducible apply Moves.step (authFail_touches ..); decide +kernel)
    | (with_reducible apply Moves.step (State.onCtx_touches ..); decide +kernel)
    | (with_reducible apply Moves.step (raise_touches ..); decide +kernel)
    | (with_reducible apply forEach_step)
    | (fail_if_no_progress with_reducible refine Moves.upd_regs (by decide +kernel) ?_)
    | (fail_if_no_progress with_reducible refine Moves.upd_sent (by decide +kernel) ?_)
    | (fail_if_no_progress with_reducible refine Moves.upd_evt (by decide +kernel) ?_)
    | (fail_if_no_progress with_reducible refine Moves.upd_ctx (by decide +kernel) ?_)
    | (fail_if_no_progress with_reducible refine Moves.upd_cut (by decide +kernel) ?_)
    | (fail_if_no_progress with_reducible refine Moves.upd_lnk (by decide +kernel) ?_)
    | (fail_if_no_progress with_reducible refine Moves.upd_shoe (by decide +kernel) rfl ?_)
    | (fail_if_no_progress with_reducible refine Moves.upd (h := ?_))
    | (dsimp only [id])
    | (split)
    | (intro _))

theorem cutShort_touches (n : Nat) (td : Nat) (l : Nat) (s : State) : Moves [.regs, .sent, .evt, .ctx, .cut, .shoe, .lnk] s (cutShort n td l s) := by
  unfold cutShort
  try dsimp only
  repeat' (first
    | with_reducible exact Moves.refl _ _
    | with_reducible assumption
    | (with_reducible apply Moves.step (failRead_touches ..); decide +kernel)
    | (with_reducible apply Moves.step (State.setReg_touches ..); decide +kernel)
    | (fail_if_no_progress with_reducible refine Moves.upd_regs (by decide +kernel) ?_)
    | (fail_if_no_progress with_reducible refine Moves.upd_sent (by decide +kernel) ?_)
    | (fail_if_no_progress with_reducible refine Moves.upd_evt (by decide +kernel) ?_)
    | (fail_if_no_progress with_reducible refine Moves.upd_ctx (by decide +kernel) ?_)
    | (fail_if_no_progress with_reducible refine Moves.upd_cut (by decide +kernel) ?_)
    | (fail_if_no_progress with_reducible refine Moves.upd_lnk (by decide +kernel) ?_)
    | (fail_if_no_progress with_reducible refine Moves.upd_shoe (by decide +kernel) rfl ?_)
    | (fail_if_no_progress with_reducible refine Moves.upd (h := ?_))
    | (dsimp only [id])
    | (split)
    | (intro _))

theorem endAt_touches (n : Nat) (c : Completion) (s : State) : Moves [.regs, .sent, .evt, .ctx, .cut, .shoe, .lnk] s (endAt n c s) := by
  unfold endAt
  try dsimp only
  repeat' (first
    | with_reducible exact Moves.refl _ _
    | with_reducible assumption
    | (with_reducible apply Moves.step (endRead_touches ..); decide +kernel)
    | (with_reducible apply Moves.step (setPosition_touches ..); decide +kernel)
    | (fail_if_no_progress with_reducible refine Moves.upd_regs (by decide +kernel) ?_)
    | (fail_if_no_progress with_reducible refine Moves.upd_sent (by decide +kernel) ?_)
    | (fail_if_no_progress with_reducible refine Moves.upd_evt (by decide +kernel) ?_)
    | (fail_if_no_progress with_reducible refine Moves.upd_ctx (by decide +kernel) ?_)
    | (fail_if_no_progress with_reducible refine Moves.upd_cut (by decide +kernel) ?_)
    | (fail_if_no_progress with_reducible refine Moves.upd_lnk (by decide +kernel) ?_)
    | (fail_if_no_progress with_reducible refine Moves.upd_shoe (by decide +kernel) rfl ?_)
    | (fail_if_no_progress with_reducible refine Moves.upd (h := ?_))
    | (dsimp only [id])
    | (split)
    | (intro _))

theorem roundBuffer_touches (d : Nat) (s : State) : Moves [.tick, .sent, .evt, .shoe, .mem] s (roundBuffer d s).2 := by
  unfold roundBuffer
  try dsimp only
  repeat' (first
    | with_reducible exact Moves.refl _ _
    | with_reducible assumption
    | (with_reducible apply Moves.step (allocate_touches ..); decide +kernel)
    | (rename_i hq; with_reducible refine Moves.of_eq (by first | exact congrArg Prod.snd hq | exact congrArg (fun x => x.2.2) hq) (allocate_touches ..) (by decide +kernel) ?_)
    | (fail_if_no_progress with_reducible refine Moves.upd_tick (by decide +kernel) ?_)
    | (fail_if_no_progress with_reducible refine Moves.upd_sent (by decide +kernel) ?_)
    | (fail_if_no_progress with_reducible refine Moves.upd_evt (by decide +kernel) ?_)
    | (fail_if_no_progress with_reducible refine Moves.upd_shoe (by decide +kernel) rfl ?_)
    | (fail_if_no_progress with_reducible refine Moves.upd (h := ?_))
    | (dsimp only [id])
    | (split)
    | (intro _))

theorem roundBuffers_touches (x0 : List Nat) (x1 : State) : Moves [.tick, .sent, .evt, .shoe, .mem] x1 (roundBuffers x0 x1).2 := by
  fun_induction roundBuffers x0 x1 <;>
  (try dsimp only) <;>
  repeat' (first
    | with_reducible exact Moves.refl _ _
    | with_reducible assumption
    | (with_reducible apply Moves.step (roundBuffer_touches ..); decide +kernel)
    | (rename_i hq; with_reducible refine Moves.of_eq (by first | exact congrArg Prod.snd hq | exact congrArg (fun x => x.2.2) hq) (roundBuffer_touches ..) (by decide +kernel) ?_)
    | (fail_if_no_progress with_reducible refine Moves.upd_tick (by decide +kernel) ?_)
    | (fail_if_no_progress with_reducible refine Moves.upd_sent (by decide +kernel) ?_)
    | (fail_if_no_progress with_reducible refine Moves.upd_evt (by decide +kernel) ?_)
    | (fail_if_no_progress with_reducible refine Moves.upd_shoe (by decide +kernel) rfl ?_)
    | (fail_if_no_progress with_reducible refine Moves.upd (h := ?_))
    | (dsimp only [id])
    | (split)
    | (intro _)
    | (with_reducible refine Moves.trans ?_ (by with_reducible assumption)))

theorem holdWriting_touches (td : Nat) (s : State) : Moves [.sent, .evt, .decks] s (holdWriting td s) := by
  unfold holdWriting
  try dsimp only
  repeat' (first
    | with_reducible exact Moves.refl _ _
    | with_reducible assumption
    | (with_reducible apply Moves.step (State.onDeck_touches ..); decide +kernel)
    | (with_reducible apply Moves.step (raiseDeck_touches ..); decide +kernel)
    | (with_reducible apply forEach_step)
    | (fail_if_no_progress with_reducible refine Moves.upd_sent (by decide +kernel) ?_)
    | (fail_if_no_progress with_reducible refine Moves.upd_evt (by decide +kernel) ?_)
    | (fail_if_no_progress with_reducible refine Moves.upd_decks (by decide +kernel) ?_)
    | (fail_if_no_progress with_reducible refine Moves.upd (h := ?_))
    | (dsimp only [id])
    | (split)
    | (intro _))

theorem needTape_touches (td : Nat) (p : Nat) (anew : Bool) (s : State) : Moves [.tick, .sent, .evt, .shoe, .mem, .decks, .pwr] s (needTape td p anew s) := by
  unfold needTape
  try dsimp only
  repeat' (first
    | with_reducible exact Moves.refl _ _
    | with_reducible assumption
    | (with_reducible apply Moves.step (State.onDeck_touches ..); decide +kernel)
    | (with_reducible apply Moves.step (roundBuffers_touches ..); decide +kernel)
    | (rename_i hq; with_reducible refine Moves.of_eq (by first | exact congrArg Prod.snd hq | exact congrArg (fun x => x.2.2) hq) (roundBuffers_touches ..) (by decide +kernel) ?_)
    | (with_reducible apply Moves.step (wantPartition_touches ..); decide +kernel)
    | (with_reducible apply Moves.step (holdWriting_touches ..); decide +kernel)
    | (with_reducible apply forEach_step)
    | (fail_if_no_progress with_reducible refine Moves.upd_tick (by decide +kernel) ?_)
    | (fail_if_no_progress with_reducible refine Moves.upd_sent (by decide +kernel) ?_)
    | (fail_if_no_progress with_reducible refine Moves.upd_evt (by decide +kernel) ?_)
    | (fail_if_no_progress with_reducible refine Moves.upd_decks (by decide +kernel) ?_)
    | (fail_if_no_progress with_reducible refine Moves.upd_pwr (by decide +kernel) ?_)
    | (fail_if_no_progress with_reducible refine Moves.upd_shoe (by decide +kernel) rfl ?_)
    | (fail_if_no_progress with_reducible refine Moves.upd (h := ?_))
    | (dsimp only [id])
    | (split)
    | (intro _))

theorem pump_touches (n : Nat) (s : State) : Moves [.tick, .regs, .sent, .evt, .ctx, .cut, .shoe, .mem, .decks, .lnk, .pwr] s (pump n s) := by
  unfold pump
  try dsimp only
  repeat' (first
    | with_reducible exact Moves.refl _ _
    | with_reducible assumption
    | (with_reducible apply Moves.step (endRead_touches ..); decide +kernel)
    | (with_reducible apply Moves.step (beginOpen_touches ..); decide +kernel)
    | (with_reducible apply Moves.step (cutShort_touches ..); decide +kernel)
    | (with_reducible apply Moves.step (endAt_touches ..); decide +kernel)
    | (with_reducible apply Moves.step (needTape_touches ..); decide +kernel)
    | (with_reducible apply Moves.step (State.onCtx_touches ..); decide +kernel)
    | (with_reducible apply Moves.step (setPosition_touches ..); decide +kernel)
    | (fail_if_no_progress with_reducible refine Moves.upd_tick (by decide +kernel) ?_)
    | (fail_if_no_progress with_reducible refine Moves.upd_regs (by decide +kernel) ?_)
    | (fail_if_no_progress with_reducible refine Moves.upd_sent (by decide +kernel) ?_)
    | (fail_if_no_progress with_reducible refine Moves.upd_evt (by decide +kernel) ?_)
    | (fail_if_no_progress with_reducible refine Moves.upd_ctx (by decide +kernel) ?_)
    | (fail_if_no_progress with_reducible refine Moves.upd_cut (by decide +kernel) ?_)
    | (fail_if_no_progress with_reducible refine Moves.upd_decks (by decide +kernel) ?_)
    | (fail_if_no_progress with_reducible refine Moves.upd_lnk (by decide +kernel) ?_)
    | (fail_if_no_progress with_reducible refine Moves.upd_pwr (by decide +kernel) ?_)
    | (fail_if_no_progress with_reducible refine Moves.upd_shoe (by decide +kernel) rfl ?_)
    | (fail_if_no_progress with_reducible refine Moves.upd (h := ?_))
    | (dsimp only [id])
    | (split)
    | (intro _))

theorem runRead_touches (n : Nat) (t : Task) (s : State) : Moves [.tick, .regs, .sent, .evt, .ctx, .tables, .cut, .shoe, .mem, .decks, .lnk, .pwr] s (runRead n t s) := by
  unfold runRead
  try dsimp only
  repeat' (first
    | with_reducible exact Moves.refl _ _
    | with_reducible assumption
    | (with_reducible apply Moves.step (makeActive_touches ..); decide +kernel)
    | (with_reducible apply Moves.step (State.onCtx_touches ..); decide +kernel)
    | (with_reducible apply Moves.step (commenceOpen_touches ..); decide +kernel)
    | (with_reducible apply Moves.step (pump_touches ..); decide +kernel)
    | (with_reducible apply unlessRefused_step; decide +kernel)
    | (fail_if_no_progress with_reducible refine Moves.upd_tick (by decide +kernel) ?_)
    | (fail_if_no_progress with_reducible refine Moves.upd_regs (by decide +kernel) ?_)
    | (fail_if_no_progress with_reducible refine Moves.upd_sent (by decide +kernel) ?_)
    | (fail_if_no_progress with_reducible refine Moves.upd_evt (by decide +kernel) ?_)
    | (fail_if_no_progress with_reducible refine Moves.upd_ctx (by decide +kernel) ?_)
    | (fail_if_no_progress with_reducible refine Moves.upd_tables (by decide +kernel) ?_)
    | (fail_if_no_progress with_reducible refine Moves.upd_cut (by decide +kernel) ?_)
    | (fail_if_no_progress with_reducible refine Moves.upd_decks (by decide +kernel) ?_)
    | (fail_if_no_progress with_reducible refine Moves.upd_lnk (by decide +kernel) ?_)
    | (fail_if_no_progress with_reducible refine Moves.upd_pwr (by decide +kernel) ?_)
    | (fail_if_no_progress with_reducible refine Moves.upd_shoe (by decide +kernel) rfl ?_)
    | (fail_if_no_progress with_reducible refine Moves.upd (h := ?_))
    | (dsimp only [id])
    | (split)
    | (intro _))

theorem scatter_touches (x0 : Nat) (x1 : List (Nat × Nat)) (x2 : List Sys2Proof.Byte) (x3 : State) : Moves [.sent] x3 (scatter x0 x1 x2 x3) := by
  fun_induction scatter x0 x1 x2 x3 <;>
  (try dsimp only) <;>
  repeat' (first
    | with_reducible exact Moves.refl _ _
    | with_reducible assumption
    | (with_reducible apply Moves.step (hostWrite_touches ..); decide +kernel)
    | (fail_if_no_progress with_reducible refine Moves.upd_sent (by decide +kernel) ?_)
    | (fail_if_no_progress with_reducible refine Moves.upd (h := ?_))
    | (dsimp only [id])
    | (split)
    | (intro _)
    | (with_reducible refine Moves.trans ?_ (by with_reducible assumption)))

theorem deliverRecord_touches (n : Nat) (r : Reader) (b : List Sys2Proof.Byte) (s : State) : Moves [.sent, .ctx] s (deliverRecord n r b s).2 := by
  unfold deliverRecord
  try dsimp only
  repeat' (first
    | with_reducible exact Moves.refl _ _
    | with_reducible assumption
    | (with_reducible apply Moves.step (hostWrite_touches ..); decide +kernel)
    | (with_reducible apply Moves.step (State.onTask_touches ..); decide +kernel)
    | (with_reducible apply Moves.step (scatter_touches ..); decide +kernel)
    | (fail_if_no_progress with_reducible refine Moves.upd_sent (by decide +kernel) ?_)
    | (fail_if_no_progress with_reducible refine Moves.upd_ctx (by decide +kernel) ?_)
    | (fail_if_no_progress with_reducible refine Moves.upd (h := ?_))
    | (dsimp only [id])
    | (split)
    | (intro _))

theorem deliverEnds_touches (n : Nat) (limit : Nat) (x2 : Nat) (x3 : List Sys2Proof.Byte) (x4 : List Nat) (x5 : List Sys2Proof.Byte) (x6 : Reader) (x7 : State) : Moves [.sent, .ctx] x7 (deliverEnds n limit x2 x3 x4 x5 x6 x7).2.2 := by
  fun_induction deliverEnds n limit x2 x3 x4 x5 x6 x7 <;>
  (try dsimp only) <;>
  repeat' (first
    | with_reducible exact Moves.refl _ _
    | with_reducible assumption
    | (with_reducible apply Moves.step (deliverRecord_touches ..); decide +kernel)
    | (rename_i hq; with_reducible refine Moves.of_eq (by first | exact congrArg Prod.snd hq | exact congrArg (fun x => x.2.2) hq) (deliverRecord_touches ..) (by decide +kernel) ?_)
    | (fail_if_no_progress with_reducible refine Moves.upd_sent (by decide +kernel) ?_)
    | (fail_if_no_progress with_reducible refine Moves.upd_ctx (by decide +kernel) ?_)
    | (fail_if_no_progress with_reducible refine Moves.upd (h := ?_))
    | (dsimp only [id])
    | (split)
    | (intro _)
    | (with_reducible refine Moves.trans ?_ (by with_reducible assumption)))

theorem consume_touches (n : Nat) (x : Decoded) (s : State) : Moves [.tick, .regs, .sent, .evt, .ctx, .cut, .shoe, .mem, .decks, .lnk, .pwr] s (consume n x s) := by
  unfold consume
  try dsimp only
  repeat' (first
    | with_reducible exact Moves.refl _ _
    | with_reducible assumption
    | (with_reducible apply Moves.step (failRead_touches ..); decide +kernel)
    | (with_reducible apply Moves.step (deliverEnds_touches ..); decide +kernel)
    | (rename_i hq; with_reducible refine Moves.of_eq (by first | exact congrArg Prod.snd hq | exact congrArg (fun x => x.2.2) hq) (deliverEnds_touches ..) (by decide +kernel) ?_)
    | (with_reducible apply Moves.step (endAt_touches ..); decide +kernel)
    | (with_reducible apply Moves.step (State.onCtx_touches ..); decide +kernel)
    | (with_reducible apply Moves.step (pump_touches ..); decide +kernel)
    | (fail_if_no_progress with_reducible refine Moves.upd_tick (by decide +kernel) ?_)
    | (fail_if_no_progress with_reducible refine Moves.upd_regs (by decide +kernel) ?_)
    | (fail_if_no_progress with_reducible refine Moves.upd_sent (by decide +kernel) ?_)
    | (fail_if_no_progress with_reducible refine Moves.upd_evt (by decide +kernel) ?_)
    | (fail_if_no_progress with_reducible refine Moves.upd_ctx (by decide +kernel) ?_)
    | (fail_if_no_progress with_reducible refine Moves.upd_cut (by decide +kernel) ?_)
    | (fail_if_no_progress with_reducible refine Moves.upd_decks (by decide +kernel) ?_)
    | (fail_if_no_progress with_reducible refine Moves.upd_lnk (by decide +kernel) ?_)
    | (fail_if_no_progress with_reducible refine Moves.upd_pwr (by decide +kernel) ?_)
    | (fail_if_no_progress with_reducible refine Moves.upd_shoe (by decide +kernel) rfl ?_)
    | (fail_if_no_progress with_reducible refine Moves.upd (h := ?_))
    | (dsimp only [id])
    | (split)
    | (intro _))

theorem pumpSeek_touches (n : Nat) (s : State) : Moves [.tick, .regs, .sent, .evt, .ctx, .shoe, .mem, .decks, .pwr] s (pumpSeek n s) := by
  unfold pumpSeek
  try dsimp only
  repeat' (first
    | with_reducible exact Moves.refl _ _
    | with_reducible assumption
    | (with_reducible apply Moves.step (needTape_touches ..); decide +kernel)
    | (with_reducible apply Moves.step (finish_touches ..); decide +kernel)
    | (with_reducible apply Moves.step (setPosition_touches ..); decide +kernel)
    | (fail_if_no_progress with_reducible refine Moves.upd_tick (by decide +kernel) ?_)
    | (fail_if_no_progress with_reducible refine Moves.upd_regs (by decide +kernel) ?_)
    | (fail_if_no_progress with_reducible refine Moves.upd_sent (by decide +kernel) ?_)
    | (fail_if_no_progress with_reducible refine Moves.upd_evt (by decide +kernel) ?_)
    | (fail_if_no_progress with_reducible refine Moves.upd_ctx (by decide +kernel) ?_)
    | (fail_if_no_progress with_reducible refine Moves.upd_decks (by decide +kernel) ?_)
    | (fail_if_no_progress with_reducible refine Moves.upd_pwr (by decide +kernel) ?_)
    | (fail_if_no_progress with_reducible refine Moves.upd_shoe (by decide +kernel) rfl ?_)
    | (fail_if_no_progress with_reducible refine Moves.upd (h := ?_))
    | (dsimp only [id])
    | (split)
    | (intro _))

theorem runSeek_touches (n : Nat) (t : Task) (s : State) : Moves [.tick, .regs, .sent, .evt, .ctx, .tables, .shoe, .mem, .decks, .pwr] s (runSeek n t s) := by
  unfold runSeek
  try dsimp only
  repeat' (first
    | with_reducible exact Moves.refl _ _
    | with_reducible assumption
    | (with_reducible apply Moves.step (pumpSeek_touches ..); decide +kernel)
    | (with_reducible apply Moves.step (makeActive_touches ..); decide +kernel)
    | (with_reducible apply Moves.step (commence_touches ..); decide +kernel)
    | (with_reducible apply unlessRefused_step; decide +kernel)
    | (fail_if_no_progress with_reducible refine Moves.upd_tick (by decide +kernel) ?_)
    | (fail_if_no_progress with_reducible refine Moves.upd_regs (by decide +kernel) ?_)
    | (fail_if_no_progress with_reducible refine Moves.upd_sent (by decide +kernel) ?_)
    | (fail_if_no_progress with_reducible refine Moves.upd_evt (by decide +kernel) ?_)
    | (fail_if_no_progress with_reducible refine Moves.upd_ctx (by decide +kernel) ?_)
    | (fail_if_no_progress with_reducible refine Moves.upd_tables (by decide +kernel) ?_)
    | (fail_if_no_progress with_reducible refine Moves.upd_decks (by decide +kernel) ?_)
    | (fail_if_no_progress with_reducible refine Moves.upd_pwr (by decide +kernel) ?_)
    | (fail_if_no_progress with_reducible refine Moves.upd_shoe (by decide +kernel) rfl ?_)
    | (fail_if_no_progress with_reducible refine Moves.upd (h := ?_))
    | (dsimp only [id])
    | (split)
    | (intro _))

theorem opSpace_touches (n : Nat) (s : State) : Moves [.tick, .regs, .sent, .evt, .ctx, .tables, .shoe, .mem, .decks, .pwr] s (opSpace n s) := by
  unfold opSpace
  try dsimp only
  repeat' (first
    | with_reducible exact Moves.refl _ _
    | with_reducible assumption
    | (with_reducible apply beginTask_step; decide +kernel)
    | (with_reducible apply Moves.step (runSeek_touches ..); decide +kernel)
    | (with_reducible apply Moves.step (pumpSeek_touches ..); decide +kernel)
    | (fail_if_no_progress with_reducible refine Moves.upd_tick (by decide +kernel) ?_)
    | (fail_if_no_progress with_reducible refine Moves.upd_regs (by decide +kernel) ?_)
    | (fail_if_no_progress with_reducible refine Moves.upd_sent (by decide +kernel) ?_)
    | (fail_if_no_progress with_reducible refine Moves.upd_evt (by decide +kernel) ?_)
    | (fail_if_no_progress with_reducible refine Moves.upd_ctx (by decide +kernel) ?_)
    | (fail_if_no_progress with_reducible refine Moves.upd_tables (by decide +kernel) ?_)
    | (fail_if_no_progress with_reducible refine Moves.upd_decks (by decide +kernel) ?_)
    | (fail_if_no_progress with_reducible refine Moves.upd_pwr (by decide +kernel) ?_)
    | (fail_if_no_progress with_reducible refine Moves.upd_shoe (by decide +kernel) rfl ?_)
    | (fail_if_no_progress with_reducible refine Moves.upd (h := ?_))
    | (dsimp only [id])
    | (split)
    | (intro _))

theorem opRead_touches (n : Nat) (s : State) : Moves [.tick, .regs, .sent, .evt, .ctx, .cut, .shoe, .mem, .decks, .lnk, .pwr] s (opRead n s) := by
  unfold opRead
  try dsimp only
  repeat' (first
    | with_reducible exact Moves.refl _ _
    | with_reducible assumption
    | (with_reducible apply Moves.step (startFetch_touches ..); decide +kernel)
    | (with_reducible apply beginTask_step; decide +kernel)
    | (with_reducible apply Moves.step (pump_touches ..); decide +kernel)
    | (fail_if_no_progress with_reducible refine Moves.upd_tick (by decide +kernel) ?_)
    | (fail_if_no_progress with_reducible refine Moves.upd_regs (by decide +kernel) ?_)
    | (fail_if_no_progress with_reducible refine Moves.upd_sent (by decide +kernel) ?_)
    | (fail_if_no_progress with_reducible refine Moves.upd_evt (by decide +kernel) ?_)
    | (fail_if_no_progress with_reducible refine Moves.upd_ctx (by decide +kernel) ?_)
    | (fail_if_no_progress with_reducible refine Moves.upd_cut (by decide +kernel) ?_)
    | (fail_if_no_progress with_reducible refine Moves.upd_decks (by decide +kernel) ?_)
    | (fail_if_no_progress with_reducible refine Moves.upd_lnk (by decide +kernel) ?_)
    | (fail_if_no_progress with_reducible refine Moves.upd_pwr (by decide +kernel) ?_)
    | (fail_if_no_progress with_reducible refine Moves.upd_shoe (by decide +kernel) rfl ?_)
    | (fail_if_no_progress with_reducible refine Moves.upd (h := ?_))
    | (dsimp only [id])
    | (split)
    | (intro _))

theorem opBlockOpen_touches (n : Nat) (s : State) : Moves [.regs, .sent, .evt, .ctx, .cut, .shoe, .lnk] s (opBlockOpen n s) := by
  unfold opBlockOpen
  try dsimp only
  repeat' (first
    | with_reducible exact Moves.refl _ _
    | with_reducible assumption
    | (with_reducible apply Moves.step (State.onCtx_touches ..); decide +kernel)
    | (with_reducible apply Moves.step (authFail_touches ..); decide +kernel)
    | (fail_if_no_progress with_reducible refine Moves.upd_regs (by decide +kernel) ?_)
    | (fail_if_no_progress with_reducible refine Moves.upd_sent (by decide +kernel) ?_)
    | (fail_if_no_progress with_reducible refine Moves.upd_evt (by decide +kernel) ?_)
    | (fail_if_no_progress with_reducible refine Moves.upd_ctx (by decide +kernel) ?_)
    | (fail_if_no_progress with_reducible refine Moves.upd_cut (by decide +kernel) ?_)
    | (fail_if_no_progress with_reducible refine Moves.upd_lnk (by decide +kernel) ?_)
    | (fail_if_no_progress with_reducible refine Moves.upd_shoe (by decide +kernel) rfl ?_)
    | (fail_if_no_progress with_reducible refine Moves.upd (h := ?_))
    | (dsimp only [id])
    | (split)
    | (intro _))

theorem meetTruncation_touches (td : Nat) (p : Nat) (sid : Sys2Proof.Word) (start : Nat) (s : State) : Moves [.regs, .sent, .evt, .ctx, .cut, .shoe, .decks, .lnk] s (meetTruncation td p sid start s) := by
  unfold meetTruncation
  try dsimp only
  repeat' (first
    | with_reducible exact Moves.refl _ _
    | with_reducible assumption
    | (with_reducible apply Moves.step (endRead_touches ..); decide +kernel)
    | (with_reducible apply Moves.step (setPosition_touches ..); decide +kernel)
    | (with_reducible apply Moves.step (State.onDeck_touches ..); decide +kernel)
    | (with_reducible apply forEach_step)
    | (fail_if_no_progress with_reducible refine Moves.upd_regs (by decide +kernel) ?_)
    | (fail_if_no_progress with_reducible refine Moves.upd_sent (by decide +kernel) ?_)
    | (fail_if_no_progress with_reducible refine Moves.upd_evt (by decide +kernel) ?_)
    | (fail_if_no_progress with_reducible refine Moves.upd_ctx (by decide +kernel) ?_)
    | (fail_if_no_progress with_reducible refine Moves.upd_cut (by decide +kernel) ?_)
    | (fail_if_no_progress with_reducible refine Moves.upd_decks (by decide +kernel) ?_)
    | (fail_if_no_progress with_reducible refine Moves.upd_lnk (by decide +kernel) ?_)
    | (fail_if_no_progress with_reducible refine Moves.upd_shoe (by decide +kernel) rfl ?_)
    | (fail_if_no_progress with_reducible refine Moves.upd (h := ?_))
    | (dsimp only [id])
    | (split)
    | (intro _))

theorem readDescriptors_touches (n : Nat) (t : Task) (s : State) : Moves [.tick, .regs, .sent, .evt, .ctx, .tables, .cut, .shoe, .mem, .decks, .lnk, .pwr] s (readDescriptors n t s) := by
  unfold readDescriptors
  try dsimp only
  repeat' (first
    | with_reducible exact Moves.refl _ _
    | with_reducible assumption
    | (with_reducible apply Moves.step (finish_touches ..); decide +kernel)
    | (with_reducible apply Moves.step (runRead_touches ..); decide +kernel)
    | (fail_if_no_progress with_reducible refine Moves.upd_tick (by decide +kernel) ?_)
    | (fail_if_no_progress with_reducible refine Moves.upd_regs (by decide +kernel) ?_)
    | (fail_if_no_progress with_reducible refine Moves.upd_sent (by decide +kernel) ?_)
    | (fail_if_no_progress with_reducible refine Moves.upd_evt (by decide +kernel) ?_)
    | (fail_if_no_progress with_reducible refine Moves.upd_ctx (by decide +kernel) ?_)
    | (fail_if_no_progress with_reducible refine Moves.upd_tables (by decide +kernel) ?_)
    | (fail_if_no_progress with_reducible refine Moves.upd_cut (by decide +kernel) ?_)
    | (fail_if_no_progress with_reducible refine Moves.upd_decks (by decide +kernel) ?_)
    | (fail_if_no_progress with_reducible refine Moves.upd_lnk (by decide +kernel) ?_)
    | (fail_if_no_progress with_reducible refine Moves.upd_pwr (by decide +kernel) ?_)
    | (fail_if_no_progress with_reducible refine Moves.upd_shoe (by decide +kernel) rfl ?_)
    | (fail_if_no_progress with_reducible refine Moves.upd (h := ?_))
    | (dsimp only [id])
    | (split)
    | (intro _))

theorem pumpTable_touches (td : Nat) (p : Nat) (s : State) : Moves [.tick, .regs, .sent, .evt, .ctx, .cut, .shoe, .mem, .decks, .lnk, .pwr] s (pumpTable td p s) := by
  unfold pumpTable
  try dsimp only
  repeat' (first
    | with_reducible exact Moves.refl _ _
    | with_reducible assumption
    | (with_reducible apply Moves.step (pump_touches ..); decide +kernel)
    | (with_reducible apply Moves.step (pumpSeek_touches ..); decide +kernel)
    | (with_reducible apply forEach_step)
    | (fail_if_no_progress with_reducible refine Moves.upd_tick (by decide +kernel) ?_)
    | (fail_if_no_progress with_reducible refine Moves.upd_regs (by decide +kernel) ?_)
    | (fail_if_no_progress with_reducible refine Moves.upd_sent (by decide +kernel) ?_)
    | (fail_if_no_progress with_reducible refine Moves.upd_evt (by decide +kernel) ?_)
    | (fail_if_no_progress with_reducible refine Moves.upd_ctx (by decide +kernel) ?_)
    | (fail_if_no_progress with_reducible refine Moves.upd_cut (by decide +kernel) ?_)
    | (fail_if_no_progress with_reducible refine Moves.upd_decks (by decide +kernel) ?_)
    | (fail_if_no_progress with_reducible refine Moves.upd_lnk (by decide +kernel) ?_)
    | (fail_if_no_progress with_reducible refine Moves.upd_pwr (by decide +kernel) ?_)
    | (fail_if_no_progress with_reducible refine Moves.upd_shoe (by decide +kernel) rfl ?_)
    | (fail_if_no_progress with_reducible refine Moves.upd (h := ?_))
    | (dsimp only [id])
    | (split)
    | (intro _))

theorem opLocate_touches (n : Nat) (s : State) : Moves [.tick, .regs, .sent, .evt, .ctx, .tables, .shoe, .mem, .decks, .pwr] s (opLocate n s) := by
  unfold opLocate
  try dsimp only
  repeat' (first
    | with_reducible exact Moves.refl _ _
    | with_reducible assumption
    | (with_reducible apply beginTask_step; decide +kernel)
    | (with_reducible apply Moves.step (runSeek_touches ..); decide +kernel)
    | (with_reducible apply Moves.step (pumpSeek_touches ..); decide +kernel)
    | (fail_if_no_progress with_reducible refine Moves.upd_tick (by decide +kernel) ?_)
    | (fail_if_no_progress with_reducible refine Moves.upd_regs (by decide +kernel) ?_)
    | (fail_if_no_progress with_reducible refine Moves.upd_sent (by decide +kernel) ?_)
    | (fail_if_no_progress with_reducible refine Moves.upd_evt (by decide +kernel) ?_)
    | (fail_if_no_progress with_reducible refine Moves.upd_ctx (by decide +kernel) ?_)
    | (fail_if_no_progress with_reducible refine Moves.upd_tables (by decide +kernel) ?_)
    | (fail_if_no_progress with_reducible refine Moves.upd_decks (by decide +kernel) ?_)
    | (fail_if_no_progress with_reducible refine Moves.upd_pwr (by decide +kernel) ?_)
    | (fail_if_no_progress with_reducible refine Moves.upd_shoe (by decide +kernel) rfl ?_)
    | (fail_if_no_progress with_reducible refine Moves.upd (h := ?_))
    | (dsimp only [id])
    | (split)
    | (intro _))

theorem fetchSource_touches (n : Nat) (s : State) : Moves [.sent, .ctx, .lnk] s (fetchSource n s) := by
  unfold fetchSource
  try dsimp only
  repeat' (first
    | with_reducible exact Moves.refl _ _
    | with_reducible assumption
    | (with_reducible apply Moves.step (startFetch_touches ..); decide +kernel)
    | (fail_if_no_progress with_reducible refine Moves.upd_sent (by decide +kernel) ?_)
    | (fail_if_no_progress with_reducible refine Moves.upd_ctx (by decide +kernel) ?_)
    | (fail_if_no_progress with_reducible refine Moves.upd_lnk (by decide +kernel) ?_)
    | (fail_if_no_progress with_reducible refine Moves.upd (h := ?_))
    | (dsimp only [id])
    | (split)
    | (intro _))

theorem runUncut_touches (n : Nat) (t : Task) (s : State) : Moves [.sent, .ctx, .lnk] s (runUncut n t s) := by
  unfold runUncut
  try dsimp only
  repeat' (first
    | with_reducible exact Moves.refl _ _
    | with_reducible assumption
    | (with_reducible apply Moves.step (fetchSource_touches ..); decide +kernel)
    | (with_reducible apply Moves.step (State.onCtx_touches ..); decide +kernel)
    | (with_reducible apply Moves.step (commenceOpen_touches ..); decide +kernel)
    | (with_reducible apply unlessRefused_step; decide +kernel)
    | (fail_if_no_progress with_reducible refine Moves.upd_sent (by decide +kernel) ?_)
    | (fail_if_no_progress with_reducible refine Moves.upd_ctx (by decide +kernel) ?_)
    | (fail_if_no_progress with_reducible refine Moves.upd_lnk (by decide +kernel) ?_)
    | (fail_if_no_progress with_reducible refine Moves.upd (h := ?_))
    | (dsimp only [id])
    | (split)
    | (intro _))

theorem onJob_touches (n : Nat) (f : Job → Job) (s : State) : Moves [.ctx] s (onJob n f s) := by
  unfold onJob
  try dsimp only
  repeat' (first
    | with_reducible exact Moves.refl _ _
    | with_reducible assumption
    | (with_reducible apply Moves.step (State.onCtx_touches ..); decide +kernel)
    | (fail_if_no_progress with_reducible refine Moves.upd_ctx (by decide +kernel) ?_)
    | (fail_if_no_progress with_reducible refine Moves.upd (h := ?_))
    | (dsimp only [id])
    | (split)
    | (intro _))

theorem queueJob_touches (n : Nat) (s : State) : Moves [.ctx, .cut] s (queueJob n s) := by
  unfold queueJob
  try dsimp only
  repeat' (first
    | with_reducible exact Moves.refl _ _
    | with_reducible assumption
    | (with_reducible apply Moves.step (onJob_touches ..); decide +kernel)
    | (fail_if_no_progress with_reducible refine Moves.upd_ctx (by decide +kernel) ?_)
    | (fail_if_no_progress with_reducible refine Moves.upd_cut (by decide +kernel) ?_)
    | (fail_if_no_progress with_reducible refine Moves.upd (h := ?_))
    | (dsimp only [id])
    | (split)
    | (intro _))

theorem endJob_touches (n : Nat) (c : Completion) (s : State) : Moves [.regs, .sent, .evt, .ctx, .cut, .shoe, .lnk] s (endJob n c s) := by
  unfold endJob
  try dsimp only
  repeat' (first
    | with_reducible exact Moves.refl _ _
    | with_reducible assumption
    | (with_reducible apply Moves.step (finish_touches ..); decide +kernel)
    | (with_reducible apply Moves.step (dropReads_touches ..); decide +kernel)
    | (with_reducible apply Moves.step (dropJob_touches ..); decide +kernel)
    | (fail_if_no_progress with_reducible refine Moves.upd_regs (by decide +kernel) ?_)
    | (fail_if_no_progress with_reducible refine Moves.upd_sent (by decide +kernel) ?_)
    | (fail_if_no_progress with_reducible refine Moves.upd_evt (by decide +kernel) ?_)
    | (fail_if_no_progress with_reducible refine Moves.upd_ctx (by decide +kernel) ?_)
    | (fail_if_no_progress with_reducible refine Moves.upd_cut (by decide +kernel) ?_)
    | (fail_if_no_progress with_reducible refine Moves.upd_lnk (by decide +kernel) ?_)
    | (fail_if_no_progress with_reducible refine Moves.upd_shoe (by decide +kernel) rfl ?_)
    | (fail_if_no_progress with_reducible refine Moves.upd (h := ?_))
    | (dsimp only [id])
    | (split)
    | (intro _))

theorem jobOutput_touches (n : Nat) (bytes : List Sys2Proof.Byte) (s : State) : Moves [.regs, .sent, .evt, .ctx, .cut, .shoe, .lnk] s (jobOutput n bytes s) := by
  unfold jobOutput
  try dsimp only
  repeat' (first
    | with_reducible exact Moves.refl _ _
    | with_reducible assumption
    | (with_reducible apply Moves.step (queueJob_touches ..); decide +kernel)
    | (with_reducible apply Moves.step (onJob_touches ..); decide +kernel)
    | (with_reducible apply Moves.step (endJob_touches ..); decide +kernel)
    | (fail_if_no_progress with_reducible refine Moves.upd_regs (by decide +kernel) ?_)
    | (fail_if_no_progress with_reducible refine Moves.upd_sent (by decide +kernel) ?_)
    | (fail_if_no_progress with_reducible refine Moves.upd_evt (by decide +kernel) ?_)
    | (fail_if_no_progress with_reducible refine Moves.upd_ctx (by decide +kernel) ?_)
    | (fail_if_no_progress with_reducible refine Moves.upd_cut (by decide +kernel) ?_)
    | (fail_if_no_progress with_reducible refine Moves.upd_lnk (by decide +kernel) ?_)
    | (fail_if_no_progress with_reducible refine Moves.upd_shoe (by decide +kernel) rfl ?_)
    | (fail_if_no_progress with_reducible refine Moves.upd (h := ?_))
    | (dsimp only [id])
    | (split)
    | (intro _))

theorem takeOut_touches (e : Nat) (s : State) : Moves [.regs, .sent, .evt] s (takeOut e s) := by
  unfold takeOut
  try dsimp only
  repeat' (first
    | with_reducible exact Moves.refl _ _
    | with_reducible assumption
    | (with_reducible apply Moves.step (State.setReg_touches ..); decide +kernel)
    | (with_reducible apply Moves.step (raise_touches ..); decide +kernel)
    | (fail_if_no_progress with_reducible refine Moves.upd_regs (by decide +kernel) ?_)
    | (fail_if_no_progress with_reducible refine Moves.upd_sent (by decide +kernel) ?_)
    | (fail_if_no_progress with_reducible refine Moves.upd_evt (by decide +kernel) ?_)
    | (fail_if_no_progress with_reducible refine Moves.upd (h := ?_))
    | (dsimp only [id])
    | (split)
    | (intro _))

theorem mismatch_touches (e : Nat) (n : Nat) (obj : Nat) (s : State) : Moves [.regs, .sent, .evt, .cut] s (mismatch e n obj s) := by
  unfold mismatch
  try dsimp only
  repeat' (first
    | with_reducible exact Moves.refl _ _
    | with_reducible assumption
    | (with_reducible apply Moves.step (State.addFld_touches ..); decide +kernel)
    | (with_reducible apply Moves.step (State.setFld_touches ..); decide +kernel)
    | (with_reducible apply Moves.step (takeOut_touches ..); decide +kernel)
    | (with_reducible apply Moves.step (raise_touches ..); decide +kernel)
    | (fail_if_no_progress with_reducible refine Moves.upd_regs (by decide +kernel) ?_)
    | (fail_if_no_progress with_reducible refine Moves.upd_sent (by decide +kernel) ?_)
    | (fail_if_no_progress with_reducible refine Moves.upd_evt (by decide +kernel) ?_)
    | (fail_if_no_progress with_reducible refine Moves.upd_cut (by decide +kernel) ?_)
    | (fail_if_no_progress with_reducible refine Moves.upd (h := ?_))
    | (dsimp only [id])
    | (split)
    | (intro _))

theorem jobCoded_touches (e : Nat) (n : Nat) (bad : Bool) (s : State) : Moves [.regs, .sent, .evt, .ctx, .cut, .shoe, .lnk] s (jobCoded e n bad s) := by
  unfold jobCoded
  try dsimp only
  repeat' (first
    | with_reducible exact Moves.refl _ _
    | with_reducible assumption
    | (with_reducible apply Moves.step (jobOutput_touches ..); decide +kernel)
    | (with_reducible apply Moves.step (mismatch_touches ..); decide +kernel)
    | (fail_if_no_progress with_reducible refine Moves.upd_regs (by decide +kernel) ?_)
    | (fail_if_no_progress with_reducible refine Moves.upd_sent (by decide +kernel) ?_)
    | (fail_if_no_progress with_reducible refine Moves.upd_evt (by decide +kernel) ?_)
    | (fail_if_no_progress with_reducible refine Moves.upd_ctx (by decide +kernel) ?_)
    | (fail_if_no_progress with_reducible refine Moves.upd_cut (by decide +kernel) ?_)
    | (fail_if_no_progress with_reducible refine Moves.upd_lnk (by decide +kernel) ?_)
    | (fail_if_no_progress with_reducible refine Moves.upd_shoe (by decide +kernel) rfl ?_)
    | (fail_if_no_progress with_reducible refine Moves.upd (h := ?_))
    | (dsimp only [id])
    | (split)
    | (intro _))

theorem reserve_touches {l : List Part} (hsub : [.tick, .regs, .sent, .evt, .ctx, .cut, .shoe, .mem, .lnk] ⊆ l) {f : State → State} (hf : ∀  a, Moves l a (f  a)) (n : Nat) (need : Nat) (s : State) : Moves l s (reserve n need f s) := by
  unfold reserve
  try dsimp only
  repeat' (first
    | (with_reducible apply Moves.trans ?_ (hf ..))
    | with_reducible exact Moves.refl _ _
    | with_reducible assumption
    | (with_reducible apply Moves.step (allocate_touches ..); exact List.Subset.trans (by decide +kernel) hsub)
    | (rename_i hq; with_reducible refine Moves.of_eq (by first | exact congrArg Prod.snd hq | exact congrArg (fun x => x.2.2) hq) (allocate_touches ..) (List.Subset.trans (by decide +kernel) hsub) ?_)
    | (with_reducible apply Moves.step (onJob_touches ..); exact List.Subset.trans (by decide +kernel) hsub)
    | (with_reducible apply Moves.step (endJob_touches ..); exact List.Subset.trans (by decide +kernel) hsub)
    | (with_reducible apply Moves.step (raise_touches ..); exact List.Subset.trans (by decide +kernel) hsub)
    | (dsimp only [id])
    | (split)
    | (intro _)
    | (fail_if_no_progress with_reducible refine Moves.upd_tick (Part.mem_of_sub hsub (by decide +kernel)) ?_)
    | (fail_if_no_progress with_reducible refine Moves.upd_regs (Part.mem_of_sub hsub (by decide +kernel)) ?_)
    | (fail_if_no_progress with_reducible refine Moves.upd_sent (Part.mem_of_sub hsub (by decide +kernel)) ?_)
    | (fail_if_no_progress with_reducible refine Moves.upd_evt (Part.mem_of_sub hsub (by decide +kernel)) ?_)
    | (fail_if_no_progress with_reducible refine Moves.upd_ctx (Part.mem_of_sub hsub (by decide +kernel)) ?_)
    | (fail_if_no_progress with_reducible refine Moves.upd_cut (Part.mem_of_sub hsub (by decide +kernel)) ?_)
    | (fail_if_no_progress with_reducible refine Moves.upd_lnk (Part.mem_of_sub hsub (by decide +kernel)) ?_)
    | (fail_if_no_progress with_reducible refine Moves.upd_shoe (Part.mem_of_sub hsub (by decide +kernel)) rfl ?_)
    | (fail_if_no_progress with_reducible refine Moves.upd (h := ?_)))

theorem reserve_step {l : List Part} (hsub : [.tick, .regs, .sent, .evt, .ctx, .cut, .shoe, .mem, .lnk] ⊆ l) {f : State → State} (hf : ∀  a, Moves l a (f  a)) {n : Nat} {need : Nat} {s a : State} (h : Moves l s a) : Moves l s (reserve n need f a) :=
  h.trans (reserve_touches hsub hf ..)

theorem onBlock_touches (n : Nat) (id : Nat) (f : Block → Block) (s : State) : Moves [.ctx] s (onBlock n id f s) := by
  unfold onBlock
  try dsimp only
  repeat' (first
    | with_reducible exact Moves.refl _ _
    | with_reducible assumption
    | (with_reducible apply Moves.step (State.onCtx_touches ..); decide +kernel)
    | (fail_if_no_progress with_reducible refine Moves.upd_ctx (by decide +kernel) ?_)
    | (fail_if_no_progress with_reducible refine Moves.upd (h := ?_))
    | (dsimp only [id])
    | (split)
    | (intro _))

theorem writeCoded_touches (e : Nat) (n : Nat) (b : Block) (bad : Bool) (s : State) : Moves [.regs, .sent, .evt, .ctx, .tables, .cut] s (writeCoded e n b bad s) := by
  unfold writeCoded
  try dsimp only
  repeat' (first
    | with_reducible exact Moves.refl _ _
    | with_reducible assumption
    | (with_reducible apply Moves.step (setGuarantee_touches ..); decide +kernel)
    | (with_reducible apply Moves.step (mismatch_touches ..); decide +kernel)
    | (with_reducible apply Moves.step (onBlock_touches ..); decide +kernel)
    | (fail_if_no_progress with_reducible refine Moves.upd_regs (by decide +kernel) ?_)
    | (fail_if_no_progress with_reducible refine Moves.upd_sent (by decide +kernel) ?_)
    | (fail_if_no_progress with_reducible refine Moves.upd_evt (by decide +kernel) ?_)
    | (fail_if_no_progress with_reducible refine Moves.upd_ctx (by decide +kernel) ?_)
    | (fail_if_no_progress with_reducible refine Moves.upd_tables (by decide +kernel) ?_)
    | (fail_if_no_progress with_reducible refine Moves.upd_cut (by decide +kernel) ?_)
    | (fail_if_no_progress with_reducible refine Moves.upd (h := ?_))
    | (dsimp only [id])
    | (split)
    | (intro _))

theorem freeEngine_touches (e : Nat) (s : State) : Moves [.cut] s (freeEngine e s) := by
  unfold freeEngine
  try dsimp only
  repeat' (first
    | with_reducible exact Moves.refl _ _
    | with_reducible assumption
    | (fail_if_no_progress with_reducible refine Moves.upd_cut (by decide +kernel) ?_)
    | (fail_if_no_progress with_reducible refine Moves.upd (h := ?_))
    | (dsimp only [id])
    | (split)
    | (intro _))

theorem restartWork_touches (e : Nat) (w : EngineWork) (s : State) : Moves [.sent, .evt, .ctx, .cut] s (restartWork e w s) := by
  unfold restartWork
  try dsimp only
  repeat' (first
    | with_reducible exact Moves.refl _ _
    | with_reducible assumption
    | (with_reducible apply Moves.step (onBlock_touches ..); decide +kernel)
    | (with_reducible apply Moves.step (raise_touches ..); decide +kernel)
    | (fail_if_no_progress with_reducible refine Moves.upd_sent (by decide +kernel) ?_)
    | (fail_if_no_progress with_reducible refine Moves.upd_evt (by decide +kernel) ?_)
    | (fail_if_no_progress with_reducible refine Moves.upd_ctx (by decide +kernel) ?_)
    | (fail_if_no_progress with_reducible refine Moves.upd_cut (by decide +kernel) ?_)
    | (fail_if_no_progress with_reducible refine Moves.upd (h := ?_))
    | (dsimp only [id])
    | (split)
    | (intro _))

theorem opBlockCoded_touches (e : Nat) (o : Sys2Proof.CodedOutcome) (s : State) : Moves [.regs, .sent, .evt, .ctx, .tables, .cut, .shoe, .lnk] s (opBlockCoded e o s) := by
  unfold opBlockCoded
  try dsimp only
  repeat' (first
    | with_reducible exact Moves.refl _ _
    | with_reducible assumption
    | (with_reducible apply Moves.step (writeCoded_touches ..); decide +kernel)
    | (with_reducible apply Moves.step (freeEngine_touches ..); decide +kernel)
    | (with_reducible apply Moves.step (restartWork_touches ..); decide +kernel)
    | (with_reducible apply Moves.step (jobCoded_touches ..); decide +kernel)
    | (fail_if_no_progress with_reducible refine Moves.upd_regs (by decide +kernel) ?_)
    | (fail_if_no_progress with_reducible refine Moves.upd_sent (by decide +kernel) ?_)
    | (fail_if_no_progress with_reducible refine Moves.upd_evt (by decide +kernel) ?_)
    | (fail_if_no_progress with_reducible refine Moves.upd_ctx (by decide +kernel) ?_)
    | (fail_if_no_progress with_reducible refine Moves.upd_tables (by decide +kernel) ?_)
    | (fail_if_no_progress with_reducible refine Moves.upd_cut (by decide +kernel) ?_)
    | (fail_if_no_progress with_reducible refine Moves.upd_lnk (by decide +kernel) ?_)
    | (fail_if_no_progress with_reducible refine Moves.upd_shoe (by decide +kernel) rfl ?_)
    | (fail_if_no_progress with_reducible refine Moves.upd (h := ?_))
    | (dsimp only [id])
    | (split)
    | (intro _))

theorem cutSource_touches (n : Nat) (t : Task) (s : State) : Moves [.ctx, .cut] s (cutSource n t s) := by
  unfold cutSource
  try dsimp only
  repeat' (first
    | with_reducible exact Moves.refl _ _
    | with_reducible assumption
    | (with_reducible apply Moves.step (queueJob_touches ..); decide +kernel)
    | (with_reducible apply Moves.step (onJob_touches ..); decide +kernel)
    | (with_reducible apply Moves.step (commenceOpen_touches ..); decide +kernel)
    | (fail_if_no_progress with_reducible refine Moves.upd_ctx (by decide +kernel) ?_)
    | (fail_if_no_progress with_reducible refine Moves.upd_cut (by decide +kernel) ?_)
    | (fail_if_no_progress with_reducible refine Moves.upd (h := ?_))
    | (dsimp only [id])
    | (split)
    | (intro _))

theorem jobDecoded_touches (e : Nat) (n : Nat) (s : State) : Moves [.regs, .sent, .evt, .ctx, .cut, .shoe, .lnk] s (jobDecoded e n s) := by
  unfold jobDecoded
  try dsimp only
  repeat' (first
    | with_reducible exact Moves.refl _ _
    | with_reducible assumption
    | (with_reducible apply Moves.step (jobOutput_touches ..); decide +kernel)
    | (with_reducible apply Moves.step (endJob_touches ..); decide +kernel)
    | (with_reducible apply Moves.step (raise_touches ..); decide +kernel)
    | (fail_if_no_progress with_reducible refine Moves.upd_regs (by decide +kernel) ?_)
    | (fail_if_no_progress with_reducible refine Moves.upd_sent (by decide +kernel) ?_)
    | (fail_if_no_progress with_reducible refine Moves.upd_evt (by decide +kernel) ?_)
    | (fail_if_no_progress with_reducible refine Moves.upd_ctx (by decide +kernel) ?_)
    | (fail_if_no_progress with_reducible refine Moves.upd_cut (by decide +kernel) ?_)
    | (fail_if_no_progress with_reducible refine Moves.upd_lnk (by decide +kernel) ?_)
    | (fail_if_no_progress with_reducible refine Moves.upd_shoe (by decide +kernel) rfl ?_)
    | (fail_if_no_progress with_reducible refine Moves.upd (h := ?_))
    | (dsimp only [id])
    | (split)
    | (intro _))

theorem restoreDecoded_touches (e : Nat) (n : Nat) (s : State) : Moves [.tick, .regs, .sent, .evt, .ctx, .cut, .shoe, .mem, .decks, .lnk, .pwr] s (restoreDecoded e n s) := by
  unfold restoreDecoded
  try dsimp only
  repeat' (first
    | with_reducible exact Moves.refl _ _
    | with_reducible assumption
    | (with_reducible apply Moves.step (failRead_touches ..); decide +kernel)
    | (with_reducible apply Moves.step (consume_touches ..); decide +kernel)
    | (with_reducible apply Moves.step (raise_touches ..); decide +kernel)
    | (fail_if_no_progress with_reducible refine Moves.upd_tick (by decide +kernel) ?_)
    | (fail_if_no_progress with_reducible refine Moves.upd_regs (by decide +kernel) ?_)
    | (fail_if_no_progress with_reducible refine Moves.upd_sent (by decide +kernel) ?_)
    | (fail_if_no_progress with_reducible refine Moves.upd_evt (by decide +kernel) ?_)
    | (fail_if_no_progress with_reducible refine Moves.upd_ctx (by decide +kernel) ?_)
    | (fail_if_no_progress with_reducible refine Moves.upd_cut (by decide +kernel) ?_)
    | (fail_if_no_progress with_reducible refine Moves.upd_decks (by decide +kernel) ?_)
    | (fail_if_no_progress with_reducible refine Moves.upd_lnk (by decide +kernel) ?_)
    | (fail_if_no_progress with_reducible refine Moves.upd_pwr (by decide +kernel) ?_)
    | (fail_if_no_progress with_reducible refine Moves.upd_shoe (by decide +kernel) rfl ?_)
    | (fail_if_no_progress with_reducible refine Moves.upd (h := ?_))
    | (dsimp only [id])
    | (split)
    | (intro _))

theorem opBlockDecode_touches (e : Nat) (parity : Bool) (s : State) : Moves [.tick, .regs, .sent, .evt, .ctx, .cut, .shoe, .mem, .decks, .lnk, .pwr] s (opBlockDecode e parity s) := by
  unfold opBlockDecode
  try dsimp only
  repeat' (first
    | with_reducible exact Moves.refl _ _
    | with_reducible assumption
    | (with_reducible apply Moves.step (freeEngine_touches ..); decide +kernel)
    | (with_reducible apply Moves.step (restartWork_touches ..); decide +kernel)
    | (with_reducible apply Moves.step (jobDecoded_touches ..); decide +kernel)
    | (with_reducible apply Moves.step (restoreDecoded_touches ..); decide +kernel)
    | (fail_if_no_progress with_reducible refine Moves.upd_tick (by decide +kernel) ?_)
    | (fail_if_no_progress with_reducible refine Moves.upd_regs (by decide +kernel) ?_)
    | (fail_if_no_progress with_reducible refine Moves.upd_sent (by decide +kernel) ?_)
    | (fail_if_no_progress with_reducible refine Moves.upd_evt (by decide +kernel) ?_)
    | (fail_if_no_progress with_reducible refine Moves.upd_ctx (by decide +kernel) ?_)
    | (fail_if_no_progress with_reducible refine Moves.upd_cut (by decide +kernel) ?_)
    | (fail_if_no_progress with_reducible refine Moves.upd_decks (by decide +kernel) ?_)
    | (fail_if_no_progress with_reducible refine Moves.upd_lnk (by decide +kernel) ?_)
    | (fail_if_no_progress with_reducible refine Moves.upd_pwr (by decide +kernel) ?_)
    | (fail_if_no_progress with_reducible refine Moves.upd_shoe (by decide +kernel) rfl ?_)
    | (fail_if_no_progress with_reducible refine Moves.upd (h := ?_))
    | (dsimp only [id])
    | (split)
    | (intro _))

theorem retryJob_touches (n : Nat) (s : State) : Moves [.tick, .regs, .sent, .evt, .ctx, .cut, .shoe, .mem, .lnk] s (retryJob n s) := by
  unfold retryJob
  try dsimp only
  repeat' (first
    | with_reducible exact Moves.refl _ _
    | with_reducible assumption
    | (with_reducible apply Moves.step (queueJob_touches ..); decide +kernel)
    | (with_reducible apply reserve_step; decide +kernel)
    | (with_reducible apply Moves.step (fetchSource_touches ..); decide +kernel)
    | (fail_if_no_progress with_reducible refine Moves.upd_tick (by decide +kernel) ?_)
    | (fail_if_no_progress with_reducible refine Moves.upd_regs (by decide +kernel) ?_)
    | (fail_if_no_progress with_reducible refine Moves.upd_sent (by decide +kernel) ?_)
    | (fail_if_no_progress with_reducible refine Moves.upd_evt (by decide +kernel) ?_)
    | (fail_if_no_progress with_reducible refine Moves.upd_ctx (by decide +kernel) ?_)
    | (fail_if_no_progress with_reducible refine Moves.upd_cut (by decide +kernel) ?_)
    | (fail_if_no_progress with_reducible refine Moves.upd_lnk (by decide +kernel) ?_)
    | (fail_if_no_progress with_reducible refine Moves.upd_shoe (by decide +kernel) rfl ?_)
    | (fail_if_no_progress with_reducible refine Moves.upd (h := ?_))
    | (dsimp only [id])
    | (split)
    | (intro _))

theorem runCut_touches (n : Nat) (t : Task) (s : State) : Moves [.tick, .regs, .sent, .evt, .ctx, .cut, .shoe, .mem, .lnk] s (runCut n t s) := by
  unfold runCut
  try dsimp only
  repeat' (first
    | with_reducible exact Moves.refl _ _
    | with_reducible assumption
    | (with_reducible apply Moves.step (fetchSource_touches ..); decide +kernel)
    | (with_reducible apply Moves.step (State.onCtx_touches ..); decide +kernel)
    | (with_reducible apply Moves.step (commenceOpen_touches ..); decide +kernel)
    | (with_reducible apply reserve_step; decide +kernel)
    | (with_reducible apply unlessRefused_step; decide +kernel)
    | (fail_if_no_progress with_reducible refine Moves.upd_tick (by decide +kernel) ?_)
    | (fail_if_no_progress with_reducible refine Moves.upd_regs (by decide +kernel) ?_)
    | (fail_if_no_progress with_reducible refine Moves.upd_sent (by decide +kernel) ?_)
    | (fail_if_no_progress with_reducible refine Moves.upd_evt (by decide +kernel) ?_)
    | (fail_if_no_progress with_reducible refine Moves.upd_ctx (by decide +kernel) ?_)
    | (fail_if_no_progress with_reducible refine Moves.upd_cut (by decide +kernel) ?_)
    | (fail_if_no_progress with_reducible refine Moves.upd_lnk (by decide +kernel) ?_)
    | (fail_if_no_progress with_reducible refine Moves.upd_shoe (by decide +kernel) rfl ?_)
    | (fail_if_no_progress with_reducible refine Moves.upd (h := ?_))
    | (dsimp only [id])
    | (split)
    | (intro _))

theorem opCut_touches (n : Nat) (s : State) : Moves [.tick, .regs, .sent, .evt, .ctx, .cut, .shoe, .mem, .lnk] s (opCut n s) := by
  unfold opCut
  try dsimp only
  repeat' (first
    | with_reducible exact Moves.refl _ _
    | with_reducible assumption
    | (with_reducible apply Moves.step (retryJob_touches ..); decide +kernel)
    | (with_reducible apply beginTask_step; decide +kernel)
    | (with_reducible apply Moves.step (runCut_touches ..); decide +kernel)
    | (fail_if_no_progress with_reducible refine Moves.upd_tick (by decide +kernel) ?_)
    | (fail_if_no_progress with_reducible refine Moves.upd_regs (by decide +kernel) ?_)
    | (fail_if_no_progress with_reducible refine Moves.upd_sent (by decide +kernel) ?_)
    | (fail_if_no_progress with_reducible refine Moves.upd_evt (by decide +kernel) ?_)
    | (fail_if_no_progress with_reducible refine Moves.upd_ctx (by decide +kernel) ?_)
    | (fail_if_no_progress with_reducible refine Moves.upd_cut (by decide +kernel) ?_)
    | (fail_if_no_progress with_reducible refine Moves.upd_lnk (by decide +kernel) ?_)
    | (fail_if_no_progress with_reducible refine Moves.upd_shoe (by decide +kernel) rfl ?_)
    | (fail_if_no_progress with_reducible refine Moves.upd (h := ?_))
    | (dsimp only [id])
    | (split)
    | (intro _))

theorem opPoolWaitResume_touches (k : Nat) (s : State) : Moves [.tick, .regs, .sent, .evt, .ctx, .tables, .cut, .shoe, .mem, .decks, .lnk, .pwr] s (opPoolWaitResume k s) := by
  unfold opPoolWaitResume
  try dsimp only
  repeat' (first
    | with_reducible exact Moves.refl _ _
    | with_reducible assumption
    | (with_reducible apply Moves.step (pumpSeek_touches ..); decide +kernel)
    | (with_reducible apply Moves.step (retryJob_touches ..); decide +kernel)
    | (with_reducible apply Moves.step (pump_touches ..); decide +kernel)
    | (with_reducible apply Moves.step (State.onTable_touches ..); decide +kernel)
    | (with_reducible apply forEach_step)
    | (fail_if_no_progress with_reducible refine Moves.upd_tick (by decide +kernel) ?_)
    | (fail_if_no_progress with_reducible refine Moves.upd_regs (by decide +kernel) ?_)
    | (fail_if_no_progress with_reducible refine Moves.upd_sent (by decide +kernel) ?_)
    | (fail_if_no_progress with_reducible refine Moves.upd_evt (by decide +kernel) ?_)
    | (fail_if_no_progress with_reducible refine Moves.upd_ctx (by decide +kernel) ?_)
    | (fail_if_no_progress with_reducible refine Moves.upd_tables (by decide +kernel) ?_)
    | (fail_if_no_progress with_reducible refine Moves.upd_cut (by decide +kernel) ?_)
    | (fail_if_no_progress with_reducible refine Moves.upd_decks (by decide +kernel) ?_)
    | (fail_if_no_progress with_reducible refine Moves.upd_lnk (by decide +kernel) ?_)
    | (fail_if_no_progress with_reducible refine Moves.upd_pwr (by decide +kernel) ?_)
    | (fail_if_no_progress with_reducible refine Moves.upd_shoe (by decide +kernel) rfl ?_)
    | (fail_if_no_progress with_reducible refine Moves.upd (h := ?_))
    | (dsimp only [id])
    | (split)
    | (intro _))

theorem opEngineOffWrite_touches (hi : Bool) (v : Sys2Proof.Word) (s : State) : Moves [.regs, .sent, .evt, .cut] s (opEngineOffWrite hi v s) := by
  unfold opEngineOffWrite
  try dsimp only
  repeat' (first
    | with_reducible exact Moves.refl _ _
    | with_reducible assumption
    | (with_reducible apply Moves.step (State.setReg_touches ..); decide +kernel)
    | (with_reducible apply Moves.step (raise_touches ..); decide +kernel)
    | (with_reducible apply forEach_step)
    | (fail_if_no_progress with_reducible refine Moves.upd_regs (by decide +kernel) ?_)
    | (fail_if_no_progress with_reducible refine Moves.upd_sent (by decide +kernel) ?_)
    | (fail_if_no_progress with_reducible refine Moves.upd_evt (by decide +kernel) ?_)
    | (fail_if_no_progress with_reducible refine Moves.upd_cut (by decide +kernel) ?_)
    | (fail_if_no_progress with_reducible refine Moves.upd (h := ?_))
    | (dsimp only [id])
    | (split)
    | (intro _))

theorem uncutSource_touches (n : Nat) (t : Task) (s : State) : Moves [.tick, .regs, .sent, .evt, .ctx, .cut, .shoe, .mem, .lnk] s (uncutSource n t s) := by
  unfold uncutSource
  try dsimp only
  repeat' (first
    | with_reducible exact Moves.refl _ _
    | with_reducible assumption
    | (with_reducible apply Moves.step (queueJob_touches ..); decide +kernel)
    | (with_reducible apply Moves.step (onJob_touches ..); decide +kernel)
    | (with_reducible apply Moves.step (commenceOpen_touches ..); decide +kernel)
    | (with_reducible apply reserve_step; decide +kernel)
    | (with_reducible apply Moves.step (endJob_touches ..); decide +kernel)
    | (with_reducible apply Moves.step (raise_touches ..); decide +kernel)
    | (fail_if_no_progress with_reducible refine Moves.upd_tick (by decide +kernel) ?_)
    | (fail_if_no_progress with_reducible refine Moves.upd_regs (by decide +kernel) ?_)
    | (fail_if_no_progress with_reducible refine Moves.upd_sent (by decide +kernel) ?_)
    | (fail_if_no_progress with_reducible refine Moves.upd_evt (by decide +kernel) ?_)
    | (fail_if_no_progress with_reducible refine Moves.upd_ctx (by decide +kernel) ?_)
    | (fail_if_no_progress with_reducible refine Moves.upd_cut (by decide +kernel) ?_)
    | (fail_if_no_progress with_reducible refine Moves.upd_lnk (by decide +kernel) ?_)
    | (fail_if_no_progress with_reducible refine Moves.upd_shoe (by decide +kernel) rfl ?_)
    | (fail_if_no_progress with_reducible refine Moves.upd (h := ?_))
    | (dsimp only [id])
    | (split)
    | (intro _))

theorem opUncut_touches (n : Nat) (s : State) : Moves [.tick, .regs, .sent, .evt, .ctx, .cut, .shoe, .mem, .lnk] s (opUncut n s) := by
  unfold opUncut
  try dsimp only
  repeat' (first
    | with_reducible exact Moves.refl _ _
    | with_reducible assumption
    | (with_reducible apply Moves.step (retryJob_touches ..); decide +kernel)
    | (with_reducible apply beginTask_step; decide +kernel)
    | (with_reducible apply Moves.step (runUncut_touches ..); decide +kernel)
    | (fail_if_no_progress with_reducible refine Moves.upd_tick (by decide +kernel) ?_)
    | (fail_if_no_progress with_reducible refine Moves.upd_regs (by decide +kernel) ?_)
    | (fail_if_no_progress with_reducible refine Moves.upd_sent (by decide +kernel) ?_)
    | (fail_if_no_progress with_reducible refine Moves.upd_evt (by decide +kernel) ?_)
    | (fail_if_no_progress with_reducible refine Moves.upd_ctx (by decide +kernel) ?_)
    | (fail_if_no_progress with_reducible refine Moves.upd_cut (by decide +kernel) ?_)
    | (fail_if_no_progress with_reducible refine Moves.upd_lnk (by decide +kernel) ?_)
    | (fail_if_no_progress with_reducible refine Moves.upd_shoe (by decide +kernel) rfl ?_)
    | (fail_if_no_progress with_reducible refine Moves.upd (h := ?_))
    | (dsimp only [id])
    | (split)
    | (intro _))

theorem opEngineDispatch_touches (e : Nat) (s : State) : Moves [.ctx, .cut] s (opEngineDispatch e s) := by
  unfold opEngineDispatch
  try dsimp only
  repeat' (first
    | with_reducible exact Moves.refl _ _
    | with_reducible assumption
    | (with_reducible apply Moves.step (onBlock_touches ..); decide +kernel)
    | (fail_if_no_progress with_reducible refine Moves.upd_ctx (by decide +kernel) ?_)
    | (fail_if_no_progress with_reducible refine Moves.upd_cut (by decide +kernel) ?_)
    | (fail_if_no_progress with_reducible refine Moves.upd (h := ?_))
    | (dsimp only [id])
    | (split)
    | (intro _))

theorem opHostJobCopy_touches (n : Nat) (s : State) : Moves [.regs, .sent, .evt, .ctx, .cut, .shoe, .lnk] s (opHostJobCopy n s) := by
  unfold opHostJobCopy
  try dsimp only
  repeat' (first
    | with_reducible exact Moves.refl _ _
    | with_reducible assumption
    | (with_reducible apply Moves.step (State.onTask_touches ..); decide +kernel)
    | (with_reducible apply Moves.step (meterSeal_touches ..); decide +kernel)
    | (with_reducible apply Moves.step (hostWrite_touches ..); decide +kernel)
    | (with_reducible apply Moves.step (endJob_touches ..); decide +kernel)
    | (fail_if_no_progress with_reducible refine Moves.upd_regs (by decide +kernel) ?_)
    | (fail_if_no_progress with_reducible refine Moves.upd_sent (by decide +kernel) ?_)
    | (fail_if_no_progress with_reducible refine Moves.upd_evt (by decide +kernel) ?_)
    | (fail_if_no_progress with_reducible refine Moves.upd_ctx (by decide +kernel) ?_)
    | (fail_if_no_progress with_reducible refine Moves.upd_cut (by decide +kernel) ?_)
    | (fail_if_no_progress with_reducible refine Moves.upd_lnk (by decide +kernel) ?_)
    | (fail_if_no_progress with_reducible refine Moves.upd_shoe (by decide +kernel) rfl ?_)
    | (fail_if_no_progress with_reducible refine Moves.upd (h := ?_))
    | (dsimp only [id])
    | (split)
    | (intro _))

end Sys2Proof.Machine
end

