-- ==== Sys2Proof/Laws/FramesTape.lean ====
section
/-! SUPPORT. What the operations of the encoder, the Loupe and Jasper touch. -/

namespace Sys2Proof.Machine

set_option Elab.async false
set_option maxHeartbeats 4000000

theorem dueTrick_touches (d : Nat) (s : State) : Moves [.sent, .evt, .decks] s (dueTrick d s).2 := by
  unfold dueTrick
  try dsimp only
  repeat' (first
    | with_reducible exact Moves.refl _ _
    | with_reducible assumption
    | (with_reducible apply Moves.step (State.onDeck_touches ..); decide +kernel)
    | (with_reducible apply Moves.step (raiseDeck_touches ..); decide +kernel)
    | (fail_if_no_progress with_reducible refine Moves.upd_sent (by decide +kernel) ?_)
    | (fail_if_no_progress with_reducible refine Moves.upd_evt (by decide +kernel) ?_)
    | (fail_if_no_progress with_reducible refine Moves.upd_decks (by decide +kernel) ?_)
    | (fail_if_no_progress with_reducible refine Moves.upd (h := ?_))
    | (dsimp only [id])
    | (split)
    | (intro _))

theorem chooseTrick_touches (d : Nat) (s : State) : Moves [.sent, .evt, .decks] s (chooseTrick d s).2 := by
  unfold chooseTrick
  try dsimp only
  repeat' (first
    | with_reducible exact Moves.refl _ _
    | with_reducible assumption
    | (with_reducible apply Moves.step (dueTrick_touches ..); decide +kernel)
    | (rename_i hq; with_reducible refine Moves.of_eq (by first | exact congrArg Prod.snd hq | exact congrArg (fun x => x.2.2) hq) (dueTrick_touches ..) (by decide +kernel) ?_)
    | (with_reducible apply Moves.step (State.onDeck_touches ..); decide +kernel)
    | (fail_if_no_progress with_reducible refine Moves.upd_sent (by decide +kernel) ?_)
    | (fail_if_no_progress with_reducible refine Moves.upd_evt (by decide +kernel) ?_)
    | (fail_if_no_progress with_reducible refine Moves.upd_decks (by decide +kernel) ?_)
    | (fail_if_no_progress with_reducible refine Moves.upd (h := ?_))
    | (dsimp only [id])
    | (split)
    | (intro _))

theorem countWrap_touches (d : Nat) (x : Nat) (n : Nat) (s : State) : Moves [.regs] s (countWrap d x n s) := by
  unfold countWrap
  try dsimp only
  repeat' (first
    | with_reducible exact Moves.refl _ _
    | with_reducible assumption
    | (with_reducible apply Moves.step (State.addFld_touches ..); decide +kernel)
    | (fail_if_no_progress with_reducible refine Moves.upd_regs (by decide +kernel) ?_)
    | (fail_if_no_progress with_reducible refine Moves.upd (h := ?_))
    | (dsimp only [id])
    | (split)
    | (intro _))

theorem beginWriting_touches (d : Nat) (t : Trick) (tpc : Sys2Proof.Word) (s : State) : Moves [.regs, .decks] s (beginWriting d t tpc s) := by
  unfold beginWriting
  try dsimp only
  repeat' (first
    | with_reducible exact Moves.refl _ _
    | with_reducible assumption
    | (with_reducible apply Moves.step (State.onDeck_touches ..); decide +kernel)
    | (with_reducible apply Moves.step (countWrap_touches ..); decide +kernel)
    | (fail_if_no_progress with_reducible refine Moves.upd_regs (by decide +kernel) ?_)
    | (fail_if_no_progress with_reducible refine Moves.upd_decks (by decide +kernel) ?_)
    | (fail_if_no_progress with_reducible refine Moves.upd (h := ?_))
    | (dsimp only [id])
    | (split)
    | (intro _))

theorem roundWritten_touches (d : Nat) (s : State) : Moves [.tables, .decks] s (roundWritten d s) := by
  unfold roundWritten
  try dsimp only
  repeat' (first
    | with_reducible exact Moves.refl _ _
    | with_reducible assumption
    | (with_reducible apply Moves.step (State.onDeck_touches ..); decide +kernel)
    | (with_reducible apply Moves.step (State.onTable_touches ..); decide +kernel)
    | (fail_if_no_progress with_reducible refine Moves.upd_tables (by decide +kernel) ?_)
    | (fail_if_no_progress with_reducible refine Moves.upd_decks (by decide +kernel) ?_)
    | (fail_if_no_progress with_reducible refine Moves.upd (h := ?_))
    | (dsimp only [id])
    | (split)
    | (intro _))

theorem scriptDone_touches (d : Nat) (s : State) : Moves [.tables, .decks] s (scriptDone d s) := by
  unfold scriptDone
  try dsimp only
  repeat' (first
    | with_reducible exact Moves.refl _ _
    | with_reducible assumption
    | (with_reducible apply Moves.step (State.onDeck_touches ..); decide +kernel)
    | (with_reducible apply Moves.step (State.onTable_touches ..); decide +kernel)
    | (fail_if_no_progress with_reducible refine Moves.upd_tables (by decide +kernel) ?_)
    | (fail_if_no_progress with_reducible refine Moves.upd_decks (by decide +kernel) ?_)
    | (fail_if_no_progress with_reducible refine Moves.upd (h := ?_))
    | (dsimp only [id])
    | (split)
    | (intro _))

theorem finishWriting_touches (d : Nat) (s : State) : Moves [.tables, .decks] s (finishWriting d s) := by
  unfold finishWriting
  try dsimp only
  repeat' (first
    | with_reducible exact Moves.refl _ _
    | with_reducible assumption
    | (with_reducible apply Moves.step (State.onDeck_touches ..); decide +kernel)
    | (with_reducible apply Moves.step (roundWritten_touches ..); decide +kernel)
    | (with_reducible apply Moves.step (scriptDone_touches ..); decide +kernel)
    | (fail_if_no_progress with_reducible refine Moves.upd_tables (by decide +kernel) ?_)
    | (fail_if_no_progress with_reducible refine Moves.upd_decks (by decide +kernel) ?_)
    | (fail_if_no_progress with_reducible refine Moves.upd (h := ?_))
    | (dsimp only [id])
    | (split)
    | (intro _))

theorem endWrap_touches (d : Nat) (s : State) : Moves [.regs, .sent, .evt, .decks] s (endWrap d s) := by
  unfold endWrap
  try dsimp only
  repeat' (first
    | with_reducible exact Moves.refl _ _
    | with_reducible assumption
    | (with_reducible apply Moves.step (State.onDeck_touches ..); decide +kernel)
    | (with_reducible apply Moves.step (State.setReg_touches ..); decide +kernel)
    | (with_reducible apply Moves.step (raiseKept_touches ..); decide +kernel)
    | (with_reducible apply forEach_step)
    | (fail_if_no_progress with_reducible refine Moves.upd_regs (by decide +kernel) ?_)
    | (fail_if_no_progress with_reducible refine Moves.upd_sent (by decide +kernel) ?_)
    | (fail_if_no_progress with_reducible refine Moves.upd_evt (by decide +kernel) ?_)
    | (fail_if_no_progress with_reducible refine Moves.upd_decks (by decide +kernel) ?_)
    | (fail_if_no_progress with_reducible refine Moves.upd (h := ?_))
    | (dsimp only [id])
    | (split)
    | (intro _))

theorem gotoWrap_touches (d : Nat) (w : Nat) (s : State) : Moves [.regs, .sent, .evt, .decks] s (gotoWrap d w s) := by
  unfold gotoWrap
  try dsimp only
  repeat' (first
    | with_reducible exact Moves.refl _ _
    | with_reducible assumption
    | (with_reducible apply Moves.step (endWrap_touches ..); decide +kernel)
    | (with_reducible apply Moves.step (State.onMotion_touches ..); decide +kernel)
    | (fail_if_no_progress with_reducible refine Moves.upd_regs (by decide +kernel) ?_)
    | (fail_if_no_progress with_reducible refine Moves.upd_sent (by decide +kernel) ?_)
    | (fail_if_no_progress with_reducible refine Moves.upd_evt (by decide +kernel) ?_)
    | (fail_if_no_progress with_reducible refine Moves.upd_decks (by decide +kernel) ?_)
    | (fail_if_no_progress with_reducible refine Moves.upd (h := ?_))
    | (dsimp only [id])
    | (split)
    | (intro _))

theorem openWrite_touches (d : Nat) (s : State) : Moves [.regs, .sent, .evt, .decks] s (openWrite d s) := by
  unfold openWrite
  try dsimp only
  repeat' (first
    | with_reducible exact Moves.refl _ _
    | with_reducible assumption
    | (with_reducible apply Moves.step (State.putDeck_touches ..); decide +kernel)
    | (with_reducible apply Moves.step (sendMode_touches ..); decide +kernel)
    | (with_reducible apply Moves.step (gotoWrap_touches ..); decide +kernel)
    | (fail_if_no_progress with_reducible refine Moves.upd_regs (by decide +kernel) ?_)
    | (fail_if_no_progress with_reducible refine Moves.upd_sent (by decide +kernel) ?_)
    | (fail_if_no_progress with_reducible refine Moves.upd_evt (by decide +kernel) ?_)
    | (fail_if_no_progress with_reducible refine Moves.upd_decks (by decide +kernel) ?_)
    | (fail_if_no_progress with_reducible refine Moves.upd (h := ?_))
    | (dsimp only [id])
    | (split)
    | (intro _))

theorem startTape_touches (d : Nat) (s : State) : Moves [.sent, .evt, .decks, .pwr] s (startTape d s) := by
  unfold startTape
  try dsimp only
  repeat' (first
    | with_reducible exact Moves.refl _ _
    | with_reducible assumption
    | (with_reducible apply Moves.step (leaveIdle_touches ..); decide +kernel)
    | (with_reducible apply Moves.step (State.onDeck_touches ..); decide +kernel)
    | (fail_if_no_progress with_reducible refine Moves.upd_sent (by decide +kernel) ?_)
    | (fail_if_no_progress with_reducible refine Moves.upd_evt (by decide +kernel) ?_)
    | (fail_if_no_progress with_reducible refine Moves.upd_decks (by decide +kernel) ?_)
    | (fail_if_no_progress with_reducible refine Moves.upd_pwr (by decide +kernel) ?_)
    | (fail_if_no_progress with_reducible refine Moves.upd (h := ?_))
    | (dsimp only [id])
    | (split)
    | (intro _))

theorem opEndOfDataWrite_touches (d : Nat) (s : State) : Moves [.regs, .sent, .evt, .decks, .pwr] s (opEndOfDataWrite d s) := by
  unfold opEndOfDataWrite
  try dsimp only
  repeat' (first
    | with_reducible exact Moves.refl _ _
    | with_reducible assumption
    | (with_reducible apply Moves.step (openWrite_touches ..); decide +kernel)
    | (with_reducible apply Moves.step (State.onDeck_touches ..); decide +kernel)
    | (with_reducible apply Moves.step (startTape_touches ..); decide +kernel)
    | (fail_if_no_progress with_reducible refine Moves.upd_regs (by decide +kernel) ?_)
    | (fail_if_no_progress with_reducible refine Moves.upd_sent (by decide +kernel) ?_)
    | (fail_if_no_progress with_reducible refine Moves.upd_evt (by decide +kernel) ?_)
    | (fail_if_no_progress with_reducible refine Moves.upd_decks (by decide +kernel) ?_)
    | (fail_if_no_progress with_reducible refine Moves.upd_pwr (by decide +kernel) ?_)
    | (fail_if_no_progress with_reducible refine Moves.upd (h := ?_))
    | (dsimp only [id])
    | (split)
    | (intro _))

theorem completeSeat_touches (td : Nat) (p : Nat) (q : Nat) (s : State) : Moves [.regs, .ctx, .tables] s (completeSeat td p q s) := by
  unfold completeSeat
  try dsimp only
  repeat' (first
    | with_reducible exact Moves.refl _ _
    | with_reducible assumption
    | (with_reducible apply Moves.step (State.setReg_touches ..); decide +kernel)
    | (with_reducible apply Moves.step (finish_touches ..); decide +kernel)
    | (with_reducible apply Moves.step (State.setFld_touches ..); decide +kernel)
    | (with_reducible apply Moves.step (State.onTable_touches ..); decide +kernel)
    | (with_reducible apply forEach_step)
    | (fail_if_no_progress with_reducible refine Moves.upd_regs (by decide +kernel) ?_)
    | (fail_if_no_progress with_reducible refine Moves.upd_ctx (by decide +kernel) ?_)
    | (fail_if_no_progress with_reducible refine Moves.upd_tables (by decide +kernel) ?_)
    | (fail_if_no_progress with_reducible refine Moves.upd (h := ?_))
    | (dsimp only [id])
    | (split)
    | (intro _))

theorem wakeWaiters_touches (td : Nat) (p : Nat) (id : Nat) (n : Nat) (s : State) : Moves [.regs, .ctx, .tables] s (wakeWaiters td p id n s) := by
  unfold wakeWaiters
  try dsimp only
  repeat' (first
    | with_reducible exact Moves.refl _ _
    | with_reducible assumption
    | (with_reducible apply Moves.step (State.onTask_touches ..); decide +kernel)
    | (with_reducible apply Moves.step (completeSeat_touches ..); decide +kernel)
    | (with_reducible apply Moves.step (finish_touches ..); decide +kernel)
    | (with_reducible apply forEach_step)
    | (fail_if_no_progress with_reducible refine Moves.upd_regs (by decide +kernel) ?_)
    | (fail_if_no_progress with_reducible refine Moves.upd_ctx (by decide +kernel) ?_)
    | (fail_if_no_progress with_reducible refine Moves.upd_tables (by decide +kernel) ?_)
    | (fail_if_no_progress with_reducible refine Moves.upd (h := ?_))
    | (dsimp only [id])
    | (split)
    | (intro _))

theorem endZoneMet_touches (td : Nat) (p : Nat) (s : State) : Moves [.regs, .sent, .evt, .ctx, .tables, .cut, .keys, .shoe, .decks, .lnk] s (endZoneMet td p s) := by
  unfold endZoneMet
  try dsimp only
  repeat' (first
    | with_reducible exact Moves.refl _ _
    | with_reducible assumption
    | (with_reducible apply Moves.step (freeList_touches ..); decide +kernel)
    | (with_reducible apply Moves.step (freeImage_touches ..); decide +kernel)
    | (with_reducible apply Moves.step (wakeWaiters_touches ..); decide +kernel)
    | (with_reducible apply Moves.step (deferError_touches ..); decide +kernel)
    | (with_reducible apply Moves.step (refuseEndZone_touches ..); decide +kernel)
    | (with_reducible apply Moves.step (State.onDeck_touches ..); decide +kernel)
    | (with_reducible apply Moves.step (State.onTable_touches ..); decide +kernel)
    | (with_reducible apply forEach_step)
    | (fail_if_no_progress with_reducible refine Moves.upd_regs (by decide +kernel) ?_)
    | (fail_if_no_progress with_reducible refine Moves.upd_sent (by decide +kernel) ?_)
    | (fail_if_no_progress with_reducible refine Moves.upd_evt (by decide +kernel) ?_)
    | (fail_if_no_progress with_reducible refine Moves.upd_ctx (by decide +kernel) ?_)
    | (fail_if_no_progress with_reducible refine Moves.upd_tables (by decide +kernel) ?_)
    | (fail_if_no_progress with_reducible refine Moves.upd_cut (by decide +kernel) ?_)
    | (fail_if_no_progress with_reducible refine Moves.upd_keys (by decide +kernel) ?_)
    | (fail_if_no_progress with_reducible refine Moves.upd_decks (by decide +kernel) ?_)
    | (fail_if_no_progress with_reducible refine Moves.upd_lnk (by decide +kernel) ?_)
    | (fail_if_no_progress with_reducible refine Moves.upd_shoe (by decide +kernel) rfl ?_)
    | (fail_if_no_progress with_reducible refine Moves.upd (h := ?_))
    | (dsimp only [id])
    | (split)
    | (intro _))

theorem opRoundWriteStart_touches (d : Nat) (s : State) : Moves [.regs, .sent, .evt, .ctx, .tables, .cut, .keys, .shoe, .decks, .lnk, .pwr] s (opRoundWriteStart d s) := by
  unfold opRoundWriteStart
  try dsimp only
  repeat' (first
    | with_reducible exact Moves.refl _ _
    | with_reducible assumption
    | (with_reducible apply Moves.step (openWrite_touches ..); decide +kernel)
    | (with_reducible apply Moves.step (State.onDeck_touches ..); decide +kernel)
    | (with_reducible apply Moves.step (startTape_touches ..); decide +kernel)
    | (with_reducible apply Moves.step (endZoneMet_touches ..); decide +kernel)
    | (fail_if_no_progress with_reducible refine Moves.upd_regs (by decide +kernel) ?_)
    | (fail_if_no_progress with_reducible refine Moves.upd_sent (by decide +kernel) ?_)
    | (fail_if_no_progress with_reducible refine Moves.upd_evt (by decide +kernel) ?_)
    | (fail_if_no_progress with_reducible refine Moves.upd_ctx (by decide +kernel) ?_)
    | (fail_if_no_progress with_reducible refine Moves.upd_tables (by decide +kernel) ?_)
    | (fail_if_no_progress with_reducible refine Moves.upd_cut (by decide +kernel) ?_)
    | (fail_if_no_progress with_reducible refine Moves.upd_keys (by decide +kernel) ?_)
    | (fail_if_no_progress with_reducible refine Moves.upd_decks (by decide +kernel) ?_)
    | (fail_if_no_progress with_reducible refine Moves.upd_lnk (by decide +kernel) ?_)
    | (fail_if_no_progress with_reducible refine Moves.upd_pwr (by decide +kernel) ?_)
    | (fail_if_no_progress with_reducible refine Moves.upd_shoe (by decide +kernel) rfl ?_)
    | (fail_if_no_progress with_reducible refine Moves.upd (h := ?_))
    | (dsimp only [id])
    | (split)
    | (intro _))

theorem interruptWriting_touches (d : Nat) (s : State) : Moves [.decks] s (interruptWriting d s) := by
  unfold interruptWriting
  try dsimp only
  repeat' (first
    | with_reducible exact Moves.refl _ _
    | with_reducible assumption
    | (with_reducible apply Moves.step (State.putDeck_touches ..); decide +kernel)
    | (fail_if_no_progress with_reducible refine Moves.upd_decks (by decide +kernel) ?_)
    | (fail_if_no_progress with_reducible refine Moves.upd (h := ?_))
    | (dsimp only [id])
    | (split)
    | (intro _))

theorem holdForGroup_touches (d : Nat) (tpc : Sys2Proof.Word) (left : Nat) (s : State) : Moves [.tables, .decks] s (holdForGroup d tpc left s) := by
  unfold holdForGroup
  try dsimp only
  repeat' (first
    | with_reducible exact Moves.refl _ _
    | with_reducible assumption
    | (with_reducible apply Moves.step (interruptWriting_touches ..); decide +kernel)
    | (with_reducible apply Moves.step (State.onDeck_touches ..); decide +kernel)
    | (with_reducible apply Moves.step (finishWriting_touches ..); decide +kernel)
    | (with_reducible apply Moves.step (State.onMotion_touches ..); decide +kernel)
    | (fail_if_no_progress with_reducible refine Moves.upd_tables (by decide +kernel) ?_)
    | (fail_if_no_progress with_reducible refine Moves.upd_decks (by decide +kernel) ?_)
    | (fail_if_no_progress with_reducible refine Moves.upd (h := ?_))
    | (dsimp only [id])
    | (split)
    | (intro _))

theorem fixNext_touches (d : Nat) (s : State) : Moves [.sent, .evt, .decks] s (fixNext d s) := by
  unfold fixNext
  try dsimp only
  repeat' (first
    | with_reducible exact Moves.refl _ _
    | with_reducible assumption
    | (with_reducible apply Moves.step (chooseTrick_touches ..); decide +kernel)
    | (rename_i hq; with_reducible refine Moves.of_eq (by first | exact congrArg Prod.snd hq | exact congrArg (fun x => x.2.2) hq) (chooseTrick_touches ..) (by decide +kernel) ?_)
    | (with_reducible apply Moves.step (State.onDeck_touches ..); decide +kernel)
    | (fail_if_no_progress with_reducible refine Moves.upd_sent (by decide +kernel) ?_)
    | (fail_if_no_progress with_reducible refine Moves.upd_evt (by decide +kernel) ?_)
    | (fail_if_no_progress with_reducible refine Moves.upd_decks (by decide +kernel) ?_)
    | (fail_if_no_progress with_reducible refine Moves.upd (h := ?_))
    | (dsimp only [id])
    | (split)
    | (intro _))

theorem beginSegment_touches (d : Nat) (seg : Nat × Sys2Proof.Word × List Trick) (s : State) : Moves [.regs, .sent, .evt, .decks, .pwr] s (beginSegment d seg s) := by
  unfold beginSegment
  try dsimp only
  repeat' (first
    | with_reducible exact Moves.refl _ _
    | with_reducible assumption
    | (with_reducible apply Moves.step (openWrite_touches ..); decide +kernel)
    | (with_reducible apply Moves.step (State.putDeck_touches ..); decide +kernel)
    | (with_reducible apply Moves.step (startTape_touches ..); decide +kernel)
    | (with_reducible apply Moves.step (sendMode_touches ..); decide +kernel)
    | (fail_if_no_progress with_reducible refine Moves.upd_regs (by decide +kernel) ?_)
    | (fail_if_no_progress with_reducible refine Moves.upd_sent (by decide +kernel) ?_)
    | (fail_if_no_progress with_reducible refine Moves.upd_evt (by decide +kernel) ?_)
    | (fail_if_no_progress with_reducible refine Moves.upd_decks (by decide +kernel) ?_)
    | (fail_if_no_progress with_reducible refine Moves.upd_pwr (by decide +kernel) ?_)
    | (fail_if_no_progress with_reducible refine Moves.upd (h := ?_))
    | (dsimp only [id])
    | (split)
    | (intro _))

theorem segmentDone_touches (d : Nat) (s0 : State) : Moves [.regs, .sent, .evt, .ctx, .decks, .pwr] s0 (segmentDone d s0) := by
  unfold segmentDone
  try dsimp only
  repeat' (first
    | with_reducible exact Moves.refl _ _
    | with_reducible assumption
    | (with_reducible apply Moves.step (finish_touches ..); decide +kernel)
    | (with_reducible apply Moves.step (State.putDeck_touches ..); decide +kernel)
    | (with_reducible apply Moves.step (State.onDeck_touches ..); decide +kernel)
    | (with_reducible apply Moves.step (beginSegment_touches ..); decide +kernel)
    | (fail_if_no_progress with_reducible refine Moves.upd_regs (by decide +kernel) ?_)
    | (fail_if_no_progress with_reducible refine Moves.upd_sent (by decide +kernel) ?_)
    | (fail_if_no_progress with_reducible refine Moves.upd_evt (by decide +kernel) ?_)
    | (fail_if_no_progress with_reducible refine Moves.upd_ctx (by decide +kernel) ?_)
    | (fail_if_no_progress with_reducible refine Moves.upd_decks (by decide +kernel) ?_)
    | (fail_if_no_progress with_reducible refine Moves.upd_pwr (by decide +kernel) ?_)
    | (fail_if_no_progress with_reducible refine Moves.upd (h := ?_))
    | (dsimp only [id])
    | (split)
    | (intro _))

theorem endStream_touches (d : Nat) (s : State) : Moves [.sent, .decks] s (endStream d s) := by
  unfold endStream
  try dsimp only
  repeat' (first
    | with_reducible exact Moves.refl _ _
    | with_reducible assumption
    | (with_reducible apply Moves.step (State.putDeck_touches ..); decide +kernel)
    | (with_reducible apply Moves.step (sendMode_touches ..); decide +kernel)
    | (fail_if_no_progress with_reducible refine Moves.upd_sent (by decide +kernel) ?_)
    | (fail_if_no_progress with_reducible refine Moves.upd_decks (by decide +kernel) ?_)
    | (fail_if_no_progress with_reducible refine Moves.upd (h := ?_))
    | (dsimp only [id])
    | (split)
    | (intro _))

theorem beginFixed_touches (d : Nat) (tpc : Sys2Proof.Word) (left : Nat) (s : State) : Moves [.regs, .sent, .evt, .ctx, .tables, .cut, .shoe, .decks, .loops, .lnk, .pwr] s (beginFixed d tpc left s) := by
  unfold beginFixed
  try dsimp only
  repeat' (first
    | with_reducible exact Moves.refl _ _
    | with_reducible assumption
    | (with_reducible apply Moves.step (controlledStop_touches ..); decide +kernel)
    | (with_reducible apply Moves.step (State.putDeck_touches ..); decide +kernel)
    | (with_reducible apply Moves.step (fixNext_touches ..); decide +kernel)
    | (with_reducible apply Moves.step (beginWriting_touches ..); decide +kernel)
    | (with_reducible apply Moves.step (segmentDone_touches ..); decide +kernel)
    | (with_reducible apply Moves.step (endStream_touches ..); decide +kernel)
    | (fail_if_no_progress with_reducible refine Moves.upd_regs (by decide +kernel) ?_)
    | (fail_if_no_progress with_reducible refine Moves.upd_sent (by decide +kernel) ?_)
    | (fail_if_no_progress with_reducible refine Moves.upd_evt (by decide +kernel) ?_)
    | (fail_if_no_progress with_reducible refine Moves.upd_ctx (by decide +kernel) ?_)
    | (fail_if_no_progress with_reducible refine Moves.upd_tables (by decide +kernel) ?_)
    | (fail_if_no_progress with_reducible refine Moves.upd_cut (by decide +kernel) ?_)
    | (fail_if_no_progress with_reducible refine Moves.upd_decks (by decide +kernel) ?_)
    | (fail_if_no_progress with_reducible refine Moves.upd_loops (by decide +kernel) ?_)
    | (fail_if_no_progress with_reducible refine Moves.upd_lnk (by decide +kernel) ?_)
    | (fail_if_no_progress with_reducible refine Moves.upd_pwr (by decide +kernel) ?_)
    | (fail_if_no_progress with_reducible refine Moves.upd_shoe (by decide +kernel) rfl ?_)
    | (fail_if_no_progress with_reducible refine Moves.upd (h := ?_))
    | (dsimp only [id])
    | (split)
    | (intro _))

theorem opTrickBegin_touches (d : Nat) (tpc : Sys2Proof.Word) (left : Nat) (leftInWrap : Nat) (s : State) : Moves [.regs, .sent, .evt, .ctx, .tables, .cut, .shoe, .decks, .loops, .lnk, .pwr] s (opTrickBegin d tpc left leftInWrap s) := by
  unfold opTrickBegin
  try dsimp only
  repeat' (first
    | with_reducible exact Moves.refl _ _
    | with_reducible assumption
    | (with_reducible apply Moves.step (controlledStop_touches ..); decide +kernel)
    | (with_reducible apply Moves.step (holdForGroup_touches ..); decide +kernel)
    | (with_reducible apply Moves.step (fixNext_touches ..); decide +kernel)
    | (with_reducible apply Moves.step (State.onDeck_touches ..); decide +kernel)
    | (with_reducible apply Moves.step (beginWriting_touches ..); decide +kernel)
    | (with_reducible apply Moves.step (finishWriting_touches ..); decide +kernel)
    | (with_reducible apply Moves.step (beginFixed_touches ..); decide +kernel)
    | (fail_if_no_progress with_reducible refine Moves.upd_regs (by decide +kernel) ?_)
    | (fail_if_no_progress with_reducible refine Moves.upd_sent (by decide +kernel) ?_)
    | (fail_if_no_progress with_reducible refine Moves.upd_evt (by decide +kernel) ?_)
    | (fail_if_no_progress with_reducible refine Moves.upd_ctx (by decide +kernel) ?_)
    | (fail_if_no_progress with_reducible refine Moves.upd_tables (by decide +kernel) ?_)
    | (fail_if_no_progress with_reducible refine Moves.upd_cut (by decide +kernel) ?_)
    | (fail_if_no_progress with_reducible refine Moves.upd_decks (by decide +kernel) ?_)
    | (fail_if_no_progress with_reducible refine Moves.upd_loops (by decide +kernel) ?_)
    | (fail_if_no_progress with_reducible refine Moves.upd_lnk (by decide +kernel) ?_)
    | (fail_if_no_progress with_reducible refine Moves.upd_pwr (by decide +kernel) ?_)
    | (fail_if_no_progress with_reducible refine Moves.upd_shoe (by decide +kernel) rfl ?_)
    | (fail_if_no_progress with_reducible refine Moves.upd (h := ?_))
    | (dsimp only [id])
    | (split)
    | (intro _))

theorem opWrapTurn_touches (d : Nat) (s : State) : Moves [.regs, .sent, .evt, .decks] s (opWrapTurn d s) := by
  unfold opWrapTurn
  try dsimp only
  repeat' (first
    | with_reducible exact Moves.refl _ _
    | with_reducible assumption
    | (with_reducible apply Moves.step (State.onDeck_touches ..); decide +kernel)
    | (with_reducible apply Moves.step (State.onMotion_touches ..); decide +kernel)
    | (with_reducible apply Moves.step (sendMode_touches ..); decide +kernel)
    | (with_reducible apply Moves.step (gotoWrap_touches ..); decide +kernel)
    | (fail_if_no_progress with_reducible refine Moves.upd_regs (by decide +kernel) ?_)
    | (fail_if_no_progress with_reducible refine Moves.upd_sent (by decide +kernel) ?_)
    | (fail_if_no_progress with_reducible refine Moves.upd_evt (by decide +kernel) ?_)
    | (fail_if_no_progress with_reducible refine Moves.upd_decks (by decide +kernel) ?_)
    | (fail_if_no_progress with_reducible refine Moves.upd (h := ?_))
    | (dsimp only [id])
    | (split)
    | (intro _))

theorem releaseRound_touches (d : Nat) (r : Round) (s : State) : Moves [.regs, .sent, .evt, .ctx, .tables, .decks] s (releaseRound d r s) := by
  unfold releaseRound
  try dsimp only
  repeat' (first
    | with_reducible exact Moves.refl _ _
    | with_reducible assumption
    | (with_reducible apply Moves.step (wakeWaiters_touches ..); decide +kernel)
    | (with_reducible apply Moves.step (State.onDeck_touches ..); decide +kernel)
    | (with_reducible apply Moves.step (raiseDeck_touches ..); decide +kernel)
    | (with_reducible apply forEach_step)
    | (fail_if_no_progress with_reducible refine Moves.upd_regs (by decide +kernel) ?_)
    | (fail_if_no_progress with_reducible refine Moves.upd_sent (by decide +kernel) ?_)
    | (fail_if_no_progress with_reducible refine Moves.upd_evt (by decide +kernel) ?_)
    | (fail_if_no_progress with_reducible refine Moves.upd_ctx (by decide +kernel) ?_)
    | (fail_if_no_progress with_reducible refine Moves.upd_tables (by decide +kernel) ?_)
    | (fail_if_no_progress with_reducible refine Moves.upd_decks (by decide +kernel) ?_)
    | (fail_if_no_progress with_reducible refine Moves.upd (h := ?_))
    | (dsimp only [id])
    | (split)
    | (intro _))

theorem mapChips_touches (d : Nat) (n : Nat) (s : State) : Moves [.tick, .regs, .sent, .evt, .shoe, .mem] s (mapChips d n s).2 := by
  unfold mapChips
  try dsimp only
  repeat' (first
    | with_reducible exact Moves.refl _ _
    | with_reducible assumption
    | (with_reducible apply Moves.step (freeList_touches ..); decide +kernel)
    | (with_reducible apply Moves.step (allocate_touches ..); decide +kernel)
    | (rename_i hq; with_reducible refine Moves.of_eq (by first | exact congrArg Prod.snd hq | exact congrArg (fun x => x.2.2) hq) (allocate_touches ..) (by decide +kernel) ?_)
    | (fail_if_no_progress with_reducible refine Moves.upd_tick (by decide +kernel) ?_)
    | (fail_if_no_progress with_reducible refine Moves.upd_regs (by decide +kernel) ?_)
    | (fail_if_no_progress with_reducible refine Moves.upd_sent (by decide +kernel) ?_)
    | (fail_if_no_progress with_reducible refine Moves.upd_evt (by decide +kernel) ?_)
    | (fail_if_no_progress with_reducible refine Moves.upd_shoe (by decide +kernel) rfl ?_)
    | (fail_if_no_progress with_reducible refine Moves.upd (h := ?_))
    | (dsimp only [id])
    | (split)
    | (intro _))

theorem addAnchors_touches (d : Nat) (l : List (Sys2Proof.Word × Nat × Nat × Nat × Nat × Sys2Proof.Word)) (truncs : List (Sys2Proof.Word × Nat × Nat × Nat)) (s : State) : Moves [.tick, .regs, .sent, .evt, .shoe, .mem, .decks] s (addAnchors d l truncs s) := by
  unfold addAnchors
  try dsimp only
  repeat' (first
    | with_reducible exact Moves.refl _ _
    | with_reducible assumption
    | (with_reducible apply Moves.step (State.onDeck_touches ..); decide +kernel)
    | (with_reducible apply Moves.step (mapChips_touches ..); decide +kernel)
    | (rename_i hq; with_reducible refine Moves.of_eq (by first | exact congrArg Prod.snd hq | exact congrArg (fun x => x.2.2) hq) (mapChips_touches ..) (by decide +kernel) ?_)
    | (fail_if_no_progress with_reducible refine Moves.upd_tick (by decide +kernel) ?_)
    | (fail_if_no_progress with_reducible refine Moves.upd_regs (by decide +kernel) ?_)
    | (fail_if_no_progress with_reducible refine Moves.upd_sent (by decide +kernel) ?_)
    | (fail_if_no_progress with_reducible refine Moves.upd_evt (by decide +kernel) ?_)
    | (fail_if_no_progress with_reducible refine Moves.upd_decks (by decide +kernel) ?_)
    | (fail_if_no_progress with_reducible refine Moves.upd_shoe (by decide +kernel) rfl ?_)
    | (fail_if_no_progress with_reducible refine Moves.upd (h := ?_))
    | (dsimp only [id])
    | (split)
    | (intro _))

theorem shareFacets_touches (d : Nat) (id : Nat) (index : Nat) (s : State) : Moves [.ctx] s (shareFacets d id index s) := by
  unfold shareFacets
  try dsimp only
  repeat' (first
    | with_reducible exact Moves.refl _ _
    | with_reducible assumption
    | (with_reducible apply Moves.step (State.onCtx_touches ..); decide +kernel)
    | (with_reducible apply forEach_step)
    | (fail_if_no_progress with_reducible refine Moves.upd_ctx (by decide +kernel) ?_)
    | (fail_if_no_progress with_reducible refine Moves.upd (h := ?_))
    | (dsimp only [id])
    | (split)
    | (intro _))

theorem releaseHand_touches (d : Nat) (id : Nat) (index : Nat) (s : State) : Moves [.tick, .regs, .sent, .evt, .ctx, .tables, .shoe, .mem, .decks] s (releaseHand d id index s) := by
  unfold releaseHand
  try dsimp only
  repeat' (first
    | with_reducible exact Moves.refl _ _
    | with_reducible assumption
    | (with_reducible apply Moves.step (State.onDeck_touches ..); decide +kernel)
    | (with_reducible apply Moves.step (releaseRound_touches ..); decide +kernel)
    | (with_reducible apply Moves.step (addAnchors_touches ..); decide +kernel)
    | (with_reducible apply Moves.step (shareFacets_touches ..); decide +kernel)
    | (with_reducible apply Moves.step (raiseDeck_touches ..); decide +kernel)
    | (fail_if_no_progress with_reducible refine Moves.upd_tick (by decide +kernel) ?_)
    | (fail_if_no_progress with_reducible refine Moves.upd_regs (by decide +kernel) ?_)
    | (fail_if_no_progress with_reducible refine Moves.upd_sent (by decide +kernel) ?_)
    | (fail_if_no_progress with_reducible refine Moves.upd_evt (by decide +kernel) ?_)
    | (fail_if_no_progress with_reducible refine Moves.upd_ctx (by decide +kernel) ?_)
    | (fail_if_no_progress with_reducible refine Moves.upd_tables (by decide +kernel) ?_)
    | (fail_if_no_progress with_reducible refine Moves.upd_decks (by decide +kernel) ?_)
    | (fail_if_no_progress with_reducible refine Moves.upd_shoe (by decide +kernel) rfl ?_)
    | (fail_if_no_progress with_reducible refine Moves.upd (h := ?_))
    | (dsimp only [id])
    | (split)
    | (intro _))

theorem releaseTrick_touches (d : Nat) (h : Held) (s : State) : Moves [.tick, .regs, .sent, .evt, .ctx, .tables, .shoe, .mem, .decks] s (releaseTrick d h s) := by
  unfold releaseTrick
  try dsimp only
  repeat' (first
    | with_reducible exact Moves.refl _ _
    | with_reducible assumption
    | (with_reducible apply Moves.step (freeImage_touches ..); decide +kernel)
    | (with_reducible apply Moves.step (State.onDeck_touches ..); decide +kernel)
    | (with_reducible apply Moves.step (releaseHand_touches ..); decide +kernel)
    | (fail_if_no_progress with_reducible refine Moves.upd_tick (by decide +kernel) ?_)
    | (fail_if_no_progress with_reducible refine Moves.upd_regs (by decide +kernel) ?_)
    | (fail_if_no_progress with_reducible refine Moves.upd_sent (by decide +kernel) ?_)
    | (fail_if_no_progress with_reducible refine Moves.upd_evt (by decide +kernel) ?_)
    | (fail_if_no_progress with_reducible refine Moves.upd_ctx (by decide +kernel) ?_)
    | (fail_if_no_progress with_reducible refine Moves.upd_tables (by decide +kernel) ?_)
    | (fail_if_no_progress with_reducible refine Moves.upd_decks (by decide +kernel) ?_)
    | (fail_if_no_progress with_reducible refine Moves.upd_shoe (by decide +kernel) rfl ?_)
    | (fail_if_no_progress with_reducible refine Moves.upd (h := ?_))
    | (dsimp only [id])
    | (split)
    | (intro _))

theorem loupeStop_touches (d : Nat) (b : Nat) (cause : Nat) (s : State) : Moves [.regs, .sent, .evt, .ctx, .tables, .cut, .shoe, .decks, .loops, .lnk] s (loupeStop d b cause s) := by
  unfold loupeStop
  try dsimp only
  repeat' (first
    | with_reducible exact Moves.refl _ _
    | with_reducible assumption
    | (with_reducible apply Moves.step (State.setFld_touches ..); decide +kernel)
    | (with_reducible apply Moves.step (controlledStop_touches ..); decide +kernel)
    | (fail_if_no_progress with_reducible refine Moves.upd_regs (by decide +kernel) ?_)
    | (fail_if_no_progress with_reducible refine Moves.upd_sent (by decide +kernel) ?_)
    | (fail_if_no_progress with_reducible refine Moves.upd_evt (by decide +kernel) ?_)
    | (fail_if_no_progress with_reducible refine Moves.upd_ctx (by decide +kernel) ?_)
    | (fail_if_no_progress with_reducible refine Moves.upd_tables (by decide +kernel) ?_)
    | (fail_if_no_progress with_reducible refine Moves.upd_cut (by decide +kernel) ?_)
    | (fail_if_no_progress with_reducible refine Moves.upd_decks (by decide +kernel) ?_)
    | (fail_if_no_progress with_reducible refine Moves.upd_loops (by decide +kernel) ?_)
    | (fail_if_no_progress with_reducible refine Moves.upd_lnk (by decide +kernel) ?_)
    | (fail_if_no_progress with_reducible refine Moves.upd_shoe (by decide +kernel) rfl ?_)
    | (fail_if_no_progress with_reducible refine Moves.upd (h := ?_))
    | (dsimp only [id])
    | (split)
    | (intro _))

theorem scheduleRepeat_touches (d : Nat) (h : Held) (tile : Nat) (many : Bool) (s : State) : Moves [.sent, .evt, .decks] s (scheduleRepeat d h tile many s) := by
  unfold scheduleRepeat
  try dsimp only
  repeat' (first
    | with_reducible exact Moves.refl _ _
    | with_reducible assumption
    | (with_reducible apply Moves.step (State.onDeck_touches ..); decide +kernel)
    | (with_reducible apply Moves.step (raiseDeck_touches ..); decide +kernel)
    | (fail_if_no_progress with_reducible refine Moves.upd_sent (by decide +kernel) ?_)
    | (fail_if_no_progress with_reducible refine Moves.upd_evt (by decide +kernel) ?_)
    | (fail_if_no_progress with_reducible refine Moves.upd_decks (by decide +kernel) ?_)
    | (fail_if_no_progress with_reducible refine Moves.upd (h := ?_))
    | (dsimp only [id])
    | (split)
    | (intro _))

theorem settleTrick_touches (d : Nat) (i : Nat) (s : State) : Moves [.tick, .regs, .sent, .evt, .ctx, .tables, .cut, .shoe, .mem, .decks, .loops, .lnk] s (settleTrick d i s) := by
  unfold settleTrick
  try dsimp only
  repeat' (first
    | with_reducible exact Moves.refl _ _
    | with_reducible assumption
    | (with_reducible apply Moves.step (releaseTrick_touches ..); decide +kernel)
    | (with_reducible apply Moves.step (loupeStop_touches ..); decide +kernel)
    | (with_reducible apply Moves.step (raiseDeck_touches ..); decide +kernel)
    | (with_reducible apply Moves.step (scheduleRepeat_touches ..); decide +kernel)
    | (fail_if_no_progress with_reducible refine Moves.upd_tick (by decide +kernel) ?_)
    | (fail_if_no_progress with_reducible refine Moves.upd_regs (by decide +kernel) ?_)
    | (fail_if_no_progress with_reducible refine Moves.upd_sent (by decide +kernel) ?_)
    | (fail_if_no_progress with_reducible refine Moves.upd_evt (by decide +kernel) ?_)
    | (fail_if_no_progress with_reducible refine Moves.upd_ctx (by decide +kernel) ?_)
    | (fail_if_no_progress with_reducible refine Moves.upd_tables (by decide +kernel) ?_)
    | (fail_if_no_progress with_reducible refine Moves.upd_cut (by decide +kernel) ?_)
    | (fail_if_no_progress with_reducible refine Moves.upd_decks (by decide +kernel) ?_)
    | (fail_if_no_progress with_reducible refine Moves.upd_loops (by decide +kernel) ?_)
    | (fail_if_no_progress with_reducible refine Moves.upd_lnk (by decide +kernel) ?_)
    | (fail_if_no_progress with_reducible refine Moves.upd_shoe (by decide +kernel) rfl ?_)
    | (fail_if_no_progress with_reducible refine Moves.upd (h := ?_))
    | (dsimp only [id])
    | (split)
    | (intro _))

theorem dropReceived_touches (d : Nat) (n : Nat) (b : Nat) (s : State) : Moves [.decks] s (dropReceived d n b s) := by
  unfold dropReceived
  try dsimp only
  repeat' (first
    | with_reducible exact Moves.refl _ _
    | with_reducible assumption
    | (with_reducible apply Moves.step (State.onDeck_touches ..); decide +kernel)
    | (fail_if_no_progress with_reducible refine Moves.upd_decks (by decide +kernel) ?_)
    | (fail_if_no_progress with_reducible refine Moves.upd (h := ?_))
    | (dsimp only [id])
    | (split)
    | (intro _))

theorem onTrack_touches (d : Nat) (n : Nat) (f : Track → Track) (s : State) : Moves [.decks] s (onTrack d n f s) := by
  unfold onTrack
  try dsimp only
  repeat' (first
    | with_reducible exact Moves.refl _ _
    | with_reducible assumption
    | (with_reducible apply Moves.step (State.onDeck_touches ..); decide +kernel)
    | (fail_if_no_progress with_reducible refine Moves.upd_decks (by decide +kernel) ?_)
    | (fail_if_no_progress with_reducible refine Moves.upd (h := ?_))
    | (dsimp only [id])
    | (split)
    | (intro _))

theorem watchTrack_touches (d : Nat) (n : Nat) (s : State) : Moves [.sent, .evt, .decks] s (watchTrack d n s) := by
  unfold watchTrack
  try dsimp only
  repeat' (first
    | with_reducible exact Moves.refl _ _
    | with_reducible assumption
    | (with_reducible apply Moves.step (raiseDeck_touches ..); decide +kernel)
    | (with_reducible apply Moves.step (onTrack_touches ..); decide +kernel)
    | (fail_if_no_progress with_reducible refine Moves.upd_sent (by decide +kernel) ?_)
    | (fail_if_no_progress with_reducible refine Moves.upd_evt (by decide +kernel) ?_)
    | (fail_if_no_progress with_reducible refine Moves.upd_decks (by decide +kernel) ?_)
    | (fail_if_no_progress with_reducible refine Moves.upd (h := ?_))
    | (dsimp only [id])
    | (split)
    | (intro _))

theorem retireTrack_touches (d : Nat) (n : Nat) (s : State) : Moves [.sent, .evt, .decks] s (retireTrack d n s) := by
  unfold retireTrack
  try dsimp only
  repeat' (first
    | with_reducible exact Moves.refl _ _
    | with_reducible assumption
    | (with_reducible apply Moves.step (State.onDeck_touches ..); decide +kernel)
    | (with_reducible apply Moves.step (raiseDeck_touches ..); decide +kernel)
    | (with_reducible apply Moves.step (onTrack_touches ..); decide +kernel)
    | (fail_if_no_progress with_reducible refine Moves.upd_sent (by decide +kernel) ?_)
    | (fail_if_no_progress with_reducible refine Moves.upd_evt (by decide +kernel) ?_)
    | (fail_if_no_progress with_reducible refine Moves.upd_decks (by decide +kernel) ?_)
    | (fail_if_no_progress with_reducible refine Moves.upd (h := ?_))
    | (dsimp only [id])
    | (split)
    | (intro _))

theorem checkRetire_touches (d : Nat) (n : Nat) (s : State) : Moves [.regs, .sent, .evt, .ctx, .tables, .cut, .shoe, .decks, .loops, .lnk] s (checkRetire d n s) := by
  unfold checkRetire
  try dsimp only
  repeat' (first
    | with_reducible exact Moves.refl _ _
    | with_reducible assumption
    | (with_reducible apply Moves.step (loupeStop_touches ..); decide +kernel)
    | (with_reducible apply Moves.step (raiseDeck_touches ..); decide +kernel)
    | (with_reducible apply Moves.step (retireTrack_touches ..); decide +kernel)
    | (fail_if_no_progress with_reducible refine Moves.upd_regs (by decide +kernel) ?_)
    | (fail_if_no_progress with_reducible refine Moves.upd_sent (by decide +kernel) ?_)
    | (fail_if_no_progress with_reducible refine Moves.upd_evt (by decide +kernel) ?_)
    | (fail_if_no_progress with_reducible refine Moves.upd_ctx (by decide +kernel) ?_)
    | (fail_if_no_progress with_reducible refine Moves.upd_tables (by decide +kernel) ?_)
    | (fail_if_no_progress with_reducible refine Moves.upd_cut (by decide +kernel) ?_)
    | (fail_if_no_progress with_reducible refine Moves.upd_decks (by decide +kernel) ?_)
    | (fail_if_no_progress with_reducible refine Moves.upd_loops (by decide +kernel) ?_)
    | (fail_if_no_progress with_reducible refine Moves.upd_lnk (by decide +kernel) ?_)
    | (fail_if_no_progress with_reducible refine Moves.upd_shoe (by decide +kernel) rfl ?_)
    | (fail_if_no_progress with_reducible refine Moves.upd (h := ?_))
    | (dsimp only [id])
    | (split)
    | (intro _))

theorem healthAfter_touches (d : Nat) (n : Nat) (g : Nat) (s : State) : Moves [.regs, .sent, .evt, .ctx, .tables, .cut, .shoe, .decks, .loops, .lnk] s (healthAfter d n g s) := by
  unfold healthAfter
  try dsimp only
  repeat' (first
    | with_reducible exact Moves.refl _ _
    | with_reducible assumption
    | (with_reducible apply Moves.step (watchTrack_touches ..); decide +kernel)
    | (with_reducible apply Moves.step (checkRetire_touches ..); decide +kernel)
    | (with_reducible apply Moves.step (onTrack_touches ..); decide +kernel)
    | (fail_if_no_progress with_reducible refine Moves.upd_regs (by decide +kernel) ?_)
    | (fail_if_no_progress with_reducible refine Moves.upd_sent (by decide +kernel) ?_)
    | (fail_if_no_progress with_reducible refine Moves.upd_evt (by decide +kernel) ?_)
    | (fail_if_no_progress with_reducible refine Moves.upd_ctx (by decide +kernel) ?_)
    | (fail_if_no_progress with_reducible refine Moves.upd_tables (by decide +kernel) ?_)
    | (fail_if_no_progress with_reducible refine Moves.upd_cut (by decide +kernel) ?_)
    | (fail_if_no_progress with_reducible refine Moves.upd_decks (by decide +kernel) ?_)
    | (fail_if_no_progress with_reducible refine Moves.upd_loops (by decide +kernel) ?_)
    | (fail_if_no_progress with_reducible refine Moves.upd_lnk (by decide +kernel) ?_)
    | (fail_if_no_progress with_reducible refine Moves.upd_shoe (by decide +kernel) rfl ?_)
    | (fail_if_no_progress with_reducible refine Moves.upd (h := ?_))
    | (dsimp only [id])
    | (split)
    | (intro _))

theorem useGrade_touches (d : Nat) (n : Nat) (q : Nat) (t : Trick) (good : Bool) (s : State) : Moves [.decks] s (useGrade d n q t good s) := by
  unfold useGrade
  try dsimp only
  repeat' (first
    | with_reducible exact Moves.refl _ _
    | with_reducible assumption
    | (with_reducible apply Moves.step (State.onDeck_touches ..); decide +kernel)
    | (fail_if_no_progress with_reducible refine Moves.upd_decks (by decide +kernel) ?_)
    | (fail_if_no_progress with_reducible refine Moves.upd (h := ?_))
    | (dsimp only [id])
    | (split)
    | (intro _))

theorem gradeNow_touches (d : Nat) (n : Nat) (q : Nat) (start : Nat) (t : Trick) (s : State) : Moves [.regs, .sent, .evt, .ctx, .tables, .cut, .shoe, .decks, .loops, .lnk] s (gradeNow d n q start t s) := by
  unfold gradeNow
  try dsimp only
  repeat' (first
    | with_reducible exact Moves.refl _ _
    | with_reducible assumption
    | (with_reducible apply Moves.step (healthAfter_touches ..); decide +kernel)
    | (with_reducible apply Moves.step (useGrade_touches ..); decide +kernel)
    | (with_reducible apply Moves.step (countWrap_touches ..); decide +kernel)
    | (with_reducible apply Moves.step (onTrack_touches ..); decide +kernel)
    | (fail_if_no_progress with_reducible refine Moves.upd_regs (by decide +kernel) ?_)
    | (fail_if_no_progress with_reducible refine Moves.upd_sent (by decide +kernel) ?_)
    | (fail_if_no_progress with_reducible refine Moves.upd_evt (by decide +kernel) ?_)
    | (fail_if_no_progress with_reducible refine Moves.upd_ctx (by decide +kernel) ?_)
    | (fail_if_no_progress with_reducible refine Moves.upd_tables (by decide +kernel) ?_)
    | (fail_if_no_progress with_reducible refine Moves.upd_cut (by decide +kernel) ?_)
    | (fail_if_no_progress with_reducible refine Moves.upd_decks (by decide +kernel) ?_)
    | (fail_if_no_progress with_reducible refine Moves.upd_loops (by decide +kernel) ?_)
    | (fail_if_no_progress with_reducible refine Moves.upd_lnk (by decide +kernel) ?_)
    | (fail_if_no_progress with_reducible refine Moves.upd_shoe (by decide +kernel) rfl ?_)
    | (fail_if_no_progress with_reducible refine Moves.upd (h := ?_))
    | (dsimp only [id])
    | (split)
    | (intro _))

theorem passRetired_touches (d : Nat) (n : Nat) (q : Nat) (t : Trick) (s : State) : Moves [.decks] s (passRetired d n q t s) := by
  unfold passRetired
  try dsimp only
  repeat' (first
    | with_reducible exact Moves.refl _ _
    | with_reducible assumption
    | (with_reducible apply Moves.step (State.onDeck_touches ..); decide +kernel)
    | (fail_if_no_progress with_reducible refine Moves.upd_decks (by decide +kernel) ?_)
    | (fail_if_no_progress with_reducible refine Moves.upd (h := ?_))
    | (dsimp only [id])
    | (split)
    | (intro _))

theorem opFacetGrade_touches (d : Nat) (n : Nat) (s : State) : Moves [.tick, .regs, .sent, .evt, .ctx, .tables, .cut, .shoe, .mem, .decks, .loops, .lnk] s (opFacetGrade d n s) := by
  unfold opFacetGrade
  try dsimp only
  repeat' (first
    | with_reducible exact Moves.refl _ _
    | with_reducible assumption
    | (with_reducible apply Moves.step (settleTrick_touches ..); decide +kernel)
    | (with_reducible apply Moves.step (dropReceived_touches ..); decide +kernel)
    | (with_reducible apply Moves.step (State.onDeck_touches ..); decide +kernel)
    | (with_reducible apply Moves.step (gradeNow_touches ..); decide +kernel)
    | (with_reducible apply Moves.step (passRetired_touches ..); decide +kernel)
    | (with_reducible apply forEach_step)
    | (fail_if_no_progress with_reducible refine Moves.upd_tick (by decide +kernel) ?_)
    | (fail_if_no_progress with_reducible refine Moves.upd_regs (by decide +kernel) ?_)
    | (fail_if_no_progress with_reducible refine Moves.upd_sent (by decide +kernel) ?_)
    | (fail_if_no_progress with_reducible refine Moves.upd_evt (by decide +kernel) ?_)
    | (fail_if_no_progress with_reducible refine Moves.upd_ctx (by decide +kernel) ?_)
    | (fail_if_no_progress with_reducible refine Moves.upd_tables (by decide +kernel) ?_)
    | (fail_if_no_progress with_reducible refine Moves.upd_cut (by decide +kernel) ?_)
    | (fail_if_no_progress with_reducible refine Moves.upd_decks (by decide +kernel) ?_)
    | (fail_if_no_progress with_reducible refine Moves.upd_loops (by decide +kernel) ?_)
    | (fail_if_no_progress with_reducible refine Moves.upd_lnk (by decide +kernel) ?_)
    | (fail_if_no_progress with_reducible refine Moves.upd_shoe (by decide +kernel) rfl ?_)
    | (fail_if_no_progress with_reducible refine Moves.upd (h := ?_))
    | (dsimp only [id])
    | (split)
    | (intro _))

theorem sampleTrack_touches (d : Nat) (n : Nat) (v : Nat) (s : State) : Moves [.sent, .evt, .decks] s (sampleTrack d n v s) := by
  unfold sampleTrack
  try dsimp only
  repeat' (first
    | with_reducible exact Moves.refl _ _
    | with_reducible assumption
    | (with_reducible apply Moves.step (onTrack_touches ..); decide +kernel)
    | (with_reducible apply Moves.step (watchTrack_touches ..); decide +kernel)
    | (fail_if_no_progress with_reducible refine Moves.upd_sent (by decide +kernel) ?_)
    | (fail_if_no_progress with_reducible refine Moves.upd_evt (by decide +kernel) ?_)
    | (fail_if_no_progress with_reducible refine Moves.upd_decks (by decide +kernel) ?_)
    | (fail_if_no_progress with_reducible refine Moves.upd (h := ?_))
    | (dsimp only [id])
    | (split)
    | (intro _))

theorem sendRegister_touches (d : Nat) (write : Bool) (addr : BitVec 16) (v : Sys2Proof.Word) (host : Bool) (s : State) : Moves [.sent, .decks] s (sendRegister d write addr v host s) := by
  unfold sendRegister
  try dsimp only
  repeat' (first
    | with_reducible exact Moves.refl _ _
    | with_reducible assumption
    | (with_reducible apply Moves.step (sendRecord_touches ..); decide +kernel)
    | (with_reducible apply Moves.step (State.putDeck_touches ..); decide +kernel)
    | (fail_if_no_progress with_reducible refine Moves.upd_sent (by decide +kernel) ?_)
    | (fail_if_no_progress with_reducible refine Moves.upd_decks (by decide +kernel) ?_)
    | (fail_if_no_progress with_reducible refine Moves.upd (h := ?_))
    | (dsimp only [id])
    | (split)
    | (intro _))

theorem nextRegister_touches (d : Nat) (s : State) : Moves [.sent, .decks] s (nextRegister d s) := by
  unfold nextRegister
  try dsimp only
  repeat' (first
    | with_reducible exact Moves.refl _ _
    | with_reducible assumption
    | (with_reducible apply Moves.step (State.putDeck_touches ..); decide +kernel)
    | (with_reducible apply Moves.step (sendMode_touches ..); decide +kernel)
    | (with_reducible apply Moves.step (sendRegister_touches ..); decide +kernel)
    | (fail_if_no_progress with_reducible refine Moves.upd_sent (by decide +kernel) ?_)
    | (fail_if_no_progress with_reducible refine Moves.upd_decks (by decide +kernel) ?_)
    | (fail_if_no_progress with_reducible refine Moves.upd (h := ?_))
    | (dsimp only [id])
    | (split)
    | (intro _))

theorem selectMode_touches (d : Nat) (mode : Nat) (profile : Nat) (base : Sys2Proof.Word) (start : Sys2Proof.Word) (s : State) : Moves [.sent, .decks] s (selectMode d mode profile base start s) := by
  unfold selectMode
  try dsimp only
  repeat' (first
    | with_reducible exact Moves.refl _ _
    | with_reducible assumption
    | (with_reducible apply Moves.step (State.putDeck_touches ..); decide +kernel)
    | (with_reducible apply Moves.step (nextRegister_touches ..); decide +kernel)
    | (with_reducible apply Moves.step (sendMode_touches ..); decide +kernel)
    | (fail_if_no_progress with_reducible refine Moves.upd_sent (by decide +kernel) ?_)
    | (fail_if_no_progress with_reducible refine Moves.upd_decks (by decide +kernel) ?_)
    | (fail_if_no_progress with_reducible refine Moves.upd (h := ?_))
    | (dsimp only [id])
    | (split)
    | (intro _))

theorem stopReading_touches (d : Nat) (s : State) : Moves [.sent, .decks] s (stopReading d s) := by
  unfold stopReading
  try dsimp only
  repeat' (first
    | with_reducible exact Moves.refl _ _
    | with_reducible assumption
    | (with_reducible apply Moves.step (State.putDeck_touches ..); decide +kernel)
    | (with_reducible apply Moves.step (selectMode_touches ..); decide +kernel)
    | (fail_if_no_progress with_reducible refine Moves.upd_sent (by decide +kernel) ?_)
    | (fail_if_no_progress with_reducible refine Moves.upd_decks (by decide +kernel) ?_)
    | (fail_if_no_progress with_reducible refine Moves.upd (h := ?_))
    | (dsimp only [id])
    | (split)
    | (intro _))

theorem stopGroup_touches (td : Nat) (s : State) : Moves [.sent, .decks] s (stopGroup td s) := by
  unfold stopGroup
  try dsimp only
  repeat' (first
    | with_reducible exact Moves.refl _ _
    | with_reducible assumption
    | (with_reducible apply Moves.step (stopReading_touches ..); decide +kernel)
    | (with_reducible apply forEach_step)
    | (fail_if_no_progress with_reducible refine Moves.upd_sent (by decide +kernel) ?_)
    | (fail_if_no_progress with_reducible refine Moves.upd_decks (by decide +kernel) ?_)
    | (fail_if_no_progress with_reducible refine Moves.upd (h := ?_))
    | (dsimp only [id])
    | (split)
    | (intro _))

theorem afterSet_touches (td : Nat) (p : Nat) (f : Fmt) (trailers : List TrailerInfo) (lay : SetLayout) (needed : Bool) (s : State) : Moves [.tick, .regs, .sent, .evt, .ctx, .cut, .shoe, .mem, .decks, .lnk, .pwr] s (afterSet td p f trailers lay needed s) := by
  unfold afterSet
  try dsimp only
  repeat' (first
    | with_reducible exact Moves.refl _ _
    | with_reducible assumption
    | (with_reducible apply Moves.step (State.onDeck_touches ..); decide +kernel)
    | (with_reducible apply Moves.step (stopGroup_touches ..); decide +kernel)
    | (with_reducible apply Moves.step (pumpTable_touches ..); decide +kernel)
    | (with_reducible apply forEach_step)
    | (fail_if_no_progress with_reducible refine Moves.upd_tick (by decide +kernel) ?_)
    | (fail_if_no_progress with_reducible refine Moves.upd_regs (by decide +kernel) ?_)
    | (fail_if_no_progress with_reducible refine Moves.upd_sent (by decide +kernel) ?_)
    | (fail_if_no_progress with_reducible refine Moves.upd_evt (by decide +kernel) ?_)
    | (fail_if_no_progress with_reducible refine Moves.upd_ctx (by decide +kernel) ?_)
    | (fail_if_no_progress with_reducible refine Moves.upd_cut (by decide +kernel) ?_)
    | (fail_if_no_progress with_reducible refine Moves.upd_decks (by decide +kernel) ?_)
    | (fail_if_no_progress with_reducible refine Moves.upd_lnk (by decide +kernel) ?_)
    | (fail_if_no_progress with_reducible refine Moves.upd_pwr (by decide +kernel) ?_)
    | (fail_if_no_progress with_reducible refine Moves.upd_shoe (by decide +kernel) rfl ?_)
    | (fail_if_no_progress with_reducible refine Moves.upd (h := ?_))
    | (dsimp only [id])
    | (split)
    | (intro _))

theorem reachCell_touches (d : Nat) (at' : Nat) (f : Fmt) (start : Option Nat) (skip : Bool) (s : State) : Moves [.decks] s (reachCell d at' f start skip s) := by
  unfold reachCell
  try dsimp only
  repeat' (first
    | with_reducible exact Moves.refl _ _
    | with_reducible assumption
    | (with_reducible apply Moves.step (State.onDeck_touches ..); decide +kernel)
    | (fail_if_no_progress with_reducible refine Moves.upd_decks (by decide +kernel) ?_)
    | (fail_if_no_progress with_reducible refine Moves.upd (h := ?_))
    | (dsimp only [id])
    | (split)
    | (intro _))

theorem countRestore_touches (d : Nat) (x : Nat) (n : Nat) (s : State) : Moves [.regs] s (countRestore d x n s) := by
  unfold countRestore
  try dsimp only
  repeat' (first
    | with_reducible exact Moves.refl _ _
    | with_reducible assumption
    | (with_reducible apply Moves.step (State.addFld_touches ..); decide +kernel)
    | (fail_if_no_progress with_reducible refine Moves.upd_regs (by decide +kernel) ?_)
    | (fail_if_no_progress with_reducible refine Moves.upd (h := ?_))
    | (dsimp only [id])
    | (split)
    | (intro _))

theorem noteRecovery_touches (f : Fmt) (ds : List Nat) (ps : List Nat) (lay : SetLayout) (r : RecoveredSet) (s : State) : Moves [.regs, .sent, .evt, .decks] s (noteRecovery f ds ps lay r s) := by
  unfold noteRecovery
  try dsimp only
  repeat' (first
    | with_reducible exact Moves.refl _ _
    | with_reducible assumption
    | (with_reducible apply Moves.step (State.onDeck_touches ..); decide +kernel)
    | (with_reducible apply Moves.step (countRestore_touches ..); decide +kernel)
    | (with_reducible apply Moves.step (raiseDeck_touches ..); decide +kernel)
    | (with_reducible apply forEach_step)
    | (fail_if_no_progress with_reducible refine Moves.upd_regs (by decide +kernel) ?_)
    | (fail_if_no_progress with_reducible refine Moves.upd_sent (by decide +kernel) ?_)
    | (fail_if_no_progress with_reducible refine Moves.upd_evt (by decide +kernel) ?_)
    | (fail_if_no_progress with_reducible refine Moves.upd_decks (by decide +kernel) ?_)
    | (fail_if_no_progress with_reducible refine Moves.upd (h := ?_))
    | (dsimp only [id])
    | (split)
    | (intro _))

theorem meetEnd_touches (td : Nat) (p : Nat) (e : Nat) (user : List Sys2Proof.Byte) (dirs : List (List Sys2Proof.Byte)) (s : State) : Moves [.tick, .regs, .sent, .evt, .ctx, .tables, .cut, .shoe, .mem, .decks, .lnk, .pwr] s (meetEnd td p e user dirs s) := by
  unfold meetEnd
  try dsimp only
  repeat' (first
    | with_reducible exact Moves.refl _ _
    | with_reducible assumption
    | (with_reducible apply Moves.step (State.onDeck_touches ..); decide +kernel)
    | (with_reducible apply Moves.step (stopGroup_touches ..); decide +kernel)
    | (with_reducible apply Moves.step (pumpTable_touches ..); decide +kernel)
    | (with_reducible apply Moves.step (State.onTable_touches ..); decide +kernel)
    | (with_reducible apply forEach_step)
    | (fail_if_no_progress with_reducible refine Moves.upd_tick (by decide +kernel) ?_)
    | (fail_if_no_progress with_reducible refine Moves.upd_regs (by decide +kernel) ?_)
    | (fail_if_no_progress with_reducible refine Moves.upd_sent (by decide +kernel) ?_)
    | (fail_if_no_progress with_reducible refine Moves.upd_evt (by decide +kernel) ?_)
    | (fail_if_no_progress with_reducible refine Moves.upd_ctx (by decide +kernel) ?_)
    | (fail_if_no_progress with_reducible refine Moves.upd_tables (by decide +kernel) ?_)
    | (fail_if_no_progress with_reducible refine Moves.upd_cut (by decide +kernel) ?_)
    | (fail_if_no_progress with_reducible refine Moves.upd_decks (by decide +kernel) ?_)
    | (fail_if_no_progress with_reducible refine Moves.upd_lnk (by decide +kernel) ?_)
    | (fail_if_no_progress with_reducible refine Moves.upd_pwr (by decide +kernel) ?_)
    | (fail_if_no_progress with_reducible refine Moves.upd_shoe (by decide +kernel) rfl ?_)
    | (fail_if_no_progress with_reducible refine Moves.upd (h := ?_))
    | (dsimp only [id])
    | (split)
    | (intro _))

theorem opRepositionComplete_touches (d : Nat) (s : State) : Moves [.regs, .sent, .evt, .ctx, .decks] s (opRepositionComplete d s) := by
  unfold opRepositionComplete
  try dsimp only
  repeat' (first
    | with_reducible exact Moves.refl _ _
    | with_reducible assumption
    | (with_reducible apply Moves.step (finish_touches ..); decide +kernel)
    | (with_reducible apply Moves.step (State.onDeck_touches ..); decide +kernel)
    | (with_reducible apply Moves.step (selectMode_touches ..); decide +kernel)
    | (with_reducible apply Moves.step (State.onMotion_touches ..); decide +kernel)
    | (with_reducible apply Moves.step (gotoWrap_touches ..); decide +kernel)
    | (fail_if_no_progress with_reducible refine Moves.upd_regs (by decide +kernel) ?_)
    | (fail_if_no_progress with_reducible refine Moves.upd_sent (by decide +kernel) ?_)
    | (fail_if_no_progress with_reducible refine Moves.upd_evt (by decide +kernel) ?_)
    | (fail_if_no_progress with_reducible refine Moves.upd_ctx (by decide +kernel) ?_)
    | (fail_if_no_progress with_reducible refine Moves.upd_decks (by decide +kernel) ?_)
    | (fail_if_no_progress with_reducible refine Moves.upd (h := ?_))
    | (dsimp only [id])
    | (split)
    | (intro _))

theorem dropBefore_touches (td : Nat) (next : Nat) (roundFirst : Nat) (keep : Bool) (s : State) : Moves [.decks] s (dropBefore td next roundFirst keep s) := by
  unfold dropBefore
  try dsimp only
  repeat' (first
    | with_reducible exact Moves.refl _ _
    | with_reducible assumption
    | (with_reducible apply Moves.step (State.onDeck_touches ..); decide +kernel)
    | (with_reducible apply forEach_step)
    | (fail_if_no_progress with_reducible refine Moves.upd_decks (by decide +kernel) ?_)
    | (fail_if_no_progress with_reducible refine Moves.upd (h := ?_))
    | (dsimp only [id])
    | (split)
    | (intro _))

theorem addRestored_touches (td : Nat) (i : Restored) (s : State) : Moves [.decks] s (addRestored td i s) := by
  unfold addRestored
  try dsimp only
  repeat' (first
    | with_reducible exact Moves.refl _ _
    | with_reducible assumption
    | (with_reducible apply Moves.step (State.onDeck_touches ..); decide +kernel)
    | (fail_if_no_progress with_reducible refine Moves.upd_decks (by decide +kernel) ?_)
    | (fail_if_no_progress with_reducible refine Moves.upd (h := ?_))
    | (dsimp only [id])
    | (split)
    | (intro _))

theorem readEntry_touches (td : Nat) (p : Nat) (trick : Nat) (idx : Nat) (f : Fmt) (tiles : List (Option (List Sys2Proof.Byte))) (usable : Bool) (runs : List KeyRun) (truncs : List (Sys2Proof.Word × Nat × Nat × Nat)) (e : TableEntry) (s0 : State) : Moves [.regs, .sent, .evt, .ctx, .cut, .shoe, .decks, .lnk] s0 (readEntry td p trick idx f tiles usable runs truncs e s0) := by
  unfold readEntry
  try dsimp only
  repeat' (first
    | with_reducible exact Moves.refl _ _
    | with_reducible assumption
    | (with_reducible apply Moves.step (addRestored_touches ..); decide +kernel)
    | (with_reducible apply Moves.step (meetTruncation_touches ..); decide +kernel)
    | (with_reducible apply Moves.step (State.onDeck_touches ..); decide +kernel)
    | (with_reducible apply forEach_step)
    | (fail_if_no_progress with_reducible refine Moves.upd_regs (by decide +kernel) ?_)
    | (fail_if_no_progress with_reducible refine Moves.upd_sent (by decide +kernel) ?_)
    | (fail_if_no_progress with_reducible refine Moves.upd_evt (by decide +kernel) ?_)
    | (fail_if_no_progress with_reducible refine Moves.upd_ctx (by decide +kernel) ?_)
    | (fail_if_no_progress with_reducible refine Moves.upd_cut (by decide +kernel) ?_)
    | (fail_if_no_progress with_reducible refine Moves.upd_decks (by decide +kernel) ?_)
    | (fail_if_no_progress with_reducible refine Moves.upd_lnk (by decide +kernel) ?_)
    | (fail_if_no_progress with_reducible refine Moves.upd_shoe (by decide +kernel) rfl ?_)
    | (fail_if_no_progress with_reducible refine Moves.upd (h := ?_))
    | (dsimp only [id])
    | (split)
    | (intro _))

theorem readTable_touches (td : Nat) (p : Nat) (trick : Nat) (f : Fmt) (tiles : List (Option (List Sys2Proof.Byte))) (usable : Bool) (runs : List KeyRun) (truncs : List (Sys2Proof.Word × Nat × Nat × Nat)) (s : State) : Moves [.regs, .sent, .evt, .ctx, .cut, .shoe, .decks, .lnk] s (readTable td p trick f tiles usable runs truncs s) := by
  unfold readTable
  try dsimp only
  repeat' (first
    | with_reducible exact Moves.refl _ _
    | with_reducible assumption
    | (with_reducible apply Moves.step (readEntry_touches ..); decide +kernel)
    | (with_reducible apply forEach_step)
    | (fail_if_no_progress with_reducible refine Moves.upd_regs (by decide +kernel) ?_)
    | (fail_if_no_progress with_reducible refine Moves.upd_sent (by decide +kernel) ?_)
    | (fail_if_no_progress with_reducible refine Moves.upd_evt (by decide +kernel) ?_)
    | (fail_if_no_progress with_reducible refine Moves.upd_ctx (by decide +kernel) ?_)
    | (fail_if_no_progress with_reducible refine Moves.upd_cut (by decide +kernel) ?_)
    | (fail_if_no_progress with_reducible refine Moves.upd_decks (by decide +kernel) ?_)
    | (fail_if_no_progress with_reducible refine Moves.upd_lnk (by decide +kernel) ?_)
    | (fail_if_no_progress with_reducible refine Moves.upd_shoe (by decide +kernel) rfl ?_)
    | (fail_if_no_progress with_reducible refine Moves.upd (h := ?_))
    | (dsimp only [id])
    | (split)
    | (intro _))

theorem deliverSet_touches (td : Nat) (p : Nat) (f : Fmt) (trailers : List TrailerInfo) (tricks : List (Nat × List (Option (List Sys2Proof.Byte)))) (usable : Nat → Bool) (lay : SetLayout) (s : State) : Moves [.tick, .regs, .sent, .evt, .ctx, .tables, .cut, .shoe, .mem, .decks, .lnk] s (deliverSet td p f trailers tricks usable lay s) := by
  unfold deliverSet
  try dsimp only
  repeat' (first
    | with_reducible exact Moves.refl _ _
    | with_reducible assumption
    | (with_reducible apply Moves.step (dropBefore_touches ..); decide +kernel)
    | (with_reducible apply Moves.step (readTable_touches ..); decide +kernel)
    | (with_reducible apply Moves.step (addAnchors_touches ..); decide +kernel)
    | (with_reducible apply Moves.step (State.onTable_touches ..); decide +kernel)
    | (with_reducible apply forEach_step)
    | (fail_if_no_progress with_reducible refine Moves.upd_tick (by decide +kernel) ?_)
    | (fail_if_no_progress with_reducible refine Moves.upd_regs (by decide +kernel) ?_)
    | (fail_if_no_progress with_reducible refine Moves.upd_sent (by decide +kernel) ?_)
    | (fail_if_no_progress with_reducible refine Moves.upd_evt (by decide +kernel) ?_)
    | (fail_if_no_progress with_reducible refine Moves.upd_ctx (by decide +kernel) ?_)
    | (fail_if_no_progress with_reducible refine Moves.upd_tables (by decide +kernel) ?_)
    | (fail_if_no_progress with_reducible refine Moves.upd_cut (by decide +kernel) ?_)
    | (fail_if_no_progress with_reducible refine Moves.upd_decks (by decide +kernel) ?_)
    | (fail_if_no_progress with_reducible refine Moves.upd_lnk (by decide +kernel) ?_)
    | (fail_if_no_progress with_reducible refine Moves.upd_shoe (by decide +kernel) rfl ?_)
    | (fail_if_no_progress with_reducible refine Moves.upd (h := ?_))
    | (dsimp only [id])
    | (split)
    | (intro _))

theorem handFails_touches (td : Nat) (first : Nat) (lost : List (Nat × Nat)) (checks : List Nat) (s : State) : Moves [.regs, .sent, .evt, .decks] s (handFails td first lost checks s) := by
  unfold handFails
  try dsimp only
  repeat' (first
    | with_reducible exact Moves.refl _ _
    | with_reducible assumption
    | (with_reducible apply Moves.step (State.onDeck_touches ..); decide +kernel)
    | (with_reducible apply Moves.step (countRestore_touches ..); decide +kernel)
    | (with_reducible apply Moves.step (raiseDeck_touches ..); decide +kernel)
    | (with_reducible apply forEach_step)
    | (fail_if_no_progress with_reducible refine Moves.upd_regs (by decide +kernel) ?_)
    | (fail_if_no_progress with_reducible refine Moves.upd_sent (by decide +kernel) ?_)
    | (fail_if_no_progress with_reducible refine Moves.upd_evt (by decide +kernel) ?_)
    | (fail_if_no_progress with_reducible refine Moves.upd_decks (by decide +kernel) ?_)
    | (fail_if_no_progress with_reducible refine Moves.upd (h := ?_))
    | (dsimp only [id])
    | (split)
    | (intro _))

theorem settleSet_touches (td : Nat) (p : Nat) (first : Nat) (f : Fmt) (trailers : List TrailerInfo) (lay : SetLayout) (s : State) : Moves [.tick, .regs, .sent, .evt, .ctx, .tables, .cut, .shoe, .mem, .decks, .lnk, .pwr] s (settleSet td p first f trailers lay s).2 := by
  unfold settleSet
  try dsimp only
  repeat' (first
    | with_reducible exact Moves.refl _ _
    | with_reducible assumption
    | (with_reducible apply Moves.step (deliverSet_touches ..); decide +kernel)
    | (with_reducible apply Moves.step (State.onDeck_touches ..); decide +kernel)
    | (with_reducible apply Moves.step (keepRead_touches ..); decide +kernel)
    | (with_reducible apply Moves.step (stopGroup_touches ..); decide +kernel)
    | (with_reducible apply Moves.step (handFails_touches ..); decide +kernel)
    | (with_reducible apply Moves.step (noteRecovery_touches ..); decide +kernel)
    | (with_reducible apply Moves.step (afterSet_touches ..); decide +kernel)
    | (with_reducible apply forEach_step)
    | (fail_if_no_progress with_reducible refine Moves.upd_tick (by decide +kernel) ?_)
    | (fail_if_no_progress with_reducible refine Moves.upd_regs (by decide +kernel) ?_)
    | (fail_if_no_progress with_reducible refine Moves.upd_sent (by decide +kernel) ?_)
    | (fail_if_no_progress with_reducible refine Moves.upd_evt (by decide +kernel) ?_)
    | (fail_if_no_progress with_reducible refine Moves.upd_ctx (by decide +kernel) ?_)
    | (fail_if_no_progress with_reducible refine Moves.upd_tables (by decide +kernel) ?_)
    | (fail_if_no_progress with_reducible refine Moves.upd_cut (by decide +kernel) ?_)
    | (fail_if_no_progress with_reducible refine Moves.upd_decks (by decide +kernel) ?_)
    | (fail_if_no_progress with_reducible refine Moves.upd_lnk (by decide +kernel) ?_)
    | (fail_if_no_progress with_reducible refine Moves.upd_pwr (by decide +kernel) ?_)
    | (fail_if_no_progress with_reducible refine Moves.upd_shoe (by decide +kernel) rfl ?_)
    | (fail_if_no_progress with_reducible refine Moves.upd (h := ?_))
    | (dsimp only [id])
    | (split)
    | (intro _))

theorem loseSet_touches (td : Nat) (p : Nat) (first : Nat) (f : Fmt) (s : State) : Moves [.regs, .sent, .evt, .decks] s (loseSet td p first f s) := by
  unfold loseSet
  try dsimp only
  repeat' (first
    | with_reducible exact Moves.refl _ _
    | with_reducible assumption
    | (with_reducible apply Moves.step (handFails_touches ..); decide +kernel)
    | (with_reducible apply Moves.step (stopGroup_touches ..); decide +kernel)
    | (with_reducible apply Moves.step (noteRecovery_touches ..); decide +kernel)
    | (fail_if_no_progress with_reducible refine Moves.upd_regs (by decide +kernel) ?_)
    | (fail_if_no_progress with_reducible refine Moves.upd_sent (by decide +kernel) ?_)
    | (fail_if_no_progress with_reducible refine Moves.upd_evt (by decide +kernel) ?_)
    | (fail_if_no_progress with_reducible refine Moves.upd_decks (by decide +kernel) ?_)
    | (fail_if_no_progress with_reducible refine Moves.upd (h := ?_))
    | (dsimp only [id])
    | (split)
    | (intro _))

theorem advanceOne_touches (td : Nat) (p : Nat) (s : State) : Moves [.tick, .regs, .sent, .evt, .ctx, .tables, .cut, .shoe, .mem, .decks, .lnk, .pwr] s (advanceOne td p s).2 := by
  unfold advanceOne
  try dsimp only
  repeat' (first
    | with_reducible exact Moves.refl _ _
    | with_reducible assumption
    | (with_reducible apply Moves.step (dropBefore_touches ..); decide +kernel)
    | (with_reducible apply Moves.step (meetEnd_touches ..); decide +kernel)
    | (with_reducible apply Moves.step (settleSet_touches ..); decide +kernel)
    | (rename_i hq; with_reducible refine Moves.of_eq (by first | exact congrArg Prod.snd hq | exact congrArg (fun x => x.2.2) hq) (settleSet_touches ..) (by decide +kernel) ?_)
    | (with_reducible apply Moves.step (loseSet_touches ..); decide +kernel)
    | (with_reducible apply Moves.step (State.onTable_touches ..); decide +kernel)
    | (fail_if_no_progress with_reducible refine Moves.upd_tick (by decide +kernel) ?_)
    | (fail_if_no_progress with_reducible refine Moves.upd_regs (by decide +kernel) ?_)
    | (fail_if_no_progress with_reducible refine Moves.upd_sent (by decide +kernel) ?_)
    | (fail_if_no_progress with_reducible refine Moves.upd_evt (by decide +kernel) ?_)
    | (fail_if_no_progress with_reducible refine Moves.upd_ctx (by decide +kernel) ?_)
    | (fail_if_no_progress with_reducible refine Moves.upd_tables (by decide +kernel) ?_)
    | (fail_if_no_progress with_reducible refine Moves.upd_cut (by decide +kernel) ?_)
    | (fail_if_no_progress with_reducible refine Moves.upd_decks (by decide +kernel) ?_)
    | (fail_if_no_progress with_reducible refine Moves.upd_lnk (by decide +kernel) ?_)
    | (fail_if_no_progress with_reducible refine Moves.upd_pwr (by decide +kernel) ?_)
    | (fail_if_no_progress with_reducible refine Moves.upd_shoe (by decide +kernel) rfl ?_)
    | (fail_if_no_progress with_reducible refine Moves.upd (h := ?_))
    | (dsimp only [id])
    | (split)
    | (intro _))

theorem advanceRead_touches (td : Nat) (p : Nat) (x2 : Nat) (x3 : State) : Moves [.tick, .regs, .sent, .evt, .ctx, .tables, .cut, .shoe, .mem, .decks, .lnk, .pwr] x3 (advanceRead td p x2 x3) := by
  fun_induction advanceRead td p x2 x3 <;>
  (try dsimp only) <;>
  repeat' (first
    | with_reducible exact Moves.refl _ _
    | with_reducible assumption
    | (with_reducible apply Moves.step (advanceOne_touches ..); decide +kernel)
    | (rename_i hq; with_reducible refine Moves.of_eq (by first | exact congrArg Prod.snd hq | exact congrArg (fun x => x.2.2) hq) (advanceOne_touches ..) (by decide +kernel) ?_)
    | (fail_if_no_progress with_reducible refine Moves.upd_tick (by decide +kernel) ?_)
    | (fail_if_no_progress with_reducible refine Moves.upd_regs (by decide +kernel) ?_)
    | (fail_if_no_progress with_reducible refine Moves.upd_sent (by decide +kernel) ?_)
    | (fail_if_no_progress with_reducible refine Moves.upd_evt (by decide +kernel) ?_)
    | (fail_if_no_progress with_reducible refine Moves.upd_ctx (by decide +kernel) ?_)
    | (fail_if_no_progress with_reducible refine Moves.upd_tables (by decide +kernel) ?_)
    | (fail_if_no_progress with_reducible refine Moves.upd_cut (by decide +kernel) ?_)
    | (fail_if_no_progress with_reducible refine Moves.upd_decks (by decide +kernel) ?_)
    | (fail_if_no_progress with_reducible refine Moves.upd_lnk (by decide +kernel) ?_)
    | (fail_if_no_progress with_reducible refine Moves.upd_pwr (by decide +kernel) ?_)
    | (fail_if_no_progress with_reducible refine Moves.upd_shoe (by decide +kernel) rfl ?_)
    | (fail_if_no_progress with_reducible refine Moves.upd (h := ?_))
    | (dsimp only [id])
    | (split)
    | (intro _)
    | (with_reducible refine Moves.trans ?_ (by with_reducible assumption)))

theorem endLoad_touches (d : Nat) (n : Nat) (q : Nat) (c : Completion) (f : Deck → Deck) (s : State) : Moves [.sent, .ctx, .decks] s (endLoad d n q c f s) := by
  unfold endLoad
  try dsimp only
  repeat' (first
    | with_reducible exact Moves.refl _ _
    | with_reducible assumption
    | (with_reducible apply Moves.step (finish_touches ..); decide +kernel)
    | (with_reducible apply Moves.step (State.onDeck_touches ..); decide +kernel)
    | (with_reducible apply Moves.step (stopReading_touches ..); decide +kernel)
    | (with_reducible apply forEach_step)
    | (fail_if_no_progress with_reducible refine Moves.upd_sent (by decide +kernel) ?_)
    | (fail_if_no_progress with_reducible refine Moves.upd_ctx (by decide +kernel) ?_)
    | (fail_if_no_progress with_reducible refine Moves.upd_decks (by decide +kernel) ?_)
    | (fail_if_no_progress with_reducible refine Moves.upd (h := ?_))
    | (dsimp only [id])
    | (split)
    | (intro _))

theorem meetMediumLead_touches (d : Nat) (n : Nat) (q : Nat) (user : List Sys2Proof.Byte) (s : State) : Moves [.tick, .sent, .ctx, .decks] s (meetMediumLead d n q user s) := by
  unfold meetMediumLead
  try dsimp only
  repeat' (first
    | with_reducible exact Moves.refl _ _
    | with_reducible assumption
    | (with_reducible apply Moves.step (endLoad_touches ..); decide +kernel)
    | (with_reducible apply Moves.step (State.ticked_touches ..); decide +kernel)
    | (fail_if_no_progress with_reducible refine Moves.upd_tick (by decide +kernel) ?_)
    | (fail_if_no_progress with_reducible refine Moves.upd_sent (by decide +kernel) ?_)
    | (fail_if_no_progress with_reducible refine Moves.upd_ctx (by decide +kernel) ?_)
    | (fail_if_no_progress with_reducible refine Moves.upd_decks (by decide +kernel) ?_)
    | (fail_if_no_progress with_reducible refine Moves.upd (h := ?_))
    | (dsimp only [id])
    | (split)
    | (intro _))

theorem goOn_touches (d : Nat) (s : State) : Moves [.tick, .regs, .sent, .evt, .ctx, .tables, .cut, .shoe, .mem, .decks, .lnk, .pwr] s (goOn d s) := by
  unfold goOn
  try dsimp only
  repeat' (first
    | with_reducible exact Moves.refl _ _
    | with_reducible assumption
    | (with_reducible apply Moves.step (advanceRead_touches ..); decide +kernel)
    | (with_reducible apply Moves.step (meetMediumLead_touches ..); decide +kernel)
    | (fail_if_no_progress with_reducible refine Moves.upd_tick (by decide +kernel) ?_)
    | (fail_if_no_progress with_reducible refine Moves.upd_regs (by decide +kernel) ?_)
    | (fail_if_no_progress with_reducible refine Moves.upd_sent (by decide +kernel) ?_)
    | (fail_if_no_progress with_reducible refine Moves.upd_evt (by decide +kernel) ?_)
    | (fail_if_no_progress with_reducible refine Moves.upd_ctx (by decide +kernel) ?_)
    | (fail_if_no_progress with_reducible refine Moves.upd_tables (by decide +kernel) ?_)
    | (fail_if_no_progress with_reducible refine Moves.upd_cut (by decide +kernel) ?_)
    | (fail_if_no_progress with_reducible refine Moves.upd_decks (by decide +kernel) ?_)
    | (fail_if_no_progress with_reducible refine Moves.upd_lnk (by decide +kernel) ?_)
    | (fail_if_no_progress with_reducible refine Moves.upd_pwr (by decide +kernel) ?_)
    | (fail_if_no_progress with_reducible refine Moves.upd_shoe (by decide +kernel) rfl ?_)
    | (fail_if_no_progress with_reducible refine Moves.upd (h := ?_))
    | (dsimp only [id])
    | (split)
    | (intro _))

theorem failSeeks_touches (td : Nat) (p : Nat) (l : Nat) (s : State) : Moves [.ctx] s (failSeeks td p l s) := by
  unfold failSeeks
  try dsimp only
  repeat' (first
    | with_reducible exact Moves.refl _ _
    | with_reducible assumption
    | (with_reducible apply Moves.step (finish_touches ..); decide +kernel)
    | (with_reducible apply forEach_step)
    | (fail_if_no_progress with_reducible refine Moves.upd_ctx (by decide +kernel) ?_)
    | (fail_if_no_progress with_reducible refine Moves.upd (h := ?_))
    | (dsimp only [id])
    | (split)
    | (intro _))

theorem cutReads_touches (td : Nat) (p : Nat) (l : Nat) (s : State) : Moves [.ctx] s (cutReads td p l s) := by
  unfold cutReads
  try dsimp only
  repeat' (first
    | with_reducible exact Moves.refl _ _
    | with_reducible assumption
    | (with_reducible apply Moves.step (State.onCtx_touches ..); decide +kernel)
    | (with_reducible apply forEach_step)
    | (fail_if_no_progress with_reducible refine Moves.upd_ctx (by decide +kernel) ?_)
    | (fail_if_no_progress with_reducible refine Moves.upd (h := ?_))
    | (dsimp only [id])
    | (split)
    | (intro _))

theorem endRestore_touches (td : Nat) (p : Nat) (l : Nat) (s : State) : Moves [.tick, .regs, .sent, .evt, .ctx, .tables, .cut, .shoe, .mem, .decks, .lnk, .pwr] s (endRestore td p l s) := by
  unfold endRestore
  try dsimp only
  repeat' (first
    | with_reducible exact Moves.refl _ _
    | with_reducible assumption
    | (with_reducible apply Moves.step (deliverSet_touches ..); decide +kernel)
    | (with_reducible apply Moves.step (State.onDeck_touches ..); decide +kernel)
    | (with_reducible apply Moves.step (failSeeks_touches ..); decide +kernel)
    | (with_reducible apply Moves.step (goOn_touches ..); decide +kernel)
    | (with_reducible apply Moves.step (stopGroup_touches ..); decide +kernel)
    | (with_reducible apply Moves.step (cutReads_touches ..); decide +kernel)
    | (with_reducible apply Moves.step (readTable_touches ..); decide +kernel)
    | (with_reducible apply Moves.step (afterSet_touches ..); decide +kernel)
    | (with_reducible apply Moves.step (pumpTable_touches ..); decide +kernel)
    | (with_reducible apply forEach_step)
    | (fail_if_no_progress with_reducible refine Moves.upd_tick (by decide +kernel) ?_)
    | (fail_if_no_progress with_reducible refine Moves.upd_regs (by decide +kernel) ?_)
    | (fail_if_no_progress with_reducible refine Moves.upd_sent (by decide +kernel) ?_)
    | (fail_if_no_progress with_reducible refine Moves.upd_evt (by decide +kernel) ?_)
    | (fail_if_no_progress with_reducible refine Moves.upd_ctx (by decide +kernel) ?_)
    | (fail_if_no_progress with_reducible refine Moves.upd_tables (by decide +kernel) ?_)
    | (fail_if_no_progress with_reducible refine Moves.upd_cut (by decide +kernel) ?_)
    | (fail_if_no_progress with_reducible refine Moves.upd_decks (by decide +kernel) ?_)
    | (fail_if_no_progress with_reducible refine Moves.upd_lnk (by decide +kernel) ?_)
    | (fail_if_no_progress with_reducible refine Moves.upd_pwr (by decide +kernel) ?_)
    | (fail_if_no_progress with_reducible refine Moves.upd_shoe (by decide +kernel) rfl ?_)
    | (fail_if_no_progress with_reducible refine Moves.upd (h := ?_))
    | (dsimp only [id])
    | (split)
    | (intro _))

theorem rereadRound_touches (td : Nat) (p : Nat) (s : State) : Moves [.sent, .decks] s (rereadRound td p s) := by
  unfold rereadRound
  try dsimp only
  repeat' (first
    | with_reducible exact Moves.refl _ _
    | with_reducible assumption
    | (with_reducible apply Moves.step (State.putDeck_touches ..); decide +kernel)
    | (with_reducible apply Moves.step (sendMode_touches ..); decide +kernel)
    | (with_reducible apply forEach_step)
    | (fail_if_no_progress with_reducible refine Moves.upd_sent (by decide +kernel) ?_)
    | (fail_if_no_progress with_reducible refine Moves.upd_decks (by decide +kernel) ?_)
    | (fail_if_no_progress with_reducible refine Moves.upd (h := ?_))
    | (dsimp only [id])
    | (split)
    | (intro _))

theorem takeFacet_touches (d : Nat) (at' : Nat) (b : List Sys2Proof.Byte) (x : FacetPlace) (body : List Sys2Proof.Byte) (flagged : List Nat) (s : State) : Moves [.regs, .decks] s (takeFacet d at' b x body flagged s) := by
  unfold takeFacet
  try dsimp only
  repeat' (first
    | with_reducible exact Moves.refl _ _
    | with_reducible assumption
    | (with_reducible apply Moves.step (State.putDeck_touches ..); decide +kernel)
    | (with_reducible apply Moves.step (countRestore_touches ..); decide +kernel)
    | (fail_if_no_progress with_reducible refine Moves.upd_regs (by decide +kernel) ?_)
    | (fail_if_no_progress with_reducible refine Moves.upd_decks (by decide +kernel) ?_)
    | (fail_if_no_progress with_reducible refine Moves.upd (h := ?_))
    | (dsimp only [id])
    | (split)
    | (intro _))

theorem meetStart_touches (d : Nat) (n : Nat) (trick : Nat) (start : Nat) (s : State) : Moves [.regs, .decks] s (meetStart d n trick start s) := by
  unfold meetStart
  try dsimp only
  repeat' (first
    | with_reducible exact Moves.refl _ _
    | with_reducible assumption
    | (with_reducible apply Moves.step (State.putDeck_touches ..); decide +kernel)
    | (with_reducible apply Moves.step (takeFacet_touches ..); decide +kernel)
    | (with_reducible apply forEach_step)
    | (fail_if_no_progress with_reducible refine Moves.upd_regs (by decide +kernel) ?_)
    | (fail_if_no_progress with_reducible refine Moves.upd_decks (by decide +kernel) ?_)
    | (fail_if_no_progress with_reducible refine Moves.upd (h := ?_))
    | (dsimp only [id])
    | (split)
    | (intro _))

theorem takeHeaded_touches (d : Nat) (n : Nat) (at' : Nat) (b : List Sys2Proof.Byte) (body : List Sys2Proof.Byte) (flagged : List Nat) (s : State) : Moves [.regs, .decks] s (takeHeaded d n at' b body flagged s) := by
  unfold takeHeaded
  try dsimp only
  repeat' (first
    | with_reducible exact Moves.refl _ _
    | with_reducible assumption
    | (with_reducible apply Moves.step (reachCell_touches ..); decide +kernel)
    | (with_reducible apply Moves.step (takeFacet_touches ..); decide +kernel)
    | (with_reducible apply Moves.step (countRestore_touches ..); decide +kernel)
    | (with_reducible apply Moves.step (meetStart_touches ..); decide +kernel)
    | (fail_if_no_progress with_reducible refine Moves.upd_regs (by decide +kernel) ?_)
    | (fail_if_no_progress with_reducible refine Moves.upd_decks (by decide +kernel) ?_)
    | (fail_if_no_progress with_reducible refine Moves.upd (h := ?_))
    | (dsimp only [id])
    | (split)
    | (intro _))

theorem opTrickMissing_touches (d : Nat) (l : Nat) (s : State) : Moves [.tick, .regs, .sent, .evt, .ctx, .tables, .cut, .shoe, .mem, .decks, .lnk, .pwr] s (opTrickMissing d l s) := by
  unfold opTrickMissing
  try dsimp only
  repeat' (first
    | with_reducible exact Moves.refl _ _
    | with_reducible assumption
    | (with_reducible apply Moves.step (State.putDeck_touches ..); decide +kernel)
    | (with_reducible apply Moves.step (endLoad_touches ..); decide +kernel)
    | (with_reducible apply Moves.step (goOn_touches ..); decide +kernel)
    | (fail_if_no_progress with_reducible refine Moves.upd_tick (by decide +kernel) ?_)
    | (fail_if_no_progress with_reducible refine Moves.upd_regs (by decide +kernel) ?_)
    | (fail_if_no_progress with_reducible refine Moves.upd_sent (by decide +kernel) ?_)
    | (fail_if_no_progress with_reducible refine Moves.upd_evt (by decide +kernel) ?_)
    | (fail_if_no_progress with_reducible refine Moves.upd_ctx (by decide +kernel) ?_)
    | (fail_if_no_progress with_reducible refine Moves.upd_tables (by decide +kernel) ?_)
    | (fail_if_no_progress with_reducible refine Moves.upd_cut (by decide +kernel) ?_)
    | (fail_if_no_progress with_reducible refine Moves.upd_decks (by decide +kernel) ?_)
    | (fail_if_no_progress with_reducible refine Moves.upd_lnk (by decide +kernel) ?_)
    | (fail_if_no_progress with_reducible refine Moves.upd_pwr (by decide +kernel) ?_)
    | (fail_if_no_progress with_reducible refine Moves.upd_shoe (by decide +kernel) rfl ?_)
    | (fail_if_no_progress with_reducible refine Moves.upd (h := ?_))
    | (dsimp only [id])
    | (split)
    | (intro _))

theorem opRetryPass_touches (d : Nat) (s : State) : Moves [.tick, .regs, .sent, .evt, .ctx, .tables, .cut, .shoe, .mem, .decks, .lnk, .pwr] s (opRetryPass d s) := by
  unfold opRetryPass
  try dsimp only
  repeat' (first
    | with_reducible exact Moves.refl _ _
    | with_reducible assumption
    | (with_reducible apply Moves.step (rereadRound_touches ..); decide +kernel)
    | (with_reducible apply Moves.step (endRestore_touches ..); decide +kernel)
    | (with_reducible apply Moves.step (State.onDeck_touches ..); decide +kernel)
    | (with_reducible apply Moves.step (countRestore_touches ..); decide +kernel)
    | (with_reducible apply Moves.step (raiseDeck_touches ..); decide +kernel)
    | (with_reducible apply forEach_step)
    | (fail_if_no_progress with_reducible refine Moves.upd_tick (by decide +kernel) ?_)
    | (fail_if_no_progress with_reducible refine Moves.upd_regs (by decide +kernel) ?_)
    | (fail_if_no_progress with_reducible refine Moves.upd_sent (by decide +kernel) ?_)
    | (fail_if_no_progress with_reducible refine Moves.upd_evt (by decide +kernel) ?_)
    | (fail_if_no_progress with_reducible refine Moves.upd_ctx (by decide +kernel) ?_)
    | (fail_if_no_progress with_reducible refine Moves.upd_tables (by decide +kernel) ?_)
    | (fail_if_no_progress with_reducible refine Moves.upd_cut (by decide +kernel) ?_)
    | (fail_if_no_progress with_reducible refine Moves.upd_decks (by decide +kernel) ?_)
    | (fail_if_no_progress with_reducible refine Moves.upd_lnk (by decide +kernel) ?_)
    | (fail_if_no_progress with_reducible refine Moves.upd_pwr (by decide +kernel) ?_)
    | (fail_if_no_progress with_reducible refine Moves.upd_shoe (by decide +kernel) rfl ?_)
    | (fail_if_no_progress with_reducible refine Moves.upd (h := ?_))
    | (dsimp only [id])
    | (split)
    | (intro _))

theorem dropBits_touches (d : Nat) (n : Nat) (o : Nat) (s : State) : Moves [.decks] s (dropBits d n o s) := by
  unfold dropBits
  try dsimp only
  repeat' (first
    | with_reducible exact Moves.refl _ _
    | with_reducible assumption
    | (with_reducible apply Moves.step (dropReceived_touches ..); decide +kernel)
    | (fail_if_no_progress with_reducible refine Moves.upd_decks (by decide +kernel) ?_)
    | (fail_if_no_progress with_reducible refine Moves.upd (h := ?_))
    | (dsimp only [id])
    | (split)
    | (intro _))

theorem takeUnheaded_touches (d : Nat) (n : Nat) (at' : Nat) (b : List Sys2Proof.Byte) (body : List Sys2Proof.Byte) (flagged : List Nat) (s : State) : Moves [.regs, .decks] s (takeUnheaded d n at' b body flagged s) := by
  unfold takeUnheaded
  try dsimp only
  repeat' (first
    | with_reducible exact Moves.refl _ _
    | with_reducible assumption
    | (with_reducible apply Moves.step (takeFacet_touches ..); decide +kernel)
    | (with_reducible apply Moves.step (State.onDeck_touches ..); decide +kernel)
    | (fail_if_no_progress with_reducible refine Moves.upd_regs (by decide +kernel) ?_)
    | (fail_if_no_progress with_reducible refine Moves.upd_decks (by decide +kernel) ?_)
    | (fail_if_no_progress with_reducible refine Moves.upd (h := ?_))
    | (dsimp only [id])
    | (split)
    | (intro _))

theorem opFacetDecode_touches (d : Nat) (n : Nat) (s : State) : Moves [.tick, .regs, .sent, .evt, .ctx, .tables, .cut, .shoe, .mem, .decks, .lnk, .pwr] s (opFacetDecode d n s) := by
  unfold opFacetDecode
  try dsimp only
  repeat' (first
    | with_reducible exact Moves.refl _ _
    | with_reducible assumption
    | (with_reducible apply Moves.step (dropBits_touches ..); decide +kernel)
    | (with_reducible apply Moves.step (takeHeaded_touches ..); decide +kernel)
    | (with_reducible apply Moves.step (State.onDeck_touches ..); decide +kernel)
    | (with_reducible apply Moves.step (goOn_touches ..); decide +kernel)
    | (with_reducible apply Moves.step (takeUnheaded_touches ..); decide +kernel)
    | (fail_if_no_progress with_reducible refine Moves.upd_tick (by decide +kernel) ?_)
    | (fail_if_no_progress with_reducible refine Moves.upd_regs (by decide +kernel) ?_)
    | (fail_if_no_progress with_reducible refine Moves.upd_sent (by decide +kernel) ?_)
    | (fail_if_no_progress with_reducible refine Moves.upd_evt (by decide +kernel) ?_)
    | (fail_if_no_progress with_reducible refine Moves.upd_ctx (by decide +kernel) ?_)
    | (fail_if_no_progress with_reducible refine Moves.upd_tables (by decide +kernel) ?_)
    | (fail_if_no_progress with_reducible refine Moves.upd_cut (by decide +kernel) ?_)
    | (fail_if_no_progress with_reducible refine Moves.upd_decks (by decide +kernel) ?_)
    | (fail_if_no_progress with_reducible refine Moves.upd_lnk (by decide +kernel) ?_)
    | (fail_if_no_progress with_reducible refine Moves.upd_pwr (by decide +kernel) ?_)
    | (fail_if_no_progress with_reducible refine Moves.upd_shoe (by decide +kernel) rfl ?_)
    | (fail_if_no_progress with_reducible refine Moves.upd (h := ?_))
    | (dsimp only [id])
    | (split)
    | (intro _))

theorem rampEvent_touches (d : Nat) (l : Nat) (r : Option (Rat × Nat × Nat)) (s : State) : Moves [.sent, .evt] s (rampEvent d l r s) := by
  unfold rampEvent
  try dsimp only
  repeat' (first
    | with_reducible exact Moves.refl _ _
    | with_reducible assumption
    | (with_reducible apply Moves.step (raiseDeck_touches ..); decide +kernel)
    | (fail_if_no_progress with_reducible refine Moves.upd_sent (by decide +kernel) ?_)
    | (fail_if_no_progress with_reducible refine Moves.upd_evt (by decide +kernel) ?_)
    | (fail_if_no_progress with_reducible refine Moves.upd (h := ?_))
    | (dsimp only [id])
    | (split)
    | (intro _))

theorem adoptMode_touches (d : Nat) (l : Nat) (env0 : StageEnv) (s : State) : Moves [.sent, .evt, .loops] s (adoptMode d l env0 s) := by
  unfold adoptMode
  try dsimp only
  repeat' (first
    | with_reducible exact Moves.refl _ _
    | with_reducible assumption
    | (with_reducible apply Moves.step (State.putLoop_touches ..); decide +kernel)
    | (with_reducible apply Moves.step (rampEvent_touches ..); decide +kernel)
    | (fail_if_no_progress with_reducible refine Moves.upd_sent (by decide +kernel) ?_)
    | (fail_if_no_progress with_reducible refine Moves.upd_evt (by decide +kernel) ?_)
    | (fail_if_no_progress with_reducible refine Moves.upd_loops (by decide +kernel) ?_)
    | (fail_if_no_progress with_reducible refine Moves.upd (h := ?_))
    | (dsimp only [id])
    | (split)
    | (intro _))

theorem sampleTraces_touches (d : Nat) (l : Nat) (outs : List StageOut) (s : State) : Moves [.traces] s (sampleTraces d l outs s) := by
  unfold sampleTraces
  try dsimp only
  repeat' (first
    | with_reducible exact Moves.refl _ _
    | with_reducible assumption
    | (with_reducible apply Moves.step (State.putTrace_touches ..); decide +kernel)
    | (with_reducible apply forEach_step)
    | (fail_if_no_progress with_reducible refine Moves.upd_traces (by decide +kernel) ?_)
    | (fail_if_no_progress with_reducible refine Moves.upd (h := ?_))
    | (dsimp only [id])
    | (split)
    | (intro _))

theorem chainsReplaced_touches (d : Nat) (s : State) : Moves [.sent, .evt, .ctx, .img] s (chainsReplaced d s) := by
  unfold chainsReplaced
  try dsimp only
  repeat' (first
    | with_reducible exact Moves.refl _ _
    | with_reducible assumption
    | (with_reducible apply Moves.step (settleActivation_touches ..); decide +kernel)
    | (with_reducible apply Moves.step (finish_touches ..); decide +kernel)
    | (with_reducible apply Moves.step (raise_touches ..); decide +kernel)
    | (fail_if_no_progress with_reducible refine Moves.upd_sent (by decide +kernel) ?_)
    | (fail_if_no_progress with_reducible refine Moves.upd_evt (by decide +kernel) ?_)
    | (fail_if_no_progress with_reducible refine Moves.upd_ctx (by decide +kernel) ?_)
    | (fail_if_no_progress with_reducible refine Moves.upd_img (by decide +kernel) ?_)
    | (fail_if_no_progress with_reducible refine Moves.upd (h := ?_))
    | (dsimp only [id])
    | (split)
    | (intro _))

theorem adoptChain_touches (d : Nat) (l : Nat) (env0 : StageEnv) (s : State) : Moves [.sent, .evt, .ctx, .img, .loops] s (adoptChain d l env0 s) := by
  unfold adoptChain
  try dsimp only
  repeat' (first
    | with_reducible exact Moves.refl _ _
    | with_reducible assumption
    | (with_reducible apply Moves.step (chainsReplaced_touches ..); decide +kernel)
    | (with_reducible apply Moves.step (State.putLoop_touches ..); decide +kernel)
    | (with_reducible apply Moves.step (rampEvent_touches ..); decide +kernel)
    | (fail_if_no_progress with_reducible refine Moves.upd_sent (by decide +kernel) ?_)
    | (fail_if_no_progress with_reducible refine Moves.upd_evt (by decide +kernel) ?_)
    | (fail_if_no_progress with_reducible refine Moves.upd_ctx (by decide +kernel) ?_)
    | (fail_if_no_progress with_reducible refine Moves.upd_img (by decide +kernel) ?_)
    | (fail_if_no_progress with_reducible refine Moves.upd_loops (by decide +kernel) ?_)
    | (fail_if_no_progress with_reducible refine Moves.upd (h := ?_))
    | (dsimp only [id])
    | (split)
    | (intro _))

theorem runLoop_touches (d : Nat) (l : Nat) (limit : Option (Rat × Rat)) (slewed : Option (Rat × List Rat)) (s : State) : Moves [.sent, .evt, .ctx, .img, .loops, .traces] s (runLoop d l limit slewed s).2.2 := by
  unfold runLoop
  try dsimp only
  repeat' (first
    | with_reducible exact Moves.refl _ _
    | with_reducible assumption
    | (with_reducible apply Moves.step (sampleTraces_touches ..); decide +kernel)
    | (with_reducible apply Moves.step (adoptChain_touches ..); decide +kernel)
    | (with_reducible apply Moves.step (State.putLoop_touches ..); decide +kernel)
    | (with_reducible apply Moves.step (adoptMode_touches ..); decide +kernel)
    | (fail_if_no_progress with_reducible refine Moves.upd_sent (by decide +kernel) ?_)
    | (fail_if_no_progress with_reducible refine Moves.upd_evt (by decide +kernel) ?_)
    | (fail_if_no_progress with_reducible refine Moves.upd_ctx (by decide +kernel) ?_)
    | (fail_if_no_progress with_reducible refine Moves.upd_img (by decide +kernel) ?_)
    | (fail_if_no_progress with_reducible refine Moves.upd_loops (by decide +kernel) ?_)
    | (fail_if_no_progress with_reducible refine Moves.upd_traces (by decide +kernel) ?_)
    | (fail_if_no_progress with_reducible refine Moves.upd (h := ?_))
    | (dsimp only [id])
    | (split)
    | (intro _))

theorem adoptAtOnce_touches (d : Nat) (s : State) : Moves [.sent, .evt, .ctx, .img, .loops] s (adoptAtOnce d s) := by
  unfold adoptAtOnce
  try dsimp only
  repeat' (first
    | with_reducible exact Moves.refl _ _
    | with_reducible assumption
    | (with_reducible apply Moves.step (chainsReplaced_touches ..); decide +kernel)
    | (with_reducible apply Moves.step (State.putLoop_touches ..); decide +kernel)
    | (with_reducible apply forEach_step)
    | (fail_if_no_progress with_reducible refine Moves.upd_sent (by decide +kernel) ?_)
    | (fail_if_no_progress with_reducible refine Moves.upd_evt (by decide +kernel) ?_)
    | (fail_if_no_progress with_reducible refine Moves.upd_ctx (by decide +kernel) ?_)
    | (fail_if_no_progress with_reducible refine Moves.upd_img (by decide +kernel) ?_)
    | (fail_if_no_progress with_reducible refine Moves.upd_loops (by decide +kernel) ?_)
    | (fail_if_no_progress with_reducible refine Moves.upd (h := ?_))
    | (dsimp only [id])
    | (split)
    | (intro _))

theorem opDeckEstopReleased_touches (d : Nat) (s : State) : Moves [.decks] s (opDeckEstopReleased d s) := by
  unfold opDeckEstopReleased
  try dsimp only
  repeat' (first
    | with_reducible exact Moves.refl _ _
    | with_reducible assumption
    | (with_reducible apply Moves.step (State.onDeck_touches ..); decide +kernel)
    | (fail_if_no_progress with_reducible refine Moves.upd_decks (by decide +kernel) ?_)
    | (fail_if_no_progress with_reducible refine Moves.upd (h := ?_))
    | (dsimp only [id])
    | (split)
    | (intro _))

theorem resumeWriting_touches (d : Nat) (s : State) : Moves [.sent, .decks] s (resumeWriting d s) := by
  unfold resumeWriting
  try dsimp only
  repeat' (first
    | with_reducible exact Moves.refl _ _
    | with_reducible assumption
    | (with_reducible apply Moves.step (State.onMotion_touches ..); decide +kernel)
    | (with_reducible apply Moves.step (sendMode_touches ..); decide +kernel)
    | (fail_if_no_progress with_reducible refine Moves.upd_sent (by decide +kernel) ?_)
    | (fail_if_no_progress with_reducible refine Moves.upd_decks (by decide +kernel) ?_)
    | (fail_if_no_progress with_reducible refine Moves.upd (h := ?_))
    | (dsimp only [id])
    | (split)
    | (intro _))

theorem opLateralLock_touches (d : Nat) (s : State) : Moves [.sent, .decks] s (opLateralLock d s) := by
  unfold opLateralLock
  try dsimp only
  repeat' (first
    | with_reducible exact Moves.refl _ _
    | with_reducible assumption
    | (with_reducible apply Moves.step (State.onMotion_touches ..); decide +kernel)
    | (with_reducible apply Moves.step (resumeWriting_touches ..); decide +kernel)
    | (with_reducible apply forEach_step)
    | (fail_if_no_progress with_reducible refine Moves.upd_sent (by decide +kernel) ?_)
    | (fail_if_no_progress with_reducible refine Moves.upd_decks (by decide +kernel) ?_)
    | (fail_if_no_progress with_reducible refine Moves.upd (h := ?_))
    | (dsimp only [id])
    | (split)
    | (intro _))

theorem noteTiming_touches (d : Nat) (l : Nat) (late : Bool) (s : State) : Moves [.regs, .sent, .evt, .loops] s (noteTiming d l late s) := by
  unfold noteTiming
  try dsimp only
  repeat' (first
    | with_reducible exact Moves.refl _ _
    | with_reducible assumption
    | (with_reducible apply Moves.step (State.addFld_touches ..); decide +kernel)
    | (with_reducible apply Moves.step (State.putLoop_touches ..); decide +kernel)
    | (with_reducible apply Moves.step (raiseDeck_touches ..); decide +kernel)
    | (fail_if_no_progress with_reducible refine Moves.upd_regs (by decide +kernel) ?_)
    | (fail_if_no_progress with_reducible refine Moves.upd_sent (by decide +kernel) ?_)
    | (fail_if_no_progress with_reducible refine Moves.upd_evt (by decide +kernel) ?_)
    | (fail_if_no_progress with_reducible refine Moves.upd_loops (by decide +kernel) ?_)
    | (fail_if_no_progress with_reducible refine Moves.upd (h := ?_))
    | (dsimp only [id])
    | (split)
    | (intro _))

theorem noteOverrun_touches (d : Nat) (l : Nat) (s : State) : Moves [.regs, .sent, .evt, .loops] s (noteOverrun d l s) := by
  unfold noteOverrun
  try dsimp only
  repeat' (first
    | with_reducible exact Moves.refl _ _
    | with_reducible assumption
    | (with_reducible apply Moves.step (State.addFld_touches ..); decide +kernel)
    | (with_reducible apply Moves.step (State.putLoop_touches ..); decide +kernel)
    | (with_reducible apply Moves.step (raiseDeck_touches ..); decide +kernel)
    | (fail_if_no_progress with_reducible refine Moves.upd_regs (by decide +kernel) ?_)
    | (fail_if_no_progress with_reducible refine Moves.upd_sent (by decide +kernel) ?_)
    | (fail_if_no_progress with_reducible refine Moves.upd_evt (by decide +kernel) ?_)
    | (fail_if_no_progress with_reducible refine Moves.upd_loops (by decide +kernel) ?_)
    | (fail_if_no_progress with_reducible refine Moves.upd (h := ?_))
    | (dsimp only [id])
    | (split)
    | (intro _))

theorem followPace_touches (d : Nat) (x : Nat) (s : State) : Moves [.sent, .evt, .ctx, .img, .loops] s (followPace d x s) := by
  unfold followPace
  try dsimp only
  repeat' (first
    | with_reducible exact Moves.refl _ _
    | with_reducible assumption
    | (with_reducible apply Moves.step (chainsReplaced_touches ..); decide +kernel)
    | (with_reducible apply Moves.step (State.putLoop_touches ..); decide +kernel)
    | (fail_if_no_progress with_reducible refine Moves.upd_sent (by decide +kernel) ?_)
    | (fail_if_no_progress with_reducible refine Moves.upd_evt (by decide +kernel) ?_)
    | (fail_if_no_progress with_reducible refine Moves.upd_ctx (by decide +kernel) ?_)
    | (fail_if_no_progress with_reducible refine Moves.upd_img (by decide +kernel) ?_)
    | (fail_if_no_progress with_reducible refine Moves.upd_loops (by decide +kernel) ?_)
    | (fail_if_no_progress with_reducible refine Moves.upd (h := ?_))
    | (dsimp only [id])
    | (split)
    | (intro _))

theorem settleCapping_touches (s : State) : Moves [.regs, .sent, .evt] s (settleCapping s) := by
  unfold settleCapping
  try dsimp only
  repeat' (first
    | with_reducible exact Moves.refl _ _
    | with_reducible assumption
    | (with_reducible apply Moves.step (State.setFld_touches ..); decide +kernel)
    | (with_reducible apply Moves.step (raise_touches ..); decide +kernel)
    | (fail_if_no_progress with_reducible refine Moves.upd_regs (by decide +kernel) ?_)
    | (fail_if_no_progress with_reducible refine Moves.upd_sent (by decide +kernel) ?_)
    | (fail_if_no_progress with_reducible refine Moves.upd_evt (by decide +kernel) ?_)
    | (fail_if_no_progress with_reducible refine Moves.upd (h := ?_))
    | (dsimp only [id])
    | (split)
    | (intro _))

theorem computePace_touches (d : Nat) (s : State) : Moves [.regs, .sent, .evt, .ctx, .img, .decks, .loops, .traces] s (computePace d s) := by
  unfold computePace
  try dsimp only
  repeat' (first
    | with_reducible exact Moves.refl _ _
    | with_reducible assumption
    | (with_reducible apply Moves.step (followPace_touches ..); decide +kernel)
    | (with_reducible apply Moves.step (State.setFld_touches ..); decide +kernel)
    | (with_reducible apply Moves.step (settleCapping_touches ..); decide +kernel)
    | (with_reducible apply Moves.step (runLoop_touches ..); decide +kernel)
    | (rename_i hq; with_reducible refine Moves.of_eq (by first | exact congrArg Prod.snd hq | exact congrArg (fun x => x.2.2) hq) (runLoop_touches ..) (by decide +kernel) ?_)
    | (with_reducible apply Moves.step (State.onMotion_touches ..); decide +kernel)
    | (with_reducible apply forEach_step)
    | (fail_if_no_progress with_reducible refine Moves.upd_regs (by decide +kernel) ?_)
    | (fail_if_no_progress with_reducible refine Moves.upd_sent (by decide +kernel) ?_)
    | (fail_if_no_progress with_reducible refine Moves.upd_evt (by decide +kernel) ?_)
    | (fail_if_no_progress with_reducible refine Moves.upd_ctx (by decide +kernel) ?_)
    | (fail_if_no_progress with_reducible refine Moves.upd_img (by decide +kernel) ?_)
    | (fail_if_no_progress with_reducible refine Moves.upd_decks (by decide +kernel) ?_)
    | (fail_if_no_progress with_reducible refine Moves.upd_loops (by decide +kernel) ?_)
    | (fail_if_no_progress with_reducible refine Moves.upd_traces (by decide +kernel) ?_)
    | (fail_if_no_progress with_reducible refine Moves.upd (h := ?_))
    | (dsimp only [id])
    | (split)
    | (intro _))

theorem opPaceSample_touches (d : Nat) (timing : Sys2Proof.SampleTiming) (s : State) : Moves [.regs, .sent, .evt, .ctx, .img, .decks, .loops, .traces] s (opPaceSample d timing s) := by
  unfold opPaceSample
  try dsimp only
  repeat' (first
    | with_reducible exact Moves.refl _ _
    | with_reducible assumption
    | (with_reducible apply Moves.step (noteTiming_touches ..); decide +kernel)
    | (with_reducible apply Moves.step (noteOverrun_touches ..); decide +kernel)
    | (with_reducible apply Moves.step (State.onMotion_touches ..); decide +kernel)
    | (with_reducible apply Moves.step (computePace_touches ..); decide +kernel)
    | (fail_if_no_progress with_reducible refine Moves.upd_regs (by decide +kernel) ?_)
    | (fail_if_no_progress with_reducible refine Moves.upd_sent (by decide +kernel) ?_)
    | (fail_if_no_progress with_reducible refine Moves.upd_evt (by decide +kernel) ?_)
    | (fail_if_no_progress with_reducible refine Moves.upd_ctx (by decide +kernel) ?_)
    | (fail_if_no_progress with_reducible refine Moves.upd_img (by decide +kernel) ?_)
    | (fail_if_no_progress with_reducible refine Moves.upd_decks (by decide +kernel) ?_)
    | (fail_if_no_progress with_reducible refine Moves.upd_loops (by decide +kernel) ?_)
    | (fail_if_no_progress with_reducible refine Moves.upd_traces (by decide +kernel) ?_)
    | (fail_if_no_progress with_reducible refine Moves.upd (h := ?_))
    | (dsimp only [id])
    | (split)
    | (intro _))

theorem offTrack_touches (d : Nat) (s : State) : Moves [.sent, .evt, .decks] s (offTrack d s) := by
  unfold offTrack
  try dsimp only
  repeat' (first
    | with_reducible exact Moves.refl _ _
    | with_reducible assumption
    | (with_reducible apply Moves.step (interruptWriting_touches ..); decide +kernel)
    | (with_reducible apply Moves.step (State.onMotion_touches ..); decide +kernel)
    | (with_reducible apply Moves.step (raiseDeck_touches ..); decide +kernel)
    | (fail_if_no_progress with_reducible refine Moves.upd_sent (by decide +kernel) ?_)
    | (fail_if_no_progress with_reducible refine Moves.upd_evt (by decide +kernel) ?_)
    | (fail_if_no_progress with_reducible refine Moves.upd_decks (by decide +kernel) ?_)
    | (fail_if_no_progress with_reducible refine Moves.upd (h := ?_))
    | (dsimp only [id])
    | (split)
    | (intro _))

theorem opTraceArm_touches (d : Nat) (c : Nat) (s : State) : Moves [.regs, .sent, .evt, .traces] s (opTraceArm d c s) := by
  unfold opTraceArm
  try dsimp only
  repeat' (first
    | with_reducible exact Moves.refl _ _
    | with_reducible assumption
    | (with_reducible apply Moves.step (refuseWrite_touches ..); decide +kernel)
    | (with_reducible apply Moves.step (State.putTrace_touches ..); decide +kernel)
    | (with_reducible apply Moves.step (State.setReg_touches ..); decide +kernel)
    | (with_reducible apply Moves.step (State.setFld_touches ..); decide +kernel)
    | (fail_if_no_progress with_reducible refine Moves.upd_regs (by decide +kernel) ?_)
    | (fail_if_no_progress with_reducible refine Moves.upd_sent (by decide +kernel) ?_)
    | (fail_if_no_progress with_reducible refine Moves.upd_evt (by decide +kernel) ?_)
    | (fail_if_no_progress with_reducible refine Moves.upd_traces (by decide +kernel) ?_)
    | (fail_if_no_progress with_reducible refine Moves.upd (h := ?_))
    | (dsimp only [id])
    | (split)
    | (intro _))

theorem trigger_touches (d : Nat) (c : Nat) (stamp : Nat) (s : State) : Moves [.regs, .sent, .evt, .traces] s (trigger d c stamp s) := by
  unfold trigger
  try dsimp only
  repeat' (first
    | with_reducible exact Moves.refl _ _
    | with_reducible assumption
    | (with_reducible apply Moves.step (emit_touches ..); decide +kernel)
    | (with_reducible apply Moves.step (State.putTrace_touches ..); decide +kernel)
    | (with_reducible apply Moves.step (State.setPair_touches ..); decide +kernel)
    | (with_reducible apply Moves.step (State.setFld_touches ..); decide +kernel)
    | (with_reducible apply Moves.step (raiseDeck_touches ..); decide +kernel)
    | (fail_if_no_progress with_reducible refine Moves.upd_regs (by decide +kernel) ?_)
    | (fail_if_no_progress with_reducible refine Moves.upd_sent (by decide +kernel) ?_)
    | (fail_if_no_progress with_reducible refine Moves.upd_evt (by decide +kernel) ?_)
    | (fail_if_no_progress with_reducible refine Moves.upd_traces (by decide +kernel) ?_)
    | (fail_if_no_progress with_reducible refine Moves.upd (h := ?_))
    | (dsimp only [id])
    | (split)
    | (intro _))

theorem opTraceFire_touches (d : Nat) (c : Nat) (s : State) : Moves [.tick, .regs, .sent, .evt, .traces] s (opTraceFire d c s) := by
  unfold opTraceFire
  try dsimp only
  repeat' (first
    | with_reducible exact Moves.refl _ _
    | with_reducible assumption
    | (with_reducible apply Moves.step (trigger_touches ..); decide +kernel)
    | (with_reducible apply Moves.step (refuseWrite_touches ..); decide +kernel)
    | (with_reducible apply Moves.step (State.ticked_touches ..); decide +kernel)
    | (fail_if_no_progress with_reducible refine Moves.upd_tick (by decide +kernel) ?_)
    | (fail_if_no_progress with_reducible refine Moves.upd_regs (by decide +kernel) ?_)
    | (fail_if_no_progress with_reducible refine Moves.upd_sent (by decide +kernel) ?_)
    | (fail_if_no_progress with_reducible refine Moves.upd_evt (by decide +kernel) ?_)
    | (fail_if_no_progress with_reducible refine Moves.upd_traces (by decide +kernel) ?_)
    | (fail_if_no_progress with_reducible refine Moves.upd (h := ?_))
    | (dsimp only [id])
    | (split)
    | (intro _))

theorem opJasStopRequest_touches (d : Nat) (s : State) : Moves [.regs, .sent, .evt, .ctx, .tables, .cut, .shoe, .decks, .loops, .lnk] s (opJasStopRequest d s) := by
  unfold opJasStopRequest
  try dsimp only
  repeat' (first
    | with_reducible exact Moves.refl _ _
    | with_reducible assumption
    | (with_reducible apply Moves.step (State.setFld_touches ..); decide +kernel)
    | (with_reducible apply Moves.step (controlledStop_touches ..); decide +kernel)
    | (fail_if_no_progress with_reducible refine Moves.upd_regs (by decide +kernel) ?_)
    | (fail_if_no_progress with_reducible refine Moves.upd_sent (by decide +kernel) ?_)
    | (fail_if_no_progress with_reducible refine Moves.upd_evt (by decide +kernel) ?_)
    | (fail_if_no_progress with_reducible refine Moves.upd_ctx (by decide +kernel) ?_)
    | (fail_if_no_progress with_reducible refine Moves.upd_tables (by decide +kernel) ?_)
    | (fail_if_no_progress with_reducible refine Moves.upd_cut (by decide +kernel) ?_)
    | (fail_if_no_progress with_reducible refine Moves.upd_decks (by decide +kernel) ?_)
    | (fail_if_no_progress with_reducible refine Moves.upd_loops (by decide +kernel) ?_)
    | (fail_if_no_progress with_reducible refine Moves.upd_lnk (by decide +kernel) ?_)
    | (fail_if_no_progress with_reducible refine Moves.upd_shoe (by decide +kernel) rfl ?_)
    | (fail_if_no_progress with_reducible refine Moves.upd (h := ?_))
    | (dsimp only [id])
    | (split)
    | (intro _))

theorem refuseCommit_touches (d : Nat) (s : State) : Moves [.regs, .sent, .evt] s (refuseCommit d s) := by
  unfold refuseCommit
  try dsimp only
  repeat' (first
    | with_reducible exact Moves.refl _ _
    | with_reducible assumption
    | (with_reducible apply Moves.step (State.setFld_touches ..); decide +kernel)
    | (with_reducible apply Moves.step (raiseDeck_touches ..); decide +kernel)
    | (fail_if_no_progress with_reducible refine Moves.upd_regs (by decide +kernel) ?_)
    | (fail_if_no_progress with_reducible refine Moves.upd_sent (by decide +kernel) ?_)
    | (fail_if_no_progress with_reducible refine Moves.upd_evt (by decide +kernel) ?_)
    | (fail_if_no_progress with_reducible refine Moves.upd (h := ?_))
    | (dsimp only [id])
    | (split)
    | (intro _))

theorem opCoefCommit_touches (d : Nat) (v : Sys2Proof.Word) (s : State) : Moves [.regs, .sent, .evt, .loops] s (opCoefCommit d v s) := by
  unfold opCoefCommit
  try dsimp only
  repeat' (first
    | with_reducible exact Moves.refl _ _
    | with_reducible assumption
    | (with_reducible apply Moves.step (refuseCommit_touches ..); decide +kernel)
    | (with_reducible apply Moves.step (State.putLoop_touches ..); decide +kernel)
    | (with_reducible apply Moves.step (State.setFld_touches ..); decide +kernel)
    | (fail_if_no_progress with_reducible refine Moves.upd_regs (by decide +kernel) ?_)
    | (fail_if_no_progress with_reducible refine Moves.upd_sent (by decide +kernel) ?_)
    | (fail_if_no_progress with_reducible refine Moves.upd_evt (by decide +kernel) ?_)
    | (fail_if_no_progress with_reducible refine Moves.upd_loops (by decide +kernel) ?_)
    | (fail_if_no_progress with_reducible refine Moves.upd (h := ?_))
    | (dsimp only [id])
    | (split)
    | (intro _))

theorem opTraceDone_touches (d : Nat) (c : Nat) (s : State) : Moves [.regs, .traces] s (opTraceDone d c s) := by
  unfold opTraceDone
  try dsimp only
  repeat' (first
    | with_reducible exact Moves.refl _ _
    | with_reducible assumption
    | (with_reducible apply Moves.step (State.putTrace_touches ..); decide +kernel)
    | (with_reducible apply Moves.step (State.setFld_touches ..); decide +kernel)
    | (fail_if_no_progress with_reducible refine Moves.upd_regs (by decide +kernel) ?_)
    | (fail_if_no_progress with_reducible refine Moves.upd_traces (by decide +kernel) ?_)
    | (fail_if_no_progress with_reducible refine Moves.upd (h := ?_))
    | (dsimp only [id])
    | (split)
    | (intro _))

theorem opTraceRead_touches (d : Nat) (c : Nat) (s : State) : Moves [.regs, .sent] s (opTraceRead d c s) := by
  unfold opTraceRead
  try dsimp only
  repeat' (first
    | with_reducible exact Moves.refl _ _
    | with_reducible assumption
    | (with_reducible apply Moves.step (emit_touches ..); decide +kernel)
    | (with_reducible apply Moves.step (State.setFld_touches ..); decide +kernel)
    | (fail_if_no_progress with_reducible refine Moves.upd_regs (by decide +kernel) ?_)
    | (fail_if_no_progress with_reducible refine Moves.upd_sent (by decide +kernel) ?_)
    | (fail_if_no_progress with_reducible refine Moves.upd (h := ?_))
    | (dsimp only [id])
    | (split)
    | (intro _))

theorem followWrap_touches (d : Nat) (s : State) : Moves [.decks] s (followWrap d s) := by
  unfold followWrap
  try dsimp only
  repeat' (first
    | with_reducible exact Moves.refl _ _
    | with_reducible assumption
    | (with_reducible apply Moves.step (State.onMotion_touches ..); decide +kernel)
    | (fail_if_no_progress with_reducible refine Moves.upd_decks (by decide +kernel) ?_)
    | (fail_if_no_progress with_reducible refine Moves.upd (h := ?_))
    | (dsimp only [id])
    | (split)
    | (intro _))

theorem setMode_touches (d : Nat) (l : Nat) (m : Nat) (s : State) : Moves [.loops] s (setMode d l m s) := by
  unfold setMode
  try dsimp only
  repeat' (first
    | with_reducible exact Moves.refl _ _
    | with_reducible assumption
    | (with_reducible apply Moves.step (State.putLoop_touches ..); decide +kernel)
    | (fail_if_no_progress with_reducible refine Moves.upd_loops (by decide +kernel) ?_)
    | (fail_if_no_progress with_reducible refine Moves.upd (h := ?_))
    | (dsimp only [id])
    | (split)
    | (intro _))

theorem takeTelemetry_touches (d : Nat) (c : Nat) (v : ℤ) (s : State) : Moves [.regs, .sent, .evt, .decks] s (takeTelemetry d c v s) := by
  unfold takeTelemetry
  try dsimp only
  repeat' (first
    | with_reducible exact Moves.refl _ _
    | with_reducible assumption
    | (with_reducible apply Moves.step (State.onMotion_touches ..); decide +kernel)
    | (with_reducible apply Moves.step (State.addFld_touches ..); decide +kernel)
    | (with_reducible apply Moves.step (State.setFld_touches ..); decide +kernel)
    | (with_reducible apply Moves.step (raiseDeck_touches ..); decide +kernel)
    | (fail_if_no_progress with_reducible refine Moves.upd_regs (by decide +kernel) ?_)
    | (fail_if_no_progress with_reducible refine Moves.upd_sent (by decide +kernel) ?_)
    | (fail_if_no_progress with_reducible refine Moves.upd_evt (by decide +kernel) ?_)
    | (fail_if_no_progress with_reducible refine Moves.upd_decks (by decide +kernel) ?_)
    | (fail_if_no_progress with_reducible refine Moves.upd (h := ?_))
    | (dsimp only [id])
    | (split)
    | (intro _))

theorem computeLateral_touches (d : Nat) (counter : Sys2Proof.Byte) (posErr : BitVec 24) (tpc : Sys2Proof.Word) (s : State) : Moves [.regs, .sent, .evt, .ctx, .img, .decks, .loops, .traces] s (computeLateral d counter posErr tpc s) := by
  unfold computeLateral
  try dsimp only
  repeat' (first
    | with_reducible exact Moves.refl _ _
    | with_reducible assumption
    | (with_reducible apply Moves.step (sendRecord_touches ..); decide +kernel)
    | (with_reducible apply Moves.step (followWrap_touches ..); decide +kernel)
    | (with_reducible apply Moves.step (offTrack_touches ..); decide +kernel)
    | (with_reducible apply Moves.step (runLoop_touches ..); decide +kernel)
    | (rename_i hq; with_reducible refine Moves.of_eq (by first | exact congrArg Prod.snd hq | exact congrArg (fun x => x.2.2) hq) (runLoop_touches ..) (by decide +kernel) ?_)
    | (with_reducible apply Moves.step (State.onMotion_touches ..); decide +kernel)
    | (with_reducible apply Moves.step (setMode_touches ..); decide +kernel)
    | (with_reducible apply Moves.step (takeTelemetry_touches ..); decide +kernel)
    | (fail_if_no_progress with_reducible refine Moves.upd_regs (by decide +kernel) ?_)
    | (fail_if_no_progress with_reducible refine Moves.upd_sent (by decide +kernel) ?_)
    | (fail_if_no_progress with_reducible refine Moves.upd_evt (by decide +kernel) ?_)
    | (fail_if_no_progress with_reducible refine Moves.upd_ctx (by decide +kernel) ?_)
    | (fail_if_no_progress with_reducible refine Moves.upd_img (by decide +kernel) ?_)
    | (fail_if_no_progress with_reducible refine Moves.upd_decks (by decide +kernel) ?_)
    | (fail_if_no_progress with_reducible refine Moves.upd_loops (by decide +kernel) ?_)
    | (fail_if_no_progress with_reducible refine Moves.upd_traces (by decide +kernel) ?_)
    | (fail_if_no_progress with_reducible refine Moves.upd (h := ?_))
    | (dsimp only [id])
    | (split)
    | (intro _))

theorem opServoRecord_touches (d : Nat) (counter : Sys2Proof.Byte) (posErr : BitVec 24) (tpc : Sys2Proof.Word) (timing : Sys2Proof.SampleTiming) (s : State) : Moves [.regs, .sent, .evt, .ctx, .img, .decks, .loops, .traces] s (opServoRecord d counter posErr tpc timing s) := by
  unfold opServoRecord
  try dsimp only
  repeat' (first
    | with_reducible exact Moves.refl _ _
    | with_reducible assumption
    | (with_reducible apply Moves.step (computeLateral_touches ..); decide +kernel)
    | (with_reducible apply Moves.step (noteOverrun_touches ..); decide +kernel)
    | (with_reducible apply Moves.step (noteTiming_touches ..); decide +kernel)
    | (fail_if_no_progress with_reducible refine Moves.upd_regs (by decide +kernel) ?_)
    | (fail_if_no_progress with_reducible refine Moves.upd_sent (by decide +kernel) ?_)
    | (fail_if_no_progress with_reducible refine Moves.upd_evt (by decide +kernel) ?_)
    | (fail_if_no_progress with_reducible refine Moves.upd_ctx (by decide +kernel) ?_)
    | (fail_if_no_progress with_reducible refine Moves.upd_img (by decide +kernel) ?_)
    | (fail_if_no_progress with_reducible refine Moves.upd_decks (by decide +kernel) ?_)
    | (fail_if_no_progress with_reducible refine Moves.upd_loops (by decide +kernel) ?_)
    | (fail_if_no_progress with_reducible refine Moves.upd_traces (by decide +kernel) ?_)
    | (fail_if_no_progress with_reducible refine Moves.upd (h := ?_))
    | (dsimp only [id])
    | (split)
    | (intro _))

theorem followSlew_touches (va : List Rat) (x : Nat) (s : State) : Moves [.decks] s (followSlew va x s) := by
  unfold followSlew
  try dsimp only
  repeat' (first
    | with_reducible exact Moves.refl _ _
    | with_reducible assumption
    | (with_reducible apply Moves.step (State.onDeck_touches ..); decide +kernel)
    | (fail_if_no_progress with_reducible refine Moves.upd_decks (by decide +kernel) ?_)
    | (fail_if_no_progress with_reducible refine Moves.upd (h := ?_))
    | (dsimp only [id])
    | (split)
    | (intro _))

theorem slewTape_touches (d : Nat) (s : State) : Moves [.decks, .loops] s (slewTape d s) := by
  unfold slewTape
  try dsimp only
  repeat' (first
    | with_reducible exact Moves.refl _ _
    | with_reducible assumption
    | (with_reducible apply Moves.step (followSlew_touches ..); decide +kernel)
    | (with_reducible apply Moves.step (State.putLoop_touches ..); decide +kernel)
    | (with_reducible apply forEach_step)
    | (fail_if_no_progress with_reducible refine Moves.upd_decks (by decide +kernel) ?_)
    | (fail_if_no_progress with_reducible refine Moves.upd_loops (by decide +kernel) ?_)
    | (fail_if_no_progress with_reducible refine Moves.upd (h := ?_))
    | (dsimp only [id])
    | (split)
    | (intro _))

theorem opReversalTensionMet_touches (d : Nat) (s : State) : Moves [.decks] s (opReversalTensionMet d s) := by
  unfold opReversalTensionMet
  try dsimp only
  repeat' (first
    | with_reducible exact Moves.refl _ _
    | with_reducible assumption
    | (with_reducible apply Moves.step (State.onMotion_touches ..); decide +kernel)
    | (with_reducible apply forEach_step)
    | (fail_if_no_progress with_reducible refine Moves.upd_decks (by decide +kernel) ?_)
    | (fail_if_no_progress with_reducible refine Moves.upd (h := ?_))
    | (dsimp only [id])
    | (split)
    | (intro _))

theorem takeShadow_touches (d : Nat) (l : Nat) (s : State) : Moves [.loops] s (takeShadow d l s) := by
  unfold takeShadow
  try dsimp only
  repeat' (first
    | with_reducible exact Moves.refl _ _
    | with_reducible assumption
    | (with_reducible apply Moves.step (State.putLoop_touches ..); decide +kernel)
    | (fail_if_no_progress with_reducible refine Moves.upd_loops (by decide +kernel) ?_)
    | (fail_if_no_progress with_reducible refine Moves.upd (h := ?_))
    | (dsimp only [id])
    | (split)
    | (intro _))

theorem opHoldWrite_touches (d : Nat) (hold : Nat) (s : State) : Moves [.regs, .loops] s (opHoldWrite d hold s) := by
  unfold opHoldWrite
  try dsimp only
  repeat' (first
    | with_reducible exact Moves.refl _ _
    | with_reducible assumption
    | (with_reducible apply Moves.step (State.setFld_touches ..); decide +kernel)
    | (with_reducible apply Moves.step (takeShadow_touches ..); decide +kernel)
    | (with_reducible apply forEach_step)
    | (fail_if_no_progress with_reducible refine Moves.upd_regs (by decide +kernel) ?_)
    | (fail_if_no_progress with_reducible refine Moves.upd_loops (by decide +kernel) ?_)
    | (fail_if_no_progress with_reducible refine Moves.upd (h := ?_))
    | (dsimp only [id])
    | (split)
    | (intro _))

theorem opReversalTimeout_touches (d : Nat) (s : State) : Moves [.regs, .sent, .evt, .ctx, .tables, .cut, .shoe, .decks, .loops, .lnk] s (opReversalTimeout d s) := by
  unfold opReversalTimeout
  try dsimp only
  repeat' (first
    | with_reducible exact Moves.refl _ _
    | with_reducible assumption
    | (with_reducible apply Moves.step (raiseDeck_touches ..); decide +kernel)
    | (with_reducible apply Moves.step (controlledStop_touches ..); decide +kernel)
    | (fail_if_no_progress with_reducible refine Moves.upd_regs (by decide +kernel) ?_)
    | (fail_if_no_progress with_reducible refine Moves.upd_sent (by decide +kernel) ?_)
    | (fail_if_no_progress with_reducible refine Moves.upd_evt (by decide +kernel) ?_)
    | (fail_if_no_progress with_reducible refine Moves.upd_ctx (by decide +kernel) ?_)
    | (fail_if_no_progress with_reducible refine Moves.upd_tables (by decide +kernel) ?_)
    | (fail_if_no_progress with_reducible refine Moves.upd_cut (by decide +kernel) ?_)
    | (fail_if_no_progress with_reducible refine Moves.upd_decks (by decide +kernel) ?_)
    | (fail_if_no_progress with_reducible refine Moves.upd_loops (by decide +kernel) ?_)
    | (fail_if_no_progress with_reducible refine Moves.upd_lnk (by decide +kernel) ?_)
    | (fail_if_no_progress with_reducible refine Moves.upd_shoe (by decide +kernel) rfl ?_)
    | (fail_if_no_progress with_reducible refine Moves.upd (h := ?_))
    | (dsimp only [id])
    | (split)
    | (intro _))

theorem noteCount_touches (d : Nat) (takeup : Bool) (s : State) : Moves [.decks] s (noteCount d takeup s) := by
  unfold noteCount
  try dsimp only
  repeat' (first
    | with_reducible exact Moves.refl _ _
    | with_reducible assumption
    | (with_reducible apply Moves.step (State.onMotion_touches ..); decide +kernel)
    | (fail_if_no_progress with_reducible refine Moves.upd_decks (by decide +kernel) ?_)
    | (fail_if_no_progress with_reducible refine Moves.upd (h := ?_))
    | (dsimp only [id])
    | (split)
    | (intro _))

theorem noteTension_touches (d : Nat) (v : ℤ) (s : State) : Moves [.decks] s (noteTension d v s) := by
  unfold noteTension
  try dsimp only
  repeat' (first
    | with_reducible exact Moves.refl _ _
    | with_reducible assumption
    | (with_reducible apply Moves.step (State.onMotion_touches ..); decide +kernel)
    | (fail_if_no_progress with_reducible refine Moves.upd_decks (by decide +kernel) ?_)
    | (fail_if_no_progress with_reducible refine Moves.upd (h := ?_))
    | (dsimp only [id])
    | (split)
    | (intro _))

theorem reelTelemetry_touches (d : Nat) (takeup : Bool) (count : Sys2Proof.Word) (tension : BitVec 16) (s : State) : Moves [.regs, .sent, .evt, .decks] s (reelTelemetry d takeup count tension s) := by
  unfold reelTelemetry
  try dsimp only
  repeat' (first
    | with_reducible exact Moves.refl _ _
    | with_reducible assumption
    | (with_reducible apply Moves.step (takeTelemetry_touches ..); decide +kernel)
    | (with_reducible apply Moves.step (noteCount_touches ..); decide +kernel)
    | (with_reducible apply Moves.step (noteTension_touches ..); decide +kernel)
    | (fail_if_no_progress with_reducible refine Moves.upd_regs (by decide +kernel) ?_)
    | (fail_if_no_progress with_reducible refine Moves.upd_sent (by decide +kernel) ?_)
    | (fail_if_no_progress with_reducible refine Moves.upd_evt (by decide +kernel) ?_)
    | (fail_if_no_progress with_reducible refine Moves.upd_decks (by decide +kernel) ?_)
    | (fail_if_no_progress with_reducible refine Moves.upd (h := ?_))
    | (dsimp only [id])
    | (split)
    | (intro _))

theorem computeReel_touches (d : Nat) (counter : Sys2Proof.Byte) (takeup : Bool) (count : Sys2Proof.Word) (tension : BitVec 16) (s : State) : Moves [.regs, .sent, .evt, .ctx, .img, .decks, .loops, .traces] s (computeReel d counter takeup count tension s) := by
  unfold computeReel
  try dsimp only
  repeat' (first
    | with_reducible exact Moves.refl _ _
    | with_reducible assumption
    | (with_reducible apply Moves.step (sendRecord_touches ..); decide +kernel)
    | (with_reducible apply Moves.step (slewTape_touches ..); decide +kernel)
    | (with_reducible apply Moves.step (runLoop_touches ..); decide +kernel)
    | (rename_i hq; with_reducible refine Moves.of_eq (by first | exact congrArg Prod.snd hq | exact congrArg (fun x => x.2.2) hq) (runLoop_touches ..) (by decide +kernel) ?_)
    | (with_reducible apply Moves.step (State.onMotion_touches ..); decide +kernel)
    | (with_reducible apply Moves.step (setMode_touches ..); decide +kernel)
    | (with_reducible apply Moves.step (reelTelemetry_touches ..); decide +kernel)
    | (fail_if_no_progress with_reducible refine Moves.upd_regs (by decide +kernel) ?_)
    | (fail_if_no_progress with_reducible refine Moves.upd_sent (by decide +kernel) ?_)
    | (fail_if_no_progress with_reducible refine Moves.upd_evt (by decide +kernel) ?_)
    | (fail_if_no_progress with_reducible refine Moves.upd_ctx (by decide +kernel) ?_)
    | (fail_if_no_progress with_reducible refine Moves.upd_img (by decide +kernel) ?_)
    | (fail_if_no_progress with_reducible refine Moves.upd_decks (by decide +kernel) ?_)
    | (fail_if_no_progress with_reducible refine Moves.upd_loops (by decide +kernel) ?_)
    | (fail_if_no_progress with_reducible refine Moves.upd_traces (by decide +kernel) ?_)
    | (fail_if_no_progress with_reducible refine Moves.upd (h := ?_))
    | (dsimp only [id])
    | (split)
    | (intro _))

theorem opReelRecord_touches (d : Nat) (counter : Sys2Proof.Byte) (takeup : Bool) (count : Sys2Proof.Word) (tension : BitVec 16) (timing : Sys2Proof.SampleTiming) (s : State) : Moves [.regs, .sent, .evt, .ctx, .img, .decks, .loops, .traces] s (opReelRecord d counter takeup count tension timing s) := by
  unfold opReelRecord
  try dsimp only
  repeat' (first
    | with_reducible exact Moves.refl _ _
    | with_reducible assumption
    | (with_reducible apply Moves.step (computeReel_touches ..); decide +kernel)
    | (with_reducible apply Moves.step (noteOverrun_touches ..); decide +kernel)
    | (with_reducible apply Moves.step (noteTiming_touches ..); decide +kernel)
    | (fail_if_no_progress with_reducible refine Moves.upd_regs (by decide +kernel) ?_)
    | (fail_if_no_progress with_reducible refine Moves.upd_sent (by decide +kernel) ?_)
    | (fail_if_no_progress with_reducible refine Moves.upd_evt (by decide +kernel) ?_)
    | (fail_if_no_progress with_reducible refine Moves.upd_ctx (by decide +kernel) ?_)
    | (fail_if_no_progress with_reducible refine Moves.upd_img (by decide +kernel) ?_)
    | (fail_if_no_progress with_reducible refine Moves.upd_decks (by decide +kernel) ?_)
    | (fail_if_no_progress with_reducible refine Moves.upd_loops (by decide +kernel) ?_)
    | (fail_if_no_progress with_reducible refine Moves.upd_traces (by decide +kernel) ?_)
    | (fail_if_no_progress with_reducible refine Moves.upd (h := ?_))
    | (dsimp only [id])
    | (split)
    | (intro _))

theorem opDeckEstop_touches (d : Nat) (s : State) : Moves [.regs, .sent, .evt, .ctx, .tables, .cut, .shoe, .decks, .loops, .lnk] s (opDeckEstop d s) := by
  unfold opDeckEstop
  try dsimp only
  repeat' (first
    | with_reducible exact Moves.refl _ _
    | with_reducible assumption
    | (with_reducible apply Moves.step (controlledStop_touches ..); decide +kernel)
    | (with_reducible apply Moves.step (State.onDeck_touches ..); decide +kernel)
    | (with_reducible apply Moves.step (raiseDeck_touches ..); decide +kernel)
    | (fail_if_no_progress with_reducible refine Moves.upd_regs (by decide +kernel) ?_)
    | (fail_if_no_progress with_reducible refine Moves.upd_sent (by decide +kernel) ?_)
    | (fail_if_no_progress with_reducible refine Moves.upd_evt (by decide +kernel) ?_)
    | (fail_if_no_progress with_reducible refine Moves.upd_ctx (by decide +kernel) ?_)
    | (fail_if_no_progress with_reducible refine Moves.upd_tables (by decide +kernel) ?_)
    | (fail_if_no_progress with_reducible refine Moves.upd_cut (by decide +kernel) ?_)
    | (fail_if_no_progress with_reducible refine Moves.upd_decks (by decide +kernel) ?_)
    | (fail_if_no_progress with_reducible refine Moves.upd_loops (by decide +kernel) ?_)
    | (fail_if_no_progress with_reducible refine Moves.upd_lnk (by decide +kernel) ?_)
    | (fail_if_no_progress with_reducible refine Moves.upd_shoe (by decide +kernel) rfl ?_)
    | (fail_if_no_progress with_reducible refine Moves.upd (h := ?_))
    | (dsimp only [id])
    | (split)
    | (intro _))

theorem opTelemetryDiscardLimit_touches (d : Nat) (s : State) : Moves [.regs, .sent, .evt, .ctx, .tables, .cut, .shoe, .decks, .loops, .lnk] s (opTelemetryDiscardLimit d s) := by
  unfold opTelemetryDiscardLimit
  try dsimp only
  repeat' (first
    | with_reducible exact Moves.refl _ _
    | with_reducible assumption
    | (with_reducible apply Moves.step (motorOff_touches ..); decide +kernel)
    | (with_reducible apply Moves.step (controlledStop_touches ..); decide +kernel)
    | (with_reducible apply Moves.step (State.onMotion_touches ..); decide +kernel)
    | (with_reducible apply Moves.step (raiseDeck_touches ..); decide +kernel)
    | (fail_if_no_progress with_reducible refine Moves.upd_regs (by decide +kernel) ?_)
    | (fail_if_no_progress with_reducible refine Moves.upd_sent (by decide +kernel) ?_)
    | (fail_if_no_progress with_reducible refine Moves.upd_evt (by decide +kernel) ?_)
    | (fail_if_no_progress with_reducible refine Moves.upd_ctx (by decide +kernel) ?_)
    | (fail_if_no_progress with_reducible refine Moves.upd_tables (by decide +kernel) ?_)
    | (fail_if_no_progress with_reducible refine Moves.upd_cut (by decide +kernel) ?_)
    | (fail_if_no_progress with_reducible refine Moves.upd_decks (by decide +kernel) ?_)
    | (fail_if_no_progress with_reducible refine Moves.upd_loops (by decide +kernel) ?_)
    | (fail_if_no_progress with_reducible refine Moves.upd_lnk (by decide +kernel) ?_)
    | (fail_if_no_progress with_reducible refine Moves.upd_shoe (by decide +kernel) rfl ?_)
    | (fail_if_no_progress with_reducible refine Moves.upd (h := ?_))
    | (dsimp only [id])
    | (split)
    | (intro _))

theorem opTraceTrigger_touches (d : Nat) (c : Nat) (src : Sys2Proof.TraceSource) (stamp : BitVec 64) (s : State) : Moves [.regs, .sent, .evt, .traces] s (opTraceTrigger d c src stamp s) := by
  unfold opTraceTrigger
  try dsimp only
  repeat' (first
    | with_reducible exact Moves.refl _ _
    | with_reducible assumption
    | (with_reducible apply Moves.step (trigger_touches ..); decide +kernel)
    | (fail_if_no_progress with_reducible refine Moves.upd_regs (by decide +kernel) ?_)
    | (fail_if_no_progress with_reducible refine Moves.upd_sent (by decide +kernel) ?_)
    | (fail_if_no_progress with_reducible refine Moves.upd_evt (by decide +kernel) ?_)
    | (fail_if_no_progress with_reducible refine Moves.upd_traces (by decide +kernel) ?_)
    | (fail_if_no_progress with_reducible refine Moves.upd (h := ?_))
    | (dsimp only [id])
    | (split)
    | (intro _))

end Sys2Proof.Machine
end

