-- ==== Sys2Proof/Laws/FramesMemory.lean ====
section
/-! SUPPORT. What the operations of memory, flash, images and the deck tasks touch. -/

namespace Sys2Proof.Machine

set_option Elab.async false
set_option maxHeartbeats 4000000

theorem spoilTrick_touches (d : Nat) (s : State) : Moves [.tick, .decks] s (spoilTrick d s) := by
  unfold spoilTrick
  try dsimp only
  repeat' (first
    | with_reducible exact Moves.refl _ _
    | with_reducible assumption
    | (with_reducible apply Moves.step (State.onDeck_touches ..); decide +kernel)
    | (with_reducible apply Moves.step (State.ticked_touches ..); decide +kernel)
    | (fail_if_no_progress with_reducible refine Moves.upd_tick (by decide +kernel) ?_)
    | (fail_if_no_progress with_reducible refine Moves.upd_decks (by decide +kernel) ?_)
    | (fail_if_no_progress with_reducible refine Moves.upd (h := ?_))
    | (dsimp only [id])
    | (split)
    | (intro _))

theorem hostResult_touches (code : Nat) (index : Nat) (s : State) : Moves [.regs] s (hostResult code index s) := by
  unfold hostResult
  try dsimp only
  repeat' (first
    | with_reducible exact Moves.refl _ _
    | with_reducible assumption
    | (with_reducible apply Moves.step (State.setFld_touches ..); decide +kernel)
    | (fail_if_no_progress with_reducible refine Moves.upd_regs (by decide +kernel) ?_)
    | (fail_if_no_progress with_reducible refine Moves.upd (h := ?_))
    | (dsimp only [id])
    | (split)
    | (intro _))

theorem opHostChipAllocate_touches (s : State) : Moves [.tick, .regs, .sent, .evt, .shoe, .mem] s (opHostChipAllocate s) := by
  unfold opHostChipAllocate
  try dsimp only
  repeat' (first
    | with_reducible exact Moves.refl _ _
    | with_reducible assumption
    | (with_reducible apply Moves.step (hostResult_touches ..); decide +kernel)
    | (with_reducible apply Moves.step (allocate_touches ..); decide +kernel)
    | (rename_i hq; with_reducible refine Moves.of_eq (by first | exact congrArg Prod.snd hq | exact congrArg (fun x => x.2.2) hq) (allocate_touches ..) (by decide +kernel) ?_)
    | (fail_if_no_progress with_reducible refine Moves.upd_tick (by decide +kernel) ?_)
    | (fail_if_no_progress with_reducible refine Moves.upd_regs (by decide +kernel) ?_)
    | (fail_if_no_progress with_reducible refine Moves.upd_sent (by decide +kernel) ?_)
    | (fail_if_no_progress with_reducible refine Moves.upd_evt (by decide +kernel) ?_)
    | (fail_if_no_progress with_reducible refine Moves.upd_shoe (by decide +kernel) rfl ?_)
    | (fail_if_no_progress with_reducible refine Moves.upd (h := ?_))
    | (dsimp only [id])
    | (split)
    | (intro _))

theorem opHbmEccPoll_touches (k : Nat) (corrected : Nat) (temp : Nat) (s : State) : Moves [.regs, .sent, .evt] s (opHbmEccPoll k corrected temp s) := by
  unfold opHbmEccPoll
  try dsimp only
  repeat' (first
    | with_reducible exact Moves.refl _ _
    | with_reducible assumption
    | (with_reducible apply Moves.step (State.addFld_touches ..); decide +kernel)
    | (with_reducible apply Moves.step (State.setFld_touches ..); decide +kernel)
    | (with_reducible apply Moves.step (raise_touches ..); decide +kernel)
    | (fail_if_no_progress with_reducible refine Moves.upd_regs (by decide +kernel) ?_)
    | (fail_if_no_progress with_reducible refine Moves.upd_sent (by decide +kernel) ?_)
    | (fail_if_no_progress with_reducible refine Moves.upd_evt (by decide +kernel) ?_)
    | (fail_if_no_progress with_reducible refine Moves.upd (h := ?_))
    | (dsimp only [id])
    | (split)
    | (intro _))

theorem opPoolReady_touches (k : Nat) (s : State) : Moves [.sent, .evt, .shoe] s (opPoolReady k s) := by
  unfold opPoolReady
  try dsimp only
  repeat' (first
    | with_reducible exact Moves.refl _ _
    | with_reducible assumption
    | (with_reducible apply Moves.step (State.putPool_touches ..); decide +kernel)
    | (with_reducible apply Moves.step (raise_touches ..); decide +kernel)
    | (fail_if_no_progress with_reducible refine Moves.upd_sent (by decide +kernel) ?_)
    | (fail_if_no_progress with_reducible refine Moves.upd_evt (by decide +kernel) ?_)
    | (fail_if_no_progress with_reducible refine Moves.upd_shoe (by decide +kernel) rfl ?_)
    | (fail_if_no_progress with_reducible refine Moves.upd (h := ?_))
    | (dsimp only [id])
    | (split)
    | (intro _))

theorem opPoolCfgWrite_touches (v : Sys2Proof.Word) (s : State) : Moves [.sent, .evt, .shoe] s (opPoolCfgWrite v s) := by
  unfold opPoolCfgWrite
  try dsimp only
  repeat' (first
    | with_reducible exact Moves.refl _ _
    | with_reducible assumption
    | (with_reducible apply Moves.step (State.putPool_touches ..); decide +kernel)
    | (with_reducible apply Moves.step (raise_touches ..); decide +kernel)
    | (fail_if_no_progress with_reducible refine Moves.upd_sent (by decide +kernel) ?_)
    | (fail_if_no_progress with_reducible refine Moves.upd_evt (by decide +kernel) ?_)
    | (fail_if_no_progress with_reducible refine Moves.upd_shoe (by decide +kernel) rfl ?_)
    | (fail_if_no_progress with_reducible refine Moves.upd (h := ?_))
    | (dsimp only [id])
    | (split)
    | (intro _))

theorem countMmioError_touches (off : Nat) (s : State) : Moves [.regs, .sent, .evt] s (countMmioError off s) := by
  unfold countMmioError
  try dsimp only
  repeat' (first
    | with_reducible exact Moves.refl _ _
    | with_reducible assumption
    | (with_reducible apply Moves.step (State.addFld_touches ..); decide +kernel)
    | (with_reducible apply Moves.step (State.setFld_touches ..); decide +kernel)
    | (with_reducible apply Moves.step (raise_touches ..); decide +kernel)
    | (fail_if_no_progress with_reducible refine Moves.upd_regs (by decide +kernel) ?_)
    | (fail_if_no_progress with_reducible refine Moves.upd_sent (by decide +kernel) ?_)
    | (fail_if_no_progress with_reducible refine Moves.upd_evt (by decide +kernel) ?_)
    | (fail_if_no_progress with_reducible refine Moves.upd (h := ?_))
    | (dsimp only [id])
    | (split)
    | (intro _))

theorem recordError_touches (word : Sys2Proof.MemWord) (never : Bool) (s : State) : Moves [.regs] s (recordError word never s) := by
  unfold recordError
  try dsimp only
  repeat' (first
    | with_reducible exact Moves.refl _ _
    | with_reducible assumption
    | (with_reducible apply Moves.step (State.setReg_touches ..); decide +kernel)
    | (fail_if_no_progress with_reducible refine Moves.upd_regs (by decide +kernel) ?_)
    | (fail_if_no_progress with_reducible refine Moves.upd (h := ?_))
    | (dsimp only [id])
    | (split)
    | (intro _))

theorem reportHbm_touches (chip : BitVec 20) (w : BitVec 11) (never : Bool) (s : State) : Moves [.regs, .sent, .evt] s (reportHbm chip w never s) := by
  unfold reportHbm
  try dsimp only
  repeat' (first
    | with_reducible exact Moves.refl _ _
    | with_reducible assumption
    | (with_reducible apply Moves.step (State.addFld_touches ..); decide +kernel)
    | (with_reducible apply Moves.step (recordError_touches ..); decide +kernel)
    | (with_reducible apply Moves.step (raise_touches ..); decide +kernel)
    | (fail_if_no_progress with_reducible refine Moves.upd_regs (by decide +kernel) ?_)
    | (fail_if_no_progress with_reducible refine Moves.upd_sent (by decide +kernel) ?_)
    | (fail_if_no_progress with_reducible refine Moves.upd_evt (by decide +kernel) ?_)
    | (fail_if_no_progress with_reducible refine Moves.upd (h := ?_))
    | (dsimp only [id])
    | (split)
    | (intro _))

theorem watchWord_touches (u : Nat) (w : Nat) (s : State) : Moves [.shoe] s (watchWord u w s) := by
  unfold watchWord
  try dsimp only
  repeat' (first
    | with_reducible exact Moves.refl _ _
    | with_reducible assumption
    | (fail_if_no_progress with_reducible refine Moves.upd_shoe (by decide +kernel) rfl ?_)
    | (fail_if_no_progress with_reducible refine Moves.upd (h := ?_))
    | (dsimp only [id])
    | (split)
    | (intro _))

theorem remapWord_touches (u : Nat) (w : Nat) (s : State) : Moves [.sent, .evt, .shoe] s (remapWord u w s) := by
  unfold remapWord
  try dsimp only
  repeat' (first
    | with_reducible exact Moves.refl _ _
    | with_reducible assumption
    | (with_reducible apply Moves.step (raise_touches ..); decide +kernel)
    | (fail_if_no_progress with_reducible refine Moves.upd_sent (by decide +kernel) ?_)
    | (fail_if_no_progress with_reducible refine Moves.upd_evt (by decide +kernel) ?_)
    | (fail_if_no_progress with_reducible refine Moves.upd_shoe (by decide +kernel) rfl ?_)
    | (fail_if_no_progress with_reducible refine Moves.upd (h := ?_))
    | (dsimp only [id])
    | (split)
    | (intro _))

theorem noteAccess_touches (u : Nat) (w : Nat) (s : State) : Moves [.shoe] s (noteAccess u w s) := by
  unfold noteAccess
  try dsimp only
  repeat' (first
    | with_reducible exact Moves.refl _ _
    | with_reducible assumption
    | (fail_if_no_progress with_reducible refine Moves.upd_shoe (by decide +kernel) rfl ?_)
    | (fail_if_no_progress with_reducible refine Moves.upd (h := ?_))
    | (dsimp only [id])
    | (split)
    | (intro _))

theorem noteCorrection_touches (u : Nat) (w : Nat) (s : State) : Moves [.regs, .sent, .evt, .shoe] s (noteCorrection u w s) := by
  unfold noteCorrection
  try dsimp only
  repeat' (first
    | with_reducible exact Moves.refl _ _
    | with_reducible assumption
    | (with_reducible apply Moves.step (State.addFld_touches ..); decide +kernel)
    | (with_reducible apply Moves.step (watchWord_touches ..); decide +kernel)
    | (with_reducible apply Moves.step (remapWord_touches ..); decide +kernel)
    | (with_reducible apply Moves.step (noteAccess_touches ..); decide +kernel)
    | (with_reducible apply Moves.step (raise_touches ..); decide +kernel)
    | (fail_if_no_progress with_reducible refine Moves.upd_regs (by decide +kernel) ?_)
    | (fail_if_no_progress with_reducible refine Moves.upd_sent (by decide +kernel) ?_)
    | (fail_if_no_progress with_reducible refine Moves.upd_evt (by decide +kernel) ?_)
    | (fail_if_no_progress with_reducible refine Moves.upd_shoe (by decide +kernel) rfl ?_)
    | (fail_if_no_progress with_reducible refine Moves.upd (h := ?_))
    | (dsimp only [id])
    | (split)
    | (intro _))

theorem writeChip_touches (chip off : Nat) (bytes : List Byte) (s : State) : Moves [.shoe, .mem] s (writeChip chip off bytes s) :=
  ⟨⟨fun p hp => by cases p <;> first | rfl | simp at hp⟩, writeChip_wf chip off bytes⟩

theorem refuseWindow_touches (off : Nat) (s : State) : Moves [.regs, .sent, .evt] s (refuseWindow off s) := by
  unfold refuseWindow
  try dsimp only
  repeat' (first
    | with_reducible exact Moves.refl _ _
    | with_reducible assumption
    | (with_reducible apply Moves.step (emit_touches ..); decide +kernel)
    | (with_reducible apply Moves.step (countMmioError_touches ..); decide +kernel)
    | (fail_if_no_progress with_reducible refine Moves.upd_regs (by decide +kernel) ?_)
    | (fail_if_no_progress with_reducible refine Moves.upd_sent (by decide +kernel) ?_)
    | (fail_if_no_progress with_reducible refine Moves.upd_evt (by decide +kernel) ?_)
    | (fail_if_no_progress with_reducible refine Moves.upd (h := ?_))
    | (dsimp only [id])
    | (split)
    | (intro _))

theorem opShoeWindowAccess_touches (k : Nat) (write : Option Sys2Proof.Word) (err : Sys2Proof.MemError) (s : State) : Moves [.regs, .sent, .evt, .shoe, .mem] s (opShoeWindowAccess k write err s) := by
  unfold opShoeWindowAccess
  try dsimp only
  repeat' (first
    | with_reducible exact Moves.refl _ _
    | with_reducible assumption
    | (with_reducible apply Moves.step (emit_touches ..); decide +kernel)
    | (with_reducible apply Moves.step (reportHbm_touches ..); decide +kernel)
    | (with_reducible apply Moves.step (noteCorrection_touches ..); decide +kernel)
    | (with_reducible apply Moves.step (writeChip_touches ..); decide +kernel)
    | (with_reducible apply Moves.step (refuseWindow_touches ..); decide +kernel)
    | (with_reducible apply Moves.step (noteAccess_touches ..); decide +kernel)
    | (fail_if_no_progress with_reducible refine Moves.upd_regs (by decide +kernel) ?_)
    | (fail_if_no_progress with_reducible refine Moves.upd_sent (by decide +kernel) ?_)
    | (fail_if_no_progress with_reducible refine Moves.upd_evt (by decide +kernel) ?_)
    | (fail_if_no_progress with_reducible refine Moves.upd_shoe (by decide +kernel) rfl ?_)
    | (fail_if_no_progress with_reducible refine Moves.upd (h := ?_))
    | (dsimp only [id])
    | (split)
    | (intro _))

theorem opMicFill_touches (v : Sys2Proof.Word) (s : State) : Moves [.regs, .shoe] s (opMicFill v s) := by
  unfold opMicFill
  try dsimp only
  repeat' (first
    | with_reducible exact Moves.refl _ _
    | with_reducible assumption
    | (with_reducible apply Moves.step (State.setFld_touches ..); decide +kernel)
    | (fail_if_no_progress with_reducible refine Moves.upd_regs (by decide +kernel) ?_)
    | (fail_if_no_progress with_reducible refine Moves.upd_shoe (by decide +kernel) rfl ?_)
    | (fail_if_no_progress with_reducible refine Moves.upd (h := ?_))
    | (dsimp only [id])
    | (split)
    | (intro _))

theorem stopAll_touches (b : Nat) (cause : Nat) (s : State) : Moves [.regs, .sent, .evt, .ctx, .tables, .cut, .shoe, .decks, .loops, .lnk] s (stopAll b cause s) := by
  unfold stopAll
  try dsimp only
  repeat' (first
    | with_reducible exact Moves.refl _ _
    | with_reducible assumption
    | (with_reducible apply Moves.step (controlledStop_touches ..); decide +kernel)
    | (with_reducible apply forEach_step)
    | (fail_if_no_progress with_reducible refine Moves.upd_regs (by decide +kernel) ?_)
    | (fail_if_no_progress with_reducible refine Moves.upd_sent (by decide +kernel) ?_)
    | (fail_if_no_progress with_reducible refine Moves.upd_evt (by decide +kernel) ?_)
    | (fail_if_no_progress with_reducible refine Moves.upd_ctx (by decide +kernel) ?_)
    | (fail_if_no_progress with_reducible refine Moves.upd_tables (by decide +kernel) ?_)
    | (fail_if_no_progress with_reducible refine Moves.upd_cut (by decide +kernel) ?_)
    | (fail_if_no_progress with_reducible refine Moves.upd_decks (by decide +kernel) ?_)
    | (fail_if_no_progress with_reducible refine Moves.upd_loops (by decide +kernel) ?_)
    | (fail_if_no_progress with_reducible refine Moves.upd_lnk (by decide +kernel) ?_)
    | (fail_if_no_progress with_reducible refine Moves.upd_shoe (by decide +kernel) rfl ?_)
    | (fail_if_no_progress with_reducible refine Moves.upd (h := ?_))
    | (dsimp only [id])
    | (split)
    | (intro _))

theorem spoilAnchor_touches (d : Nat) (s : State) : Moves [.tick, .decks] s (spoilAnchor d s) := by
  unfold spoilAnchor
  try dsimp only
  repeat' (first
    | with_reducible exact Moves.refl _ _
    | with_reducible assumption
    | (with_reducible apply Moves.step (State.onDeck_touches ..); decide +kernel)
    | (with_reducible apply Moves.step (State.ticked_touches ..); decide +kernel)
    | (fail_if_no_progress with_reducible refine Moves.upd_tick (by decide +kernel) ?_)
    | (fail_if_no_progress with_reducible refine Moves.upd_decks (by decide +kernel) ?_)
    | (fail_if_no_progress with_reducible refine Moves.upd (h := ?_))
    | (dsimp only [id])
    | (split)
    | (intro _))

theorem withhold_touches (k : Nat) (i : Nat) (s : State) : Moves [.shoe] s (withhold k i s) := by
  unfold withhold
  try dsimp only
  repeat' (first
    | with_reducible exact Moves.refl _ _
    | with_reducible assumption
    | (with_reducible apply Moves.step (State.putPool_touches ..); decide +kernel)
    | (fail_if_no_progress with_reducible refine Moves.upd_shoe (by decide +kernel) rfl ?_)
    | (fail_if_no_progress with_reducible refine Moves.upd (h := ?_))
    | (dsimp only [id])
    | (split)
    | (intro _))

theorem uncorrectableHbm_touches (i : Nat) (s : State) : Moves [.tick, .regs, .sent, .evt, .ctx, .tables, .cut, .shoe, .decks, .loops, .lnk] s (uncorrectableHbm i s) := by
  unfold uncorrectableHbm
  try dsimp only
  repeat' (first
    | with_reducible exact Moves.refl _ _
    | with_reducible assumption
    | (with_reducible apply Moves.step (spoilAnchor_touches ..); decide +kernel)
    | (with_reducible apply Moves.step (spoilTrick_touches ..); decide +kernel)
    | (with_reducible apply Moves.step (withhold_touches ..); decide +kernel)
    | (with_reducible apply Moves.step (controlledStop_touches ..); decide +kernel)
    | (with_reducible apply Moves.step (State.ticked_touches ..); decide +kernel)
    | (with_reducible apply Moves.step (endJob_touches ..); decide +kernel)
    | (fail_if_no_progress with_reducible refine Moves.upd_tick (by decide +kernel) ?_)
    | (fail_if_no_progress with_reducible refine Moves.upd_regs (by decide +kernel) ?_)
    | (fail_if_no_progress with_reducible refine Moves.upd_sent (by decide +kernel) ?_)
    | (fail_if_no_progress with_reducible refine Moves.upd_evt (by decide +kernel) ?_)
    | (fail_if_no_progress with_reducible refine Moves.upd_ctx (by decide +kernel) ?_)
    | (fail_if_no_progress with_reducible refine Moves.upd_tables (by decide +kernel) ?_)
    | (fail_if_no_progress with_reducible refine Moves.upd_cut (by decide +kernel) ?_)
    | (fail_if_no_progress with_reducible refine Moves.upd_decks (by decide +kernel) ?_)
    | (fail_if_no_progress with_reducible refine Moves.upd_loops (by decide +kernel) ?_)
    | (fail_if_no_progress with_reducible refine Moves.upd_lnk (by decide +kernel) ?_)
    | (fail_if_no_progress with_reducible refine Moves.upd_shoe (by decide +kernel) rfl ?_)
    | (fail_if_no_progress with_reducible refine Moves.upd (h := ?_))
    | (dsimp only [id])
    | (split)
    | (intro _))

theorem failFacet_touches (x : Nat) (s : State) : Moves [.decks] s (failFacet x s) := by
  unfold failFacet
  try dsimp only
  repeat' (first
    | with_reducible exact Moves.refl _ _
    | with_reducible assumption
    | (with_reducible apply Moves.step (State.onDeck_touches ..); decide +kernel)
    | (fail_if_no_progress with_reducible refine Moves.upd_decks (by decide +kernel) ?_)
    | (fail_if_no_progress with_reducible refine Moves.upd (h := ?_))
    | (dsimp only [id])
    | (split)
    | (intro _))

theorem resetContext_touches (n : Nat) (s : State) : Moves [.regs, .sent, .evt, .ctx, .tables, .pwr] s (resetContext n s) := by
  unfold resetContext
  try dsimp only
  repeat' (first
    | with_reducible exact Moves.refl _ _
    | with_reducible assumption
    | (with_reducible apply Moves.step (opCtxReset_touches ..); decide +kernel)
    | (with_reducible apply Moves.step (deferError_touches ..); decide +kernel)
    | (fail_if_no_progress with_reducible refine Moves.upd_regs (by decide +kernel) ?_)
    | (fail_if_no_progress with_reducible refine Moves.upd_sent (by decide +kernel) ?_)
    | (fail_if_no_progress with_reducible refine Moves.upd_evt (by decide +kernel) ?_)
    | (fail_if_no_progress with_reducible refine Moves.upd_ctx (by decide +kernel) ?_)
    | (fail_if_no_progress with_reducible refine Moves.upd_tables (by decide +kernel) ?_)
    | (fail_if_no_progress with_reducible refine Moves.upd_pwr (by decide +kernel) ?_)
    | (fail_if_no_progress with_reducible refine Moves.upd (h := ?_))
    | (dsimp only [id])
    | (split)
    | (intro _))

theorem uncorrectableSram_touches (g : Nat) (a : Nat) (s : State) : Moves [.tick, .regs, .sent, .evt, .ctx, .tables, .cut, .keys, .shoe, .decks, .loops, .lnk, .pwr] s (uncorrectableSram g a s) := by
  unfold uncorrectableSram
  try dsimp only
  repeat' (first
    | with_reducible exact Moves.refl _ _
    | with_reducible assumption
    | (with_reducible apply Moves.step (uncorrectableHbm_touches ..); decide +kernel)
    | (with_reducible apply Moves.step (zeroiseSlot_touches ..); decide +kernel)
    | (with_reducible apply Moves.step (withhold_touches ..); decide +kernel)
    | (with_reducible apply Moves.step (controlledStop_touches ..); decide +kernel)
    | (with_reducible apply Moves.step (failFacet_touches ..); decide +kernel)
    | (with_reducible apply Moves.step (resetContext_touches ..); decide +kernel)
    | (fail_if_no_progress with_reducible refine Moves.upd_tick (by decide +kernel) ?_)
    | (fail_if_no_progress with_reducible refine Moves.upd_regs (by decide +kernel) ?_)
    | (fail_if_no_progress with_reducible refine Moves.upd_sent (by decide +kernel) ?_)
    | (fail_if_no_progress with_reducible refine Moves.upd_evt (by decide +kernel) ?_)
    | (fail_if_no_progress with_reducible refine Moves.upd_ctx (by decide +kernel) ?_)
    | (fail_if_no_progress with_reducible refine Moves.upd_tables (by decide +kernel) ?_)
    | (fail_if_no_progress with_reducible refine Moves.upd_cut (by decide +kernel) ?_)
    | (fail_if_no_progress with_reducible refine Moves.upd_keys (by decide +kernel) ?_)
    | (fail_if_no_progress with_reducible refine Moves.upd_decks (by decide +kernel) ?_)
    | (fail_if_no_progress with_reducible refine Moves.upd_loops (by decide +kernel) ?_)
    | (fail_if_no_progress with_reducible refine Moves.upd_lnk (by decide +kernel) ?_)
    | (fail_if_no_progress with_reducible refine Moves.upd_pwr (by decide +kernel) ?_)
    | (fail_if_no_progress with_reducible refine Moves.upd_shoe (by decide +kernel) rfl ?_)
    | (fail_if_no_progress with_reducible refine Moves.upd (h := ?_))
    | (dsimp only [id])
    | (split)
    | (intro _))

theorem polishWord_touches (word : Sys2Proof.MemWord) (err : Sys2Proof.MemError) (s : State) : Moves [.tick, .regs, .sent, .evt, .ctx, .tables, .cut, .keys, .shoe, .decks, .loops, .lnk, .pwr] s (polishWord word err s) := by
  unfold polishWord
  try dsimp only
  repeat' (first
    | with_reducible exact Moves.refl _ _
    | with_reducible assumption
    | (with_reducible apply Moves.step (recordError_touches ..); decide +kernel)
    | (with_reducible apply Moves.step (uncorrectableHbm_touches ..); decide +kernel)
    | (with_reducible apply Moves.step (reportHbm_touches ..); decide +kernel)
    | (with_reducible apply Moves.step (noteCorrection_touches ..); decide +kernel)
    | (with_reducible apply Moves.step (uncorrectableSram_touches ..); decide +kernel)
    | (with_reducible apply Moves.step (State.addFld_touches ..); decide +kernel)
    | (with_reducible apply Moves.step (noteAccess_touches ..); decide +kernel)
    | (with_reducible apply Moves.step (raise_touches ..); decide +kernel)
    | (fail_if_no_progress with_reducible refine Moves.upd_tick (by decide +kernel) ?_)
    | (fail_if_no_progress with_reducible refine Moves.upd_regs (by decide +kernel) ?_)
    | (fail_if_no_progress with_reducible refine Moves.upd_sent (by decide +kernel) ?_)
    | (fail_if_no_progress with_reducible refine Moves.upd_evt (by decide +kernel) ?_)
    | (fail_if_no_progress with_reducible refine Moves.upd_ctx (by decide +kernel) ?_)
    | (fail_if_no_progress with_reducible refine Moves.upd_tables (by decide +kernel) ?_)
    | (fail_if_no_progress with_reducible refine Moves.upd_cut (by decide +kernel) ?_)
    | (fail_if_no_progress with_reducible refine Moves.upd_keys (by decide +kernel) ?_)
    | (fail_if_no_progress with_reducible refine Moves.upd_decks (by decide +kernel) ?_)
    | (fail_if_no_progress with_reducible refine Moves.upd_loops (by decide +kernel) ?_)
    | (fail_if_no_progress with_reducible refine Moves.upd_lnk (by decide +kernel) ?_)
    | (fail_if_no_progress with_reducible refine Moves.upd_pwr (by decide +kernel) ?_)
    | (fail_if_no_progress with_reducible refine Moves.upd_shoe (by decide +kernel) rfl ?_)
    | (fail_if_no_progress with_reducible refine Moves.upd (h := ?_))
    | (dsimp only [id])
    | (split)
    | (intro _))

theorem endLap_touches (ms : Nat) (s : State) : Moves [.regs, .sent, .evt] s (endLap ms s) := by
  unfold endLap
  try dsimp only
  repeat' (first
    | with_reducible exact Moves.refl _ _
    | with_reducible assumption
    | (with_reducible apply Moves.step (State.setFld_touches ..); decide +kernel)
    | (with_reducible apply Moves.step (raise_touches ..); decide +kernel)
    | (fail_if_no_progress with_reducible refine Moves.upd_regs (by decide +kernel) ?_)
    | (fail_if_no_progress with_reducible refine Moves.upd_sent (by decide +kernel) ?_)
    | (fail_if_no_progress with_reducible refine Moves.upd_evt (by decide +kernel) ?_)
    | (fail_if_no_progress with_reducible refine Moves.upd (h := ?_))
    | (dsimp only [id])
    | (split)
    | (intro _))

theorem opPolisherAccess_touches (word : Sys2Proof.MemWord) (err : Sys2Proof.MemError) (lapEnd : Option Nat) (s : State) : Moves [.tick, .regs, .sent, .evt, .ctx, .tables, .cut, .keys, .shoe, .decks, .loops, .lnk, .pwr] s (opPolisherAccess word err lapEnd s) := by
  unfold opPolisherAccess
  try dsimp only
  repeat' (first
    | with_reducible exact Moves.refl _ _
    | with_reducible assumption
    | (with_reducible apply Moves.step (polishWord_touches ..); decide +kernel)
    | (with_reducible apply Moves.step (endLap_touches ..); decide +kernel)
    | (fail_if_no_progress with_reducible refine Moves.upd_tick (by decide +kernel) ?_)
    | (fail_if_no_progress with_reducible refine Moves.upd_regs (by decide +kernel) ?_)
    | (fail_if_no_progress with_reducible refine Moves.upd_sent (by decide +kernel) ?_)
    | (fail_if_no_progress with_reducible refine Moves.upd_evt (by decide +kernel) ?_)
    | (fail_if_no_progress with_reducible refine Moves.upd_ctx (by decide +kernel) ?_)
    | (fail_if_no_progress with_reducible refine Moves.upd_tables (by decide +kernel) ?_)
    | (fail_if_no_progress with_reducible refine Moves.upd_cut (by decide +kernel) ?_)
    | (fail_if_no_progress with_reducible refine Moves.upd_keys (by decide +kernel) ?_)
    | (fail_if_no_progress with_reducible refine Moves.upd_decks (by decide +kernel) ?_)
    | (fail_if_no_progress with_reducible refine Moves.upd_loops (by decide +kernel) ?_)
    | (fail_if_no_progress with_reducible refine Moves.upd_lnk (by decide +kernel) ?_)
    | (fail_if_no_progress with_reducible refine Moves.upd_pwr (by decide +kernel) ?_)
    | (fail_if_no_progress with_reducible refine Moves.upd_shoe (by decide +kernel) rfl ?_)
    | (fail_if_no_progress with_reducible refine Moves.upd (h := ?_))
    | (dsimp only [id])
    | (split)
    | (intro _))

theorem opRegionCfgWrite_touches (v : Sys2Proof.Word) (s : State) : Moves [.sent, .evt, .shoe, .mem] s (opRegionCfgWrite v s) := by
  unfold opRegionCfgWrite
  try dsimp only
  repeat' (first
    | with_reducible exact Moves.refl _ _
    | with_reducible assumption
    | (with_reducible apply Moves.step (unwriteStack_touches ..); decide +kernel)
    | (with_reducible apply Moves.step (raise_touches ..); decide +kernel)
    | (fail_if_no_progress with_reducible refine Moves.upd_sent (by decide +kernel) ?_)
    | (fail_if_no_progress with_reducible refine Moves.upd_evt (by decide +kernel) ?_)
    | (fail_if_no_progress with_reducible refine Moves.upd_shoe (by decide +kernel) rfl ?_)
    | (fail_if_no_progress with_reducible refine Moves.upd (h := ?_))
    | (dsimp only [id])
    | (split)
    | (intro _))

theorem opMicFillComplete_touches (s : State) : Moves [.regs, .sent, .evt, .shoe, .mem] s (opMicFillComplete s) := by
  refine ⟨?_, opMicFillComplete_wf⟩
  unfold opMicFillComplete
  split
  · exact .refl _ _
  · refine Touches.trans ?_ ((raise_touches ..).toTouches.mono (by decide +kernel))
    refine Touches.trans ?_ ((State.setFld_touches ..).toTouches.mono (by decide +kernel))
    exact ⟨fun p hp => by cases p <;> first | rfl | simp at hp⟩

theorem opHbmCattrip_touches (k : Nat) (s : State) : Moves [.regs, .sent, .evt, .ctx, .tables, .cut, .shoe, .decks, .loops, .lnk] s (opHbmCattrip k s) := by
  unfold opHbmCattrip
  try dsimp only
  repeat' (first
    | with_reducible exact Moves.refl _ _
    | with_reducible assumption
    | (with_reducible apply Moves.step (stopAll_touches ..); decide +kernel)
    | (with_reducible apply Moves.step (State.setFld_touches ..); decide +kernel)
    | (with_reducible apply Moves.step (raise_touches ..); decide +kernel)
    | (fail_if_no_progress with_reducible refine Moves.upd_regs (by decide +kernel) ?_)
    | (fail_if_no_progress with_reducible refine Moves.upd_sent (by decide +kernel) ?_)
    | (fail_if_no_progress with_reducible refine Moves.upd_evt (by decide +kernel) ?_)
    | (fail_if_no_progress with_reducible refine Moves.upd_ctx (by decide +kernel) ?_)
    | (fail_if_no_progress with_reducible refine Moves.upd_tables (by decide +kernel) ?_)
    | (fail_if_no_progress with_reducible refine Moves.upd_cut (by decide +kernel) ?_)
    | (fail_if_no_progress with_reducible refine Moves.upd_decks (by decide +kernel) ?_)
    | (fail_if_no_progress with_reducible refine Moves.upd_loops (by decide +kernel) ?_)
    | (fail_if_no_progress with_reducible refine Moves.upd_lnk (by decide +kernel) ?_)
    | (fail_if_no_progress with_reducible refine Moves.upd_shoe (by decide +kernel) rfl ?_)
    | (fail_if_no_progress with_reducible refine Moves.upd (h := ?_))
    | (dsimp only [id])
    | (split)
    | (intro _))

theorem opHostChipFree_touches (i : Nat) (s : State) : Moves [.regs, .sent, .evt, .shoe] s (opHostChipFree i s) := by
  unfold opHostChipFree
  try dsimp only
  repeat' (first
    | with_reducible exact Moves.refl _ _
    | with_reducible assumption
    | (with_reducible apply Moves.step (freeChip_touches ..); decide +kernel)
    | (with_reducible apply Moves.step (hostResult_touches ..); decide +kernel)
    | (fail_if_no_progress with_reducible refine Moves.upd_regs (by decide +kernel) ?_)
    | (fail_if_no_progress with_reducible refine Moves.upd_sent (by decide +kernel) ?_)
    | (fail_if_no_progress with_reducible refine Moves.upd_evt (by decide +kernel) ?_)
    | (fail_if_no_progress with_reducible refine Moves.upd_shoe (by decide +kernel) rfl ?_)
    | (fail_if_no_progress with_reducible refine Moves.upd (h := ?_))
    | (dsimp only [id])
    | (split)
    | (intro _))

theorem appendEntry_touches (e : JEntry) (s : State) : Moves [.nvm] s (appendEntry e s) := by
  unfold appendEntry
  try dsimp only
  repeat' (first
    | with_reducible exact Moves.refl _ _
    | with_reducible assumption
    | (fail_if_no_progress with_reducible refine Moves.upd_nvm (by decide +kernel) rfl ?_)
    | (fail_if_no_progress with_reducible refine Moves.upd (h := ?_))
    | (dsimp only [id])
    | (split)
    | (intro _))

theorem journalAdd_touches (e : JEntry) (s : State) : Moves [.nvm] s (journalAdd e s) := by
  unfold journalAdd
  try dsimp only
  repeat' (first
    | with_reducible exact Moves.refl _ _
    | with_reducible assumption
    | (with_reducible apply Moves.step (appendEntry_touches ..); decide +kernel)
    | (with_reducible apply forEach_step)
    | (fail_if_no_progress with_reducible refine Moves.upd_nvm (by decide +kernel) rfl ?_)
    | (fail_if_no_progress with_reducible refine Moves.upd (h := ?_))
    | (dsimp only [id])
    | (split)
    | (intro _))

theorem eraseSector_touches (bank sector : Nat) (s : State) : Moves [.nvm, .bytes] s (eraseSector bank sector s) :=
  ⟨⟨fun p hp => by cases p <;> first | rfl | simp at hp⟩, eraseSector_wf bank sector⟩

theorem journalErase_touches (bank : Nat) (sector : Nat) (s : State) : Moves [.nvm, .bytes] s (journalErase bank sector s) := by
  unfold journalErase
  try dsimp only
  repeat' (first
    | with_reducible exact Moves.refl _ _
    | with_reducible assumption
    | (with_reducible apply Moves.step (journalAdd_touches ..); decide +kernel)
    | (with_reducible apply Moves.step (eraseSector_touches ..); decide +kernel)
    | (fail_if_no_progress with_reducible refine Moves.upd_nvm (by decide +kernel) rfl ?_)
    | (fail_if_no_progress with_reducible refine Moves.upd (h := ?_))
    | (dsimp only [id])
    | (split)
    | (intro _))

theorem beginRecord_touches (n : Nat) (q : Nat) (r : Settings) (second : Bool) (s : State) : Moves [.nvm, .bytes] s (beginRecord n q r second s) := by
  unfold beginRecord
  try dsimp only
  repeat' (first
    | with_reducible exact Moves.refl _ _
    | with_reducible assumption
    | (with_reducible apply Moves.step (journalErase_touches ..); decide +kernel)
    | (fail_if_no_progress with_reducible refine Moves.upd_nvm (by decide +kernel) rfl ?_)
    | (fail_if_no_progress with_reducible refine Moves.upd (h := ?_))
    | (dsimp only [id])
    | (split)
    | (intro _))

theorem recordDone_touches (fail : Nat) (s : State) : Moves [.regs, .sent, .evt, .ctx, .nvm, .bytes] s (recordDone fail s) := by
  unfold recordDone
  try dsimp only
  repeat' (first
    | with_reducible exact Moves.refl _ _
    | with_reducible assumption
    | (with_reducible apply Moves.step (State.setReg_touches ..); decide +kernel)
    | (with_reducible apply Moves.step (finish_touches ..); decide +kernel)
    | (with_reducible apply Moves.step (beginRecord_touches ..); decide +kernel)
    | (with_reducible apply Moves.step (raise_touches ..); decide +kernel)
    | (fail_if_no_progress with_reducible refine Moves.upd_regs (by decide +kernel) ?_)
    | (fail_if_no_progress with_reducible refine Moves.upd_sent (by decide +kernel) ?_)
    | (fail_if_no_progress with_reducible refine Moves.upd_evt (by decide +kernel) ?_)
    | (fail_if_no_progress with_reducible refine Moves.upd_ctx (by decide +kernel) ?_)
    | (fail_if_no_progress with_reducible refine Moves.upd_nvm (by decide +kernel) rfl ?_)
    | (fail_if_no_progress with_reducible refine Moves.upd (h := ?_))
    | (dsimp only [id])
    | (split)
    | (intro _))

theorem opWpClr_touches (k : Nat) (v : Sys2Proof.Word) (s : State) : Moves [.regs, .sent, .evt] s (opWpClr k v s) := by
  unfold opWpClr
  try dsimp only
  repeat' (first
    | with_reducible exact Moves.refl _ _
    | with_reducible assumption
    | (with_reducible apply Moves.step (refuseWrite_touches ..); decide +kernel)
    | (with_reducible apply Moves.step (State.setReg_touches ..); decide +kernel)
    | (fail_if_no_progress with_reducible refine Moves.upd_regs (by decide +kernel) ?_)
    | (fail_if_no_progress with_reducible refine Moves.upd_sent (by decide +kernel) ?_)
    | (fail_if_no_progress with_reducible refine Moves.upd_evt (by decide +kernel) ?_)
    | (fail_if_no_progress with_reducible refine Moves.upd (h := ?_))
    | (dsimp only [id])
    | (split)
    | (intro _))

theorem opRdDelayWrite_touches (v : Nat) (s : State) : Moves [.regs, .sent, .evt] s (opRdDelayWrite v s) := by
  unfold opRdDelayWrite
  try dsimp only
  repeat' (first
    | with_reducible exact Moves.refl _ _
    | with_reducible assumption
    | (with_reducible apply Moves.step (State.setFld_touches ..); decide +kernel)
    | (with_reducible apply Moves.step (raise_touches ..); decide +kernel)
    | (fail_if_no_progress with_reducible refine Moves.upd_regs (by decide +kernel) ?_)
    | (fail_if_no_progress with_reducible refine Moves.upd_sent (by decide +kernel) ?_)
    | (fail_if_no_progress with_reducible refine Moves.upd_evt (by decide +kernel) ?_)
    | (fail_if_no_progress with_reducible refine Moves.upd (h := ?_))
    | (dsimp only [id])
    | (split)
    | (intro _))

theorem reuseSector_touches (bank : Nat) (first : Nat) (q : Nat) (s : State) : Moves [.nvm, .bytes] s (reuseSector bank first q s) := by
  unfold reuseSector
  try dsimp only
  repeat' (first
    | with_reducible exact Moves.refl _ _
    | with_reducible assumption
    | (with_reducible apply Moves.step (journalErase_touches ..); decide +kernel)
    | (fail_if_no_progress with_reducible refine Moves.upd_nvm (by decide +kernel) rfl ?_)
    | (fail_if_no_progress with_reducible refine Moves.upd (h := ?_))
    | (dsimp only [id])
    | (split)
    | (intro _))

theorem persistPage_touches (l : List SpRecord) (s : State) : Moves [.evt, .nvm, .bytes] s (persistPage l s) := by
  unfold persistPage
  try dsimp only
  repeat' (first
    | with_reducible exact Moves.refl _ _
    | with_reducible assumption
    | (with_reducible apply Moves.step (reuseSector_touches ..); decide +kernel)
    | (fail_if_no_progress with_reducible refine Moves.upd_evt (by decide +kernel) ?_)
    | (fail_if_no_progress with_reducible refine Moves.upd_nvm (by decide +kernel) rfl ?_)
    | (fail_if_no_progress with_reducible refine Moves.upd (h := ?_))
    | (dsimp only [id])
    | (split)
    | (intro _))

theorem persistRecords_touches (l : List SpRecord) (s : State) : Moves [.evt, .nvm, .bytes] s (persistRecords l s) := by
  unfold persistRecords
  try dsimp only
  repeat' (first
    | with_reducible exact Moves.refl _ _
    | with_reducible assumption
    | (with_reducible apply Moves.step (persistPage_touches ..); decide +kernel)
    | (with_reducible apply forEach_step)
    | (fail_if_no_progress with_reducible refine Moves.upd_evt (by decide +kernel) ?_)
    | (fail_if_no_progress with_reducible refine Moves.upd_nvm (by decide +kernel) rfl ?_)
    | (fail_if_no_progress with_reducible refine Moves.upd (h := ?_))
    | (dsimp only [id])
    | (split)
    | (intro _))

theorem nvmStarted_touches (code : Nat) (s : State) : Moves [.regs] s (nvmStarted code s) := by
  unfold nvmStarted
  try dsimp only
  repeat' (first
    | with_reducible exact Moves.refl _ _
    | with_reducible assumption
    | (with_reducible apply Moves.step (State.setFld_touches ..); decide +kernel)
    | (with_reducible apply Moves.step (State.incFld_touches ..); decide +kernel)
    | (fail_if_no_progress with_reducible refine Moves.upd_regs (by decide +kernel) ?_)
    | (fail_if_no_progress with_reducible refine Moves.upd (h := ?_))
    | (dsimp only [id])
    | (split)
    | (intro _))

theorem nvmRefuse_touches (code : Nat) (s : State) : Moves [.regs, .sent, .evt] s (nvmRefuse code s) := by
  unfold nvmRefuse
  try dsimp only
  repeat' (first
    | with_reducible exact Moves.refl _ _
    | with_reducible assumption
    | (with_reducible apply Moves.step (State.setFld_touches ..); decide +kernel)
    | (with_reducible apply Moves.step (nvmStarted_touches ..); decide +kernel)
    | (with_reducible apply Moves.step (raise_touches ..); decide +kernel)
    | (fail_if_no_progress with_reducible refine Moves.upd_regs (by decide +kernel) ?_)
    | (fail_if_no_progress with_reducible refine Moves.upd_sent (by decide +kernel) ?_)
    | (fail_if_no_progress with_reducible refine Moves.upd_evt (by decide +kernel) ?_)
    | (fail_if_no_progress with_reducible refine Moves.upd (h := ?_))
    | (dsimp only [id])
    | (split)
    | (intro _))

theorem nvmStart_touches (op : FlashOp) (s : State) : Moves [.regs, .nvm] s (nvmStart op s) := by
  unfold nvmStart
  try dsimp only
  repeat' (first
    | with_reducible exact Moves.refl _ _
    | with_reducible assumption
    | (with_reducible apply Moves.step (State.setFld_touches ..); decide +kernel)
    | (with_reducible apply Moves.step (nvmStarted_touches ..); decide +kernel)
    | (fail_if_no_progress with_reducible refine Moves.upd_regs (by decide +kernel) ?_)
    | (fail_if_no_progress with_reducible refine Moves.upd_nvm (by decide +kernel) rfl ?_)
    | (fail_if_no_progress with_reducible refine Moves.upd (h := ?_))
    | (dsimp only [id])
    | (split)
    | (intro _))

theorem startMargin_touches (op : Nat) (s : State) : Moves [.regs, .sent, .evt, .nvm] s (startMargin op s) := by
  unfold startMargin
  try dsimp only
  repeat' (first
    | with_reducible exact Moves.refl _ _
    | with_reducible assumption
    | (with_reducible apply Moves.step (nvmRefuse_touches ..); decide +kernel)
    | (with_reducible apply Moves.step (nvmStart_touches ..); decide +kernel)
    | (fail_if_no_progress with_reducible refine Moves.upd_regs (by decide +kernel) ?_)
    | (fail_if_no_progress with_reducible refine Moves.upd_sent (by decide +kernel) ?_)
    | (fail_if_no_progress with_reducible refine Moves.upd_evt (by decide +kernel) ?_)
    | (fail_if_no_progress with_reducible refine Moves.upd_nvm (by decide +kernel) rfl ?_)
    | (fail_if_no_progress with_reducible refine Moves.upd (h := ?_))
    | (dsimp only [id])
    | (split)
    | (intro _))

theorem opNvmMarginEv_touches (s : State) : Moves [.regs, .sent, .evt, .nvm] s (opNvmMarginEv s) := by
  unfold opNvmMarginEv
  try dsimp only
  repeat' (first
    | with_reducible exact Moves.refl _ _
    | with_reducible assumption
    | (with_reducible apply Moves.step (startMargin_touches ..); decide +kernel)
    | (fail_if_no_progress with_reducible refine Moves.upd_regs (by decide +kernel) ?_)
    | (fail_if_no_progress with_reducible refine Moves.upd_sent (by decide +kernel) ?_)
    | (fail_if_no_progress with_reducible refine Moves.upd_evt (by decide +kernel) ?_)
    | (fail_if_no_progress with_reducible refine Moves.upd_nvm (by decide +kernel) rfl ?_)
    | (fail_if_no_progress with_reducible refine Moves.upd (h := ?_))
    | (dsimp only [id])
    | (split)
    | (intro _))

theorem takeBand_touches (b : Nat × Nat) (s : State) : Moves [.regs, .pwr] s (takeBand b s) := by
  unfold takeBand
  try dsimp only
  repeat' (first
    | with_reducible exact Moves.refl _ _
    | with_reducible assumption
    | (with_reducible apply Moves.step (State.setFld_touches ..); decide +kernel)
    | (fail_if_no_progress with_reducible refine Moves.upd_regs (by decide +kernel) ?_)
    | (fail_if_no_progress with_reducible refine Moves.upd_pwr (by decide +kernel) ?_)
    | (fail_if_no_progress with_reducible refine Moves.upd (h := ?_))
    | (dsimp only [id])
    | (split)
    | (intro _))

theorem opStewardParked_touches (s : State) : Moves [.regs, .sent, .evt] s (opStewardParked s) := by
  unfold opStewardParked
  try dsimp only
  repeat' (first
    | with_reducible exact Moves.refl _ _
    | with_reducible assumption
    | (with_reducible apply Moves.step (State.setFld_touches ..); decide +kernel)
    | (with_reducible apply Moves.step (raise_touches ..); decide +kernel)
    | (fail_if_no_progress with_reducible refine Moves.upd_regs (by decide +kernel) ?_)
    | (fail_if_no_progress with_reducible refine Moves.upd_sent (by decide +kernel) ?_)
    | (fail_if_no_progress with_reducible refine Moves.upd_evt (by decide +kernel) ?_)
    | (fail_if_no_progress with_reducible refine Moves.upd (h := ?_))
    | (dsimp only [id])
    | (split)
    | (intro _))

theorem unpark_touches (s : State) : Moves [.regs, .sent, .evt] s (unpark s) := by
  unfold unpark
  try dsimp only
  repeat' (first
    | with_reducible exact Moves.refl _ _
    | with_reducible assumption
    | (with_reducible apply Moves.step (State.setFld_touches ..); decide +kernel)
    | (with_reducible apply Moves.step (raise_touches ..); decide +kernel)
    | (fail_if_no_progress with_reducible refine Moves.upd_regs (by decide +kernel) ?_)
    | (fail_if_no_progress with_reducible refine Moves.upd_sent (by decide +kernel) ?_)
    | (fail_if_no_progress with_reducible refine Moves.upd_evt (by decide +kernel) ?_)
    | (fail_if_no_progress with_reducible refine Moves.upd (h := ?_))
    | (dsimp only [id])
    | (split)
    | (intro _))

theorem opParkTimeout_touches (s : State) : Moves [.regs, .sent, .evt] s (opParkTimeout s) := by
  unfold opParkTimeout
  try dsimp only
  repeat' (first
    | with_reducible exact Moves.refl _ _
    | with_reducible assumption
    | (with_reducible apply Moves.step (unpark_touches ..); decide +kernel)
    | (fail_if_no_progress with_reducible refine Moves.upd_regs (by decide +kernel) ?_)
    | (fail_if_no_progress with_reducible refine Moves.upd_sent (by decide +kernel) ?_)
    | (fail_if_no_progress with_reducible refine Moves.upd_evt (by decide +kernel) ?_)
    | (fail_if_no_progress with_reducible refine Moves.upd (h := ?_))
    | (dsimp only [id])
    | (split)
    | (intro _))

theorem addCheckpoint_touches (h : Sys2Proof.Word) (c : Sys2Proof.Word) (ok : Bool) (s : State) : Moves [.evt, .nvm, .bytes] s (addCheckpoint h c ok s) := by
  unfold addCheckpoint
  try dsimp only
  repeat' (first
    | with_reducible exact Moves.refl _ _
    | with_reducible assumption
    | (with_reducible apply Moves.step (reuseSector_touches ..); decide +kernel)
    | (fail_if_no_progress with_reducible refine Moves.upd_evt (by decide +kernel) ?_)
    | (fail_if_no_progress with_reducible refine Moves.upd_nvm (by decide +kernel) rfl ?_)
    | (fail_if_no_progress with_reducible refine Moves.upd (h := ?_))
    | (dsimp only [id])
    | (split)
    | (intro _))

theorem refuseRead_touches (off : Nat) (s : State) : Moves [.regs, .sent, .evt] s (refuseRead off s) := by
  unfold refuseRead
  try dsimp only
  repeat' (first
    | with_reducible exact Moves.refl _ _
    | with_reducible assumption
    | (with_reducible apply Moves.step (emit_touches ..); decide +kernel)
    | (with_reducible apply Moves.step (countMmioError_touches ..); decide +kernel)
    | (with_reducible apply Moves.step (raise_touches ..); decide +kernel)
    | (fail_if_no_progress with_reducible refine Moves.upd_regs (by decide +kernel) ?_)
    | (fail_if_no_progress with_reducible refine Moves.upd_sent (by decide +kernel) ?_)
    | (fail_if_no_progress with_reducible refine Moves.upd_evt (by decide +kernel) ?_)
    | (fail_if_no_progress with_reducible refine Moves.upd (h := ?_))
    | (dsimp only [id])
    | (split)
    | (intro _))

theorem opNvmCalRead_touches (k : Nat) (s : State) : Moves [.regs, .sent, .evt] s (opNvmCalRead k s) := by
  unfold opNvmCalRead
  try dsimp only
  repeat' (first
    | with_reducible exact Moves.refl _ _
    | with_reducible assumption
    | (with_reducible apply Moves.step (emit_touches ..); decide +kernel)
    | (with_reducible apply Moves.step (refuseRead_touches ..); decide +kernel)
    | (fail_if_no_progress with_reducible refine Moves.upd_regs (by decide +kernel) ?_)
    | (fail_if_no_progress with_reducible refine Moves.upd_sent (by decide +kernel) ?_)
    | (fail_if_no_progress with_reducible refine Moves.upd_evt (by decide +kernel) ?_)
    | (fail_if_no_progress with_reducible refine Moves.upd (h := ?_))
    | (dsimp only [id])
    | (split)
    | (intro _))

theorem nvmDone_touches (s : State) : Moves [.regs, .sent, .evt] s (nvmDone s) := by
  unfold nvmDone
  try dsimp only
  repeat' (first
    | with_reducible exact Moves.refl _ _
    | with_reducible assumption
    | (with_reducible apply Moves.step (State.setFld_touches ..); decide +kernel)
    | (with_reducible apply Moves.step (raise_touches ..); decide +kernel)
    | (fail_if_no_progress with_reducible refine Moves.upd_regs (by decide +kernel) ?_)
    | (fail_if_no_progress with_reducible refine Moves.upd_sent (by decide +kernel) ?_)
    | (fail_if_no_progress with_reducible refine Moves.upd_evt (by decide +kernel) ?_)
    | (fail_if_no_progress with_reducible refine Moves.upd (h := ?_))
    | (dsimp only [id])
    | (split)
    | (intro _))

theorem opNvmSuspend_touches (s : State) : Moves [.regs, .sent, .evt, .nvm] s (opNvmSuspend s) := by
  unfold opNvmSuspend
  try dsimp only
  repeat' (first
    | with_reducible exact Moves.refl _ _
    | with_reducible assumption
    | (with_reducible apply Moves.step (nvmRefuse_touches ..); decide +kernel)
    | (with_reducible apply Moves.step (nvmStarted_touches ..); decide +kernel)
    | (with_reducible apply Moves.step (nvmDone_touches ..); decide +kernel)
    | (fail_if_no_progress with_reducible refine Moves.upd_regs (by decide +kernel) ?_)
    | (fail_if_no_progress with_reducible refine Moves.upd_sent (by decide +kernel) ?_)
    | (fail_if_no_progress with_reducible refine Moves.upd_evt (by decide +kernel) ?_)
    | (fail_if_no_progress with_reducible refine Moves.upd_nvm (by decide +kernel) rfl ?_)
    | (fail_if_no_progress with_reducible refine Moves.upd (h := ?_))
    | (dsimp only [id])
    | (split)
    | (intro _))

theorem opNvmWinRead_touches (k : Nat) (errors : Nat) (s : State) : Moves [.tick, .regs, .sent, .evt] s (opNvmWinRead k errors s) := by
  unfold opNvmWinRead
  try dsimp only
  repeat' (first
    | with_reducible exact Moves.refl _ _
    | with_reducible assumption
    | (with_reducible apply Moves.step (State.addFld_touches ..); decide +kernel)
    | (with_reducible apply Moves.step (emit_touches ..); decide +kernel)
    | (with_reducible apply Moves.step (State.ticked_touches ..); decide +kernel)
    | (with_reducible apply Moves.step (refuseRead_touches ..); decide +kernel)
    | (with_reducible apply Moves.step (raise_touches ..); decide +kernel)
    | (fail_if_no_progress with_reducible refine Moves.upd_tick (by decide +kernel) ?_)
    | (fail_if_no_progress with_reducible refine Moves.upd_regs (by decide +kernel) ?_)
    | (fail_if_no_progress with_reducible refine Moves.upd_sent (by decide +kernel) ?_)
    | (fail_if_no_progress with_reducible refine Moves.upd_evt (by decide +kernel) ?_)
    | (fail_if_no_progress with_reducible refine Moves.upd (h := ?_))
    | (dsimp only [id])
    | (split)
    | (intro _))

theorem opNvmMarginPv_touches (s : State) : Moves [.regs, .sent, .evt, .nvm] s (opNvmMarginPv s) := by
  unfold opNvmMarginPv
  try dsimp only
  repeat' (first
    | with_reducible exact Moves.refl _ _
    | with_reducible assumption
    | (with_reducible apply Moves.step (startMargin_touches ..); decide +kernel)
    | (fail_if_no_progress with_reducible refine Moves.upd_regs (by decide +kernel) ?_)
    | (fail_if_no_progress with_reducible refine Moves.upd_sent (by decide +kernel) ?_)
    | (fail_if_no_progress with_reducible refine Moves.upd_evt (by decide +kernel) ?_)
    | (fail_if_no_progress with_reducible refine Moves.upd_nvm (by decide +kernel) rfl ?_)
    | (fail_if_no_progress with_reducible refine Moves.upd (h := ?_))
    | (dsimp only [id])
    | (split)
    | (intro _))

theorem opNvmErase_touches (s : State) : Moves [.regs, .sent, .evt, .nvm] s (opNvmErase s) := by
  unfold opNvmErase
  try dsimp only
  repeat' (first
    | with_reducible exact Moves.refl _ _
    | with_reducible assumption
    | (with_reducible apply Moves.step (nvmRefuse_touches ..); decide +kernel)
    | (with_reducible apply Moves.step (journalAdd_touches ..); decide +kernel)
    | (with_reducible apply Moves.step (nvmStart_touches ..); decide +kernel)
    | (fail_if_no_progress with_reducible refine Moves.upd_regs (by decide +kernel) ?_)
    | (fail_if_no_progress with_reducible refine Moves.upd_sent (by decide +kernel) ?_)
    | (fail_if_no_progress with_reducible refine Moves.upd_evt (by decide +kernel) ?_)
    | (fail_if_no_progress with_reducible refine Moves.upd_nvm (by decide +kernel) rfl ?_)
    | (fail_if_no_progress with_reducible refine Moves.upd (h := ?_))
    | (dsimp only [id])
    | (split)
    | (intro _))

theorem opWpSet_touches (k : Nat) (v : Sys2Proof.Word) (s : State) : Moves [.regs] s (opWpSet k v s) := by
  unfold opWpSet
  try dsimp only
  repeat' (first
    | with_reducible exact Moves.refl _ _
    | with_reducible assumption
    | (with_reducible apply Moves.step (State.setReg_touches ..); decide +kernel)
    | (fail_if_no_progress with_reducible refine Moves.upd_regs (by decide +kernel) ?_)
    | (fail_if_no_progress with_reducible refine Moves.upd (h := ?_))
    | (dsimp only [id])
    | (split)
    | (intro _))

theorem opNvmResume_touches (s : State) : Moves [.regs, .sent, .evt, .nvm] s (opNvmResume s) := by
  unfold opNvmResume
  try dsimp only
  repeat' (first
    | with_reducible exact Moves.refl _ _
    | with_reducible assumption
    | (with_reducible apply Moves.step (nvmRefuse_touches ..); decide +kernel)
    | (with_reducible apply Moves.step (nvmStarted_touches ..); decide +kernel)
    | (with_reducible apply Moves.step (nvmDone_touches ..); decide +kernel)
    | (fail_if_no_progress with_reducible refine Moves.upd_regs (by decide +kernel) ?_)
    | (fail_if_no_progress with_reducible refine Moves.upd_sent (by decide +kernel) ?_)
    | (fail_if_no_progress with_reducible refine Moves.upd_evt (by decide +kernel) ?_)
    | (fail_if_no_progress with_reducible refine Moves.upd_nvm (by decide +kernel) rfl ?_)
    | (fail_if_no_progress with_reducible refine Moves.upd (h := ?_))
    | (dsimp only [id])
    | (split)
    | (intro _))

theorem spoilSlot_touches (bank : Nat) (sector : Nat) (s : State) : Moves [.img] s (spoilSlot bank sector s) := by
  unfold spoilSlot
  try dsimp only
  repeat' (first
    | with_reducible exact Moves.refl _ _
    | with_reducible assumption
    | (fail_if_no_progress with_reducible refine Moves.upd_img (by decide +kernel) ?_)
    | (fail_if_no_progress with_reducible refine Moves.upd (h := ?_))
    | (dsimp only [id])
    | (split)
    | (intro _))


theorem applyFlashOp_touches (bank : Nat) (o : FlashOp) (s : State) : Moves [.img, .nvm, .bytes] s (applyFlashOp bank o s) := by
  unfold applyFlashOp
  dsimp only
  split
  · exact Moves.step (spoilSlot_touches ..) (by decide +kernel) (Moves.upd (a := s) (h_canonical := Memory.wf_program rfl rfl) (h := Moves.refl _ _))
  · apply Moves.step (spoilSlot_touches ..); decide +kernel
    apply Moves.step (journalAdd_touches ..); decide +kernel
    exact (eraseSector_touches ..).mono (by decide +kernel)
  · exact Moves.refl _ _

theorem settleStore_touches (s : State) : Moves [.nvm, .bytes] s (settleStore s) := by
  unfold settleStore
  try dsimp only
  repeat' (first
    | with_reducible exact Moves.refl _ _
    | with_reducible assumption
    | (with_reducible apply Moves.step (beginRecord_touches ..); decide +kernel)
    | (fail_if_no_progress with_reducible refine Moves.upd_nvm (by decide +kernel) rfl ?_)
    | (fail_if_no_progress with_reducible refine Moves.upd (h := ?_))
    | (dsimp only [id])
    | (split)
    | (intro _))

theorem opStore_touches (n : Nat) (s : State) : Moves [.ctx, .nvm, .bytes] s (opStore n s) := by
  unfold opStore
  try dsimp only
  repeat' (first
    | with_reducible exact Moves.refl _ _
    | with_reducible assumption
    | (with_reducible apply Moves.step (commence_touches ..); decide +kernel)
    | (with_reducible apply Moves.step (finish_touches ..); decide +kernel)
    | (with_reducible apply beginTask_step; decide +kernel)
    | (with_reducible apply Moves.step (settleStore_touches ..); decide +kernel)
    | (fail_if_no_progress with_reducible refine Moves.upd_ctx (by decide +kernel) ?_)
    | (fail_if_no_progress with_reducible refine Moves.upd_nvm (by decide +kernel) rfl ?_)
    | (fail_if_no_progress with_reducible refine Moves.upd (h := ?_))
    | (dsimp only [id])
    | (split)
    | (intro _))

theorem opNvmOperationComplete_touches (bank : Nat) (fail : Nat) (s : State) : Moves [.regs, .sent, .evt, .ctx, .img, .nvm, .bytes] s (opNvmOperationComplete bank fail s) := by
  unfold opNvmOperationComplete
  try dsimp only
  repeat' (first
    | with_reducible exact Moves.refl _ _
    | with_reducible assumption
    | (with_reducible apply Moves.step (applyFlashOp_touches ..); decide +kernel)
    | (with_reducible apply Moves.step (recordDone_touches ..); decide +kernel)
    | (with_reducible apply Moves.step (State.setFld_touches ..); decide +kernel)
    | (with_reducible apply Moves.step (nvmDone_touches ..); decide +kernel)
    | (with_reducible apply Moves.step (settleStore_touches ..); decide +kernel)
    | (fail_if_no_progress with_reducible refine Moves.upd_regs (by decide +kernel) ?_)
    | (fail_if_no_progress with_reducible refine Moves.upd_sent (by decide +kernel) ?_)
    | (fail_if_no_progress with_reducible refine Moves.upd_evt (by decide +kernel) ?_)
    | (fail_if_no_progress with_reducible refine Moves.upd_ctx (by decide +kernel) ?_)
    | (fail_if_no_progress with_reducible refine Moves.upd_img (by decide +kernel) ?_)
    | (fail_if_no_progress with_reducible refine Moves.upd_nvm (by decide +kernel) rfl ?_)
    | (fail_if_no_progress with_reducible refine Moves.upd (h := ?_))
    | (dsimp only [id])
    | (split)
    | (intro _))

theorem opParkRequest_touches (s : State) : Moves [.regs] s (opParkRequest s) := by
  unfold opParkRequest
  try dsimp only
  repeat' (first
    | with_reducible exact Moves.refl _ _
    | with_reducible assumption
    | (with_reducible apply Moves.step (State.setFld_touches ..); decide +kernel)
    | (fail_if_no_progress with_reducible refine Moves.upd_regs (by decide +kernel) ?_)
    | (fail_if_no_progress with_reducible refine Moves.upd (h := ?_))
    | (dsimp only [id])
    | (split)
    | (intro _))

theorem opParkRelease_touches (s : State) : Moves [.regs, .sent, .evt] s (opParkRelease s) := by
  unfold opParkRelease
  try dsimp only
  repeat' (first
    | with_reducible exact Moves.refl _ _
    | with_reducible assumption
    | (with_reducible apply Moves.step (unpark_touches ..); decide +kernel)
    | (fail_if_no_progress with_reducible refine Moves.upd_regs (by decide +kernel) ?_)
    | (fail_if_no_progress with_reducible refine Moves.upd_sent (by decide +kernel) ?_)
    | (fail_if_no_progress with_reducible refine Moves.upd_evt (by decide +kernel) ?_)
    | (fail_if_no_progress with_reducible refine Moves.upd (h := ?_))
    | (dsimp only [id])
    | (split)
    | (intro _))

theorem opNvmProgram_touches (s : State) : Moves [.regs, .sent, .evt, .nvm] s (opNvmProgram s) := by
  unfold opNvmProgram
  try dsimp only
  repeat' (first
    | with_reducible exact Moves.refl _ _
    | with_reducible assumption
    | (with_reducible apply Moves.step (nvmRefuse_touches ..); decide +kernel)
    | (with_reducible apply Moves.step (nvmStart_touches ..); decide +kernel)
    | (fail_if_no_progress with_reducible refine Moves.upd_regs (by decide +kernel) ?_)
    | (fail_if_no_progress with_reducible refine Moves.upd_sent (by decide +kernel) ?_)
    | (fail_if_no_progress with_reducible refine Moves.upd_evt (by decide +kernel) ?_)
    | (fail_if_no_progress with_reducible refine Moves.upd_nvm (by decide +kernel) rfl ?_)
    | (fail_if_no_progress with_reducible refine Moves.upd (h := ?_))
    | (dsimp only [id])
    | (split)
    | (intro _))

theorem setChains_touches (i : Image) (d : Nat) (s : State) : Moves [.loops] s (setChains i d s) := by
  unfold setChains
  try dsimp only
  repeat' (first
    | with_reducible exact Moves.refl _ _
    | with_reducible assumption
    | (with_reducible apply Moves.step (State.putLoop_touches ..); decide +kernel)
    | (with_reducible apply forEach_step)
    | (fail_if_no_progress with_reducible refine Moves.upd_loops (by decide +kernel) ?_)
    | (fail_if_no_progress with_reducible refine Moves.upd (h := ?_))
    | (dsimp only [id])
    | (split)
    | (intro _))

theorem jasperUnit_touches (i : Image) (d : Nat) (s : State) : Moves [.sent, .evt, .loops] s (jasperUnit i d s) := by
  unfold jasperUnit
  try dsimp only
  repeat' (first
    | with_reducible exact Moves.refl _ _
    | with_reducible assumption
    | (with_reducible apply Moves.step (setChains_touches ..); decide +kernel)
    | (with_reducible apply Moves.step (State.putLoop_touches ..); decide +kernel)
    | (with_reducible apply Moves.step (raise_touches ..); decide +kernel)
    | (with_reducible apply forEach_step)
    | (fail_if_no_progress with_reducible refine Moves.upd_sent (by decide +kernel) ?_)
    | (fail_if_no_progress with_reducible refine Moves.upd_evt (by decide +kernel) ?_)
    | (fail_if_no_progress with_reducible refine Moves.upd_loops (by decide +kernel) ?_)
    | (fail_if_no_progress with_reducible refine Moves.upd (h := ?_))
    | (dsimp only [id])
    | (split)
    | (intro _))

theorem sendGap_touches (d : Nat) (s : State) : Moves [.sent, .decks] s (sendGap d s) := by
  unfold sendGap
  try dsimp only
  repeat' (first
    | with_reducible exact Moves.refl _ _
    | with_reducible assumption
    | (with_reducible apply Moves.step (State.onDeck_touches ..); decide +kernel)
    | (with_reducible apply Moves.step (nextRegister_touches ..); decide +kernel)
    | (fail_if_no_progress with_reducible refine Moves.upd_sent (by decide +kernel) ?_)
    | (fail_if_no_progress with_reducible refine Moves.upd_decks (by decide +kernel) ?_)
    | (fail_if_no_progress with_reducible refine Moves.upd (h := ?_))
    | (dsimp only [id])
    | (split)
    | (intro _))

theorem applyLoupe_touches (i : Image) (s : State) : Moves [.regs] s (applyLoupe i s) := by
  unfold applyLoupe
  try dsimp only
  repeat' (first
    | with_reducible exact Moves.refl _ _
    | with_reducible assumption
    | (with_reducible apply Moves.step (State.setReg_touches ..); decide +kernel)
    | (with_reducible apply forEach_step)
    | (fail_if_no_progress with_reducible refine Moves.upd_regs (by decide +kernel) ?_)
    | (fail_if_no_progress with_reducible refine Moves.upd (h := ?_))
    | (dsimp only [id])
    | (split)
    | (intro _))

theorem showImage_touches (k : Nat) (i : Image) (s : State) : Moves [.regs] s (showImage k i s) := by
  unfold showImage
  try dsimp only
  repeat' (first
    | with_reducible exact Moves.refl _ _
    | with_reducible assumption
    | (with_reducible apply Moves.step (State.setFld_touches ..); decide +kernel)
    | (with_reducible apply Moves.step (State.setReg_touches ..); decide +kernel)
    | (fail_if_no_progress with_reducible refine Moves.upd_regs (by decide +kernel) ?_)
    | (fail_if_no_progress with_reducible refine Moves.upd (h := ?_))
    | (dsimp only [id])
    | (split)
    | (intro _))

theorem bootWith_touches (k : Nat) (i : Image) (s : State) : Moves [.regs, .img, .loops] s (bootWith k i s) := by
  unfold bootWith
  try dsimp only
  repeat' (first
    | with_reducible exact Moves.refl _ _
    | with_reducible assumption
    | (with_reducible apply Moves.step (applyLoupe_touches ..); decide +kernel)
    | (with_reducible apply Moves.step (State.setReg_touches ..); decide +kernel)
    | (with_reducible apply Moves.step (setChains_touches ..); decide +kernel)
    | (with_reducible apply Moves.step (showImage_touches ..); decide +kernel)
    | (with_reducible apply forEach_step)
    | (fail_if_no_progress with_reducible refine Moves.upd_regs (by decide +kernel) ?_)
    | (fail_if_no_progress with_reducible refine Moves.upd_img (by decide +kernel) ?_)
    | (fail_if_no_progress with_reducible refine Moves.upd_loops (by decide +kernel) ?_)
    | (fail_if_no_progress with_reducible refine Moves.upd (h := ?_))
    | (dsimp only [id])
    | (split)
    | (intro _))

theorem fetchImage_touches (s : State) : Moves [.sent, .lnk] s (fetchImage s) := by
  unfold fetchImage
  try dsimp only
  repeat' (first
    | with_reducible exact Moves.refl _ _
    | with_reducible assumption
    | (with_reducible apply Moves.step (hostRead_touches ..); decide +kernel)
    | (fail_if_no_progress with_reducible refine Moves.upd_sent (by decide +kernel) ?_)
    | (fail_if_no_progress with_reducible refine Moves.upd_lnk (by decide +kernel) ?_)
    | (fail_if_no_progress with_reducible refine Moves.upd (h := ?_))
    | (dsimp only [id])
    | (split)
    | (intro _))

theorem opCutterEpoch_touches (n : Nat) (s : State) : Moves [.regs, .sent, .evt, .ctx, .tables, .img] s (opCutterEpoch n s) := by
  unfold opCutterEpoch
  try dsimp only
  repeat' (first
    | with_reducible exact Moves.refl _ _
    | with_reducible assumption
    | (with_reducible apply Moves.step (dueEpoch_touches ..); decide +kernel)
    | (fail_if_no_progress with_reducible refine Moves.upd_regs (by decide +kernel) ?_)
    | (fail_if_no_progress with_reducible refine Moves.upd_sent (by decide +kernel) ?_)
    | (fail_if_no_progress with_reducible refine Moves.upd_evt (by decide +kernel) ?_)
    | (fail_if_no_progress with_reducible refine Moves.upd_ctx (by decide +kernel) ?_)
    | (fail_if_no_progress with_reducible refine Moves.upd_tables (by decide +kernel) ?_)
    | (fail_if_no_progress with_reducible refine Moves.upd_img (by decide +kernel) ?_)
    | (fail_if_no_progress with_reducible refine Moves.upd (h := ?_))
    | (dsimp only [id])
    | (split)
    | (intro _))

theorem takeFormatEpoch_touches (td : Nat) (s : State) : Moves [.regs, .sent, .evt, .tables, .img, .decks] s (takeFormatEpoch td s) := by
  unfold takeFormatEpoch
  try dsimp only
  repeat' (first
    | with_reducible exact Moves.refl _ _
    | with_reducible assumption
    | (with_reducible apply Moves.step (settleActivation_touches ..); decide +kernel)
    | (with_reducible apply Moves.step (State.addFld_touches ..); decide +kernel)
    | (with_reducible apply Moves.step (sendGap_touches ..); decide +kernel)
    | (with_reducible apply Moves.step (setGuarantee_touches ..); decide +kernel)
    | (with_reducible apply Moves.step (raise_touches ..); decide +kernel)
    | (with_reducible apply forEach_step)
    | (fail_if_no_progress with_reducible refine Moves.upd_regs (by decide +kernel) ?_)
    | (fail_if_no_progress with_reducible refine Moves.upd_sent (by decide +kernel) ?_)
    | (fail_if_no_progress with_reducible refine Moves.upd_evt (by decide +kernel) ?_)
    | (fail_if_no_progress with_reducible refine Moves.upd_tables (by decide +kernel) ?_)
    | (fail_if_no_progress with_reducible refine Moves.upd_img (by decide +kernel) ?_)
    | (fail_if_no_progress with_reducible refine Moves.upd_decks (by decide +kernel) ?_)
    | (fail_if_no_progress with_reducible refine Moves.upd (h := ?_))
    | (dsimp only [id])
    | (split)
    | (intro _))

theorem applyPending_touches (s : State) : Moves [.regs, .sent, .evt, .ctx, .tables, .img, .decks, .loops] s (applyPending s) := by
  unfold applyPending
  try dsimp only
  repeat' (first
    | with_reducible exact Moves.refl _ _
    | with_reducible assumption
    | (with_reducible apply Moves.step (takeCutterEpoch_touches ..); decide +kernel)
    | (with_reducible apply Moves.step (settleActivation_touches ..); decide +kernel)
    | (with_reducible apply Moves.step (State.putLoop_touches ..); decide +kernel)
    | (with_reducible apply Moves.step (takeFormatEpoch_touches ..); decide +kernel)
    | (with_reducible apply forEach_step)
    | (fail_if_no_progress with_reducible refine Moves.upd_regs (by decide +kernel) ?_)
    | (fail_if_no_progress with_reducible refine Moves.upd_sent (by decide +kernel) ?_)
    | (fail_if_no_progress with_reducible refine Moves.upd_evt (by decide +kernel) ?_)
    | (fail_if_no_progress with_reducible refine Moves.upd_ctx (by decide +kernel) ?_)
    | (fail_if_no_progress with_reducible refine Moves.upd_tables (by decide +kernel) ?_)
    | (fail_if_no_progress with_reducible refine Moves.upd_img (by decide +kernel) ?_)
    | (fail_if_no_progress with_reducible refine Moves.upd_decks (by decide +kernel) ?_)
    | (fail_if_no_progress with_reducible refine Moves.upd_loops (by decide +kernel) ?_)
    | (fail_if_no_progress with_reducible refine Moves.upd (h := ?_))
    | (dsimp only [id])
    | (split)
    | (intro _))

theorem cfgResult_touches (code : Nat) (fault : Nat × Nat) (mismatch : Bool) (s : State) : Moves [.regs] s (cfgResult code fault mismatch s) := by
  unfold cfgResult
  try dsimp only
  repeat' (first
    | with_reducible exact Moves.refl _ _
    | with_reducible assumption
    | (with_reducible apply Moves.step (State.setReg_touches ..); decide +kernel)
    | (fail_if_no_progress with_reducible refine Moves.upd_regs (by decide +kernel) ?_)
    | (fail_if_no_progress with_reducible refine Moves.upd (h := ?_))
    | (dsimp only [id])
    | (split)
    | (intro _))

theorem slotCommand_touches {l : List Part} (hsub : [.regs] ⊆ l) {f : Nat → State → State} (hf : ∀ x1 a, Moves l a (f x1 a)) (s : State) : Moves l s (slotCommand f s) := by
  unfold slotCommand
  try dsimp only
  repeat' (first
    | (with_reducible apply Moves.trans ?_ (hf ..))
    | with_reducible exact Moves.refl _ _
    | with_reducible assumption
    | (with_reducible apply Moves.step (State.setFld_touches ..); exact List.Subset.trans (by decide +kernel) hsub)
    | (with_reducible apply Moves.step (State.incFld_touches ..); exact List.Subset.trans (by decide +kernel) hsub)
    | (dsimp only [id])
    | (split)
    | (intro _)
    | (fail_if_no_progress with_reducible refine Moves.upd_regs (Part.mem_of_sub hsub (by decide +kernel)) ?_)
    | (fail_if_no_progress with_reducible refine Moves.upd (h := ?_)))

theorem slotCommand_step {l : List Part} (hsub : [.regs] ⊆ l) {f : Nat → State → State} (hf : ∀ x1 a, Moves l a (f x1 a)) {s a : State} (h : Moves l s a) : Moves l s (slotCommand f a) :=
  h.trans (slotCommand_touches hsub hf ..)

theorem opVerify_touches (s : State) : Moves [.regs] s (opVerify s) := by
  unfold opVerify
  try dsimp only
  repeat' (first
    | with_reducible exact Moves.refl _ _
    | with_reducible assumption
    | (with_reducible apply Moves.step (cfgResult_touches ..); decide +kernel)
    | (with_reducible apply slotCommand_step; decide +kernel)
    | (fail_if_no_progress with_reducible refine Moves.upd_regs (by decide +kernel) ?_)
    | (fail_if_no_progress with_reducible refine Moves.upd (h := ?_))
    | (dsimp only [id])
    | (split)
    | (intro _))

theorem formatUnit_touches (old : Image) (td : Nat) (s : State) : Moves [.regs, .sent, .evt, .tables, .img, .decks] s (formatUnit old td s) := by
  unfold formatUnit
  try dsimp only
  repeat' (first
    | with_reducible exact Moves.refl _ _
    | with_reducible assumption
    | (with_reducible apply Moves.step (takeFormatEpoch_touches ..); decide +kernel)
    | (fail_if_no_progress with_reducible refine Moves.upd_regs (by decide +kernel) ?_)
    | (fail_if_no_progress with_reducible refine Moves.upd_sent (by decide +kernel) ?_)
    | (fail_if_no_progress with_reducible refine Moves.upd_evt (by decide +kernel) ?_)
    | (fail_if_no_progress with_reducible refine Moves.upd_tables (by decide +kernel) ?_)
    | (fail_if_no_progress with_reducible refine Moves.upd_img (by decide +kernel) ?_)
    | (fail_if_no_progress with_reducible refine Moves.upd_decks (by decide +kernel) ?_)
    | (fail_if_no_progress with_reducible refine Moves.upd (h := ?_))
    | (dsimp only [id])
    | (split)
    | (intro _))

theorem bootNone_touches (s : State) : Moves [.regs, .img] s (bootNone s) := by
  unfold bootNone
  try dsimp only
  repeat' (first
    | with_reducible exact Moves.refl _ _
    | with_reducible assumption
    | (with_reducible apply Moves.step (State.setFld_touches ..); decide +kernel)
    | (fail_if_no_progress with_reducible refine Moves.upd_regs (by decide +kernel) ?_)
    | (fail_if_no_progress with_reducible refine Moves.upd_img (by decide +kernel) ?_)
    | (fail_if_no_progress with_reducible refine Moves.upd (h := ?_))
    | (dsimp only [id])
    | (split)
    | (intro _))

theorem bootImage_touches (s : State) : Moves [.regs, .sent, .evt, .img, .loops] s (bootImage s) := by
  unfold bootImage
  try dsimp only
  repeat' (first
    | with_reducible exact Moves.refl _ _
    | with_reducible assumption
    | (with_reducible apply Moves.step (bootNone_touches ..); decide +kernel)
    | (with_reducible apply Moves.step (State.setFld_touches ..); decide +kernel)
    | (with_reducible apply Moves.step (bootWith_touches ..); decide +kernel)
    | (with_reducible apply Moves.step (raise_touches ..); decide +kernel)
    | (fail_if_no_progress with_reducible refine Moves.upd_regs (by decide +kernel) ?_)
    | (fail_if_no_progress with_reducible refine Moves.upd_sent (by decide +kernel) ?_)
    | (fail_if_no_progress with_reducible refine Moves.upd_evt (by decide +kernel) ?_)
    | (fail_if_no_progress with_reducible refine Moves.upd_img (by decide +kernel) ?_)
    | (fail_if_no_progress with_reducible refine Moves.upd_loops (by decide +kernel) ?_)
    | (fail_if_no_progress with_reducible refine Moves.upd (h := ?_))
    | (dsimp only [id])
    | (split)
    | (intro _))

theorem removeApproval_touches (k : Nat) (s : State) : Moves [.img, .nvm] s (removeApproval k s) := by
  unfold removeApproval
  try dsimp only
  repeat' (first
    | with_reducible exact Moves.refl _ _
    | with_reducible assumption
    | (with_reducible apply Moves.step (journalAdd_touches ..); decide +kernel)
    | (fail_if_no_progress with_reducible refine Moves.upd_img (by decide +kernel) ?_)
    | (fail_if_no_progress with_reducible refine Moves.upd_nvm (by decide +kernel) rfl ?_)
    | (fail_if_no_progress with_reducible refine Moves.upd (h := ?_))
    | (dsimp only [id])
    | (split)
    | (intro _))

theorem programSlot_touches (s : State) : Moves [.regs, .img, .nvm, .bytes] s (programSlot s) := by
  unfold programSlot
  split
  · dsimp only
    split
    · exact Moves.step (cfgResult_touches ..) (by decide +kernel) (Moves.upd_img (by decide +kernel) (Moves.refl _ _))
    · split
      · exact Moves.refl _ _
      · refine Moves.step (State.setReg_touches ..) (by decide +kernel) ?_
        generalize h1 : forEach _ _ _ = s1
        refine Moves.trans (t := s1) ?_ (Moves.upd (a := s1) (h_canonical := Memory.wf_program rfl rfl) (h := Moves.refl _ _))
        rw [← h1]
        exact forEach_step (fun _ _ => (journalErase_touches ..).mono (by decide +kernel)) ((removeApproval_touches ..).mono (by decide +kernel))
  · exact Moves.refl _ _

theorem takeImageBytes_touches (bytes : List Sys2Proof.Byte) (s : State) : Moves [.regs, .sent, .img, .nvm, .bytes, .lnk] s (takeImageBytes bytes s) := by
  unfold takeImageBytes
  try dsimp only
  repeat' (first
    | with_reducible exact Moves.refl _ _
    | with_reducible assumption
    | (with_reducible apply Moves.step (fetchImage_touches ..); decide +kernel)
    | (with_reducible apply Moves.step (programSlot_touches ..); decide +kernel)
    | (fail_if_no_progress with_reducible refine Moves.upd_regs (by decide +kernel) ?_)
    | (fail_if_no_progress with_reducible refine Moves.upd_sent (by decide +kernel) ?_)
    | (fail_if_no_progress with_reducible refine Moves.upd_img (by decide +kernel) ?_)
    | (fail_if_no_progress with_reducible refine Moves.upd_lnk (by decide +kernel) ?_)
    | (fail_if_no_progress with_reducible refine Moves.upd_nvm (by decide +kernel) rfl ?_)
    | (fail_if_no_progress with_reducible refine Moves.upd (h := ?_))
    | (dsimp only [id])
    | (split)
    | (intro _))

theorem opWriteSlot_touches (s : State) : Moves [.regs, .sent, .evt, .img, .nvm, .bytes, .lnk] s (opWriteSlot s) := by
  unfold opWriteSlot
  try dsimp only
  repeat' (first
    | with_reducible exact Moves.refl _ _
    | with_reducible assumption
    | (with_reducible apply Moves.step (cfgResult_touches ..); decide +kernel)
    | (with_reducible apply Moves.step (refuseWrite_touches ..); decide +kernel)
    | (with_reducible apply slotCommand_step; decide +kernel)
    | (with_reducible apply Moves.step (fetchImage_touches ..); decide +kernel)
    | (with_reducible apply Moves.step (programSlot_touches ..); decide +kernel)
    | (fail_if_no_progress with_reducible refine Moves.upd_regs (by decide +kernel) ?_)
    | (fail_if_no_progress with_reducible refine Moves.upd_sent (by decide +kernel) ?_)
    | (fail_if_no_progress with_reducible refine Moves.upd_evt (by decide +kernel) ?_)
    | (fail_if_no_progress with_reducible refine Moves.upd_img (by decide +kernel) ?_)
    | (fail_if_no_progress with_reducible refine Moves.upd_lnk (by decide +kernel) ?_)
    | (fail_if_no_progress with_reducible refine Moves.upd_nvm (by decide +kernel) rfl ?_)
    | (fail_if_no_progress with_reducible refine Moves.upd (h := ?_))
    | (dsimp only [id])
    | (split)
    | (intro _))

theorem opFormatEpoch_touches (d : Nat) (s : State) : Moves [.regs, .sent, .evt, .tables, .img, .decks] s (opFormatEpoch d s) := by
  unfold opFormatEpoch
  try dsimp only
  repeat' (first
    | with_reducible exact Moves.refl _ _
    | with_reducible assumption
    | (with_reducible apply Moves.step (takeFormatEpoch_touches ..); decide +kernel)
    | (fail_if_no_progress with_reducible refine Moves.upd_regs (by decide +kernel) ?_)
    | (fail_if_no_progress with_reducible refine Moves.upd_sent (by decide +kernel) ?_)
    | (fail_if_no_progress with_reducible refine Moves.upd_evt (by decide +kernel) ?_)
    | (fail_if_no_progress with_reducible refine Moves.upd_tables (by decide +kernel) ?_)
    | (fail_if_no_progress with_reducible refine Moves.upd_img (by decide +kernel) ?_)
    | (fail_if_no_progress with_reducible refine Moves.upd_decks (by decide +kernel) ?_)
    | (fail_if_no_progress with_reducible refine Moves.upd (h := ?_))
    | (dsimp only [id])
    | (split)
    | (intro _))

theorem State.onImg_touches (s : State) (f : ImgUnit → ImgUnit) : Moves [.img] s (State.onImg s f) := by
  unfold State.onImg
  try dsimp only
  repeat' (first
    | with_reducible exact Moves.refl _ _
    | with_reducible assumption
    | (fail_if_no_progress with_reducible refine Moves.upd_img (by decide +kernel) ?_)
    | (fail_if_no_progress with_reducible refine Moves.upd (h := ?_))
    | (dsimp only [id])
    | (split)
    | (intro _))

theorem failImageRead_touches (s : State) : Moves [.regs, .img] s (failImageRead s) := by
  unfold failImageRead
  try dsimp only
  repeat' (first
    | with_reducible exact Moves.refl _ _
    | with_reducible assumption
    | (with_reducible apply Moves.step (cfgResult_touches ..); decide +kernel)
    | (fail_if_no_progress with_reducible refine Moves.upd_regs (by decide +kernel) ?_)
    | (fail_if_no_progress with_reducible refine Moves.upd_img (by decide +kernel) ?_)
    | (fail_if_no_progress with_reducible refine Moves.upd (h := ?_))
    | (dsimp only [id])
    | (split)
    | (intro _))

theorem cutterUnit_touches (old : Nat × Nat × Nat) (r : Nat × State) (n : Nat) :
    Moves [.regs, .sent, .evt, .ctx, .tables] r.2 (cutterUnit old r n).2 := by
  unfold cutterUnit
  dsimp only
  split
  · exact (State.putCtx_touches ..).mono (by decide +kernel)
  · dsimp only
    split
    · apply Moves.step (setGuarantee_touches ..); decide +kernel
      exact (State.incFld_touches ..).mono (by decide +kernel)
    · exact (State.incFld_touches ..).mono (by decide +kernel)
theorem cutterFold_step {l : List Part} {old : Nat × Nat × Nat} {k : Nat} {xs : List Nat} {s a : State}
    (hsub : [.regs, .sent, .evt, .ctx, .tables] ⊆ l) (h : Moves l s a) : Moves l s (xs.foldl (cutterUnit old) (k, a)).2 := by
  induction xs generalizing k a with
  | nil => exact h
  | cons x xs ih =>
    rw [List.foldl_cons]
    exact ih (h.trans ((cutterUnit_touches old (k, a) x).mono hsub))

theorem opSlotWriteDone_touches (ok : Bool) (s : State) : Moves [.regs, .sent, .evt, .img, .nvm, .bytes] s (opSlotWriteDone ok s) := by
  unfold opSlotWriteDone
  try dsimp only
  repeat' (first
    | with_reducible exact Moves.refl _ _
    | with_reducible assumption
    | (with_reducible apply Moves.step (cfgResult_touches ..); decide +kernel)
    | (with_reducible apply Moves.step (journalAdd_touches ..); decide +kernel)
    | (with_reducible apply Moves.step (State.setReg_touches ..); decide +kernel)
    | (with_reducible apply Moves.step (settleStore_touches ..); decide +kernel)
    | (with_reducible apply Moves.step (programSlot_touches ..); decide +kernel)
    | (with_reducible apply Moves.step (raise_touches ..); decide +kernel)
    | (fail_if_no_progress with_reducible refine Moves.upd_regs (by decide +kernel) ?_)
    | (fail_if_no_progress with_reducible refine Moves.upd_sent (by decide +kernel) ?_)
    | (fail_if_no_progress with_reducible refine Moves.upd_evt (by decide +kernel) ?_)
    | (fail_if_no_progress with_reducible refine Moves.upd_img (by decide +kernel) ?_)
    | (fail_if_no_progress with_reducible refine Moves.upd_nvm (by decide +kernel) rfl ?_)
    | (fail_if_no_progress with_reducible refine Moves.upd (h := ?_))
    | (dsimp only [id])
    | (split)
    | (intro _))

theorem activate_touches (n : Nat) (q : Nat) (k : Nat) (i : Image) (s : State) : Moves [.regs, .sent, .evt, .ctx, .tables, .img, .decks, .loops] s (activate n q k i s) := by
  unfold activate
  try dsimp only
  repeat' (first
    | with_reducible exact Moves.refl _ _
    | with_reducible assumption
    | (with_reducible apply Moves.step (jasperUnit_touches ..); decide +kernel)
    | (with_reducible apply Moves.step (chainsReplaced_touches ..); decide +kernel)
    | (with_reducible apply Moves.step (commence_touches ..); decide +kernel)
    | (with_reducible apply Moves.step (showImage_touches ..); decide +kernel)
    | (with_reducible apply Moves.step (State.onImg_touches ..); decide +kernel)
    | (with_reducible apply Moves.step (State.addFld_touches ..); decide +kernel)
    | (with_reducible apply Moves.step (applyLoupe_touches ..); decide +kernel)
    | (with_reducible apply Moves.step (formatUnit_touches ..); decide +kernel)
    | (with_reducible apply cutterFold_step; decide +kernel)
    | (with_reducible apply Moves.step (raise_touches ..); decide +kernel)
    | (with_reducible apply forEach_step)
    | (fail_if_no_progress with_reducible refine Moves.upd_regs (by decide +kernel) ?_)
    | (fail_if_no_progress with_reducible refine Moves.upd_sent (by decide +kernel) ?_)
    | (fail_if_no_progress with_reducible refine Moves.upd_evt (by decide +kernel) ?_)
    | (fail_if_no_progress with_reducible refine Moves.upd_ctx (by decide +kernel) ?_)
    | (fail_if_no_progress with_reducible refine Moves.upd_tables (by decide +kernel) ?_)
    | (fail_if_no_progress with_reducible refine Moves.upd_img (by decide +kernel) ?_)
    | (fail_if_no_progress with_reducible refine Moves.upd_decks (by decide +kernel) ?_)
    | (fail_if_no_progress with_reducible refine Moves.upd_loops (by decide +kernel) ?_)
    | (fail_if_no_progress with_reducible refine Moves.upd (h := ?_))
    | (dsimp only [id])
    | (split)
    | (intro _))

theorem opRevoke_touches (s : State) : Moves [.regs, .sent, .evt, .img, .nvm] s (opRevoke s) := by
  unfold opRevoke
  try dsimp only
  repeat' (first
    | with_reducible exact Moves.refl _ _
    | with_reducible assumption
    | (with_reducible apply Moves.step (cfgResult_touches ..); decide +kernel)
    | (with_reducible apply Moves.step (removeApproval_touches ..); decide +kernel)
    | (with_reducible apply slotCommand_step; decide +kernel)
    | (with_reducible apply Moves.step (raise_touches ..); decide +kernel)
    | (fail_if_no_progress with_reducible refine Moves.upd_regs (by decide +kernel) ?_)
    | (fail_if_no_progress with_reducible refine Moves.upd_sent (by decide +kernel) ?_)
    | (fail_if_no_progress with_reducible refine Moves.upd_evt (by decide +kernel) ?_)
    | (fail_if_no_progress with_reducible refine Moves.upd_img (by decide +kernel) ?_)
    | (fail_if_no_progress with_reducible refine Moves.upd_nvm (by decide +kernel) rfl ?_)
    | (fail_if_no_progress with_reducible refine Moves.upd (h := ?_))
    | (dsimp only [id])
    | (split)
    | (intro _))

theorem opImageActivate_touches (n : Nat) (s : State) : Moves [.regs, .sent, .evt, .ctx, .tables, .img, .decks, .loops] s (opImageActivate n s) := by
  unfold opImageActivate
  try dsimp only
  repeat' (first
    | with_reducible exact Moves.refl _ _
    | with_reducible assumption
    | (with_reducible apply Moves.step (finish_touches ..); decide +kernel)
    | (with_reducible apply beginTask_step; decide +kernel)
    | (with_reducible apply unlessRefused_step; decide +kernel)
    | (with_reducible apply Moves.step (activate_touches ..); decide +kernel)
    | (with_reducible apply Moves.step (raise_touches ..); decide +kernel)
    | (fail_if_no_progress with_reducible refine Moves.upd_regs (by decide +kernel) ?_)
    | (fail_if_no_progress with_reducible refine Moves.upd_sent (by decide +kernel) ?_)
    | (fail_if_no_progress with_reducible refine Moves.upd_evt (by decide +kernel) ?_)
    | (fail_if_no_progress with_reducible refine Moves.upd_ctx (by decide +kernel) ?_)
    | (fail_if_no_progress with_reducible refine Moves.upd_tables (by decide +kernel) ?_)
    | (fail_if_no_progress with_reducible refine Moves.upd_img (by decide +kernel) ?_)
    | (fail_if_no_progress with_reducible refine Moves.upd_decks (by decide +kernel) ?_)
    | (fail_if_no_progress with_reducible refine Moves.upd_loops (by decide +kernel) ?_)
    | (fail_if_no_progress with_reducible refine Moves.upd (h := ?_))
    | (dsimp only [id])
    | (split)
    | (intro _))

theorem clearAtLoad_touches (d : Nat) (s : State) : Moves [.regs, .tables] s (clearAtLoad d s) := by
  unfold clearAtLoad
  try dsimp only
  repeat' (first
    | with_reducible exact Moves.refl _ _
    | with_reducible assumption
    | (with_reducible apply Moves.step (State.setReg_touches ..); decide +kernel)
    | (with_reducible apply forEach_step)
    | (fail_if_no_progress with_reducible refine Moves.upd_regs (by decide +kernel) ?_)
    | (fail_if_no_progress with_reducible refine Moves.upd_tables (by decide +kernel) ?_)
    | (fail_if_no_progress with_reducible refine Moves.upd (h := ?_))
    | (dsimp only [id])
    | (split)
    | (intro _))

theorem noteRefusal_touches (op : Nat) (r : Option Completion) (s : State) : Moves [.regs, .sent, .evt] s (noteRefusal op r s) := by
  unfold noteRefusal
  try dsimp only
  repeat' (first
    | with_reducible exact Moves.refl _ _
    | with_reducible assumption
    | (with_reducible apply Moves.step (refuseTask_touches ..); decide +kernel)
    | (fail_if_no_progress with_reducible refine Moves.upd_regs (by decide +kernel) ?_)
    | (fail_if_no_progress with_reducible refine Moves.upd_sent (by decide +kernel) ?_)
    | (fail_if_no_progress with_reducible refine Moves.upd_evt (by decide +kernel) ?_)
    | (fail_if_no_progress with_reducible refine Moves.upd (h := ?_))
    | (dsimp only [id])
    | (split)
    | (intro _))

theorem reseat_touches (td : Nat) (p : Nat) (q : Nat) (m : Nat) (plan : List (Nat × Nat)) (s : State) : Moves [.tables] s (reseat td p q m plan s) := by
  unfold reseat
  try dsimp only
  repeat' (first
    | with_reducible exact Moves.refl _ _
    | with_reducible assumption
    | (with_reducible apply Moves.step (State.onTable_touches ..); decide +kernel)
    | (fail_if_no_progress with_reducible refine Moves.upd_tables (by decide +kernel) ?_)
    | (fail_if_no_progress with_reducible refine Moves.upd (h := ?_))
    | (dsimp only [id])
    | (split)
    | (intro _))

theorem seatTable_touches (n : Nat) (t : Task) (s : State) : Moves [.tick, .regs, .sent, .evt, .ctx, .tables, .cut, .keys, .shoe, .mem, .decks, .lnk] s (seatTable n t s) := by
  unfold seatTable
  try dsimp only
  repeat' (first
    | with_reducible exact Moves.refl _ _
    | with_reducible assumption
    | (with_reducible apply Moves.step (commence_touches ..); decide +kernel)
    | (with_reducible apply Moves.step (completeSeat_touches ..); decide +kernel)
    | (with_reducible apply settlePack_step; decide +kernel)
    | (rename_i h0; cases h0; done)
    | (with_reducible apply Moves.step (finish_touches ..); decide +kernel)
    | (with_reducible apply Moves.step (reseat_touches ..); decide +kernel)
    | (with_reducible apply Moves.step (State.onTask_touches ..); decide +kernel)
    | (with_reducible apply Moves.step (closeAll_touches (by assumption)); decide +kernel)
    | (with_reducible apply unlessRefused_step; decide +kernel)
    | (fail_if_no_progress with_reducible refine Moves.upd_tick (by decide +kernel) ?_)
    | (fail_if_no_progress with_reducible refine Moves.upd_regs (by decide +kernel) ?_)
    | (fail_if_no_progress with_reducible refine Moves.upd_sent (by decide +kernel) ?_)
    | (fail_if_no_progress with_reducible refine Moves.upd_evt (by decide +kernel) ?_)
    | (fail_if_no_progress with_reducible refine Moves.upd_ctx (by decide +kernel) ?_)
    | (fail_if_no_progress with_reducible refine Moves.upd_tables (by decide +kernel) ?_)
    | (fail_if_no_progress with_reducible refine Moves.upd_cut (by decide +kernel) ?_)
    | (fail_if_no_progress with_reducible refine Moves.upd_keys (by decide +kernel) ?_)
    | (fail_if_no_progress with_reducible refine Moves.upd_decks (by decide +kernel) ?_)
    | (fail_if_no_progress with_reducible refine Moves.upd_lnk (by decide +kernel) ?_)
    | (fail_if_no_progress with_reducible refine Moves.upd_shoe (by decide +kernel) rfl ?_)
    | (fail_if_no_progress with_reducible refine Moves.upd (h := ?_))
    | (dsimp only [id])
    | (split)
    | (intro _))

theorem writeMedium_touches (td : Nat) (n : Nat) (q : Nat) (c : Completion) (parts : Sparse (Nat × Nat)) (label : List Sys2Proof.Byte) (before : Nat → Nat → State → List (Nat × Sys2Proof.Word × List Trick)) (s : State) : Moves [.regs, .sent, .evt, .ctx, .decks, .pwr] s (writeMedium td n q c parts label before s) := by
  unfold writeMedium
  try dsimp only
  repeat' (first
    | with_reducible exact Moves.refl _ _
    | with_reducible assumption
    | (with_reducible apply Moves.step (leaveIdle_touches ..); decide +kernel)
    | (with_reducible apply Moves.step (State.onDeck_touches ..); decide +kernel)
    | (with_reducible apply Moves.step (segmentDone_touches ..); decide +kernel)
    | (with_reducible apply forEach_step)
    | (fail_if_no_progress with_reducible refine Moves.upd_regs (by decide +kernel) ?_)
    | (fail_if_no_progress with_reducible refine Moves.upd_sent (by decide +kernel) ?_)
    | (fail_if_no_progress with_reducible refine Moves.upd_evt (by decide +kernel) ?_)
    | (fail_if_no_progress with_reducible refine Moves.upd_ctx (by decide +kernel) ?_)
    | (fail_if_no_progress with_reducible refine Moves.upd_decks (by decide +kernel) ?_)
    | (fail_if_no_progress with_reducible refine Moves.upd_pwr (by decide +kernel) ?_)
    | (fail_if_no_progress with_reducible refine Moves.upd (h := ?_))
    | (dsimp only [id])
    | (split)
    | (intro _))

theorem createPart_touches (n : Nat) (t : Task) (s : State) : Moves [.regs, .sent, .evt, .ctx, .tables, .decks, .pwr] s (createPart n t s) := by
  unfold createPart
  try dsimp only
  repeat' (first
    | with_reducible exact Moves.refl _ _
    | with_reducible assumption
    | (with_reducible apply Moves.step (commence_touches ..); decide +kernel)
    | (with_reducible apply Moves.step (writeMedium_touches ..); decide +kernel)
    | (with_reducible apply Moves.step (State.onTable_touches ..); decide +kernel)
    | (with_reducible apply unlessRefused_step; decide +kernel)
    | (fail_if_no_progress with_reducible refine Moves.upd_regs (by decide +kernel) ?_)
    | (fail_if_no_progress with_reducible refine Moves.upd_sent (by decide +kernel) ?_)
    | (fail_if_no_progress with_reducible refine Moves.upd_evt (by decide +kernel) ?_)
    | (fail_if_no_progress with_reducible refine Moves.upd_ctx (by decide +kernel) ?_)
    | (fail_if_no_progress with_reducible refine Moves.upd_tables (by decide +kernel) ?_)
    | (fail_if_no_progress with_reducible refine Moves.upd_decks (by decide +kernel) ?_)
    | (fail_if_no_progress with_reducible refine Moves.upd_pwr (by decide +kernel) ?_)
    | (fail_if_no_progress with_reducible refine Moves.upd (h := ?_))
    | (dsimp only [id])
    | (split)
    | (intro _))

theorem runAdmin_touches {l : List Part} (hsub : [.ctx] ⊆ l) {f : Nat → Task → State → State} (hf : ∀ x1 x2 a, Moves l a (f x1 x2 a)) (n : Nat) (refusal : State → Nat → Task → Option Completion) (t : Task) (s : State) : Moves l s (runAdmin n refusal f t s) := by
  unfold runAdmin
  try dsimp only
  repeat' (first
    | (with_reducible apply Moves.trans ?_ (hf ..))
    | with_reducible exact Moves.refl _ _
    | with_reducible assumption
    | (with_reducible apply unlessRefused_step; exact List.Subset.trans (by decide +kernel) hsub)
    | (dsimp only [id])
    | (split)
    | (intro _)
    | (fail_if_no_progress with_reducible refine Moves.upd_ctx (Part.mem_of_sub hsub (by decide +kernel)) ?_)
    | (fail_if_no_progress with_reducible refine Moves.upd (h := ?_)))

theorem runAdmin_step {l : List Part} (hsub : [.ctx] ⊆ l) {f : Nat → Task → State → State} (hf : ∀ x1 x2 a, Moves l a (f x1 x2 a)) {n : Nat} {refusal : State → Nat → Task → Option Completion} {t : Task} {s a : State} (h : Moves l s a) : Moves l s (runAdmin n refusal f t a) :=
  h.trans (runAdmin_touches hsub hf ..)

theorem fetchLabel_touches (n : Nat) (t : Task) (s : State) : Moves [.sent, .ctx, .lnk] s (fetchLabel n t s) := by
  unfold fetchLabel
  try dsimp only
  repeat' (first
    | with_reducible exact Moves.refl _ _
    | with_reducible assumption
    | (with_reducible apply Moves.step (startFetch_touches ..); decide +kernel)
    | (fail_if_no_progress with_reducible refine Moves.upd_sent (by decide +kernel) ?_)
    | (fail_if_no_progress with_reducible refine Moves.upd_ctx (by decide +kernel) ?_)
    | (fail_if_no_progress with_reducible refine Moves.upd_lnk (by decide +kernel) ?_)
    | (fail_if_no_progress with_reducible refine Moves.upd (h := ?_))
    | (dsimp only [id])
    | (split)
    | (intro _))

theorem opMediumFormat_touches (n : Nat) (s : State) : Moves [.regs, .sent, .evt, .ctx, .lnk] s (opMediumFormat n s) := by
  unfold opMediumFormat
  try dsimp only
  repeat' (first
    | with_reducible exact Moves.refl _ _
    | with_reducible assumption
    | (with_reducible apply Moves.step (fetchLabel_touches ..); decide +kernel)
    | (with_reducible apply beginTask_step; decide +kernel)
    | (with_reducible apply Moves.step (noteRefusal_touches ..); decide +kernel)
    | (with_reducible apply runAdmin_step; decide +kernel)
    | (fail_if_no_progress with_reducible refine Moves.upd_regs (by decide +kernel) ?_)
    | (fail_if_no_progress with_reducible refine Moves.upd_sent (by decide +kernel) ?_)
    | (fail_if_no_progress with_reducible refine Moves.upd_evt (by decide +kernel) ?_)
    | (fail_if_no_progress with_reducible refine Moves.upd_ctx (by decide +kernel) ?_)
    | (fail_if_no_progress with_reducible refine Moves.upd_lnk (by decide +kernel) ?_)
    | (fail_if_no_progress with_reducible refine Moves.upd (h := ?_))
    | (dsimp only [id])
    | (split)
    | (intro _))

theorem forgetTables_touches (d : Nat) (s : State) : Moves [.tables] s (forgetTables d s) := by
  unfold forgetTables
  try dsimp only
  repeat' (first
    | with_reducible exact Moves.refl _ _
    | with_reducible assumption
    | (fail_if_no_progress with_reducible refine Moves.upd_tables (by decide +kernel) ?_)
    | (fail_if_no_progress with_reducible refine Moves.upd (h := ?_))
    | (dsimp only [id])
    | (split)
    | (intro _))

theorem ejectGroup_touches (d : Nat) (s : State) : Moves [.sent, .evt, .tables, .shoe, .decks] s (ejectGroup d s) := by
  unfold ejectGroup
  try dsimp only
  repeat' (first
    | with_reducible exact Moves.refl _ _
    | with_reducible assumption
    | (with_reducible apply Moves.step (State.onDeck_touches ..); decide +kernel)
    | (with_reducible apply Moves.step (freeOwned_touches ..); decide +kernel)
    | (with_reducible apply Moves.step (forgetTables_touches ..); decide +kernel)
    | (with_reducible apply forEach_step)
    | (fail_if_no_progress with_reducible refine Moves.upd_sent (by decide +kernel) ?_)
    | (fail_if_no_progress with_reducible refine Moves.upd_evt (by decide +kernel) ?_)
    | (fail_if_no_progress with_reducible refine Moves.upd_tables (by decide +kernel) ?_)
    | (fail_if_no_progress with_reducible refine Moves.upd_decks (by decide +kernel) ?_)
    | (fail_if_no_progress with_reducible refine Moves.upd_shoe (by decide +kernel) rfl ?_)
    | (fail_if_no_progress with_reducible refine Moves.upd (h := ?_))
    | (dsimp only [id])
    | (split)
    | (intro _))

theorem endUnload_touches (d : Nat) (n : Nat) (q : Nat) (s : State) : Moves [.regs, .sent, .evt, .ctx, .tables, .shoe, .img, .decks] s (endUnload d n q s) := by
  unfold endUnload
  try dsimp only
  repeat' (first
    | with_reducible exact Moves.refl _ _
    | with_reducible assumption
    | (with_reducible apply Moves.step (finish_touches ..); decide +kernel)
    | (with_reducible apply Moves.step (endAdmin_touches ..); decide +kernel)
    | (with_reducible apply Moves.step (ejectGroup_touches ..); decide +kernel)
    | (with_reducible apply Moves.step (takeFormatEpoch_touches ..); decide +kernel)
    | (fail_if_no_progress with_reducible refine Moves.upd_regs (by decide +kernel) ?_)
    | (fail_if_no_progress with_reducible refine Moves.upd_sent (by decide +kernel) ?_)
    | (fail_if_no_progress with_reducible refine Moves.upd_evt (by decide +kernel) ?_)
    | (fail_if_no_progress with_reducible refine Moves.upd_ctx (by decide +kernel) ?_)
    | (fail_if_no_progress with_reducible refine Moves.upd_tables (by decide +kernel) ?_)
    | (fail_if_no_progress with_reducible refine Moves.upd_img (by decide +kernel) ?_)
    | (fail_if_no_progress with_reducible refine Moves.upd_decks (by decide +kernel) ?_)
    | (fail_if_no_progress with_reducible refine Moves.upd_shoe (by decide +kernel) rfl ?_)
    | (fail_if_no_progress with_reducible refine Moves.upd (h := ?_))
    | (dsimp only [id])
    | (split)
    | (intro _))

theorem readLead_touches (d : Nat) (n : Nat) (q : Nat) (s : State) : Moves [.sent, .evt, .decks, .pwr] s (readLead d n q s) := by
  unfold readLead
  try dsimp only
  repeat' (first
    | with_reducible exact Moves.refl _ _
    | with_reducible assumption
    | (with_reducible apply Moves.step (wantTape_touches ..); decide +kernel)
    | (with_reducible apply Moves.step (State.onDeck_touches ..); decide +kernel)
    | (with_reducible apply forEach_step)
    | (fail_if_no_progress with_reducible refine Moves.upd_sent (by decide +kernel) ?_)
    | (fail_if_no_progress with_reducible refine Moves.upd_evt (by decide +kernel) ?_)
    | (fail_if_no_progress with_reducible refine Moves.upd_decks (by decide +kernel) ?_)
    | (fail_if_no_progress with_reducible refine Moves.upd_pwr (by decide +kernel) ?_)
    | (fail_if_no_progress with_reducible refine Moves.upd (h := ?_))
    | (dsimp only [id])
    | (split)
    | (intro _))

theorem threadedNow_touches (d : Nat) (s : State) : Moves [.regs, .sent, .evt, .ctx, .tables, .shoe, .img, .decks, .pwr] s (threadedNow d s) := by
  unfold threadedNow
  try dsimp only
  repeat' (first
    | with_reducible exact Moves.refl _ _
    | with_reducible assumption
    | (with_reducible apply Moves.step (endUnload_touches ..); decide +kernel)
    | (with_reducible apply Moves.step (readLead_touches ..); decide +kernel)
    | (fail_if_no_progress with_reducible refine Moves.upd_regs (by decide +kernel) ?_)
    | (fail_if_no_progress with_reducible refine Moves.upd_sent (by decide +kernel) ?_)
    | (fail_if_no_progress with_reducible refine Moves.upd_evt (by decide +kernel) ?_)
    | (fail_if_no_progress with_reducible refine Moves.upd_ctx (by decide +kernel) ?_)
    | (fail_if_no_progress with_reducible refine Moves.upd_tables (by decide +kernel) ?_)
    | (fail_if_no_progress with_reducible refine Moves.upd_img (by decide +kernel) ?_)
    | (fail_if_no_progress with_reducible refine Moves.upd_decks (by decide +kernel) ?_)
    | (fail_if_no_progress with_reducible refine Moves.upd_pwr (by decide +kernel) ?_)
    | (fail_if_no_progress with_reducible refine Moves.upd_shoe (by decide +kernel) rfl ?_)
    | (fail_if_no_progress with_reducible refine Moves.upd (h := ?_))
    | (dsimp only [id])
    | (split)
    | (intro _))

theorem opSeat_touches (n : Nat) (s : State) : Moves [.tick, .regs, .sent, .evt, .ctx, .tables, .cut, .keys, .shoe, .mem, .decks, .lnk] s (opSeat n s) := by
  unfold opSeat
  try dsimp only
  repeat' (first
    | with_reducible exact Moves.refl _ _
    | with_reducible assumption
    | (with_reducible apply Moves.step (startFetch_touches ..); decide +kernel)
    | (with_reducible apply beginTask_step; decide +kernel)
    | (with_reducible apply Moves.step (seatTable_touches ..); decide +kernel)
    | (fail_if_no_progress with_reducible refine Moves.upd_tick (by decide +kernel) ?_)
    | (fail_if_no_progress with_reducible refine Moves.upd_regs (by decide +kernel) ?_)
    | (fail_if_no_progress with_reducible refine Moves.upd_sent (by decide +kernel) ?_)
    | (fail_if_no_progress with_reducible refine Moves.upd_evt (by decide +kernel) ?_)
    | (fail_if_no_progress with_reducible refine Moves.upd_ctx (by decide +kernel) ?_)
    | (fail_if_no_progress with_reducible refine Moves.upd_tables (by decide +kernel) ?_)
    | (fail_if_no_progress with_reducible refine Moves.upd_cut (by decide +kernel) ?_)
    | (fail_if_no_progress with_reducible refine Moves.upd_keys (by decide +kernel) ?_)
    | (fail_if_no_progress with_reducible refine Moves.upd_decks (by decide +kernel) ?_)
    | (fail_if_no_progress with_reducible refine Moves.upd_lnk (by decide +kernel) ?_)
    | (fail_if_no_progress with_reducible refine Moves.upd_shoe (by decide +kernel) rfl ?_)
    | (fail_if_no_progress with_reducible refine Moves.upd (h := ?_))
    | (dsimp only [id])
    | (split)
    | (intro _))

theorem opPartDelete_touches (n : Nat) (s : State) : Moves [.regs, .sent, .evt, .ctx, .tables, .decks, .pwr] s (opPartDelete n s) := by
  unfold opPartDelete
  try dsimp only
  repeat' (first
    | with_reducible exact Moves.refl _ _
    | with_reducible assumption
    | (with_reducible apply Moves.step (commence_touches ..); decide +kernel)
    | (with_reducible apply Moves.step (noteRefusal_touches ..); decide +kernel)
    | (with_reducible apply Moves.step (writeMedium_touches ..); decide +kernel)
    | (with_reducible apply runAdmin_step; decide +kernel)
    | (with_reducible apply beginTask_step; decide +kernel)
    | (with_reducible apply Moves.step (State.onTable_touches ..); decide +kernel)
    | (fail_if_no_progress with_reducible refine Moves.upd_regs (by decide +kernel) ?_)
    | (fail_if_no_progress with_reducible refine Moves.upd_sent (by decide +kernel) ?_)
    | (fail_if_no_progress with_reducible refine Moves.upd_evt (by decide +kernel) ?_)
    | (fail_if_no_progress with_reducible refine Moves.upd_ctx (by decide +kernel) ?_)
    | (fail_if_no_progress with_reducible refine Moves.upd_tables (by decide +kernel) ?_)
    | (fail_if_no_progress with_reducible refine Moves.upd_decks (by decide +kernel) ?_)
    | (fail_if_no_progress with_reducible refine Moves.upd_pwr (by decide +kernel) ?_)
    | (fail_if_no_progress with_reducible refine Moves.upd (h := ?_))
    | (dsimp only [id])
    | (split)
    | (intro _))

theorem setAdmin_touches (d : Nat) (w : AdminWork) (s : State) : Moves [.decks] s (setAdmin d w s) := by
  unfold setAdmin
  try dsimp only
  repeat' (first
    | with_reducible exact Moves.refl _ _
    | with_reducible assumption
    | (with_reducible apply Moves.step (State.onDeck_touches ..); decide +kernel)
    | (with_reducible apply forEach_step)
    | (fail_if_no_progress with_reducible refine Moves.upd_decks (by decide +kernel) ?_)
    | (fail_if_no_progress with_reducible refine Moves.upd (h := ?_))
    | (dsimp only [id])
    | (split)
    | (intro _))

theorem moveToStart_touches (d : Nat) (s : State) : Moves [.sent, .evt, .decks, .pwr] s (moveToStart d s) := by
  unfold moveToStart
  try dsimp only
  repeat' (first
    | with_reducible exact Moves.refl _ _
    | with_reducible assumption
    | (with_reducible apply Moves.step (leaveIdle_touches ..); decide +kernel)
    | (with_reducible apply Moves.step (State.onMotion_touches ..); decide +kernel)
    | (with_reducible apply forEach_step)
    | (fail_if_no_progress with_reducible refine Moves.upd_sent (by decide +kernel) ?_)
    | (fail_if_no_progress with_reducible refine Moves.upd_evt (by decide +kernel) ?_)
    | (fail_if_no_progress with_reducible refine Moves.upd_decks (by decide +kernel) ?_)
    | (fail_if_no_progress with_reducible refine Moves.upd_pwr (by decide +kernel) ?_)
    | (fail_if_no_progress with_reducible refine Moves.upd (h := ?_))
    | (dsimp only [id])
    | (split)
    | (intro _))

theorem opUnload_touches (n : Nat) (s : State) : Moves [.sent, .evt, .ctx, .decks, .pwr] s (opUnload n s) := by
  unfold opUnload
  try dsimp only
  repeat' (first
    | with_reducible exact Moves.refl _ _
    | with_reducible assumption
    | (with_reducible apply runAdmin_step; decide +kernel)
    | (with_reducible apply beginTask_step; decide +kernel)
    | (with_reducible apply Moves.step (commence_touches ..); decide +kernel)
    | (with_reducible apply Moves.step (setAdmin_touches ..); decide +kernel)
    | (with_reducible apply Moves.step (moveToStart_touches ..); decide +kernel)
    | (fail_if_no_progress with_reducible refine Moves.upd_sent (by decide +kernel) ?_)
    | (fail_if_no_progress with_reducible refine Moves.upd_evt (by decide +kernel) ?_)
    | (fail_if_no_progress with_reducible refine Moves.upd_ctx (by decide +kernel) ?_)
    | (fail_if_no_progress with_reducible refine Moves.upd_decks (by decide +kernel) ?_)
    | (fail_if_no_progress with_reducible refine Moves.upd_pwr (by decide +kernel) ?_)
    | (fail_if_no_progress with_reducible refine Moves.upd (h := ?_))
    | (dsimp only [id])
    | (split)
    | (intro _))

theorem opRewind_touches (n : Nat) (s : State) : Moves [.sent, .evt, .ctx, .decks, .pwr] s (opRewind n s) := by
  unfold opRewind
  try dsimp only
  repeat' (first
    | with_reducible exact Moves.refl _ _
    | with_reducible assumption
    | (with_reducible apply runAdmin_step; decide +kernel)
    | (with_reducible apply beginTask_step; decide +kernel)
    | (with_reducible apply Moves.step (commence_touches ..); decide +kernel)
    | (with_reducible apply Moves.step (setAdmin_touches ..); decide +kernel)
    | (with_reducible apply Moves.step (moveToStart_touches ..); decide +kernel)
    | (fail_if_no_progress with_reducible refine Moves.upd_sent (by decide +kernel) ?_)
    | (fail_if_no_progress with_reducible refine Moves.upd_evt (by decide +kernel) ?_)
    | (fail_if_no_progress with_reducible refine Moves.upd_ctx (by decide +kernel) ?_)
    | (fail_if_no_progress with_reducible refine Moves.upd_decks (by decide +kernel) ?_)
    | (fail_if_no_progress with_reducible refine Moves.upd_pwr (by decide +kernel) ?_)
    | (fail_if_no_progress with_reducible refine Moves.upd (h := ?_))
    | (dsimp only [id])
    | (split)
    | (intro _))

theorem opPartCreate_touches (n : Nat) (s : State) : Moves [.sent, .ctx, .lnk] s (opPartCreate n s) := by
  unfold opPartCreate
  try dsimp only
  repeat' (first
    | with_reducible exact Moves.refl _ _
    | with_reducible assumption
    | (with_reducible apply Moves.step (fetchLabel_touches ..); decide +kernel)
    | (with_reducible apply beginTask_step; decide +kernel)
    | (with_reducible apply runAdmin_step; decide +kernel)
    | (fail_if_no_progress with_reducible refine Moves.upd_sent (by decide +kernel) ?_)
    | (fail_if_no_progress with_reducible refine Moves.upd_ctx (by decide +kernel) ?_)
    | (fail_if_no_progress with_reducible refine Moves.upd_lnk (by decide +kernel) ?_)
    | (fail_if_no_progress with_reducible refine Moves.upd (h := ?_))
    | (dsimp only [id])
    | (split)
    | (intro _))

theorem opLoad_touches (n : Nat) (s : State) : Moves [.regs, .sent, .evt, .ctx, .tables, .shoe, .decks, .pwr] s (opLoad n s) := by
  unfold opLoad
  try dsimp only
  repeat' (first
    | with_reducible exact Moves.refl _ _
    | with_reducible assumption
    | (with_reducible apply runAdmin_step; decide +kernel)
    | (with_reducible apply Moves.step (readLead_touches ..); decide +kernel)
    | (with_reducible apply Moves.step (ejectGroup_touches ..); decide +kernel)
    | (with_reducible apply beginTask_step; decide +kernel)
    | (with_reducible apply Moves.step (commence_touches ..); decide +kernel)
    | (with_reducible apply Moves.step (clearAtLoad_touches ..); decide +kernel)
    | (with_reducible apply Moves.step (setAdmin_touches ..); decide +kernel)
    | (with_reducible apply forEach_step)
    | (fail_if_no_progress with_reducible refine Moves.upd_regs (by decide +kernel) ?_)
    | (fail_if_no_progress with_reducible refine Moves.upd_sent (by decide +kernel) ?_)
    | (fail_if_no_progress with_reducible refine Moves.upd_evt (by decide +kernel) ?_)
    | (fail_if_no_progress with_reducible refine Moves.upd_ctx (by decide +kernel) ?_)
    | (fail_if_no_progress with_reducible refine Moves.upd_tables (by decide +kernel) ?_)
    | (fail_if_no_progress with_reducible refine Moves.upd_decks (by decide +kernel) ?_)
    | (fail_if_no_progress with_reducible refine Moves.upd_pwr (by decide +kernel) ?_)
    | (fail_if_no_progress with_reducible refine Moves.upd_shoe (by decide +kernel) rfl ?_)
    | (fail_if_no_progress with_reducible refine Moves.upd (h := ?_))
    | (dsimp only [id])
    | (split)
    | (intro _))

theorem formatMedium_touches (n : Nat) (t : Task) (s : State) : Moves [.regs, .sent, .evt, .ctx, .tables, .decks, .pwr] s (formatMedium n t s) := by
  unfold formatMedium
  try dsimp only
  repeat' (first
    | with_reducible exact Moves.refl _ _
    | with_reducible assumption
    | (with_reducible apply Moves.step (commence_touches ..); decide +kernel)
    | (with_reducible apply Moves.step (forgetTables_touches ..); decide +kernel)
    | (with_reducible apply unlessRefused_step; decide +kernel)
    | (with_reducible apply Moves.step (writeMedium_touches ..); decide +kernel)
    | (fail_if_no_progress with_reducible refine Moves.upd_regs (by decide +kernel) ?_)
    | (fail_if_no_progress with_reducible refine Moves.upd_sent (by decide +kernel) ?_)
    | (fail_if_no_progress with_reducible refine Moves.upd_evt (by decide +kernel) ?_)
    | (fail_if_no_progress with_reducible refine Moves.upd_ctx (by decide +kernel) ?_)
    | (fail_if_no_progress with_reducible refine Moves.upd_tables (by decide +kernel) ?_)
    | (fail_if_no_progress with_reducible refine Moves.upd_decks (by decide +kernel) ?_)
    | (fail_if_no_progress with_reducible refine Moves.upd_pwr (by decide +kernel) ?_)
    | (fail_if_no_progress with_reducible refine Moves.upd (h := ?_))
    | (dsimp only [id])
    | (split)
    | (intro _))

end Sys2Proof.Machine
end

