-- ==== Sys2Proof/Laws/FramesHost.lean ====
section
/-! SUPPORT. What the operations of the host registers touch. -/

namespace Sys2Proof.Machine

set_option Elab.async false
set_option maxHeartbeats 4000000

theorem writeReset_touches (v : Sys2Proof.Word) (s : State) : Moves [.regs, .sent, .evt, .ctx, .tables, .cut, .shoe, .img, .decks, .loops, .traces, .lnk, .pwr] s (writeReset v s) := by
  unfold writeReset
  try dsimp only
  repeat' (first
    | with_reducible exact Moves.refl _ _
    | with_reducible assumption
    | (with_reducible apply Moves.step (opDeckReset_touches ..); decide +kernel)
    | (with_reducible apply Moves.step (opWarmReset_touches ..); decide +kernel)
    | (with_reducible apply forEach_step)
    | (fail_if_no_progress with_reducible refine Moves.upd_regs (by decide +kernel) ?_)
    | (fail_if_no_progress with_reducible refine Moves.upd_sent (by decide +kernel) ?_)
    | (fail_if_no_progress with_reducible refine Moves.upd_evt (by decide +kernel) ?_)
    | (fail_if_no_progress with_reducible refine Moves.upd_ctx (by decide +kernel) ?_)
    | (fail_if_no_progress with_reducible refine Moves.upd_tables (by decide +kernel) ?_)
    | (fail_if_no_progress with_reducible refine Moves.upd_cut (by decide +kernel) ?_)
    | (fail_if_no_progress with_reducible refine Moves.upd_img (by decide +kernel) ?_)
    | (fail_if_no_progress with_reducible refine Moves.upd_decks (by decide +kernel) ?_)
    | (fail_if_no_progress with_reducible refine Moves.upd_loops (by decide +kernel) ?_)
    | (fail_if_no_progress with_reducible refine Moves.upd_traces (by decide +kernel) ?_)
    | (fail_if_no_progress with_reducible refine Moves.upd_lnk (by decide +kernel) ?_)
    | (fail_if_no_progress with_reducible refine Moves.upd_pwr (by decide +kernel) ?_)
    | (fail_if_no_progress with_reducible refine Moves.upd_shoe (by decide +kernel) rfl ?_)
    | (fail_if_no_progress with_reducible refine Moves.upd (h := ?_))
    | (dsimp only [id])
    | (split)
    | (intro _))

theorem writeFields_touches (r : RegSpec) (off : Nat) (v : Sys2Proof.Word) (s : State) : Moves [.regs, .sent, .evt] s (writeFields r off v s) := by
  unfold writeFields
  try dsimp only
  repeat' (first
    | with_reducible exact Moves.refl _ _
    | with_reducible assumption
    | (with_reducible apply Moves.step (refuseWrite_touches ..); decide +kernel)
    | (with_reducible apply Moves.step (State.setReg_touches ..); decide +kernel)
    | (fail_if_no_progress with_reducible refine Moves.upd_regs (by decide +kernel) ?_)
    | (fail_if_no_progress with_reducible refine Moves.upd_sent (by decide +kernel) ?_)
    | (fail_if_no_progress with_reducible refine Moves.upd_evt (by decide +kernel) ?_)
    | (fail_if_no_progress with_reducible refine Moves.upd (h := ?_))
    | (dsimp only [id])
    | (split)
    | (intro _))

theorem writeField_touches (off : Nat) (f : Fld) (v : Sys2Proof.Word) (s : State) : Moves [.regs] s (writeField off f v s) := by
  unfold writeField
  try dsimp only
  repeat' (first
    | with_reducible exact Moves.refl _ _
    | with_reducible assumption
    | (with_reducible apply Moves.step (State.setFld_touches ..); decide +kernel)
    | (fail_if_no_progress with_reducible refine Moves.upd_regs (by decide +kernel) ?_)
    | (fail_if_no_progress with_reducible refine Moves.upd (h := ?_))
    | (dsimp only [id])
    | (split)
    | (intro _))

theorem writeMeterRing_touches (r : RegSpec) (off : Nat) (v : Sys2Proof.Word) (s : State) : Moves [.regs, .sent, .evt] s (writeMeterRing r off v s) := by
  unfold writeMeterRing
  try dsimp only
  repeat' (first
    | with_reducible exact Moves.refl _ _
    | with_reducible assumption
    | (with_reducible apply Moves.step (writeFields_touches ..); decide +kernel)
    | (with_reducible apply Moves.step (writeField_touches ..); decide +kernel)
    | (fail_if_no_progress with_reducible refine Moves.upd_regs (by decide +kernel) ?_)
    | (fail_if_no_progress with_reducible refine Moves.upd_sent (by decide +kernel) ?_)
    | (fail_if_no_progress with_reducible refine Moves.upd_evt (by decide +kernel) ?_)
    | (fail_if_no_progress with_reducible refine Moves.upd (h := ?_))
    | (dsimp only [id])
    | (split)
    | (intro _))

theorem keyPortCommand_touches (op : Nat) (s : State) : Moves [.regs, .sent, .evt, .ctx, .tables, .cut, .keys, .shoe, .lnk] s (keyPortCommand op s) := by
  unfold keyPortCommand
  try dsimp only
  repeat' (first
    | with_reducible exact Moves.refl _ _
    | with_reducible assumption
    | (with_reducible apply Moves.step (opKeyClearAll_touches ..); decide +kernel)
    | (with_reducible apply Moves.step (opKeyZeroise_touches ..); decide +kernel)
    | (with_reducible apply Moves.step (opKeyLoad_touches ..); decide +kernel)
    | (fail_if_no_progress with_reducible refine Moves.upd_regs (by decide +kernel) ?_)
    | (fail_if_no_progress with_reducible refine Moves.upd_sent (by decide +kernel) ?_)
    | (fail_if_no_progress with_reducible refine Moves.upd_evt (by decide +kernel) ?_)
    | (fail_if_no_progress with_reducible refine Moves.upd_ctx (by decide +kernel) ?_)
    | (fail_if_no_progress with_reducible refine Moves.upd_tables (by decide +kernel) ?_)
    | (fail_if_no_progress with_reducible refine Moves.upd_cut (by decide +kernel) ?_)
    | (fail_if_no_progress with_reducible refine Moves.upd_keys (by decide +kernel) ?_)
    | (fail_if_no_progress with_reducible refine Moves.upd_lnk (by decide +kernel) ?_)
    | (fail_if_no_progress with_reducible refine Moves.upd_shoe (by decide +kernel) rfl ?_)
    | (fail_if_no_progress with_reducible refine Moves.upd (h := ?_))
    | (dsimp only [id])
    | (split)
    | (intro _))

theorem writePark_touches (v : Sys2Proof.Word) (s : State) : Moves [.regs, .sent, .evt] s (writePark v s) := by
  unfold writePark
  try dsimp only
  repeat' (first
    | with_reducible exact Moves.refl _ _
    | with_reducible assumption
    | (with_reducible apply Moves.step (opParkRequest_touches ..); decide +kernel)
    | (with_reducible apply Moves.step (opParkRelease_touches ..); decide +kernel)
    | (fail_if_no_progress with_reducible refine Moves.upd_regs (by decide +kernel) ?_)
    | (fail_if_no_progress with_reducible refine Moves.upd_sent (by decide +kernel) ?_)
    | (fail_if_no_progress with_reducible refine Moves.upd_evt (by decide +kernel) ?_)
    | (fail_if_no_progress with_reducible refine Moves.upd (h := ?_))
    | (dsimp only [id])
    | (split)
    | (intro _))

theorem nvmCommand_touches (op : Nat) (s : State) : Moves [.regs, .sent, .evt, .nvm] s (nvmCommand op s) := by
  unfold nvmCommand
  try dsimp only
  repeat' (first
    | with_reducible exact Moves.refl _ _
    | with_reducible assumption
    | (with_reducible apply Moves.step (opNvmResume_touches ..); decide +kernel)
    | (with_reducible apply Moves.step (opNvmProgram_touches ..); decide +kernel)
    | (with_reducible apply Moves.step (opNvmSuspend_touches ..); decide +kernel)
    | (with_reducible apply Moves.step (opNvmErase_touches ..); decide +kernel)
    | (with_reducible apply Moves.step (opNvmMarginEv_touches ..); decide +kernel)
    | (with_reducible apply Moves.step (opNvmMarginPv_touches ..); decide +kernel)
    | (fail_if_no_progress with_reducible refine Moves.upd_regs (by decide +kernel) ?_)
    | (fail_if_no_progress with_reducible refine Moves.upd_sent (by decide +kernel) ?_)
    | (fail_if_no_progress with_reducible refine Moves.upd_evt (by decide +kernel) ?_)
    | (fail_if_no_progress with_reducible refine Moves.upd_nvm (by decide +kernel) rfl ?_)
    | (fail_if_no_progress with_reducible refine Moves.upd (h := ?_))
    | (dsimp only [id])
    | (split)
    | (intro _))

theorem slotOp_touches (op : Nat) (s : State) : Moves [.regs, .sent, .evt, .img, .nvm, .bytes, .lnk] s (slotOp op s) := by
  unfold slotOp
  try dsimp only
  repeat' (first
    | with_reducible exact Moves.refl _ _
    | with_reducible assumption
    | (with_reducible apply Moves.step (opRevoke_touches ..); decide +kernel)
    | (with_reducible apply Moves.step (opVerify_touches ..); decide +kernel)
    | (with_reducible apply Moves.step (opWriteSlot_touches ..); decide +kernel)
    | (fail_if_no_progress with_reducible refine Moves.upd_regs (by decide +kernel) ?_)
    | (fail_if_no_progress with_reducible refine Moves.upd_sent (by decide +kernel) ?_)
    | (fail_if_no_progress with_reducible refine Moves.upd_evt (by decide +kernel) ?_)
    | (fail_if_no_progress with_reducible refine Moves.upd_img (by decide +kernel) ?_)
    | (fail_if_no_progress with_reducible refine Moves.upd_lnk (by decide +kernel) ?_)
    | (fail_if_no_progress with_reducible refine Moves.upd_nvm (by decide +kernel) rfl ?_)
    | (fail_if_no_progress with_reducible refine Moves.upd (h := ?_))
    | (dsimp only [id])
    | (split)
    | (intro _))

theorem hostCommand_touches (v : Sys2Proof.Word) (s : State) : Moves [.tick, .regs, .sent, .evt, .shoe, .mem] s (hostCommand v s) := by
  unfold hostCommand
  try dsimp only
  repeat' (first
    | with_reducible exact Moves.refl _ _
    | with_reducible assumption
    | (with_reducible apply Moves.step (opHostChipFree_touches ..); decide +kernel)
    | (with_reducible apply Moves.step (opHostChipAllocate_touches ..); decide +kernel)
    | (fail_if_no_progress with_reducible refine Moves.upd_tick (by decide +kernel) ?_)
    | (fail_if_no_progress with_reducible refine Moves.upd_regs (by decide +kernel) ?_)
    | (fail_if_no_progress with_reducible refine Moves.upd_sent (by decide +kernel) ?_)
    | (fail_if_no_progress with_reducible refine Moves.upd_evt (by decide +kernel) ?_)
    | (fail_if_no_progress with_reducible refine Moves.upd_shoe (by decide +kernel) rfl ?_)
    | (fail_if_no_progress with_reducible refine Moves.upd (h := ?_))
    | (dsimp only [id])
    | (split)
    | (intro _))

theorem writePoolRange_touches (f : Pool → Pool) (s : State) : Moves [.sent, .evt, .shoe] s (writePoolRange f s) := by
  unfold writePoolRange
  try dsimp only
  repeat' (first
    | with_reducible exact Moves.refl _ _
    | with_reducible assumption
    | (with_reducible apply Moves.step (State.putPool_touches ..); decide +kernel)
    | (with_reducible apply Moves.step (raise_touches ..); decide +kernel)
    | (fail_if_no_progress with_reducible refine Moves.upd_sent (by decide +kernel) ?_)
    | (fail_if_no_progress with_reducible refine Moves.upd_evt (by decide +kernel) ?_)
    | (fail_if_no_progress with_reducible refine Moves.upd_shoe (by decide +kernel) rfl ?_)
    | (fail_if_no_progress with_reducible refine Moves.upd (h := ?_))
    | (dsimp only [id])
    | (split)
    | (intro _))

theorem ite_some_elim {c : Prop} [Decidable c] {x t : State} {y : Option State} {Q : Prop} (h : (if c then some x else y) = some t)
    (h1 : x = t → Q) (h2 : y = some t → Q) : Q := by
  split at h
  · injection h with h; exact h1 h
  · exact h2 h
theorem writeMem_touches {r : RegSpec} {off : Nat} {v : Word} {s t : State} (h : writeMem r off v s = some t) :
    Moves [.tick, .regs, .sent, .evt, .shoe, .mem, .img, .nvm, .bytes, .lnk] s t := by
  unfold writeMem at h
  refine ite_some_elim h (fun e => e ▸ (opPoolCfgWrite_touches ..).mono (by decide +kernel)) (fun h => ?_)
  refine ite_some_elim h (fun e => e ▸ (writePoolRange_touches ..).mono (by decide +kernel)) (fun h => ?_)
  refine ite_some_elim h (fun e => e ▸ (writePoolRange_touches ..).mono (by decide +kernel)) (fun h => ?_)
  refine ite_some_elim h (fun e => e ▸ (hostCommand_touches ..).mono (by decide +kernel)) (fun h => ?_)
  refine ite_some_elim h (fun e => e ▸ (opShoeWindowAccess_touches ..).mono (by decide +kernel)) (fun h => ?_)
  refine ite_some_elim h (fun e => e ▸ (opRegionCfgWrite_touches ..).mono (by decide +kernel)) (fun h => ?_)
  refine ite_some_elim h (fun e => e ▸ (opMicFill_touches ..).mono (by decide +kernel)) (fun h => ?_)
  refine ite_some_elim h (fun e => e ▸ (writePark_touches ..).mono (by decide +kernel)) (fun h => ?_)
  refine ite_some_elim h (fun e => e ▸ (opRdDelayWrite_touches ..).mono (by decide +kernel)) (fun h => ?_)
  refine ite_some_elim h (fun e => e ▸ (nvmCommand_touches ..).mono (by decide +kernel)) (fun h => ?_)
  refine ite_some_elim h (fun e => e ▸ (opWpSet_touches ..).mono (by decide +kernel)) (fun h => ?_)
  refine ite_some_elim h (fun e => e ▸ (opWpClr_touches ..).mono (by decide +kernel)) (fun h => ?_)
  refine ite_some_elim h (fun e => e ▸ (slotOp_touches ..).mono (by decide +kernel)) (fun h => ?_)
  cases h

theorem writeCtxControl_touches (n : Nat) (v : Sys2Proof.Word) (s : State) : Moves [.regs, .sent, .evt, .ctx, .tables, .pwr] s (writeCtxControl n v s) := by
  unfold writeCtxControl
  try dsimp only
  repeat' (first
    | with_reducible exact Moves.refl _ _
    | with_reducible assumption
    | (with_reducible apply Moves.step (opCtxReset_touches ..); decide +kernel)
    | (with_reducible apply Moves.step (writeField_touches ..); decide +kernel)
    | (fail_if_no_progress with_reducible refine Moves.upd_regs (by decide +kernel) ?_)
    | (fail_if_no_progress with_reducible refine Moves.upd_sent (by decide +kernel) ?_)
    | (fail_if_no_progress with_reducible refine Moves.upd_evt (by decide +kernel) ?_)
    | (fail_if_no_progress with_reducible refine Moves.upd_ctx (by decide +kernel) ?_)
    | (fail_if_no_progress with_reducible refine Moves.upd_tables (by decide +kernel) ?_)
    | (fail_if_no_progress with_reducible refine Moves.upd_pwr (by decide +kernel) ?_)
    | (fail_if_no_progress with_reducible refine Moves.upd (h := ?_))
    | (dsimp only [id])
    | (split)
    | (intro _))

theorem refuseAccess_touches (write : Bool) (addr : Nat) (tag : BitVec 16) (s : State) : Moves [.regs, .sent, .evt] s (refuseAccess write addr tag s) := by
  unfold refuseAccess
  try dsimp only
  repeat' (first
    | with_reducible exact Moves.refl _ _
    | with_reducible assumption
    | (with_reducible apply Moves.step (emit_touches ..); decide +kernel)
    | (with_reducible apply Moves.step (countMmioError_touches ..); decide +kernel)
    | (fail_if_no_progress with_reducible refine Moves.upd_regs (by decide +kernel) ?_)
    | (fail_if_no_progress with_reducible refine Moves.upd_sent (by decide +kernel) ?_)
    | (fail_if_no_progress with_reducible refine Moves.upd_evt (by decide +kernel) ?_)
    | (fail_if_no_progress with_reducible refine Moves.upd (h := ?_))
    | (dsimp only [id])
    | (split)
    | (intro _))

theorem frontEndCommand_touches (d : Nat) (op : Nat) (s : State) : Moves [.regs, .sent, .decks] s (frontEndCommand d op s) := by
  unfold frontEndCommand
  try dsimp only
  repeat' (first
    | with_reducible exact Moves.refl _ _
    | with_reducible assumption
    | (with_reducible apply Moves.step (hostAccess_touches ..); decide +kernel)
    | (fail_if_no_progress with_reducible refine Moves.upd_regs (by decide +kernel) ?_)
    | (fail_if_no_progress with_reducible refine Moves.upd_sent (by decide +kernel) ?_)
    | (fail_if_no_progress with_reducible refine Moves.upd_decks (by decide +kernel) ?_)
    | (fail_if_no_progress with_reducible refine Moves.upd (h := ?_))
    | (dsimp only [id])
    | (split)
    | (intro _))

theorem writeJasControl_touches (d : Nat) (v : Sys2Proof.Word) (s : State) : Moves [.regs, .sent, .evt, .ctx, .tables, .cut, .shoe, .decks, .loops, .lnk] s (writeJasControl d v s) := by
  unfold writeJasControl
  try dsimp only
  repeat' (first
    | with_reducible exact Moves.refl _ _
    | with_reducible assumption
    | (with_reducible apply Moves.step (opHoldWrite_touches ..); decide +kernel)
    | (with_reducible apply Moves.step (opJasStopRequest_touches ..); decide +kernel)
    | (with_reducible apply forEach_step)
    | (fail_if_no_progress with_reducible refine Moves.upd_regs (by decide +kernel) ?_)
    | (fail_if_no_progress with_reducible refine Moves.upd_sent (by decide +kernel) ?_)
    | (fail_if_no_progress with_reducible refine Moves.upd_evt (by decide +kernel) ?_)
    | (fail_if_no_progress with_reducible refine Moves.upd_ctx (by decide +kernel) ?_)
    | (fail_if_no_progress with_reducible refine Moves.upd_tables (by decide +kernel) ?_)
    | (fail_if_no_progress with_reducible refine Moves.upd_cut (by decide +kernel) ?_)
    | (fail_if_no_progress with_reducible refine Moves.upd_decks (by decide +kernel) ?_)
    | (fail_if_no_progress with_reducible refine Moves.upd_loops (by decide +kernel) ?_)
    | (fail_if_no_progress with_reducible refine Moves.upd_lnk (by decide +kernel) ?_)
    | (fail_if_no_progress with_reducible refine Moves.upd_shoe (by decide +kernel) rfl ?_)
    | (fail_if_no_progress with_reducible refine Moves.upd (h := ?_))
    | (dsimp only [id])
    | (split)
    | (intro _))

theorem writeTrace_touches (r : RegSpec) (off : Nat) (v : Sys2Proof.Word) (s : State) : Moves [.tick, .regs, .sent, .evt, .traces] s (writeTrace r off v s) := by
  unfold writeTrace
  try dsimp only
  repeat' (first
    | with_reducible exact Moves.refl _ _
    | with_reducible assumption
    | (with_reducible apply Moves.step (refuseWrite_touches ..); decide +kernel)
    | (with_reducible apply Moves.step (State.setReg_touches ..); decide +kernel)
    | (with_reducible apply Moves.step (opTraceFire_touches ..); decide +kernel)
    | (with_reducible apply Moves.step (opTraceArm_touches ..); decide +kernel)
    | (with_reducible apply forEach_step)
    | (fail_if_no_progress with_reducible refine Moves.upd_tick (by decide +kernel) ?_)
    | (fail_if_no_progress with_reducible refine Moves.upd_regs (by decide +kernel) ?_)
    | (fail_if_no_progress with_reducible refine Moves.upd_sent (by decide +kernel) ?_)
    | (fail_if_no_progress with_reducible refine Moves.upd_evt (by decide +kernel) ?_)
    | (fail_if_no_progress with_reducible refine Moves.upd_traces (by decide +kernel) ?_)
    | (fail_if_no_progress with_reducible refine Moves.upd (h := ?_))
    | (dsimp only [id])
    | (split)
    | (intro _))

theorem writeLnkCtrl_touches (d : Nat) (v : Sys2Proof.Word) (s : State) : Moves [.regs, .sent, .evt, .ctx, .tables, .cut, .shoe, .img, .decks, .loops, .lnk] s (writeLnkCtrl d v s) := by
  unfold writeLnkCtrl
  try dsimp only
  repeat' (first
    | with_reducible exact Moves.refl _ _
    | with_reducible assumption
    | (with_reducible apply Moves.step (opLinkRetrain_touches ..); decide +kernel)
    | (with_reducible apply Moves.step (opLinkEnableWrite_touches ..); decide +kernel)
    | (with_reducible apply forEach_step)
    | (fail_if_no_progress with_reducible refine Moves.upd_regs (by decide +kernel) ?_)
    | (fail_if_no_progress with_reducible refine Moves.upd_sent (by decide +kernel) ?_)
    | (fail_if_no_progress with_reducible refine Moves.upd_evt (by decide +kernel) ?_)
    | (fail_if_no_progress with_reducible refine Moves.upd_ctx (by decide +kernel) ?_)
    | (fail_if_no_progress with_reducible refine Moves.upd_tables (by decide +kernel) ?_)
    | (fail_if_no_progress with_reducible refine Moves.upd_cut (by decide +kernel) ?_)
    | (fail_if_no_progress with_reducible refine Moves.upd_img (by decide +kernel) ?_)
    | (fail_if_no_progress with_reducible refine Moves.upd_decks (by decide +kernel) ?_)
    | (fail_if_no_progress with_reducible refine Moves.upd_loops (by decide +kernel) ?_)
    | (fail_if_no_progress with_reducible refine Moves.upd_lnk (by decide +kernel) ?_)
    | (fail_if_no_progress with_reducible refine Moves.upd_shoe (by decide +kernel) rfl ?_)
    | (fail_if_no_progress with_reducible refine Moves.upd (h := ?_))
    | (dsimp only [id])
    | (split)
    | (intro _))

theorem writeDeck_touches {r : RegSpec} {off : Nat} {v : Sys2Proof.Word} {s : State} {t : State} (h : writeDeck r off v s = some t) : Moves [.tick, .regs, .sent, .evt, .ctx, .tables, .cut, .shoe, .img, .decks, .loops, .traces, .lnk] s t := by
  unfold writeDeck at h
  try dsimp only at h
  all_goals repeat' (first
    | (injection h with h; subst h)
    | (cases h; done)
    | (rw [Option.map_eq_some_iff] at h; obtain ⟨_, _, h⟩ := h; subst h)
    | split at h)
  all_goals repeat' (first
    | with_reducible exact Moves.refl _ _
    | with_reducible assumption
    | (with_reducible apply Moves.step (opCoefCommit_touches ..); decide +kernel)
    | (with_reducible apply Moves.step (frontEndCommand_touches ..); decide +kernel)
    | (with_reducible apply Moves.step (writeJasControl_touches ..); decide +kernel)
    | (with_reducible apply Moves.step (writeTrace_touches ..); decide +kernel)
    | (with_reducible apply Moves.step (writeLnkCtrl_touches ..); decide +kernel)
    | (fail_if_no_progress with_reducible refine Moves.upd_tick (by decide +kernel) ?_)
    | (fail_if_no_progress with_reducible refine Moves.upd_regs (by decide +kernel) ?_)
    | (fail_if_no_progress with_reducible refine Moves.upd_sent (by decide +kernel) ?_)
    | (fail_if_no_progress with_reducible refine Moves.upd_evt (by decide +kernel) ?_)
    | (fail_if_no_progress with_reducible refine Moves.upd_ctx (by decide +kernel) ?_)
    | (fail_if_no_progress with_reducible refine Moves.upd_tables (by decide +kernel) ?_)
    | (fail_if_no_progress with_reducible refine Moves.upd_cut (by decide +kernel) ?_)
    | (fail_if_no_progress with_reducible refine Moves.upd_img (by decide +kernel) ?_)
    | (fail_if_no_progress with_reducible refine Moves.upd_decks (by decide +kernel) ?_)
    | (fail_if_no_progress with_reducible refine Moves.upd_loops (by decide +kernel) ?_)
    | (fail_if_no_progress with_reducible refine Moves.upd_traces (by decide +kernel) ?_)
    | (fail_if_no_progress with_reducible refine Moves.upd_lnk (by decide +kernel) ?_)
    | (fail_if_no_progress with_reducible refine Moves.upd_shoe (by decide +kernel) rfl ?_)
    | (fail_if_no_progress with_reducible refine Moves.upd (h := ?_))
    | (dsimp only [id])
    | (split)
    | (intro _))

theorem writeSpCtrl_touches (v : Sys2Proof.Word) (s : State) : Moves [.regs, .sent, .evt] s (writeSpCtrl v s) := by
  unfold writeSpCtrl
  try dsimp only
  repeat' (first
    | with_reducible exact Moves.refl _ _
    | with_reducible assumption
    | (with_reducible apply Moves.step (opFreezeWrite_touches ..); decide +kernel)
    | (with_reducible apply Moves.step (opScorepadClear_touches ..); decide +kernel)
    | (fail_if_no_progress with_reducible refine Moves.upd_regs (by decide +kernel) ?_)
    | (fail_if_no_progress with_reducible refine Moves.upd_sent (by decide +kernel) ?_)
    | (fail_if_no_progress with_reducible refine Moves.upd_evt (by decide +kernel) ?_)
    | (fail_if_no_progress with_reducible refine Moves.upd (h := ?_))
    | (dsimp only [id])
    | (split)
    | (intro _))

theorem writeRouting_touches (f : SrcCfg → SrcCfg) (s : State) : Moves [.evt] s (writeRouting f s) := by
  unfold writeRouting
  try dsimp only
  repeat' (first
    | with_reducible exact Moves.refl _ _
    | with_reducible assumption
    | (with_reducible apply Moves.step (State.onEvt_touches ..); decide +kernel)
    | (fail_if_no_progress with_reducible refine Moves.upd_evt (by decide +kernel) ?_)
    | (fail_if_no_progress with_reducible refine Moves.upd (h := ?_))
    | (dsimp only [id])
    | (split)
    | (intro _))

theorem writeSecControl_touches (v : Sys2Proof.Word) (s : State) : Moves [.regs, .sent, .evt, .sec] s (writeSecControl v s) := by
  unfold writeSecControl
  try dsimp only
  repeat' (first
    | with_reducible exact Moves.refl _ _
    | with_reducible assumption
    | (with_reducible apply Moves.step (opCloseWindow_touches ..); decide +kernel)
    | (with_reducible apply Moves.step (refuseWrite_touches ..); decide +kernel)
    | (with_reducible apply Moves.step (opOpenDisarm_touches ..); decide +kernel)
    | (with_reducible apply Moves.step (opLeaveService_touches ..); decide +kernel)
    | (with_reducible apply Moves.step (opOpenArm_touches ..); decide +kernel)
    | (with_reducible apply Moves.step (opEnterService_touches ..); decide +kernel)
    | (fail_if_no_progress with_reducible refine Moves.upd_regs (by decide +kernel) ?_)
    | (fail_if_no_progress with_reducible refine Moves.upd_sent (by decide +kernel) ?_)
    | (fail_if_no_progress with_reducible refine Moves.upd_evt (by decide +kernel) ?_)
    | (fail_if_no_progress with_reducible refine Moves.upd_sec (by decide +kernel) ?_)
    | (fail_if_no_progress with_reducible refine Moves.upd (h := ?_))
    | (dsimp only [id])
    | (split)
    | (intro _))

theorem writePorts_touches (v : Sys2Proof.Word) (s : State) : Moves [.regs, .sent, .lnk] s (writePorts v s) := by
  unfold writePorts
  try dsimp only
  repeat' (first
    | with_reducible exact Moves.refl _ _
    | with_reducible assumption
    | (with_reducible apply Moves.step (opPortRetrain_touches ..); decide +kernel)
    | (with_reducible apply Moves.step (opPortEnableWrite_touches ..); decide +kernel)
    | (with_reducible apply Moves.step (writeField_touches ..); decide +kernel)
    | (with_reducible apply forEach_step)
    | (fail_if_no_progress with_reducible refine Moves.upd_regs (by decide +kernel) ?_)
    | (fail_if_no_progress with_reducible refine Moves.upd_sent (by decide +kernel) ?_)
    | (fail_if_no_progress with_reducible refine Moves.upd_lnk (by decide +kernel) ?_)
    | (fail_if_no_progress with_reducible refine Moves.upd (h := ?_))
    | (dsimp only [id])
    | (split)
    | (intro _))

theorem writeGlobal_touches {r : RegSpec} {off : Nat} {v : Sys2Proof.Word} {s : State} {t : State} (h : writeGlobal r off v s = some t) : Moves [.regs, .sent, .evt, .ctx, .tables, .cut, .keys, .shoe, .img, .decks, .loops, .traces, .lnk, .sec, .pwr] s t := by
  unfold writeGlobal at h
  try dsimp only at h
  all_goals repeat' (first
    | (injection h with h; subst h)
    | (cases h; done)
    | (rw [Option.map_eq_some_iff] at h; obtain ⟨_, _, h⟩ := h; subst h)
    | split at h)
  all_goals repeat' (first
    | with_reducible exact Moves.refl _ _
    | with_reducible assumption
    | (with_reducible apply Moves.step (writeSpCtrl_touches ..); decide +kernel)
    | (with_reducible apply Moves.step (writeRouting_touches ..); decide +kernel)
    | (with_reducible apply Moves.step (writeSecControl_touches ..); decide +kernel)
    | (with_reducible apply Moves.step (opWallWrite_touches ..); decide +kernel)
    | (with_reducible apply Moves.step (opSealEnableWrite_touches ..); decide +kernel)
    | (with_reducible apply Moves.step (writePorts_touches ..); decide +kernel)
    | (with_reducible apply Moves.step (writeReset_touches ..); decide +kernel)
    | (with_reducible apply Moves.step (opDebugLevelWrite_touches ..); decide +kernel)
    | (with_reducible apply Moves.step (writeMeterRing_touches ..); decide +kernel)
    | (fail_if_no_progress with_reducible refine Moves.upd_regs (by decide +kernel) ?_)
    | (fail_if_no_progress with_reducible refine Moves.upd_sent (by decide +kernel) ?_)
    | (fail_if_no_progress with_reducible refine Moves.upd_evt (by decide +kernel) ?_)
    | (fail_if_no_progress with_reducible refine Moves.upd_ctx (by decide +kernel) ?_)
    | (fail_if_no_progress with_reducible refine Moves.upd_tables (by decide +kernel) ?_)
    | (fail_if_no_progress with_reducible refine Moves.upd_cut (by decide +kernel) ?_)
    | (fail_if_no_progress with_reducible refine Moves.upd_keys (by decide +kernel) ?_)
    | (fail_if_no_progress with_reducible refine Moves.upd_img (by decide +kernel) ?_)
    | (fail_if_no_progress with_reducible refine Moves.upd_decks (by decide +kernel) ?_)
    | (fail_if_no_progress with_reducible refine Moves.upd_loops (by decide +kernel) ?_)
    | (fail_if_no_progress with_reducible refine Moves.upd_traces (by decide +kernel) ?_)
    | (fail_if_no_progress with_reducible refine Moves.upd_lnk (by decide +kernel) ?_)
    | (fail_if_no_progress with_reducible refine Moves.upd_sec (by decide +kernel) ?_)
    | (fail_if_no_progress with_reducible refine Moves.upd_pwr (by decide +kernel) ?_)
    | (fail_if_no_progress with_reducible refine Moves.upd_shoe (by decide +kernel) rfl ?_)
    | (fail_if_no_progress with_reducible refine Moves.upd (h := ?_))
    | (dsimp only [id])
    | (split)
    | (intro _))

theorem writeCtxKey_touches (n : Nat) (r : RegSpec) (v : Sys2Proof.Word) (s : State) : Moves [.regs, .sent, .evt, .tables] s (writeCtxKey n r v s) := by
  unfold writeCtxKey
  try dsimp only
  repeat' (first
    | with_reducible exact Moves.refl _ _
    | with_reducible assumption
    | (with_reducible apply Moves.step (writeFields_touches ..); decide +kernel)
    | (with_reducible apply Moves.step (setGuarantee_touches ..); decide +kernel)
    | (fail_if_no_progress with_reducible refine Moves.upd_regs (by decide +kernel) ?_)
    | (fail_if_no_progress with_reducible refine Moves.upd_sent (by decide +kernel) ?_)
    | (fail_if_no_progress with_reducible refine Moves.upd_evt (by decide +kernel) ?_)
    | (fail_if_no_progress with_reducible refine Moves.upd_tables (by decide +kernel) ?_)
    | (fail_if_no_progress with_reducible refine Moves.upd (h := ?_))
    | (dsimp only [id])
    | (split)
    | (intro _))

theorem writeCtx_touches {r : RegSpec} {off : Nat} {v : Sys2Proof.Word} {s : State} {t : State} (h : writeCtx r off v s = some t) : Moves [.regs, .sent, .evt, .accepted, .ctx, .tables, .cut, .keys, .shoe, .lnk, .pwr] s t := by
  unfold writeCtx at h
  try dsimp only at h
  all_goals repeat' (first
    | (injection h with h; subst h)
    | (cases h; done)
    | (rw [Option.map_eq_some_iff] at h; obtain ⟨_, _, h⟩ := h; subst h)
    | split at h)
  all_goals repeat' (first
    | with_reducible exact Moves.refl _ _
    | with_reducible assumption
    | (with_reducible apply Moves.step (writeCtxControl_touches ..); decide +kernel)
    | (with_reducible apply Moves.step (writeCtxKey_touches ..); decide +kernel)
    | (with_reducible apply Moves.step (opDoorbell_touches ..); decide +kernel)
    | (with_reducible apply Moves.step (opTaskRecordWrite_touches ..); decide +kernel)
    | (with_reducible apply Moves.step (opCtxConfigWrite_touches ..); decide +kernel)
    | (with_reducible apply Moves.step (opAbortRequest_touches ..); decide +kernel)
    | (with_reducible apply Moves.step (opEngineOffWrite_touches ..); decide +kernel)
    | (with_reducible apply Moves.step (State.onTable_touches ..); decide +kernel)
    | (with_reducible apply Moves.step (keyPortCommand_touches ..); decide +kernel)
    | (fail_if_no_progress with_reducible refine Moves.upd_regs (by decide +kernel) ?_)
    | (fail_if_no_progress with_reducible refine Moves.upd_sent (by decide +kernel) ?_)
    | (fail_if_no_progress with_reducible refine Moves.upd_evt (by decide +kernel) ?_)
    | (fail_if_no_progress with_reducible refine Moves.upd_accepted (by decide +kernel) ?_)
    | (fail_if_no_progress with_reducible refine Moves.upd_ctx (by decide +kernel) ?_)
    | (fail_if_no_progress with_reducible refine Moves.upd_tables (by decide +kernel) ?_)
    | (fail_if_no_progress with_reducible refine Moves.upd_cut (by decide +kernel) ?_)
    | (fail_if_no_progress with_reducible refine Moves.upd_keys (by decide +kernel) ?_)
    | (fail_if_no_progress with_reducible refine Moves.upd_lnk (by decide +kernel) ?_)
    | (fail_if_no_progress with_reducible refine Moves.upd_pwr (by decide +kernel) ?_)
    | (fail_if_no_progress with_reducible refine Moves.upd_shoe (by decide +kernel) rfl ?_)
    | (fail_if_no_progress with_reducible refine Moves.upd (h := ?_))
    | (dsimp only [id])
    | (split)
    | (intro _))

theorem writeWord_touches (off : Nat) (v : Word) (s : State) : Moves [.tick, .regs, .sent, .evt, .accepted, .ctx, .tables, .cut, .keys, .shoe, .mem, .img, .decks, .loops, .traces, .nvm, .bytes, .lnk, .sec, .pwr] s (writeWord off v s) := by
  unfold writeWord
  split
  · exact Moves.refl _ _
  · rename_i r hr
    cases h1 : writeCtx r off v s with
    | some t => exact (writeCtx_touches h1).mono (by decide +kernel)
    | none =>
      cases h2 : writeDeck r off v s with
      | some t => exact (writeDeck_touches h2).mono (by decide +kernel)
      | none =>
        cases h3 : writeMem r off v s with
        | some t => exact (writeMem_touches h3).mono (by decide +kernel)
        | none =>
          cases h4 : writeGlobal r off v s with
          | some t => exact (writeGlobal_touches h4).mono (by decide +kernel)
          | none => exact (writeFields_touches ..).mono (by decide +kernel)

theorem writeWords_touches (x0 : Nat) (x1 : List Sys2Proof.Word) (x2 : State) : Moves [.tick, .regs, .sent, .evt, .accepted, .ctx, .tables, .cut, .keys, .shoe, .mem, .img, .decks, .loops, .traces, .nvm, .bytes, .lnk, .sec, .pwr] x2 (writeWords x0 x1 x2) := by
  fun_induction writeWords x0 x1 x2 <;>
  (try dsimp only) <;>
  repeat' (first
    | with_reducible exact Moves.refl _ _
    | with_reducible assumption
    | (with_reducible apply Moves.step (writeWord_touches ..); decide +kernel)
    | (fail_if_no_progress with_reducible refine Moves.upd_tick (by decide +kernel) ?_)
    | (fail_if_no_progress with_reducible refine Moves.upd_regs (by decide +kernel) ?_)
    | (fail_if_no_progress with_reducible refine Moves.upd_sent (by decide +kernel) ?_)
    | (fail_if_no_progress with_reducible refine Moves.upd_evt (by decide +kernel) ?_)
    | (fail_if_no_progress with_reducible refine Moves.upd_accepted (by decide +kernel) ?_)
    | (fail_if_no_progress with_reducible refine Moves.upd_ctx (by decide +kernel) ?_)
    | (fail_if_no_progress with_reducible refine Moves.upd_tables (by decide +kernel) ?_)
    | (fail_if_no_progress with_reducible refine Moves.upd_cut (by decide +kernel) ?_)
    | (fail_if_no_progress with_reducible refine Moves.upd_keys (by decide +kernel) ?_)
    | (fail_if_no_progress with_reducible refine Moves.upd_img (by decide +kernel) ?_)
    | (fail_if_no_progress with_reducible refine Moves.upd_decks (by decide +kernel) ?_)
    | (fail_if_no_progress with_reducible refine Moves.upd_loops (by decide +kernel) ?_)
    | (fail_if_no_progress with_reducible refine Moves.upd_traces (by decide +kernel) ?_)
    | (fail_if_no_progress with_reducible refine Moves.upd_lnk (by decide +kernel) ?_)
    | (fail_if_no_progress with_reducible refine Moves.upd_sec (by decide +kernel) ?_)
    | (fail_if_no_progress with_reducible refine Moves.upd_pwr (by decide +kernel) ?_)
    | (fail_if_no_progress with_reducible refine Moves.upd_shoe (by decide +kernel) rfl ?_)
    | (fail_if_no_progress with_reducible refine Moves.upd_nvm (by decide +kernel) rfl ?_)
    | (fail_if_no_progress with_reducible refine Moves.upd (h := ?_))
    | (dsimp only [id])
    | (split)
    | (intro _)
    | (with_reducible refine Moves.trans ?_ (by with_reducible assumption)))

theorem opRegisterWrite_touches (addr : Nat) (words : List Sys2Proof.Word) (tag : BitVec 16) (s : State) : Moves [.tick, .regs, .sent, .evt, .accepted, .ctx, .tables, .cut, .keys, .shoe, .mem, .img, .decks, .loops, .traces, .nvm, .bytes, .lnk, .sec, .pwr] s (opRegisterWrite addr words tag s) := by
  unfold opRegisterWrite
  try dsimp only
  repeat' (first
    | with_reducible exact Moves.refl _ _
    | with_reducible assumption
    | (with_reducible apply Moves.step (writeWords_touches ..); decide +kernel)
    | (with_reducible apply Moves.step (refuseAccess_touches ..); decide +kernel)
    | (fail_if_no_progress with_reducible refine Moves.upd_tick (by decide +kernel) ?_)
    | (fail_if_no_progress with_reducible refine Moves.upd_regs (by decide +kernel) ?_)
    | (fail_if_no_progress with_reducible refine Moves.upd_sent (by decide +kernel) ?_)
    | (fail_if_no_progress with_reducible refine Moves.upd_evt (by decide +kernel) ?_)
    | (fail_if_no_progress with_reducible refine Moves.upd_accepted (by decide +kernel) ?_)
    | (fail_if_no_progress with_reducible refine Moves.upd_ctx (by decide +kernel) ?_)
    | (fail_if_no_progress with_reducible refine Moves.upd_tables (by decide +kernel) ?_)
    | (fail_if_no_progress with_reducible refine Moves.upd_cut (by decide +kernel) ?_)
    | (fail_if_no_progress with_reducible refine Moves.upd_keys (by decide +kernel) ?_)
    | (fail_if_no_progress with_reducible refine Moves.upd_img (by decide +kernel) ?_)
    | (fail_if_no_progress with_reducible refine Moves.upd_decks (by decide +kernel) ?_)
    | (fail_if_no_progress with_reducible refine Moves.upd_loops (by decide +kernel) ?_)
    | (fail_if_no_progress with_reducible refine Moves.upd_traces (by decide +kernel) ?_)
    | (fail_if_no_progress with_reducible refine Moves.upd_lnk (by decide +kernel) ?_)
    | (fail_if_no_progress with_reducible refine Moves.upd_sec (by decide +kernel) ?_)
    | (fail_if_no_progress with_reducible refine Moves.upd_pwr (by decide +kernel) ?_)
    | (fail_if_no_progress with_reducible refine Moves.upd_shoe (by decide +kernel) rfl ?_)
    | (fail_if_no_progress with_reducible refine Moves.upd_nvm (by decide +kernel) rfl ?_)
    | (fail_if_no_progress with_reducible refine Moves.upd (h := ?_))
    | (dsimp only [id])
    | (split)
    | (intro _))

theorem opUnassignedAccess_touches (write : Bool) (addr : Nat) (len : Nat) (tag : BitVec 16) (s : State) : Moves [.regs, .sent, .evt] s (opUnassignedAccess write addr len tag s) := by
  unfold opUnassignedAccess
  try dsimp only
  repeat' (first
    | with_reducible exact Moves.refl _ _
    | with_reducible assumption
    | (with_reducible apply Moves.step (refuseAccess_touches ..); decide +kernel)
    | (fail_if_no_progress with_reducible refine Moves.upd_regs (by decide +kernel) ?_)
    | (fail_if_no_progress with_reducible refine Moves.upd_sent (by decide +kernel) ?_)
    | (fail_if_no_progress with_reducible refine Moves.upd_evt (by decide +kernel) ?_)
    | (fail_if_no_progress with_reducible refine Moves.upd (h := ?_))
    | (dsimp only [id])
    | (split)
    | (intro _))

end Sys2Proof.Machine
end

