-- ==== Sys2Proof/WellFormed.lean ====
section
/-! DEFINITION. Which commands are well formed: the checks on operands whose types admit more than the spec's interface can
carry. -/

namespace Sys2Proof

/-- A command that the interface of the spec can carry: a register write of 1 to 56 words (R334), any access of a 52-bit ADDR, a flit of 256
bytes (R327), a completion of at most 4,096 bytes (R335), eight signal-quality figures (R314), a 1,024-byte page offset. -/
def Instr.wellFormed : Instr → Bool
  | .registerWrite addr words _ => decide (addr < 2 ^ 26) && decide (1 ≤ words.length) && decide (words.length ≤ 56)
  | .unassignedAccess _ addr len _ => decide (addr < 2 ^ 52) && decide (1 ≤ len) && decide (len ≤ 4096)
  | .slackMeasurement measured => decide (measured ≤ 511)
  | .sq _ _ figures => decide (figures.length = 8)
  | .flitReceive _ flit => decide (flit.length = 256)
  | .dmaCompletionReceive _ _ payload => decide (payload.length ≤ 4096)
  | .trickBegin _ _ left leftInWrap => decide (leftInWrap ≤ left)
  | _ => true

end Sys2Proof
end

