-- ==== Sys2Proof/Tests/Slice0.lean ====
section
/-! SUPPORT. Tests of the model on small states, and a state for every set of premises of a statement: each `witness_…` theorem
names states and operands that meet the premises of the statement of that name, clause by clause. -/

namespace Sys2Proof.Tests

open Sys2Proof Sys2Proof.Machine

set_option Elab.async false

/-! ### Small states -/

/-- The state after reset. -/
abbrev s0 : State := State.reset

/-- A task of an opcode, its record checked. -/
def taskOf (op : Nat) (rest : List Byte := []) : Task := { bytes := byte op :: rest, checked := true }

/-- Context 0 with one task that waits. -/
def waiting (op : Nat) (rest : List Byte := []) : State := s0.putCtx 0 { tasks := [taskOf op rest] }

/-- A state with a register written. -/
def withReg (o : Nat) (v : Word) (s : State := s0) : State := s.setReg o v

/-- A state with a field of a register written. -/
def withFld (o : Nat) (f : Fld) (v : Nat) (s : State := s0) : State := s.setFld o f v

/-- Deck 0 replaced, its link ACTIVE. -/
def deckActive (k : Deck) : State := withFld (Reg.dkLnkState 0) Fld.dkLnkStateState 2 (s0.putDeck 0 k)

/-- Context 0 bound to partition 0 of deck 0. -/
def boundTo0 (s : State) : State := withFld (Reg.ctxBind 0) Fld.ctxBindBound 1 s

/-- A task that may begin, its record checked. -/
theorem begins_of {s : State} {n op : Nat} {u : Task} (h : startable s n op = some u) (c : u.checked = true) : Begins s n op u := ⟨h, .inl c⟩

/-! ### Well-formedness: each check refuses a term that breaks it -/

theorem test_wellFormed_registerWrite :
    Instr.wellFormed (.registerWrite 0x40 [1] 0) = true ∧ Instr.wellFormed (.registerWrite (2 ^ 26) [1] 0) = false
    ∧ Instr.wellFormed (.registerWrite 0x40 [] 0) = false ∧ Instr.wellFormed (.registerWrite 0x40 (List.replicate 57 0) 0) = false := by
  decide +kernel
theorem test_wellFormed_unassignedAccess :
    Instr.wellFormed (.unassignedAccess true 5 4 0) = true ∧ Instr.wellFormed (.unassignedAccess true (2 ^ 52) 4 0) = false
    ∧ Instr.wellFormed (.unassignedAccess true 5 0 0) = false ∧ Instr.wellFormed (.unassignedAccess true 5 4097 0) = false := by decide +kernel
theorem test_wellFormed_slackMeasurement :
    Instr.wellFormed (.slackMeasurement 511) = true ∧ Instr.wellFormed (.slackMeasurement 512) = false := by decide +kernel
theorem test_wellFormed_sq :
    Instr.wellFormed (.sq 0 0 (List.replicate 8 0)) = true ∧ Instr.wellFormed (.sq 0 0 (List.replicate 7 0)) = false := by decide +kernel
theorem test_wellFormed_flitReceive :
    Instr.wellFormed (.flitReceive 0 (List.replicate 256 0)) = true ∧ Instr.wellFormed (.flitReceive 0 [0]) = false := by decide +kernel
theorem test_wellFormed_dmaCompletionReceive :
    Instr.wellFormed (.dmaCompletionReceive 0 0 []) = true
    ∧ Instr.wellFormed (.dmaCompletionReceive 0 0 (List.replicate 4097 0)) = false := by decide +kernel
theorem test_wellFormed_trickBegin :
    Instr.wellFormed (.trickBegin 0 0 5 5) = true ∧ Instr.wellFormed (.trickBegin 0 0 4 5) = false := by decide +kernel

/-! ### Worked examples and check values of the spec -/

/-- The nine ASCII bytes "123456789". -/
def digits : List Byte := [0x31, 0x32, 0x33, 0x34, 0x35, 0x36, 0x37, 0x38, 0x39]
theorem test_crc32c : crc32c digits = 0xE3069283 := by decide +kernel
theorem test_crc16 : crc16 digits = 0x29B1 := by decide +kernel
theorem test_crc24 : crc24 digits = 0x21CF02 := by decide +kernel
/-- The 64-byte ramp of chapter 04, one record that ends the block. -/
def ramp : Block := { data := (List.range 64).map byte, ends := [64], last := true }
theorem test_cutter_ramp :
    let b := codeBlock 1 ramp
    b.take 24 = [0xC7, 0xA1, 0x01, 0x44, 0, 0, 0, 0x40, 0, 0, 0, 0x33, 0, 1, 0x2A, 0, 0, 1, 0, 0, 0, 0, 0, 0]
    ∧ slice b 28 4 = [0, 0, 0, 0] ∧ slice b 32 32 = 0xC0 :: zeros 31 ∧ slice b 64 3 = [0x8F, 0xC0, 0x40]
    ∧ b.drop 67 = [0, 0xA4, 0xAB, 0xC0, 0x28, 0x86, 0x5F, 0xC0, 0, 0xA4, 0xAB, 0xC0, 0, 0xA4, 0xAB, 0xC0] := by decide +kernel
/-- The block of Table 04-6. -/
def rampBlock : List Byte :=
  [199, 161, 1, 68, 0, 0, 0, 64, 0, 0, 0, 51, 0, 1, 42, 0, 0, 1, 0, 0, 0, 0, 0, 0, 251, 109, 54, 235, 0, 0, 0, 0] ++ [0xC0] ++ zeros 31
  ++ [0x8F, 0xC0, 0x40, 0, 0xA4, 0xAB, 0xC0, 0x28, 0x86, 0x5F, 0xC0, 0, 0xA4, 0xAB, 0xC0, 0, 0xA4, 0xAB, 0xC0]
theorem test_cutter_ramp_decodes : (match decodeBlock [1] rampBlock with
    | .ok d => d.data == (List.range 64).map byte
    | .error _ => false) = true := by decide +kernel
theorem test_sealIv : sealIv 0x5EBA0001 0x1004 = [0x5E, 0xBA, 0, 1, 0, 0, 0, 0, 0, 0, 0x10, 0x04] := by decide +kernel
theorem test_sealAad : (sealAad [] 0x2800 0x0042000000070001) = [0, 0, 0x28, 0, 0, 0x42, 0, 0, 0, 7, 0, 1] := by decide +kernel
theorem test_trackKeys : trackKeys 0 2 = [0x0000000E, 0x000000FC] := by decide +kernel
theorem test_channelWord : channelWord 0 0x1000000F = bitsMsb 33 0x1BAAAAAA5 ∧ channelWord 0 0x234500FC = bitsMsb 33 0x189EFAA56 := by
  decide +kernel

/-! ### Premises: presence, security, tasks -/

/-- The security part of the reset state changed. -/
def withSec (f : SecUnit → SecUnit) : State := s0.onSec f

theorem witness_pressed : Live s0 ∧ s0.sec.button = false := by decide +kernel
theorem witness_stuck : let s := withSec (fun c => { c with button := true }); Live s ∧ s.sec.button = true ∧ s.sec.stuck = false := by
  decide +kernel
theorem witness_jumperOut : let s := withSec (fun c => { c with jumper := true }); Live s ∧ s.sec.jumper = true ∧ s.sec.window = false := by
  decide +kernel
theorem witness_jumperOutWindow : let s := withSec (fun c => { c with jumper := true, window := true })
    Live s ∧ s.sec.jumper = true ∧ s.sec.window = true := by decide +kernel
theorem witness_actionNoJumper : let s := withSec (fun c => { c with button := true, armed := true })
    Live s ∧ s.sec.button = true ∧ s.sec.armed = true ∧ s.sec.stuck = false ∧ s.sec.void = false ∧ s.sec.jumper = false := by decide +kernel
theorem witness_actionOpens : let s := withSec (fun c => { c with button := true, armed := true, jumper := true })
    Live s ∧ s.sec.button = true ∧ s.sec.armed = true ∧ s.sec.stuck = false ∧ s.sec.void = false ∧ s.sec.jumper = true ∧ s.sec.state ≠ 2
    ∧ s.sec.window = false := by decide +kernel
theorem witness_windowS : ∀ w ∈ [9, 10, 300, 301], let s := withFld Reg.secPresenceCfg Fld.secPresenceCfgWindowS w
    s.fld Reg.secPresenceCfg Fld.secPresenceCfgWindowS = w := by decide +kernel
theorem witness_window : let s := withSec (fun c => { c with window := true }); Live s ∧ s.sec.window = true ∧ s.sec.state = 0 := by decide +kernel
theorem witness_service : let s := withSec (fun c => { c with state := 1 }); Live s ∧ s.sec.state = 1 ∧ s.sec.debug ≠ 2 := by decide +kernel
theorem witness_serviceD2 : let s := withSec (fun c => { c with state := 1, debug := 2 }); Live s ∧ s.sec.state = 1 ∧ s.sec.debug = 2 := by
  decide +kernel
theorem witness_noWindow : Live s0 ∧ s0.sec.window = false := by decide +kernel
theorem witness_debugLower : let s := withSec (fun c => { c with debug := 2 })
    Live s ∧ s.sec.debug ≤ 3 ∧ (1 : BitVec 2).toNat < s.sec.debug ∧ s.sec.debug < 3 := by decide +kernel
theorem witness_debugStays : let s := withSec (fun c => { c with debug := 3 }); Live s ∧ s.sec.debug = 3 ∧ (2 : BitVec 2) ≠ 3 := by decide +kernel
theorem witness_debugRaise : ∀ st ∈ [(0, (1 : BitVec 2)), (1, 2), (3, 2)], let s := withSec (fun c => { c with window := true, state := st.1 })
    Live s ∧ s.sec.debug ≤ 3 ∧ s.sec.debug < st.2.toNat ∧ s.sec.window = true
    ∧ (st.2 = 1 ∧ s.sec.state ≠ 2 ∨ st.2 = 2 ∧ (s.sec.state = 1 ∨ s.sec.state = 3)) := by decide +kernel
theorem witness_debugForbidden : ∀ st ∈ [(2, (1 : BitVec 2)), (0, 2), (1, 3)], let s := withSec (fun c => { c with window := true, state := st.1 })
    Live s ∧ s.sec.debug ≤ 3 ∧ s.sec.debug < st.2.toNat ∧ s.sec.window = true
    ∧ (st.2 = 1 ∧ s.sec.state = 2 ∨ st.2 = 2 ∧ s.sec.state ≠ 1 ∧ s.sec.state ≠ 3 ∨ st.2 = 3 ∧ s.sec.state ≠ 3) := by decide +kernel
theorem witness_sealOn : let s := withFld Reg.secSeal Fld.secSealEnable 1; Live s ∧ s.flag Reg.secSeal Fld.secSealEnable = true := by decide +kernel
theorem witness_sealRun : let s := withSec (fun c => { c with matching := 1000 }); Live s ∧ 1000 ≤ s.sec.matching := by decide +kernel
theorem witness_sealOff : let s := (withFld Reg.secSeal Fld.secSealEnable 0).onSec (fun c => { c with window := true })
    Live s ∧ s.flag Reg.secSeal Fld.secSealEnable = false ∧ s.sec.window = true := by decide +kernel
theorem witness_tamper : let s := withSec (fun c => { c with mismatch := 3 }); Live s ∧ s.sec.state ≠ 2 ∧ 3 ≤ s.sec.mismatch := by decide +kernel
theorem witness_sealFault : let s := withSec (fun c => { c with sealFault := true }); Live s ∧ s.sec.state ≠ 2 ∧ s.sec.sealFault = true := by
  decide +kernel
theorem witness_acknowledge : ∀ r, let s := withSec (fun c => { c with state := 2, button := true, armed := true, jumper := true, restored := r })
    Live s ∧ s.sec.state = 2 ∧ s.sec.button = true ∧ s.sec.armed = true ∧ s.sec.stuck = false ∧ s.sec.void = false ∧ s.sec.jumper = true
    ∧ s.sec.restored = r := by decide +kernel

/-! ### Premises: task windows and tasks -/

theorem witness_recordWord : Live s0 ∧ s0.fld (Reg.tskStatus 0) Fld.tskStatusState ≠ 1 := by decide +kernel
theorem witness_recordPending : let s := withFld (Reg.tskStatus 0) Fld.tskStatusState 1; Live s ∧ s.fld (Reg.tskStatus 0) Fld.tskStatusState = 1 := by
  decide +kernel
theorem witness_abortPending : let s := withFld (Reg.tskAbortResult 0) Fld.tskAbortResultState 1
    Live s ∧ s.fld (Reg.tskAbortResult 0) Fld.tskAbortResultState = 1 := by decide +kernel
theorem witness_abortUnknown : Live s0 ∧ s0.fld (Reg.tskAbortResult 0) Fld.tskAbortResultState ≠ 1 ∧ ∀ u ∈ (s0.ctxAt 0).tasks, u.tag ≠ 7 := by
  decide +kernel
theorem witness_abortCommitted : let u : Task := { bytes := [1], committed := true }; let s := s0.putCtx 0 { tasks := [u] }
    Live s ∧ s.fld (Reg.tskAbortResult 0) Fld.tskAbortResultState ≠ 1
    ∧ (s.ctxAt 0).tasks.find? (fun u => u.tag == (0 : Word).toNat) = some u ∧ u.committed = true := by decide +kernel
theorem witness_abortCaught : let s := waiting 3
    Live s ∧ s.fld (Reg.tskAbortResult 0) Fld.tskAbortResultState ≠ 1
    ∧ (s.ctxAt 0).tasks.find? (fun u => u.tag == (0 : Word).toNat) = some (taskOf 3) ∧ (taskOf 3).unbegun = true ∧ (taskOf 3).opcode ≠ 1
    ∧ (taskOf 3).opcode ≠ 2 ∧ (s.ctxAt 0).reader = none ∧ (s.ctxAt 0).job = none := by decide +kernel
theorem witness_doorbellOff : Live s0 ∧ s0.fld (Reg.tskStatus 0) Fld.tskStatusState ≠ 1 ∧ s0.flag (Reg.ctxControl 0) Fld.ctxControlEnable = false := by
  decide +kernel
theorem witness_doorbellInReset : let s := withFld (Reg.ctxControl 0) Fld.ctxControlReset 1
    Live s ∧ s.flag (Reg.ctxControl 0) Fld.ctxControlReset = true := by decide +kernel
theorem witness_doorbellQuota : let s := withFld (Reg.ctxQuota 0) Fld.ctxQuotaMaxTasks 1 (waiting 4)
    Live s ∧ min 32768 (s.fld (Reg.ctxQuota 0) Fld.ctxQuotaMaxTasks) ≤ (s.ctxAt 0).tasks.length := by decide +kernel
theorem witness_doorbellTaken : let s := withFld (Reg.ctxQuota 0) Fld.ctxQuotaMaxTasks 1 (withFld (Reg.ctxControl 0) Fld.ctxControlEnable 1)
    Live s ∧ s.fld (Reg.tskStatus 0) Fld.tskStatusState ≠ 1 ∧ s.flag (Reg.ctxControl 0) Fld.ctxControlEnable ≠ false
    ∧ s.flag (Reg.ctxControl 0) Fld.ctxControlReset ≠ true
    ∧ ¬ min 32768 (s.fld (Reg.ctxQuota 0) Fld.ctxQuotaMaxTasks) ≤ (s.ctxAt 0).tasks.length ∧ totalInFlight s < 32768 ∧ s.pwr.entering = none
    ∧ s.flag (Reg.ctxDeferredStatus 0) Fld.ctxDeferredStatusPending = false := by decide +kernel
/-- Context 0 enabled, its quota 1, and tasks in context 1. -/
def othersHold (x : Task) (l : List Task) : State :=
  (withFld (Reg.ctxQuota 0) Fld.ctxQuotaMaxTasks 1 (withFld (Reg.ctxControl 0) Fld.ctxControlEnable 1)).putCtx 1 { tasks := x :: l }
theorem othersHold_count (x : Task) (l : List Task) : totalInFlight (othersHold x l) = l.length + 1 := rfl
theorem witness_doorbellFull : let s := othersHold {} (List.replicate 32767 {})
    Live s ∧ s.fld (Reg.tskStatus 0) Fld.tskStatusState ≠ 1 ∧ s.flag (Reg.ctxControl 0) Fld.ctxControlEnable ≠ false
    ∧ s.flag (Reg.ctxControl 0) Fld.ctxControlReset ≠ true
    ∧ ¬ min 32768 (s.fld (Reg.ctxQuota 0) Fld.ctxQuotaMaxTasks) ≤ (s.ctxAt 0).tasks.length ∧ 32768 ≤ totalInFlight s := by
  refine ⟨by decide +kernel, by decide +kernel, by decide +kernel, by decide +kernel, by decide +kernel, ?_⟩
  show 32768 ≤ totalInFlight (othersHold {} (List.replicate 32767 {}))
  rw [othersHold_count, List.length_replicate]
theorem witness_configBusy : let s := waiting 4; Live s ∧ (s.ctxAt 0).tasks ≠ [] := by decide +kernel
theorem witness_configIdle : Live s0 ∧ s0.flag (Reg.ctxControl 0) Fld.ctxControlEnable = false ∧ (s0.ctxAt 0).tasks = []
    ∧ CtxConfigReg.streamId ≠ .bind := by decide +kernel
theorem witness_configBind : ∀ b ∈ [0, 1], let s := withFld (Reg.ctxSeat 0) Fld.ctxSeatSeated b
    Live s ∧ s.flag (Reg.ctxControl 0) Fld.ctxControlEnable = false ∧ (s.ctxAt 0).tasks = [] ∧ seated s 0 = (b == 1) := by decide +kernel
theorem witness_ctxReset : let s := waiting 4
    Live s ∧ s.flag (Reg.ctxControl 0) Fld.ctxControlReset = false ∧ s.pwr.warm = none ∧ 4 ∉ s.pwr.wakeResets ∧ s.pwr.state ≠ 2
    ∧ seated s 0 = false := by decide +kernel
theorem witness_ctxResetDoze : let s := { s0 with pwr := { s0.pwr with state := 2 } }
    Live s ∧ s.flag (Reg.ctxControl 0) Fld.ctxControlReset = false ∧ s.pwr.warm = none ∧ 4 ∉ s.pwr.wakeResets ∧ s.pwr.state = 2 := by decide +kernel
theorem witness_ctxResetDone : let s := withFld (Reg.ctxControl 0) Fld.ctxControlReset 1
    Live s ∧ s.flag (Reg.ctxControl 0) Fld.ctxControlReset = true ∧ (s.ctxAt 0).tasks = [] ∧ (s.ctxAt 0).oldCutter = none
    ∧ 5 + 0 ∉ s.pwr.wakeResets := by decide +kernel
theorem witness_badRecord : let u : Task := { bytes := [4, 0x80] }; let s := s0.putCtx 0 { tasks := [u] }
    Live s ∧ startable s 0 4 = some u ∧ u.checked = false ∧ (checkRecord s 0 u).isSome = true := by decide +kernel
theorem witness_positionBound : let s := boundTo0 (waiting 8)
    Live s ∧ s.flag (Reg.ctxBind 0) Fld.ctxBindBound = true ∧ startable s 0 8 = some (taskOf 8) := by decide +kernel
theorem witness_positionUnbound : let s := waiting 8
    Live s ∧ s.flag (Reg.ctxBind 0) Fld.ctxBindBound = false ∧ startable s 0 8 = some (taskOf 8) := by decide +kernel
theorem witness_barrier : let u := taskOf 0x0A (zeros 7 ++ [1]); let s := waiting 0x0A (zeros 7 ++ [1])
    Live s ∧ startable s 0 0x0A = some u ∧ u.field 8 1 = 1 ∧ ∀ e ∈ s.ctx, ∀ x ∈ e.2.tasks, u.seq ≤ x.seq := by decide +kernel
theorem witness_meterRead : Live (waiting 0x0D) ∧ startable (waiting 0x0D) 0 0x0D = some (taskOf 0x0D) := by decide +kernel
/-- Every task row has a task that may begin with a checked record. -/
theorem witness_begins : ∀ op ∈ [1, 2, 3, 4, 5, 6, 7, 8, 9, 0x0A, 0x0B, 0x0C, 0x0D, 0x10, 0x11, 0x12, 0x13, 0x14, 0x15, 0x16, 0x17, 0x18, 0x19],
    Live (waiting op) ∧ startable (waiting op) 0 op = some (taskOf op) ∧ (taskOf op).checked = true := by decide +kernel
theorem witness_writeUnchecked : let u : Task := { bytes := 1 :: zeros 3 ++ [0] ++ zeros 11 ++ [1] ++ zeros 47 }
    let s := boundTo0 (s0.putCtx 0 { tasks := [u] })
    Live s ∧ startable s 0 1 = some u ∧ checkRecord s 0 u = none ∧ u.checked = false := by decide +kernel
/-- Deck 0 with partition 0 on a loaded cartridge, an image in force, and a task that waits. -/
def dataReady (op : Nat) : State :=
  let k : Deck := { present := true, cartridge := true, threaded := true, loaded := true, parts := [(0, (1, 4))], active := some 0 }
  let s := withFld (Reg.dkLnkState 0) Fld.dkLnkStateState 2 (boundTo0 (waiting op))
  let t := withFld (Reg.micHbmStatus 0) Fld.micHbmStatusTrained 1 (withFld (Reg.micHbmStatus 1) Fld.micHbmStatusTrained 1 s)
  { t.putDeck 0 k with img := { t.img with inForce := some {} } }.putTable 0 0 { known := true }
theorem witness_dataTask : ∀ op ∈ [2, 3, 4], let s := dataReady op
    Live s ∧ s.sec.state ≠ 2 ∧ startable s 0 op = some (taskOf op) ∧ dataReason s 0 op = none ∧ (enterTable 0 s).1 = true
    ∧ fullRefusal (enterTable 0 s).2 0 = none := by decide +kernel
theorem witness_pass : let s := withFld (Reg.ctxSeat 0) Fld.ctxSeatSeated 1 (dataReady 9)
    Live s ∧ startable s 0 9 = some (taskOf 9) ∧ dataReason s 0 9 = none ∧ (enterTable 0 s).1 = true := by decide +kernel
theorem witness_dataUnbound : ∀ op ∈ [2, 3, 4, 9], let s := waiting op
    Live s ∧ s.sec.state ≠ 2 ∧ startable s 0 op = some (taskOf op) ∧ dataReason s 0 op = some 1 := by decide +kernel
/-- A context whose oldest task is done. -/
def doneTask (c : Completion) (x : Context := {}) : State := s0.putCtx 0 { x with tasks := [{ taskOf 3 with stage := .done c }] }
theorem witness_completion : let s := doneTask {}
    Live s ∧ s.pwr.entering = none ∧ restoreOpcodes.contains (taskOf 3).opcode = false ∧ ringFull s 0 = false
    ∧ (s.ctxAt 0).abortWait = none ∧ (taskOf 3).notify = false ∧ s.flag (Reg.ctxRingCtrl 0) Fld.ctxRingCtrlNotifyAll = false := by decide +kernel
theorem witness_ringFull : let s := withReg (Reg.ctxRingTail 0) 16 (doneTask {})
    Live s ∧ s.pwr.entering = none ∧ ringFull s 0 = true ∧ (s.ctxAt 0).ringStall = false := by decide +kernel
theorem witness_carrier : let u := { taskOf 3 with carrier := true }; let s := s0.putCtx 0 { tasks := [u] }
    Live s ∧ (s.ctxAt 0).tasks = [u] ∧ u.carrier = true ∧ u.unbegun = true ∧ ringFull s 0 = false := by decide +kernel

/-! ### Premises: engines, blocks, host jobs -/

/-- The Cutter's part of the reset state. -/
def withCut (c : CutUnit) (s : State := s0) : State := { s with cut := c }
/-- Context 0 replaced. -/
def withCtx (c : Context) (s : State := s0) : State := s.putCtx 0 c

theorem witness_engineBusy : let s := withCut { busy := [(0, .write 0 0)] }; Live s ∧ engineBusy s 0 = true := by decide +kernel
theorem witness_engineOff : let s := withReg Reg.cutEngineOffLo 1; Live s ∧ engineOff s 0 = true := by decide +kernel
/-- A write block of context 0 that waits. -/
def oneBlock : State := withCut { writeQ := [.write 0 0] } (withCtx { blocks := [{ id := 0 }] })
theorem witness_enginePicks : Live oneBlock ∧ engineOff oneBlock 0 = false ∧ engineBusy oneBlock 0 = false
    ∧ (pickQueue (weights oneBlock) (liveQueues oneBlock).served
        (!(liveQueues oneBlock).writeQ.isEmpty, !(liveQueues oneBlock).restoreQ.isEmpty, !(liveQueues oneBlock).jobQ.isEmpty)).isSome = true := by
  decide +kernel
theorem witness_pickQueue : pickQueue (1, 0, 0) (0, 0, 0) (true, false, false) = some (0, (1, 0, 0))
    ∧ (pickQueue (0, 1, 0) (0, 0, 0) (true, true, false)).isSome = true ∧ (pickQueue (0, 0, 0) (0, 0, 0) (true, false, false)).isSome = true := by
  decide +kernel
/-- A block of one record that a flush closes. -/
def closing : State := withCtx { inq := [.data [1, 2] false 0, .endWrite 0, .flush 1], openLatch := some {} }
theorem witness_blockClose : Live closing ∧ (closing.ctxAt 0).epochDue = false ∧ (closing.ctxAt 0).openLatch ≠ none
    ∧ blockOpen (closing.ctxAt 0).inq = true ∧ (formWalk (ctxLimit closing 0) (ctxSpan closing 0) {} (closing.ctxAt 0).inq).isSome = true := by
  decide +kernel
theorem witness_blockCoded : let s := withCut { busy := [(0, .write 0 0)] } (withCtx { blocks := [{ id := 0 }] })
    Live s ∧ engineWork s 0 = some (.write 0 0) ∧ findBlock s 0 0 = some { id := 0 } := by decide +kernel
/-- The header and body of a block of one record of one byte. -/
def codedOne : List Byte := codeBlock 1 { data := [7], ends := [1], last := true }
/-- A READ whose block is on engine 0. -/
def decoding (bytes : List Byte) : State :=
  let s := withCut { busy := [(0, .restore 0)] } (withCtx { reader := some { opened := some bytes } })
  { s with img := { s.img with inForce := some {} } }
theorem witness_blockDecodes : let s := decoding codedOne
    Live s ∧ engineWork s 0 = some (.restore 0) ∧ (s.ctxAt 0).reader = some { opened := some codedOne }
    ∧ (decodeBlock (blockVersions s) codedOne).isOk = true := by decide +kernel
theorem witness_blockFails : let s := decoding []
    Live s ∧ engineWork s 0 = some (.restore 0) ∧ (s.ctxAt 0).reader = some { opened := some [] }
    ∧ (decodeBlock (blockVersions s) []).isOk = false := by decide +kernel
theorem witness_seal : let b : Block := { stage := .coded [1] }
    let s := withCtx { blocks := [b] } { s0 with shoe := { s0.shoe with pools := [(0, { count := 8, first := 0, cfg := poolBits 1 0 0, ready := true })] } }
    Live s ∧ failingHead (s.ctxAt 0) = none ∧ (s.ctxAt 0).blocks = [b] ∧ b.stage = .coded [1] ∧ ([1] : List Byte).length ≤ 262176 := by
  decide +kernel
theorem witness_blockOpen : let b : Sealed := { bytes := zeros 48 }; let r : Reader := { block := some b, key := some (0, zeros 32) }
    let s := withCtx { reader := some r }
    Live s ∧ (s.ctxAt 0).reader = some r ∧ r.block = some b ∧ r.key = some (0, zeros 32) ∧ r.opened = none := by decide +kernel
theorem witness_jobBegins : ∀ op ∈ [0x0B, 0x0C], Live (waiting op) ∧ (waiting op).sec.state ≠ 2
    ∧ startable (waiting op) 0 op = some (taskOf op) := by decide +kernel
theorem witness_jobCopy : let j : Job := { ready := true }; let s := withCtx { job := some j }
    Live s ∧ (s.ctxAt 0).job = some j ∧ j.ready = true := by decide +kernel
theorem witness_fetchResume : let s := withCtx { fetchStopped := true }; Live s ∧ (s.ctxAt 0).fetchStopped = true ∧ overChipQuota s 0 = false := by
  decide +kernel
theorem witness_poolResume :
    let s := { s0 with shoe := { s0.shoe with pools := [(0, { count := 8, cfg := poolBits 1 0 0, ready := true })] } }.putTable 0 63
      { poolWait := some (0, 1) }
    Live s ∧ (63 : Nat) < 64 ∧ 1 < poolFree s 0 ∧ (s.poolAt 0).ready = true ∧ s.ctx = [] ∧ (s.tableAt 0 63).poolWait = some (0, 1) := by
  decide +kernel

/-! ### Premises: the Dealer, seats, deck tasks -/

/-- Table 0 of deck 0, active. -/
def dealing (t : Table) : State := (s0.putDeck 0 { active := some 0 }).putTable 0 0 t
theorem witness_packItem : let s := dealing { items := [.flush 0 1, .sync 0 2] }
    Live s ∧ mayPack s 0 0 = true ∧ (s.tableAt 0 0).mode ≠ 2 ∧ (s.tableAt 0 0).items = [.flush 0 1, .sync 0 2] := by decide +kernel
theorem witness_fixedSeat : let t : Table := { mode := 2, plan := [(0, 2)], inTurn := true, turn := (0, 1) }; let s := dealing t
    Live s ∧ mayPack s 0 0 = true ∧ (s.tableAt 0 0).mode = 2 ∧ (s.tableAt 0 0).plan ≠ [] ∧ (s.tableAt 0 0).inTurn = true
    ∧ (s.tableAt 0 0).turn.1 < (s.tableAt 0 0).plan.length ∧ (s.tableAt 0 0).turn.2 ≠ 0
    ∧ passed (s.tableAt 0 0) (s.tableAt 0 0).turn.1 (s.tableAt 0 0).nextTrick = false := by decide +kernel
theorem witness_seatAlert : ∀ a, let s := withFld Reg.dlrSeatAlert Fld.dlrSeatAlertAlertMs 1 (dealing { waiting := some 0, alerted := a })
    Live s ∧ (s.tableAt 0 0).waiting = some 0 ∧ s.fld Reg.dlrSeatAlert Fld.dlrSeatAlertAlertMs ≠ 0 ∧ (s.tableAt 0 0).alerted = a := by
  decide +kernel
/-- Deck 0 with a threaded, loaded cartridge whose lead is known, its link ACTIVE, and a task that waits. -/
def deckReady (op : Nat) (rest : List Byte := []) : State :=
  let k : Deck := { present := true, cartridge := true, threaded := true, loaded := true, parts := [(0, (1, 4))], label := zeros 32 }
  let s := withFld (Reg.dkLnkState 0) Fld.dkLnkStateState 2 (withFld (Reg.dkLnkFeInfo 0) Fld.dkLnkFeInfoWraps 64 ((waiting op rest).putDeck 0 k))
  { s with img := { s.img with inForce := some {} }, sec := { s.sec with window := true } }
theorem witness_seatPlain : let s := deckReady 0x16; let u := taskOf 0x16
    Live s ∧ startable s 0 0x16 = some u ∧ u.checked = true := by decide +kernel
/-- A SEAT with a plan of one seat, its record not yet checked. -/
def seatPlan : Task := { bytes := 0x16 :: zeros 7 ++ [0, 0, 1, 0, 1, 0] ++ zeros 50 }
theorem witness_seatPlan : let s := (deckReady 0x16).putCtx 0 { tasks := [seatPlan] }
    Live s ∧ startable s 0 0x16 = some seatPlan ∧ checkRecord s 0 seatPlan = none ∧ seatPlan.checked = false ∧ seatPlan.field 10 1 ≠ 0 := by
  decide +kernel
theorem witness_deckTasks : let s := deckReady 0x11; let u := taskOf 0x11
    Live s ∧ groupQuiet s (u.field 8 1) = true ∧ owesEnd s (u.field 8 1) = false ∧ startable s 0 0x11 = some u
    ∧ moveRefusal 0 s (u.field 8 1) u = none := by decide +kernel
theorem witness_rewind : let s := deckReady 0x12; let u := taskOf 0x12
    Live s ∧ groupQuiet s 0 = true ∧ owesEnd s 0 = false ∧ startable s 0 0x12 = some u ∧ moveRefusal 0 s 0 u = none := by decide +kernel
theorem witness_load : let s := deckReady 0x10; let u := taskOf 0x10
    Live s ∧ groupQuiet s 0 = true ∧ owesEnd s 0 = false ∧ startable s 0 0x10 = some u ∧ loadRefusal 0 s 0 u = none := by decide +kernel
theorem witness_partCreate : let s := deckReady 0x13; let u := taskOf 0x13
    Live s ∧ groupQuiet s 0 = true ∧ owesEnd s 0 = false ∧ startable s 0 0x13 = some u ∧ createRefusal 0 s 0 u = none := by decide +kernel
theorem witness_mediumFormat : let s := deckReady 0x15; let u := taskOf 0x15
    Live s ∧ groupQuiet s 0 = true ∧ owesEnd s 0 = false ∧ startable s 0 0x15 = some u ∧ formatRefusal 0 s 0 u = none := by decide +kernel
theorem witness_partDelete : let s := deckReady 0x14; let u := taskOf 0x14
    Live s ∧ groupQuiet s 0 = true ∧ owesEnd s 0 = false ∧ startable s 0 0x14 = some u ∧ deleteRefusal 0 s 0 u = none := by decide +kernel

/-! ### Premises: tape, seeks -/

/-- Deck 0 replaced, in a group of its own, its link ACTIVE, its table's partition 0 known. -/
def onTape (k : Deck) (t : Table := { known := true }) : State := (deckActive { k with active := some 0 }).putTable 0 0 t
theorem witness_roundStarts : let s := onTape { rounds := [{ id := 1 }] }
    Live s ∧ mayWrite s 0 = true ∧ (s.deckAt 0).toWrite = none ∧ scriptOpen (s.deckAt 0) = false ∧ nextRound (s.deckAt 0) = some { id := 1 }
    ∧ (s.deckAt 0).left = none ∧ (s.deckAt 0).streamOpen = false := by decide +kernel
theorem witness_eodDue : let s := onTape { eodWritten := false }
    Live s ∧ mayWrite s 0 = true ∧ activePart s 0 = some 0 ∧ eodDue s 0 0 = true := by decide +kernel
theorem witness_trickWaits : let s := onTape { streamOpen := true }
    Live s0 ∧ writesOn s0 0 = false ∧ Live s ∧ writesOn s 0 = true ∧ (s.deckAt 0).motion.locked = false ∧ 0 ∈ groupOf s 0 := by decide +kernel
/-- Decks 0 and 1 dealt as one group, deck 0 alone locked and writing. -/
def dealtPair : State :=
  let s := (onTape { streamOpen := true, motion := { locked := true } }).putDeck 1 { present := true }
  { s with img := { s.img with deckImage := [(0, { format := garnetSection.set 16 2 })] } }
theorem witness_trickHeld : Live dealtPair ∧ writesOn dealtPair 0 = true ∧ (dealtPair.deckAt 0).motion.locked = true
    ∧ ∃ x ∈ groupOf dealtPair 0, (dealtPair.deckAt x).motion.locked = false := by decide +kernel
theorem witness_trickBegins : let s := onTape { streamOpen := true, motion := { locked := true }, fixed := some {}, needRunIn := false }
    let s1 := s.onDeck 0 (fun k => { k with left := some 1000, motion := { k.motion with tpc := 0 } })
    Live s ∧ writesOn s 0 = true ∧ (∀ x ∈ groupOf s 0, (s.deckAt x).motion.locked = true)
    ∧ (s.deckAt 0).writing = none ∧ (s.deckAt 0).fixed = some {} ∧ (s.deckAt 0).needRunIn = false ∧ closingReserve s1 0 + 1 ≤ 1000 := by
  decide +kernel
theorem witness_wrapWritten : let s := onTape { streamOpen := true, mode := 1, parts := [(0, (0, 2))] }
    Live s ∧ nextWrapInPart s 0 = true ∧ (s.deckAt 0).streamOpen = true ∧ (s.deckAt 0).mode = 1 ∧ (s.deckAt 0).writing = none
    ∧ allGraded s 0 = true ∧ nextWrapInPart s0 0 = false := by decide +kernel
theorem witness_wrapRead : let s := onTape { mode := 2, parts := [(0, (0, 2))] }
    Live s ∧ (s.deckAt 0).mode = 2 ∧ nextWrapInPart s 0 = true := by decide +kernel
theorem witness_facetWaits : let s := onTape { tape := [({}, 0)] }
    Live s ∧ (s.deckAt 0).tape[0 / (deckFmt s 0).slots]? = some ({}, 0) ∧ (0 : Nat) < (deckFmt s 0).nT
    ∧ receivedEnd (Sparse.get {} (s.deckAt 0).rx 0) < 0 + (0 % (deckFmt s 0).slots) * (deckFmt s 0).facetBits + (deckFmt s 0).facetBits + 33 := by
  decide +kernel
theorem witness_facetGraded : ∀ st ∈ [0, 2],
    let s := onTape { tape := [({}, 0)], rx := [(0, { base := 1000 })], tracks := [(0, { state := st })] }
    Live s ∧ (s.deckAt 0).tape[0 / (deckFmt s 0).slots]? = some ({}, 0) ∧ (trackAt (s.deckAt 0) 0).state = st
    ∧ 0 + (0 % (deckFmt s 0).slots) * (deckFmt s 0).facetBits + (deckFmt s 0).facetBits + 33 ≤ receivedEnd (Sparse.get {} (s.deckAt 0).rx 0) := by
  decide +kernel
/-- A deck that reads, with the channel bits of one facet on track 0. -/
def readingFacet (head : List Byte) (seen : List (Nat × Nat × Nat)) : State :=
  let body := head ++ zeros (4 * (fmtOf garnetSection).bodyWords - 12)
  onTape { mode := 2, rx := [(0, { bits := (facetChannel (fmtOf garnetSection) 0 body).map (fun b => (b, false)) })], seen := seen }
/-- The header of facet 0 of tile 0 of trick 5, with its CRC. -/
def goodHeader : List Byte := let h : List Byte := [0x10, 0, 0, 0, 0, 5, 0, 0, 0, byte (formatByte garnetSection)]; h ++ be 2 (crc16 h)
theorem witness_facetDecodes : let s := readingFacet goodHeader []
    Live s ∧ (s.deckAt 0).mode = 2 ∧ (s.deckAt 0).motion.target = none ∧ (s.deckAt 0).motion.pace ≠ 6
    ∧ (match nextSync (loadedFormats s 0) 0 (Sparse.get {} (s.deckAt 0).rx 0).bits with
      | some (_, _, body, _) => headerValid body
      | none => false) = true := by decide +kernel
theorem witness_facetPlaced : ∀ seen ∈ [[], [(0, 5, 0)]], let s := readingFacet (zeros 10 ++ [1, 1]) seen
    Live s ∧ (s.deckAt 0).mode = 2
    ∧ (match nextSync (loadedFormats s 0) 0 (Sparse.get {} (s.deckAt 0).rx 0).bits with
      | some (b, o, body, _) => !headerValid body && ((placeByPosition (fmtOf b) 0 (16 * 0 + o) seen).isSome == !seen.isEmpty)
      | none => false) = true := by decide +kernel
theorem witness_trickMissing : let s := onTape { mode := 2, nextDeliver := 3, found := [(4, 0)], readTo := 2100 }
    Live s ∧ (s.deckAt 0).admin = none ∧ (s.deckAt 0).mode = 2 ∧ (s.deckAt 0).nextDeliver ≤ (3 : BitVec 40).toNat
    ∧ (s.deckAt 0).ready (formatOfNext s (tableDeck s 0) 3) 3 = false ∧ (s.deckAt 0).past (formatOfNext s (tableDeck s 0) 3) 3 = true := by
  decide +kernel
theorem witness_retry : ∀ r ∈ [0, 8], let s := withFld (Reg.dkRestoreCtrl 0) Fld.dkRestoreCtrlRetries 1 (onTape { unrecovered := some 5, retry := r })
    Live s ∧ (s.deckAt 0).unrecovered = some 5 ∧ activePart s 0 = some 0 ∧ (s.deckAt 0).gaveUp = false
    ∧ ((s.deckAt 0).retry < retryLimit s 0 ↔ r = 0) := by decide +kernel
theorem witness_repositioned : ∀ a ∈ [none, some (AdminWork.rewind 0 0)], let s := onTape { motion := { pace := 5, target := some 0 }, admin := a }
    Live s ∧ (s.deckAt 0).motion.target.isSome = true ∧ (s.deckAt 0).motion.pace = 5 ∧ (s.deckAt 0).wanted = none ∧ (s.deckAt 0).admin = a
    ∧ groupOf s 0 = [0] := by decide +kernel
theorem witness_repositionedToRead : ∀ p ∈ [1, 5], let s := onTape { motion := { pace := p, target := some 7 }, wanted := some (2, 7) }
    Live s ∧ (s.deckAt 0).motion.target.isSome = true ∧ (s.deckAt 0).motion.pace = p ∧ (s.deckAt 0).wanted = some (2, 7) := by decide +kernel
theorem witness_seekBegins : ∀ op ∈ [6, 7], let s := dataReady op
    Live s ∧ startable s 0 op = some (taskOf op) ∧ restoreReason s 0 = none ∧ (taskOf op).opcode = op ∧ spaceRefusal s 0 (taskOf op) = none := by
  decide +kernel
theorem witness_spaceRefused : let u := taskOf 7 (zeros 15 ++ List.replicate 8 0xFF); let s := (dataReady 7).putCtx 0 { tasks := [u] }
    Live s ∧ startable s 0 7 = some u ∧ restoreReason s 0 = none ∧ u.opcode = 7 ∧ u.field 8 1 = 0 ∧ signed 64 (u.field 16 8) < 0
    ∧ (position s 0 : Int) < - signed 64 (u.field 16 8) := by decide +kernel
/-- A seek under way on a known table. -/
def seeking (op unit target : Nat) : State :=
  (dataReady op).putCtx 0 { tasks := [{ taskOf op (zeros 7 ++ [byte unit] ++ zeros 7 ++ [byte target]) with stage := .running }] }
theorem witness_seekUnderWay : ∀ x ∈ [(6, 0, 0), (6, 0, 1), (7, 2, 0), (7, 1, 1)], let s := seeking x.1 x.2.1 x.2.2
    Live s ∧ startable s 0 6 = none ∧ startable s 0 7 = none ∧ (s.tableAt (bindDeck s 0) (bindPart s 0)).known = true
    ∧ ((s.ctxAt 0).tasks.find? (fun y => decide (y.stage = .running) && (y.opcode == 6 || y.opcode == 7))).isSome = true := by decide +kernel
theorem witness_seekNeedsTape : let s := (seeking 7 0 1).putTable 0 0 { known := true, streams := [(0, { objects := 5 })] }
    Live s ∧ startable s 0 6 = none ∧ startable s 0 7 = none ∧ (s.tableAt (bindDeck s 0) (bindPart s 0)).known = true
    ∧ (s.ctxAt 0).tasks.all (fun t => t.opcode == 7 && decide (t.stage = .running) && (findTarget s 0 t).isNone) = true := by decide +kernel

/-! ### Staging registers -/

/-- A write of KEY_SALT stays in the staging register (R114). -/
theorem test_staging_takes_the_write : (applyWrite Reg.keySalt 0x1234 s0).reg Reg.keySalt = 0x1234 := by decide +kernel

/-! ### Premises: Jasper -/

theorem witness_noLane : Live s0 ∧ laneCarries s0 0 = false := by decide +kernel
theorem witness_lane : let s := onTape {}; Live s ∧ laneCarries s 0 = true := by decide +kernel
/-- A stage of a chain, by its type. -/
def stageOf (ty : Nat) : JStage := { type := ty }
theorem witness_paceSample : let s := (onTape { motion := { supplyCount := 32 } }).putLoop 0 0 { chain := [stageOf 6] }
    Live s ∧ (s.deckAt 0).motion.supplyCount = 32 ∧ tableDeck s 0 = 0 ∧ loopRuns s 0 0 = true ∧ (s0.deckAt 0).motion.supplyCount ≠ 32 := by
  decide +kernel
theorem witness_lateralLock : let s := onTape { motion := { lockRun := 64 }, needRunIn := false }
    Live s ∧ (s.deckAt 0).motion.lockRun = 64 ∧ (s.deckAt 0).motion.locked = false ∧ (s.deckAt 0).motion.gateOff = false
    ∧ (s.deckAt 0).needRunIn = false ∧ groupOf s 0 = [0] := by decide +kernel
theorem witness_lateralLockInGroup : let s := dealtPair.onMotion 0 (fun m => { m with locked := false, lockRun := 64 })
    Live s ∧ (s.deckAt 0).motion.lockRun = 64 ∧ (s.deckAt 0).motion.locked = false
    ∧ ∃ x ∈ groupOf s 0, x ≠ 0 ∧ (s.deckAt x).motion.locked = false := by decide +kernel
theorem witness_reversal : let s := onTape { motion := { pace := 6, tensionRun := 16 } }
    Live s ∧ (s.deckAt 0).motion.pace = 6 ∧ (s.deckAt 0).motion.tensionRun = 16 ∧ groupOf s 0 = [0] := by decide +kernel
theorem witness_discards : let s := onTape { motion := { discards := [(2, 8)] } }
    Live s ∧ (2, 8) ∈ (s.deckAt 0).motion.discards ∧ (s.deckAt 0).motion.motorFault = false := by decide +kernel
theorem witness_estop : Live s0 ∧ (s0.deckAt 0).estop = false := by decide +kernel
theorem witness_stopComplete : let s := onTape { motion := { stopping := true } }
    Live s ∧ (s.deckAt 0).motion.stopping = true ∧ (s.deckAt 0).resetAfterStop = false ∧ (s.deckAt 0).motorOffAfterStop = false
    ∧ (s.deckAt 0).disableAfterStop = false ∧ (s.deckAt 0).trainAfterStop = false ∧ s.pwr.warm = none := by decide +kernel
theorem witness_coefRefused : Live s0 ∧ (s0.loopAt 0 (s0.fld (Reg.jasCoefSel 0) Fld.jasCoefSelLoop)).chain[0]? = none
    ∧ s0.fld (Reg.jasCoefSel 0) Fld.jasCoefSelStage = 0 := by decide +kernel
theorem witness_coefCommit : ∀ h ∈ [0, 1], let s := withFld (Reg.jasControl 0) Fld.jasControlHold h (s0.putLoop 0 0 { chain := [stageOf 1] })
    Live s ∧ s.fld (Reg.jasCoefSel 0) Fld.jasCoefSelLoop = 0 ∧ s.fld (Reg.jasCoefSel 0) Fld.jasCoefSelStage = 0
    ∧ s.fld (Reg.jasCoefSel 0) Fld.jasCoefSelIndex = 0 ∧ (s.loopAt 0 0).chain[0]? = some (stageOf 1) ∧ 0 < coefCount 1 ∧ holdOnly 1 0 = false
    ∧ bitAt (s.fld (Reg.jasControl 0) Fld.jasControlHold) 0 = (h == 1) := by decide +kernel
theorem witness_holdWrite : let s := withFld (Reg.jasControl 0) Fld.jasControlHold 0xF s0
    Live s ∧ (∀ l ∈ [0, 1, 2, 3], bitAt (s.fld (Reg.jasControl 0) Fld.jasControlHold) l = true ∧ bitAt 0 l = false ∧ bitAt 15 l = true) := by
  decide +kernel
/-- A state at debug level D1 whose buffer 0 of deck 0 records, enabled. -/
def tracing (t : Trace) : State :=
  let s := withFld (Reg.jasTrTrig 0 0) Fld.jasTrTrigSource 3 (withFld (Reg.jasTrCtrl 0 0) Fld.jasTrCtrlEnable 1 (s0.putTrace 0 0 t))
  { s with sec := { s.sec with debug := 1 } }
theorem witness_trace : let s := tracing { recording := true }
    Live s ∧ 1 ≤ s.sec.debug ∧ awaitsTrigger s 0 0 = true ∧ sourceMatches s 0 0 .pin = true ∧ s0.sec.debug = 0 := by decide +kernel
theorem witness_traceDone : let s := tracing { recording := true, left := some 0 }
    Live s ∧ (s.traceAt 0 0).recording = true ∧ (s.traceAt 0 0).left = some 0 := by decide +kernel

/-! ### Premises: memory, pools, settings flash, image slots -/

theorem witness_cattrip : Live s0 ∧ (0 : Nat) ∉ s0.shoe.tripped := by decide +kernel
/-- Stack 0 trained. -/
def trained0 : State := withFld (Reg.micHbmStatus 0) Fld.micHbmStatusTrained 1
theorem witness_eccPoll : let s := trained0
    Live s ∧ s.flag (Reg.micHbmStatus 0) Fld.micHbmStatusTrained = true ∧ s.pwr.state < 3 ∧ (0 : Nat) ∉ s.shoe.tripped
    ∧ s.tap.ir.toNat ≠ 0x10 + 0 := by decide +kernel
theorem witness_regionCfg : Live trained0 ∧ poolOnStack trained0 0 = false ∧ selRegion trained0 = (0, 0)
    ∧ regionFits trained0 0 0 (regionBits 0x80000001) = true ∧ regionFits trained0 0 0 (regionBits 0x80000101) = false := by decide +kernel
/-- Region 0 of stack 0: one unit, STRONG where `code` is 1. -/
def oneRegion (code : Word := 0) : State :=
  let s := trained0
  { s with shoe := { s.shoe with regions := [(0, 0x80000001 ||| (code <<< 30))] } }
theorem witness_fill : ∀ n ∈ [1, 2], let s := oneRegion; let v : Word := putBits (putBits 0 Fld.micFillCountGo 1) Fld.micFillCountCount n
    Live s ∧ getBits v Fld.micFillCountGo = 1 ∧ s.shoe.fill = none ∧ (0 : Nat) ∉ s.shoe.tripped
    ∧ fillRefused s (s.fld Reg.micFillFirst Fld.micFillFirstIndex) (getBits v Fld.micFillCountCount) = false := by decide +kernel
theorem witness_fillRefused : let v : Word := putBits (putBits 0 Fld.micFillCountGo 1) Fld.micFillCountCount 1
    Live s0 ∧ getBits v Fld.micFillCountGo = 1 ∧ s0.shoe.fill = none ∧ (0 : Nat) ∉ s0.shoe.tripped
    ∧ fillRefused s0 (s0.fld Reg.micFillFirst Fld.micFillFirstIndex) (getBits v Fld.micFillCountCount) = true := by decide +kernel
theorem witness_fillComplete : let s : State := { s0 with shoe := { s0.shoe with fill := some (3, 1, 7) } }
    Live s ∧ s.shoe.fill = some (3, 1, 7) ∧ Sparse.wf (fun _ => (0 : Byte)) s.shoe.mem = true := by decide +kernel
/-- Pool 0 of these settings on the region. -/
def withPool (p : Pool) : State := oneRegion.putPool 0 p
theorem witness_poolOff : let s := withPool { count := 100 }
    Live s ∧ selPool s = 0 ∧ (s.poolAt 0).enabled = false ∧ poolFits s 0 { s.poolAt 0 with cfg := poolBits 1 0 0x80000000 } = true := by decide +kernel
theorem witness_poolMisfit : Live s0 ∧ selPool s0 = 0 ∧ (s0.poolAt 0).enabled = false
    ∧ poolFits s0 0 { s0.poolAt 0 with cfg := poolBits 1 0 0x80000000 } = false := by decide +kernel
theorem witness_poolReady : let s := withPool { cfg := 0x80000000, count := 100 }
    Live s ∧ (s.poolAt 0).enabled = true ∧ (s.poolAt 0).ready = false := by decide +kernel
theorem witness_hostChip : let s := withPool { cfg := 0xC0000000, count := 100, ready := true, cache := 99 }
    Live s ∧ (s.poolAt (selPool s)).enabled = true ∧ (s.poolAt (selPool s)).host = true ∧ (s.poolAt (selPool s)).ready = true
    ∧ 1 ≤ poolFree s (selPool s) := by decide +kernel
/-- Chip 5 held by the host, in a region. -/
def hostChip (code : Word := 0) (more : List Nat := []) : State :=
  let s := oneRegion code
  withReg Reg.shoWinSel (putBits 0 Fld.shoWinSelIndex 5) { s with shoe := { s.shoe with tags := [(5, { cls := 6, refs := 1 })], written := more } }
theorem witness_hostFree : Live (hostChip) ∧ chipTag (hostChip) 5 = some { cls := 6, refs := 1 } ∧ chipTag s0 5 = none := by decide +kernel
theorem witness_shoeWindow : let s := hostChip; let r := hostChip 0 [2048 * 5]
    Live s ∧ s.fld Reg.shoWinSel Fld.shoWinSelIndex = 5 ∧ chipTag s 5 = some { cls := 6, refs := 1 } ∧ stackServes s 5 = true
    ∧ Live r ∧ wordWritten r 5 0 = true ∧ hostWrote r 5 0 = true := by decide +kernel
theorem witness_polisher : let s := withFld Reg.micPolishCtrl Fld.micPolishCtrlEnable 1 (hostChip 1 [2048 * 5])
    Live s ∧ s.flag Reg.micPolishCtrl Fld.micPolishCtrlEnable = true ∧ s.pwr.state < 2 ∧ strongChip s 5 = true ∧ wordWritten s 5 0 = true
    ∧ stackServes s 5 = true := by decide +kernel
theorem witness_flashStart : let s := withReg (Reg.nvmWp 0) 0 (withFld Reg.nvmPark Fld.nvmParkParked 1)
    Live s ∧ nvmTarget s = (0, 0, 0) ∧ stewardOwned 0 0 = false ∧ parked s = true ∧ Sparse.find s.nvm.running 0 = none
    ∧ protectedSector s 0 0 = false ∧ Sparse.find s.nvm.suspended 0 = none ∧ suspendedSector s 0 0 = false := by decide +kernel
theorem witness_pageErased : let s := withReg (Reg.nvmWp 4) 0 (withFld Reg.nvmAddr Fld.nvmAddrBank 1)
    nvmTarget s = (1, 0, 0) ∧ protectedSector s 1 0 = false ∧ pageErased s 1 0 0 = true := by decide +kernel
/-- Bank B with this operation. -/
def flashRuns (b : Nat) (o : FlashOp) : State := { s0 with nvm := { s0.nvm with running := [(b, o)] } }
theorem witness_suspend : let s := withFld Reg.nvmAddr Fld.nvmAddrBank 1 (flashRuns 1 { op := 2 })
    Live s ∧ nvmTarget s = (1, 0, 0) ∧ stewardOwned 1 0 = false ∧ Sparse.find s.nvm.running 1 = some { op := 2 } := by decide +kernel
theorem witness_resume : let s := withFld Reg.nvmAddr Fld.nvmAddrBank 1 { s0 with nvm := { s0.nvm with suspended := [(1, { op := 2 })] } }
    Live s ∧ nvmTarget s = (1, 0, 0) ∧ stewardOwned 1 0 = false ∧ Sparse.find s.nvm.running 1 = none
    ∧ Sparse.find s.nvm.suspended 1 = some { op := 2 } := by decide +kernel
theorem witness_stewardOwned : nvmTarget (withFld Reg.nvmAddr Fld.nvmAddrSector 96) = (0, 96, 0) ∧ stewardOwned 0 96 = true := by decide +kernel
theorem witness_flashEnds : ∀ op ∈ [1, 2, 5, 6], Live (flashRuns 0 { op := op })
    ∧ Sparse.find (flashRuns 0 { op := op }).nvm.running 0 = some { op := op } ∧ (flashRuns 0 { op := op }).nvm.storing = none := by decide +kernel
theorem witness_storeEnds : let s : State := { s0 with nvm := { s0.nvm with running := [(1, { host := false })], storing := some (0, 0, { copy := 1 }, false) } }
    Live s ∧ Sparse.find s.nvm.running 1 = some { host := false } ∧ s.nvm.storing = some (0, 0, { copy := 1 }, false)
    ∧ s.nvm.storeWaits = false := by decide +kernel
theorem witness_storeStarts : let w := waiting 0x18; let s : State := { w with nvm := { w.nvm with settings := [{ copy := 0, seq := 1, valid := true }] } }
    Live s ∧ startable s 0 0x18 = some (taskOf 0x18) ∧ s.nvm.storing = none
    ∧ newestSettings s.nvm.settings = some { copy := 0, seq := 1, valid := true } ∧ Sparse.find s.nvm.running 1 = none
    ∧ Sparse.find s.nvm.suspended 1 = none := by decide +kernel
theorem witness_parking : let s := withFld Reg.nvmPark Fld.nvmParkRequest 1; let p := withFld Reg.nvmPark Fld.nvmParkParked 1
    Live s ∧ parked s = false ∧ s.flag Reg.nvmPark Fld.nvmParkRequest = true ∧ Sparse.find s.nvm.running 0 = none ∧ s.nvm.storing = none
    ∧ Live p ∧ parked p = true ∧ Sparse.find p.nvm.suspended 0 = none := by decide +kernel
/-- A presence window open. -/
def windowOpen (s : State := s0) : State := { s with sec := { s.sec with window := true } }
theorem witness_protection : Live (windowOpen) ∧ (windowOpen).window = true ∧ s0.window = false := by decide +kernel
theorem witness_flashReads : bankBusy s0 0 = false ∧ busFault s0 0 0 = false ∧ minDelay s0.pwr.band ≤ 15 ∧ 0 < minDelay s0.pwr.band
    ∧ bankBusy (flashRuns 0 { op := 2 }) 0 = true ∧ busFault (flashRuns 0 { op := 2 }) 0 0 = true := by decide +kernel
theorem witness_slotBusy : let s : State := { s0 with img := { s0.img with cmd := some (2, 1, (0, 4), []) } }
    Live s ∧ s.img.cmd = some (2, 1, (0, 4), []) ∧ s.nvm.storing = none := by decide +kernel
theorem witness_slotCommands : let s := withFld Reg.cfgSrcLen Fld.cfgSrcLenLen 64
    Live s ∧ s.img.cmd = none ∧ s.window = false ∧ (windowOpen s).window = true ∧ (windowOpen s).img.cmd = none
    ∧ (windowOpen s).fld Reg.cfgSrcLen Fld.cfgSrcLenLen ≠ 0 := by decide +kernel
theorem witness_activate : let s := waiting 0x19
    Live s ∧ startable s 0 0x19 = some (taskOf 0x19) ∧ activationRefusal s 0 = none ∧ slotImage s 0 = .ok garnetImage := by
  refine ⟨by decide +kernel, by decide +kernel, by decide +kernel, rfl⟩
theorem witness_slotBad : let s : State := let w := waiting 0x19 (zeros 7 ++ [1])
      { w with img := { approved := [(1, 4, 0)], written := [1] }, nvm := { w.nvm with bytes := [8, 9, 10, 11].map (fun i => (8388608 * (slotSectors 1).1 + 65536 * (slotSectors 1).2 + i, 0)) } }
    (match slotImage s 1 with
      | .error _ => true
      | .ok _ => false) = true ∧ activationRefusal s 1 = none ∧ startable s 0 0x19 = some (taskOf 0x19 (zeros 7 ++ [1])) := by decide +kernel
theorem witness_deckEpoch : let s : State := { s0 with img := { s0.img with deckPending := [0] } }
    Live s ∧ tableDeck s 0 = 0 ∧ (0 : Nat) ∈ s.img.deckPending ∧ (s.deckAt 0).active = none ∧ restoreUnderWay s 0 = false := by decide +kernel
theorem witness_cutterEpoch : let s := s0.putCtx 0 { epochDue := true }
    Live s ∧ (s.ctxAt 0).epochDue = true ∧ (s0.ctxAt 0).epochDue = false := by decide +kernel

/-! ### Premises: keys -/

theorem witness_keyLoad : Live s0 ∧ s0.sec.state ≠ 2 ∧ keyBusy s0 = false := by decide +kernel
/-- The core TAMPERED. -/
def tampered : State := { s0 with sec := { s0.sec with state := 2 } }
theorem witness_keyTampered : Live tampered ∧ tampered.sec.state = 2 ∧ keyRefusal tampered = some 1 := by decide +kernel
theorem witness_keyDone : let s := withFld Reg.keyStatus Fld.keyStatusBusy 1; Live s ∧ keyBusy s = true ∧ s.sec.state ≠ 2 := by decide +kernel

/-! ### Premises: deck link, ports, DMA -/

/-- Deck 0 present, its link enabled and in this state. -/
def linked (st : Nat) (k : Deck := {}) : State :=
  withFld (Reg.dkLnkCtrl 0) Fld.dkLnkCtrlEnable 1 (withFld (Reg.dkLnkState 0) Fld.dkLnkStateState st (s0.putDeck 0 { k with present := true }))
theorem witness_training : ∀ st ∈ [0, 1], let s := linked st
    Live s ∧ linkAllowed s 0 = true ∧ (s.deckAt 0).present = true ∧ linkState s 0 = st ∧ (s.deckAt 0).trainStep = 0
    ∧ (s.deckAt 0).motion.pace = 0 ∧ s.flag (Reg.dkLnkCtrl 0) Fld.dkLnkCtrlEnable = true ∧ s.loops = [] := by decide +kernel
theorem witness_trainStep : ∀ a ∈ [0, 3], let s := withFld (Reg.dkLnkState 0) Fld.dkLnkStateAttempt a (linked 1 { trainStep := 1 })
    Live s ∧ linkState s 0 = 1 ∧ (s.deckAt 0).trainStep = 1 ∧ s.fld (Reg.dkLnkState 0) Fld.dkLnkStateAttempt = a := by decide +kernel
theorem witness_linkFaulted : Live (linked 3) ∧ linkState (linked 3) 0 = 3 := by decide +kernel
/-- An idle frame of lane 0 with SEQ 0: the sync word, no content, the CRC. -/
def idleFrame : BitVec 1200 :=
  let l := bitsMsb 16 0xF628 ++ List.replicate 1160 false
  frameOf (scramble 0 (l ++ bitsMsb 24 (frameCrc l)))
theorem witness_frameGood : let s := linked 2 { feResetN := true }
    Live s ∧ (s.deckAt 0).feResetN = true ∧ frameGood (scramble 0 (frameBits idleFrame)) = true
    ∧ frameGood (scramble 0 (frameBits 0)) = false := by decide +kernel
theorem witness_laneLock : let s := linked 2 { laneRuns := [(3, (4, 0))] }
    Live s ∧ (laneRun s 0 3).1 = 4 ∧ laneLocked s 0 3 = false ∧ linkState s 0 = 2 := by decide +kernel
theorem witness_laneLoss : let s := withReg (Reg.dkLnkLock 0) 8 (linked 2 { laneRuns := [(3, (0, 8))] })
    Live s ∧ (laneRun s 0 3).2 = 8 ∧ laneLocked s 0 3 = true := by decide +kernel
theorem witness_records : let s := linked 2 { streamOpen := true, feAccess := some (1, false, 2, 0, 0, true), rxFrames := [(5, [(true, 0)])] }
    Live s ∧ laneCarries s 0 = true ∧ (s.deckAt 0).streamOpen = true ∧ (s.deckAt 0).admin = none ∧ linkState s 0 ≠ 1
    ∧ (s.deckAt 0).feAccess = some (1, false, 2, 0, 0, true) ∧ carriesColumn ((takeRecord 0 7 s).deckAt 0) 5 = true := by decide +kernel
/-- A deck whose write stream is open and whose next column is 4, with this limit. -/
def sending (lim : Word) : State :=
  linked 2 { streamOpen := true, consumed := 3, nextCol := 4, limit := lim, tape := [({ format := garnetSection }, 4)] }
theorem witness_columnSend : let s := sending 20
    Live s ∧ linkState s 0 = 2 ∧ (s.deckAt 0).streamOpen = true ∧ precedes (s.deckAt 0).consumed (s.deckAt 0).nextCol = true
    ∧ (columnTrick (s.deckAt 0) (s.deckAt 0).nextCol).isSome = true
    ∧ precedes (s.deckAt 0).nextCol (s.deckAt 0).limit = true ∧ precedes 4 ((sending 4).deckAt 0).limit = false := by decide +kernel
theorem witness_linkFaults : let s := linked 2 { streamOpen := true }
    Live s ∧ laneLocked s 0 3 = false ∧ linkState s 0 = 2 ∧ (s.deckAt 0).streamOpen = true ∧ (s.deckAt 0).present = true := by decide +kernel
theorem witness_linkDown : Live s0 ∧ laneLocked s0 0 3 = false ∧ linkState s0 0 ≠ 2 ∧ (s0.deckAt 0).present = false := by decide +kernel
theorem witness_controlLaneLocked : let s := withReg (Reg.dkLnkLock 0) 0x10000 (linked 2)
    Live s ∧ laneLocked s 0 3 = false ∧ linkState s 0 = 2 ∧ laneLocked s 0 16 = true ∧
    ((controlledStop 0 4 5 (raiseDeck 0 2 [word 1] ((setLinkState 0 3 s).setFld (Reg.dkLnkState 0) Fld.dkLnkStateCause 1))).deckAt 0).admin = none := by
  decide +kernel
/-- A deck that waits for the answer to a register access of its own, missed so many times. -/
def missed (n : Nat) : State := linked 2 { feAccess := some (1, false, 2, 0, n, false) }
theorem witness_registerMiss : Live (missed 0) ∧ linkState (missed 0) 0 = 2 ∧ ((missed 0).deckAt 0).feAccess = some (1, false, 2, 0, 0, false)
    ∧ Live (missed 1) ∧ linkState (missed 1) 0 = 2 ∧ ((missed 1).deckAt 0).feAccess = some (1, false, 2, 0, 1, false) :=
  ⟨rfl, by decide +kernel, rfl, rfl, by decide +kernel, rfl⟩
theorem witness_frontEnd : ∀ b ∈ [0, 1], let s := withFld (Reg.dkLnkFeCmd 0) Fld.dkLnkFeCmdBusy b (linked 2)
    Live s ∧ s.flag (Reg.dkLnkFeCmd 0) Fld.dkLnkFeCmdBusy = (b == 1) ∧ linkState s 0 = 2 ∧ (s.deckAt 0).feAccess = none
    ∧ (s.deckAt 0).feQueue = [] ∧ (s.deckAt 0).motion.pace = 0 := by decide +kernel
theorem witness_frontEndMoves : let s := linked 2 { motion := { pace := 3 } }
    Live s ∧ s.flag (Reg.dkLnkFeCmd 0) Fld.dkLnkFeCmdBusy = false ∧ linkState s 0 = 2 ∧ (s.deckAt 0).motion.pace ≠ 0 := by decide +kernel
/-- Port 0 in this state. -/
def portIs (st : Nat) (k : Port := {}) : State :=
  let s := withFld (Reg.lnkPortStatus 0) Fld.lnkPortStatusState st
  { s with lnk := { s.lnk with ports := [(0, k)] } }
theorem witness_flit : let s := portIs 2
    Live s ∧ portState s 0 = 2 ∧ (s.portAt 0).unacked = [] ∧ flitGood (sealFlit {} (zeros 240) 0 0) = true ∧ flitGood (zeros 256) = false := by decide +kernel
theorem witness_replay : ∀ n ∈ [0, 8], let s := portIs 2 { unacked := [zeros 240], txSeq := 1, replays := n, replayAlerted := true }
    Live s ∧ portState s 0 = 2 ∧ (s.portAt 0).unacked ≠ [] ∧ (s.portAt 0).replays = n ∧ (s.portAt 0).replayAlerted = true
    ∧ (s.portAt 0).replaySeq = (s.portAt 0).txSeq - byte (s.portAt 0).unacked.length := by decide +kernel
theorem witness_portDown : portState (portIs 0) 0 ≠ 2 ∧ portState (portIs 0) 0 ≠ 4 ∧ Live (portIs 0) := by decide +kernel
theorem witness_portActive : let s := withFld Reg.lnkCtrl Fld.lnkCtrlPortEn 1 (portIs 1)
    Live s ∧ portEnabled s 0 = true ∧ portState s 0 = 1 ∧ portEnabled (withFld Reg.lnkCtrl Fld.lnkCtrlPortEn 2 (portIs 1)) 0 = false := by decide +kernel
theorem witness_creditWait : ∀ l ∈ [[], [1]], let s := portIs 2 { waiting := [1 :: zeros 239], waitAlerted := l }
    Live s ∧ (s.portAt 0).waiting.any (fun b => flitClass b == 0 + 1) = true ∧ (s.portAt 0).credits.getD 0 0 = 0
    ∧ ((1 : Nat) ∈ (s.portAt 0).waitAlerted ↔ l = [1]) := by decide +kernel
theorem witness_dma : let s : State := { s0 with lnk := { s0.lnk with reads := [{ tag := 3, count := 2 }] } }
    Live s ∧ s.lnk.reads.find? (fun x => x.tag == 3) = some { tag := 3, count := 2 } ∧ s0.lnk.reads.find? (fun x => x.tag == 3) = none := by decide +kernel

/-! ### Premises: resets, power, islands, temperature -/

/-- The power unit replaced. -/
def powered (p : PwrUnit) (s : State := s0) : State := { s with pwr := p }
theorem witness_resets : let s := s0
    Live s ∧ warmAsked s = false ∧ s.pwr.state ≤ 1 ∧ Live (powered { state := 2 }) ∧ warmAsked (powered { state := 2 }) = false
    ∧ (powered { state := 2 }).pwr.state = 2 ∧ Live (powered { state := 3 }) ∧ warmAsked (powered { state := 2, wakeResets := [4] }) = true := by
  decide +kernel
/-- Both ports in one state. -/
def bothPorts (st : Nat) (s : State := s0) : State :=
  withFld (Reg.lnkPortStatus 0) Fld.lnkPortStatusState st (withFld (Reg.lnkPortStatus 1) Fld.lnkPortStatusState st s)
theorem witness_linkLoss : let s := bothPorts 6; let w := bothPorts 6 (powered { warm := some 4 }); let a := bothPorts 2
    Live s ∧ warmAsked s = false ∧ s.pwr.state ≤ 1 ∧ portState s 0 = 6 ∧ portState s 1 = 6 ∧ w.pwr.warm = some 4 ∧ portState w 0 = 6
    ∧ portState w 1 = 6 ∧ portState a 0 = 2 ∧ portState a 1 = 2 := by decide +kernel
theorem witness_coldReset : Live s0 ∧ s0.pwr.shutdown = false ∧ s0.pwr.coldAsked = false := by decide +kernel
/-- Context 0 with a POWER task for this state. -/
def powerTask (target : Nat) : State := waiting 0x17 (zeros 7 ++ [byte target])
theorem witness_power : ∀ t ∈ [0, 1, 2, 3], let s := powerTask t; let u := taskOf 0x17 (zeros 7 ++ [byte t])
    Live s ∧ startable s 0 0x17 = some u ∧ u.checked = true ∧ s.pwr.entering = none ∧ u.field 8 1 = t ∧ decksIdle s = true
    ∧ s.sec.debug < 2 ∧ allEarlierDone s u.seq = true := by decide +kernel
theorem witness_powerDebug : let s : State := { powerTask 2 with sec := { s0.sec with debug := 2 } }
    Live s ∧ 2 ≤ s.sec.debug ∧ startable s 0 0x17 = some (taskOf 0x17 (zeros 7 ++ [2])) ∧ s.pwr.entering = none := by decide +kernel
theorem witness_wakes : let d := powered { state := 2, sbWake := true }; let p := powered { state := 3, sbWake := true }
    Live d ∧ d.pwr.state = 2 ∧ d.pwr.sbWake = true ∧ d.pwr.wakeResets = [] ∧ 21 ∉ d.pwr.recovering ∧ (powered { state := 2 }).pwr.sbWake = false
    ∧ Live p ∧ p.pwr.state = 3 ∧ p.pwr.sbWake = true := by decide +kernel
theorem witness_powerFail : Live s0 ∧ s0.pwr.pfail = false ∧ (powered { pfail := true }).pwr.pfail = true ∧ railMayBeOff s0.pwr.state 4 = false
    ∧ railMayBeOff 2 4 = true := by decide +kernel
theorem witness_stall : Live s0 ∧ watchdogPaused s0 6 = false ∧ islandFaulted s0 6 = false ∧ islandFaulted (powered { recovering := [6] }) 6 = true
    ∧ watchdogPaused (powered { state := 2 }) 6 = true ∧ watchdogPaused (powered { recovering := [6] }) 6 = false := by decide +kernel
/-- An AVS request that the rule changes, after so many failures. -/
def avs (n : Nat) : State := withFld Reg.glbSlackStatus Fld.glbSlackStatusSustain 10 (powered { avsFails := n })
theorem witness_avs : ∀ n ∈ [0, 2], let s := avs n
    Live s ∧ s.pwr.state ≤ 1 ∧ 21 ∉ s.pwr.recovering ∧ s.flag Reg.glbAvsStatus Fld.glbAvsStatusFault = false
    ∧ evaluatedRequest s ≠ vddRequest s ∧ s.pwr.avsFails = n := by decide +kernel
theorem witness_avsQuiet : let s := withFld Reg.glbSlackStatus Fld.glbSlackStatusSustain 270 (withFld Reg.glbPaceTarget Fld.glbPaceTargetTarget 256)
    Live s ∧ evaluatedRequest s = vddRequest s ∧ s.pwr.avsFails = 0 := by decide +kernel
theorem witness_temperature : let low := withFld Reg.glbThermal Fld.glbThermalTherm 1
    Live s0 ∧ s0.flag Reg.glbThermal Fld.glbThermalTherm = false ∧ thermalWarn s0 ≤ (127 : BitVec 8).toInt
    ∧ Live low ∧ low.flag Reg.glbThermal Fld.glbThermalTherm = true ∧ (0 : BitVec 8).toInt < thermalWarn low - 5
    ∧ 115 ≤ (127 : BitVec 8).toInt ∧ s0.pwr.shutdown = false := by decide +kernel

/-! ### Premises: events, meters, access, TAP -/

theorem witness_imageEvent : let s : State := { s0 with img := { s0.img with inForce := some { eventMap := [(3, 1)] } } }
    Live s ∧ s.img.inForce = some { eventMap := [(3, 1)] } ∧ Sparse.find (Image.eventMap { eventMap := [(3, 1)] }) 3 = some 1
    ∧ Sparse.find (Image.eventMap { eventMap := [(3, 1)] }) 4 = none ∧ s0.img.inForce = none := by decide +kernel
theorem witness_scorepad : Live s0 ∧ frozen s0 = false ∧ frozen (withFld Reg.evtSpCtrl Fld.evtSpCtrlFreeze 1) = true ∧ (windowOpen).window = true
    ∧ parked s0 = false := by decide +kernel
theorem witness_persist : let s := raise 467 [] s0
    Live s ∧ parked s = false ∧ s.evt.toPersist ≠ [] ∧ s.evt.toPersist.length ≤ 7 ∧ s.evt.persistPage < 512 := by decide +kernel
theorem witness_notices : let s : State := { s0 with evt := { s0.evt with service := some (1, [7, 8], 2) } }
    let c : State := { s0 with evt := { s0.evt with chains := [(2, [[7, 8]])] } }
    Live s ∧ s.evt.service = some (1, [7, 8], 2) ∧ c.evt.service = none ∧ Sparse.get [] c.evt.chains 2 = [[7, 8]]
    ∧ Sparse.get [] c.evt.chains 0 = [] ∧ Sparse.get [] c.evt.chains 1 = [] ∧ Sparse.get [] s0.evt.chains 2 = [] := by decide +kernel
theorem witness_hours : let m := withFld Reg.evtMtrCtrl Fld.evtMtrCtrlEnable 1
    Live s0 ∧ 20 ∉ s0.pwr.recovering ∧ s0.window = false ∧ (windowOpen).window = true ∧ s0.evt.hours.toNat % 60 = 0
    ∧ s0.evt.hourPage < 512 ∧ m.flag Reg.evtMtrCtrl Fld.evtMtrCtrlEnable = true ∧ 20 ∈ (powered { recovering := [20] }).pwr.recovering
    ∧ (m.reg Reg.evtMtrTail - m.reg Reg.evtMtrHead).toNat + (activeContexts m).length ≤ 2 ^ meterLog m := by decide +kernel
theorem witness_metersFull : let m := withReg Reg.evtMtrTail 0xFFFFFFFF (withFld Reg.evtMtrCtrl Fld.evtMtrCtrlEnable 1)
    Live m ∧ 2 ^ meterLog m < (m.reg Reg.evtMtrTail - m.reg Reg.evtMtrHead).toNat + (activeContexts m).length := by decide +kernel
theorem witness_activeSecond : let s := waiting 3
    Live s ∧ 25 ∉ s.pwr.recovering ∧ s.pwr.state ≤ 1 ∧ Sparse.wf (fun _ => ({} : Context)) s.ctx = true ∧ (s.ctxAt 0).tasks ≠ [] := by decide +kernel
theorem witness_fieldAccess : Live s0 ∧ s0.pwr.state ≠ 3 ∧ accessFault Reg.evtWall 4 = false ∧ (findReg Reg.evtWall).isSome = true
    ∧ accessFault Reg.secRefused 4 = false ∧ accessFault 2 4 = true ∧ findReg 0x3FFFFFC = none := by decide +kernel
theorem witness_console : Live s0 ∧ s0.sec.debug = 0 ∧ ({ s0 with sec := { s0.sec with debug := 1 } } : State).sec.debug ≠ 0 := by decide +kernel
theorem witness_tapEdges : Live s0 ∧ tapNext s0.tap.fsm false ≠ 0 ∧ tapNext s0.tap.fsm true = 0 := by decide +kernel
/-- The TAP in this controller state, with this instruction shifted in. -/
def tapAt (fsm : Nat) (new : BitVec 8) (ir : BitVec 8 := 1) : State := { s0 with tap := { s0.tap with fsm := fsm, irShift := new, ir := ir } }
theorem witness_tapUpdate : Live (tapAt 15 1) ∧ (tapAt 15 1).tap.fsm = 15 ∧ tapHonoured (tapAt 15 1) 1 = true ∧ (1 : Nat) ∉ pinDriving
    ∧ tapHonoured (tapAt 15 0x30) 0x30 = false ∧ boundaryInstr 2 = true ∧ (tapAt 8 0 2).tap.fsm = 8 := by decide +kernel
theorem witness_tapPins : let s : State := { tapAt 15 3 with sec := { s0.sec with state := 1 } }
    Live s ∧ s.tap.fsm = 15 ∧ tapHonoured s 3 = true ∧ 3 ∈ pinDriving := by decide +kernel
theorem witness_tapWithdrawn : tapHonoured (tapAt 12 0 0x30) 0x30 = false ∧ tapHonoured s0 s0.tap.ir.toNat = true := by decide +kernel
theorem witness_scan : ({ s0 with tap := { s0.tap with scan := true } } : State).tap.scan = true := by decide +kernel
theorem witness_legal : Memory.wf s0 = true ∧ tapHonoured s0 s0.tap.ir.toNat = true := by decide +kernel

end Sys2Proof.Tests
end

section
/-! Fields and their access codes (R8, R10, Table 00-3): the register tables lay their fields apart, so a fold that puts a value into each
field can be read field by field; from that, what a write gives to each field of a register. -/

namespace Sys2Proof.Machine

/-! ### Fields that lie apart -/

/-- The bits of two fields of a register do not meet. -/
abbrev FieldSpec.Apart (f g : FieldSpec) : Prop := f.hi < g.lo ∨ g.hi < f.lo

theorem FieldSpec.Apart.symm {f g : FieldSpec} (h : f.Apart g) : g.Apart f := Or.symm h

/-- The field lies within a register of 32 bits (R6, R8). -/
abbrev FieldSpec.InWord (f : FieldSpec) : Prop := f.lo ≤ f.hi ∧ f.hi < 32

/-- The fields of the register lie within it and apart. -/
abbrev RegSpec.WellLaid (r : RegSpec) : Prop := (∀ f ∈ r.fields, f.InWord) ∧ r.fields.Pairwise FieldSpec.Apart

/-- The register tables of every chapter lay their fields apart. -/
theorem regTable_wellLaid : ∀ r ∈ regTable, r.WellLaid := by decide +kernel

theorem findReg_wellLaid {off : Nat} {r : RegSpec} (h : findReg off = some r) : r.WellLaid :=
  regTable_wellLaid r (List.mem_of_find?_eq_some h)

/-! ### A value put into each field -/

/-- One value put into each of the fields that satisfy `p`. -/
def putFields (p : FieldSpec → Bool) (value : FieldSpec → Nat) (fs : List FieldSpec) (w : Word) : Word :=
  fs.foldl (fun a f => if p f then putBits a f.fld (value f) else a) w

theorem putFields_cons (p : FieldSpec → Bool) (value : FieldSpec → Nat) (f : FieldSpec) (fs : List FieldSpec) (w : Word) :
    putFields p value (f :: fs) w = putFields p value fs (if p f then putBits w f.fld (value f) else w) := rfl

/-- A field apart from all those written keeps its value. -/
theorem getBits_putFields_of_apart (p : FieldSpec → Bool) (value : FieldSpec → Nat) {g : FieldSpec} (hg : g.InWord) (fs : List FieldSpec)
    (laid : ∀ f ∈ fs, f.InWord) (apart : ∀ f ∈ fs, g.Apart f) (w : Word) : getBits (putFields p value fs w) g.fld = getBits w g.fld := by
  induction fs generalizing w with
  | nil => rfl
  | cons f fs ih =>
    rw [List.forall_mem_cons] at laid apart
    rw [putFields_cons, ih laid.2 apart.2]
    split
    · exact getBits_putBits_other w f.fld g.fld _ laid.1.1 hg.1 hg.2 apart.1
    · rfl

/-- Of fields that lie apart, each reads the value put into it, and one passed over keeps its own. -/
theorem getBits_putFields_of_mem (p : FieldSpec → Bool) (value : FieldSpec → Nat) {g : FieldSpec} (fs : List FieldSpec)
    (laid : ∀ f ∈ fs, f.InWord) (apart : fs.Pairwise FieldSpec.Apart) (hg : g ∈ fs) (w : Word) :
    getBits (putFields p value fs w) g.fld = if p g then value g % 2 ^ g.fld.width else getBits w g.fld := by
  induction fs generalizing w with
  | nil => cases hg
  | cons f fs ih =>
    rw [List.forall_mem_cons] at laid
    rw [List.pairwise_cons] at apart
    rw [putFields_cons]
    rcases List.mem_cons.1 hg with rfl | hmem
    · rw [getBits_putFields_of_apart p value laid.1 fs laid.2 apart.1]
      split
      · exact getBits_putBits_same w g.fld _ laid.1.1 laid.1.2
      · rfl
    · rw [ih laid.2 apart.2 hmem]
      have hgw : g.InWord := laid.2 g hmem
      have keeps : getBits (if p f then putBits w f.fld (value f) else w) g.fld = getBits w g.fld := by
        split
        · exact getBits_putBits_other w f.fld g.fld _ laid.1.1 hgw.1 hgw.2 (apart.1 g hmem).symm
        · rfl
      rw [keeps]

/-! ### The value that a write gives to a field -/

/-- What an access code makes of a field's values fits the field again. -/
theorem writtenField_lt (f : FieldSpec) {old v n : Nat} (ho : old < 2 ^ n) (hv : v < 2 ^ n) : writtenField f old v < 2 ^ n := by
  unfold writtenField
  split
  · exact hv
  · exact hv
  · exact ho
  · split
    · exact ho
    · exact hv
  · exact (Nat.sub_le _ _).trans_lt ho
  · exact Nat.or_lt_two_pow ho hv

theorem writtenReg_eq_putFields (p : Acc → Bool) (r : RegSpec) (old v : Word) :
    writtenReg p r old v
      = putFields (fun f => p f.acc) (fun f => writtenField f (getBits old f.fld) (getBits v f.fld)) r.fields old := rfl

/-- Each field of a written register holds what its access code makes of the write, where that code acts (R8, R10). -/
theorem getBits_writtenReg (p : Acc → Bool) {r : RegSpec} (laid : r.WellLaid) {f : FieldSpec} (hf : f ∈ r.fields) (old v : Word) :
    getBits (writtenReg p r old v) f.fld
      = if p f.acc then writtenField f (getBits old f.fld) (getBits v f.fld) else getBits old f.fld := by
  rw [writtenReg_eq_putFields, getBits_putFields_of_mem _ _ _ laid.1 laid.2 hf]
  rw [Nat.mod_eq_of_lt (writtenField_lt f (getBits_lt ..) (getBits_lt ..))]

/-! ### A write by access codes alone -/

/-- The write `v` to the register `r` at `off` is refused its RWP fields: it would change one and the presence window is closed (R10). -/
def writeRefused (r : RegSpec) (off : Nat) (v : Word) (s : State) : Bool := changesRwp r (s.reg off) v && !s.window

theorem writeFields_of_not_refused {r : RegSpec} {off : Nat} {v : Word} {s : State} (h : writeRefused r off v s = false) :
    writeFields r off v s = s.setReg off (writtenReg (fun _ => true) r (s.reg off) v) := by
  unfold writeRefused at h
  simp [writeFields, h]

theorem writeFields_of_refused {r : RegSpec} {off : Nat} {v : Word} {s : State} (h : writeRefused r off v s = true) :
    writeFields r off v s = refuseWrite off (s.setReg off (writtenReg (fun a => decide (a ≠ .rwp)) r (s.reg off) v)) := by
  unfold writeRefused at h
  simp only [writeFields, h, if_true]

/-- A refusal changes no register but the count and the offset of refused writes (R344). -/
theorem reg_refuseWrite_ne {off o : Nat} (s : State) (h : o ≠ Reg.secRefused) (ha : o ≠ Reg.secRefusedAddr) :
    (refuseWrite off s).reg o = s.reg o := by
  rw [refuseWrite, raise_reg, State.reg_setFld_ne _ _ _ ha, State.addFld, State.reg_setFld_ne _ _ _ h]

/-- `t` is `s` but for the stored registers. -/
def RegsOnly (s t : State) : Prop := t = { s with regs := t.regs }

theorem RegsOnly.trans {s t u : State} (h : RegsOnly s t) (k : RegsOnly t u) : RegsOnly s u := by
  unfold RegsOnly at *
  rw [k, h]

theorem setReg_regsOnly (s : State) (o : Nat) (v : Word) : RegsOnly s (s.setReg o v) := rfl

theorem setFld_regsOnly (s : State) (o : Nat) (f : Fld) (v : Nat) : RegsOnly s (s.setFld o f v) := setReg_regsOnly ..

theorem addFld_regsOnly (s : State) (o : Nat) (f : Fld) (n : Nat) : RegsOnly s (s.addFld o f n) := setFld_regsOnly ..

/-- Beside the registers a refusal is event 418 with the offset (R344). -/
theorem refuseWrite_eq_raise {s t : State} (h : RegsOnly s t) (off : Nat) :
    refuseWrite off t = raise 418 [word off] { s with regs := (refuseWrite off t).regs } := by
  rw [refuseWrite, raise_regs]
  exact congrArg (raise 418 [word off]) ((h.trans (addFld_regsOnly ..)).trans (setFld_regsOnly ..))

/-- What a field holds after a write by access codes alone: a refusal leaves the RWP fields, the others act (R10). -/
theorem fld_writeFields {r : RegSpec} (laid : r.WellLaid) {f : FieldSpec} (hf : f ∈ r.fields) {off : Nat} (v : Word) (s : State)
    (hc : off ≠ Reg.secRefused) (ha : off ≠ Reg.secRefusedAddr) :
    (writeFields r off v s).fld off f.fld
      = if f.acc = .rwp ∧ writeRefused r off v s = true then s.fld off f.fld
        else writtenField f (s.fld off f.fld) (getBits v f.fld) := by
  cases h : writeRefused r off v s with
  | false =>
    rw [writeFields_of_not_refused h, State.fld, State.reg_setReg_same, getBits_writtenReg _ laid hf]
    simp [State.fld]
  | true =>
    rw [writeFields_of_refused h, State.fld, reg_refuseWrite_ne _ hc ha, State.reg_setReg_same, getBits_writtenReg _ laid hf]
    simp [State.fld]

/-! ### The command -/

/-- Where no rule gives the write an action of its own, a word is written by the access codes alone (R8). -/
theorem writeWord_of_no_action {off : Nat} {r : RegSpec} {v : Word} {s : State} (hr : findReg off = some r)
    (hno : (writeCtx r off v s <|> writeDeck r off v s <|> writeMem r off v s <|> writeGlobal r off v s) = none) :
    writeWord off v s = writeFields r off v s := by
  simp only [writeWord, hr, hno, Option.getD_none]

/-- A good write of one word outside SLEEP writes that word (R8, R334). -/
theorem exec_registerWrite_single {s : State} {off : Nat} (v : Word) (tag : BitVec 16) (hlive : Live s) (hpwr : s.pwr.state ≠ 3)
    (hgood : accessFault off 4 = false) : exec (.registerWrite off [v] tag) s = .next (withdrawTap (writeWord off v s)) := by
  change run (opRegisterWrite off [v] tag) s = _
  rw [run_of_scan_false hlive]
  simp [opRegisterWrite, hpwr, hgood, writeWords]

/-- Settles O49: the word is written by access codes alone, the register table lays its fields apart, so each field holds what its own code
makes of the write. -/
theorem fieldsFollowTheirAccessCodes : Obligations.FieldsFollowTheirAccessCodes := by
  intro s off v tag r f hlive hpwr hgood hr hf hno hc ha old new refused
  refine ⟨writeFields r off v s, ?_, ?_, fun (h : writeRefused r off v s = false) => ?_, fun (h : writeRefused r off v s = true) => ?_⟩
  · rw [exec_registerWrite_single v tag hlive hpwr hgood, writeWord_of_no_action hr hno]
  · have hfld := fld_writeFields (findReg_wellLaid hr) hf v s hc ha
    rw [hfld]
    cases hacc : f.acc <;> simp [writtenField, hacc, old, new, refused, writeRefused]
  · rw [writeFields_of_not_refused h]
    exact ⟨fun o ho => State.reg_setReg_ne s _ (List.ne_of_not_mem_cons ho), setReg_regsOnly ..⟩
  · rw [writeFields_of_refused h]
    refine ⟨fun o ho => ?_, refuseWrite_eq_raise (setReg_regsOnly ..) off⟩
    simp only [List.mem_cons, List.not_mem_nil, or_false, not_or] at ho
    rw [reg_refuseWrite_ne _ ho.2.1 ho.2.2, State.reg_setReg_ne s _ ho.1]

end Sys2Proof.Machine
end

section
/-! The data path's islands, voltage and pace, and the temperature (R18 to R27, R373, R421 to R424): which fields and registers each of their
operations writes, what it answers in each of its cases, and that it leaves the rest. -/

namespace Sys2Proof.Machine

/-! ### Registers outside a list -/

theorem SameRegsBut.refl (l : List Nat) (s : State) : SameRegsBut l s s := fun _ _ => rfl

theorem SameRegsBut.trans {l : List Nat} {s t u : State} (h : SameRegsBut l s t) (k : SameRegsBut l t u) : SameRegsBut l s u :=
  fun o ho => (k o ho).trans (h o ho)

theorem SameRegsBut.mono {l m : List Nat} {s t : State} (h : SameRegsBut l s t) (hm : l ⊆ m) : SameRegsBut m s t :=
  fun o ho => h o (fun hl => ho (hm hl))

theorem SameRegsBut.setFld {l : List Nat} {s t : State} (h : SameRegsBut l s t) {o : Nat} (ho : o ∈ l) (f : Fld) (v : Nat) :
    SameRegsBut l s (t.setFld o f v) :=
  fun p hp => (State.reg_setFld_ne t f v (fun e => hp (by rwa [e]))).trans (h p hp)

theorem SameRegsBut.raise {l : List Nat} {s t : State} (h : SameRegsBut l s t) (ev : Nat) (ws : List Word) :
    SameRegsBut l s (raise ev ws t) := fun o ho => (raise_reg ev ws t o).trans (h o ho)

theorem SameRegsBut.emit {l : List Nat} {s t : State} (h : SameRegsBut l s t) (m : Sent) : SameRegsBut l s (emit m t) := h

theorem SameRegsBut.withPwr {l : List Nat} {s t : State} (h : SameRegsBut l s t) (p : PwrUnit) :
    SameRegsBut l s { t with pwr := p } := h

theorem SameRegsBut.fld {l : List Nat} {s t : State} (h : SameRegsBut l s t) {o : Nat} (ho : o ∉ l) (f : Fld) : t.fld o f = s.fld o f := by
  rw [State.fld, State.fld, h o ho]

@[simp] theorem emit_fld (m : Sent) (s : State) (o : Nat) (f : Fld) : (emit m s).fld o f = s.fld o f := rfl

/-- A flag of a register reads 1 where the number written has its bit. -/
theorem State.flag_setFld_same (s : State) (o : Nat) (f : Fld) (v : Nat) (h : f.lo ≤ f.hi) (h32 : f.hi < 32) :
    (s.setFld o f v).flag o f = decide (v % 2 ^ f.width = 1) := by
  rw [State.flag, State.fld_setFld_same s o f v h h32]

/-- An event raised on a change of registers is one raised on the state with those registers. -/
theorem raise_of_regsOnly {s t : State} (h : RegsOnly s t) (ev : Nat) (ws : List Word) :
    raise ev ws t = raise ev ws { s with regs := (raise ev ws t).regs } := by
  rw [raise_regs]
  exact congrArg (raise ev ws) h

/-- A state given the power unit that it has. -/
theorem State.with_pwr_of_eq {a : State} {p : PwrUnit} (h : a.pwr = p) : { a with pwr := p } = a := by
  rw [← h]

/-! ### What each command answers -/

section Answers
variable {s : State} (hlive : Live s)
include hlive

theorem exec_handshakeStall (i : Fin 25) (ch : Word) :
    exec (.handshakeStall i ch) s = .next (withdrawTap (opHandshakeStall (i.val + 1) ch s)) := run_of_scan_false hlive

theorem exec_xtalStartTimeout : exec .xtalStartTimeout s = .next (withdrawTap (opXtalStartTimeout s)) := run_of_scan_false hlive

theorem exec_thermalWarning (tj : BitVec 8) : exec (.thermalWarning tj) s = .next (withdrawTap (opThermalWarning tj s)) :=
  run_of_scan_false hlive

theorem exec_thermalShutdown (tj : BitVec 8) : exec (.thermalShutdown tj) s = .next (withdrawTap (opThermalShutdown tj s)) :=
  run_of_scan_false hlive

theorem exec_tjBandChange (tj : BitVec 8) : exec (.tjBandChange tj) s = .next (withdrawTap (opTjBandChange tj s)) :=
  run_of_scan_false hlive

theorem exec_slackMeasurement (m : Nat) : exec (.slackMeasurement m) s = .next (withdrawTap (opSlackMeasurement m s)) :=
  run_of_scan_false hlive

theorem exec_avsEvaluation (ack : Bool) : exec (.avsEvaluation ack) s = .next (withdrawTap (opAvsEvaluation ack s)) :=
  run_of_scan_false hlive

theorem exec_avsReadback (reply : Option (BitVec 10 × BitVec 12)) :
    exec (.avsReadback reply) s = .next (withdrawTap (opAvsReadback reply s)) := run_of_scan_false hlive

end Answers

/-! ### Island faults -/

/-- The state in which an island's fault stands, with its bit, its event and its recovery, before its action (R21). -/
def markIsland (i : Nat) (channel : Word) (s : State) : State :=
  let bits := s.fld Reg.glbIslandFault Fld.glbIslandFaultFault
  let a := raise (islandEvent i) [word i, channel] (s.setFld Reg.glbIslandFault Fld.glbIslandFaultFault (bits ||| 2 ^ (i - 1)))
  let faulted := if manualRecovery i || decide (i ≤ 2) then addNew i s.pwr.recovering else s.pwr.recovering
  { a with pwr := { s.pwr with recovering := faulted } }

theorem islandFault_of_faulted {s : State} {i : Nat} (channel : Word) (h : islandFaulted s i = true) :
    islandFault i channel s = repeatIsland i s := by
  simp [islandFault, h]

/-- The first fault of an island marks it and takes its action (R21). -/
theorem islandFault_of_not_faulted {s : State} {i : Nat} (channel : Word) (h : islandFaulted s i = false) :
    islandFault i channel s = islandAction i (markIsland i channel s) := by
  simp only [islandFault, h, Bool.false_eq_true, if_false, markIsland]
  split
  · simp only [raise_pwr, State.setFld_pwr]
  · exact congrArg (islandAction i) (State.with_pwr_of_eq (raise_pwr ..)).symm

/-- The bit of the island is set beside those that stood (R21). -/
theorem markIsland_fault (i : Fin 25) (channel : Word) (s : State) :
    (markIsland (i.val + 1) channel s).fld Reg.glbIslandFault Fld.glbIslandFaultFault
      = s.fld Reg.glbIslandFault Fld.glbIslandFaultFault ||| 2 ^ i.val := by
  have hfit : s.fld Reg.glbIslandFault Fld.glbIslandFaultFault ||| 2 ^ i.val < 2 ^ Fld.glbIslandFaultFault.width :=
    Nat.or_lt_two_pow (getBits_lt ..) (Nat.pow_lt_pow_right (by decide) i.isLt)
  calc (markIsland (i.val + 1) channel s).fld Reg.glbIslandFault Fld.glbIslandFaultFault
      = _ := raise_fld ..
    _ = _ := State.fld_setFld_same s _ _ _ (by decide) (by decide)
    _ = _ := Nat.mod_eq_of_lt hfit

theorem markIsland_sameRegsBut (i : Nat) (channel : Word) (s : State) :
    SameRegsBut [Reg.glbIslandFault] s (markIsland i channel s) :=
  (((SameRegsBut.refl _ s).setFld (List.mem_singleton_self _) _ _).raise _ _).withPwr _

/-- The fault's event, with the island's number and the channel, is raised on the state with the bit set (R21). -/
theorem markIsland_evt (i : Nat) (channel : Word) (s : State) :
    (markIsland i channel s).evt = (raise (islandEvent i) [word i, channel] { s with regs := (markIsland i channel s).regs }).evt := by
  have hraise := raise_of_regsOnly (setFld_regsOnly s Reg.glbIslandFault Fld.glbIslandFaultFault
    (s.fld Reg.glbIslandFault Fld.glbIslandFaultFault ||| 2 ^ (i - 1))) (islandEvent i) [word i, channel]
  exact (congrArg State.evt hraise :)

theorem markIsland_touches (i : Nat) (channel : Word) (s : State) : Touches [.regs, .sent, .evt, .pwr] s (markIsland i channel s) :=
  have hreg := (State.setFld_touches s Reg.glbIslandFault Fld.glbIslandFaultFault
    (s.fld Reg.glbIslandFault Fld.glbIslandFaultFault ||| 2 ^ (i - 1))).mono (m := [.regs, .sent, .evt, .pwr]) (by decide)
  (Moves.upd_pwr (by decide) (hreg.trans ((raise_touches ..).mono (by decide)))).toTouches

theorem opHandshakeStall_of_paused {s : State} {i : Nat} (channel : Word) (h : watchdogPaused s i = true) :
    opHandshakeStall i channel s = s := by
  simp [opHandshakeStall, h]

theorem opHandshakeStall_of_not_paused {s : State} {i : Nat} (channel : Word) (h : watchdogPaused s i = false) :
    opHandshakeStall i channel s = islandFault i channel s := by
  simp [opHandshakeStall, h]

/-! ### Temperature -/

/-- A byte read as a two's-complement number. -/
theorem signed_toNat (b : BitVec 8) : signed 8 b.toNat = b.toInt := by
  rw [signed, Nat.mod_eq_of_lt b.isLt, BitVec.toInt_eq_toNat_cond]
  split <;> split <;> omega

/-- TJ shows the temperature given (R423). -/
theorem junction_showTj (tj : BitVec 8) (s : State) : junction (showTj tj s) = tj.toInt := by
  rw [junction, showTj, State.fld_setFld_same s _ _ _ (by decide) (by decide), Nat.mod_eq_of_lt (by exact tj.isLt), signed_toNat]

/-- THERM_N leaves TJ alone. -/
theorem junction_setTherm (v : Nat) (s : State) : junction (s.setFld Reg.glbThermal Fld.glbThermalTherm v) = junction s := by
  rw [junction, junction, State.fld_setFld_other s _ _ _ _ (by decide) (by decide) (by decide) (by decide)]

/-- The temperature is shown and THERM_N set or released: registers alone. -/
theorem setTherm_showTj_regsOnly (v : Nat) (tj : BitVec 8) (s : State) :
    RegsOnly s ((showTj tj s).setFld Reg.glbThermal Fld.glbThermalTherm v) := (setFld_regsOnly ..).trans (setFld_regsOnly ..)

theorem setTherm_showTj_sameRegsBut (v : Nat) (tj : BitVec 8) (s : State) :
    SameRegsBut [Reg.glbThermal] s ((showTj tj s).setFld Reg.glbThermal Fld.glbThermalTherm v) :=
  ((SameRegsBut.refl _ s).setFld (List.mem_singleton_self _) _ _).setFld (List.mem_singleton_self _) _ _

section Warning
variable {s : State} {tj : BitVec 8}

/-- At WARN THERM_N falls with event 472 (R423). -/
theorem opThermalWarning_of_warm (hlow : s.flag Reg.glbThermal Fld.glbThermalTherm = false) (h : thermalWarn s ≤ tj.toInt) :
    opThermalWarning tj s = raise 472 [] ((showTj tj s).setFld Reg.glbThermal Fld.glbThermalTherm 1) := by
  simp [opThermalWarning, junction_showTj, hlow, h]

/-- Below WARN − 5 °C THERM_N is released (R423). -/
theorem opThermalWarning_of_cool (hlow : s.flag Reg.glbThermal Fld.glbThermalTherm = true) (h : tj.toInt < thermalWarn s - 5) :
    opThermalWarning tj s = (showTj tj s).setFld Reg.glbThermal Fld.glbThermalTherm 0 := by
  simp [opThermalWarning, junction_showTj, hlow, h]

/-- Between the two THERM_N stays (R423). -/
theorem opThermalWarning_of_steady
    (h : s.flag Reg.glbThermal Fld.glbThermalTherm = true ∧ thermalWarn s - 5 ≤ tj.toInt
      ∨ s.flag Reg.glbThermal Fld.glbThermalTherm = false ∧ tj.toInt < thermalWarn s) :
    opThermalWarning tj s = showTj tj s := by
  obtain ⟨hlow, h⟩ | ⟨hlow, h⟩ := h
  · simp [opThermalWarning, junction_showTj, hlow, h.not_gt]
  · simp [opThermalWarning, junction_showTj, hlow, h.not_ge]

/-- Below 115 °C, or with the shutdown in force, the temperature is shown and no more (R423). -/
theorem opThermalShutdown_of_not_due (h : tj.toInt < 115 ∨ s.pwr.shutdown = true) : opThermalShutdown tj s = showTj tj s := by
  simp [opThermalShutdown, junction_showTj, h]

/-- From 115 °C every deck stops, with event 473 (R423). -/
theorem opThermalShutdown_of_due (h : 115 ≤ tj.toInt) (hs : s.pwr.shutdown = false) :
    ∃ a, a = raise 473 [] (stopAll 11 1 ((showTj tj s).setFld Reg.glbThermal Fld.glbThermalShutdown 1))
      ∧ opThermalShutdown tj s = { a with pwr := { a.pwr with shutdown := true } } :=
  ⟨_, rfl, by simp [opThermalShutdown, junction_showTj, h.not_gt, hs]⟩

/-- The read strobe follows the temperature's column of Table 17-3 (R373). -/
theorem opTjBandChange_eq :
    opTjBandChange tj s = takeBand (s.pwr.band.1, tjColumn s.pwr.band.2 tj.toInt) (showTj tj s) := by
  rw [opTjBandChange, junction_showTj]

end Warning

/-- Settles O45: each command's operation by the cases of its rule; the fault's state before its action is `markIsland`. -/
theorem islandsAndTemperature : Obligations.IslandsAndTemperature := by
  refine ⟨fun s i ch hlive => ?_, fun s tj hlive => ?_⟩
  · intro n reg bits
    simp only [exec_handshakeStall hlive, exec_xtalStartTimeout hlive]
    refine ⟨fun hp => ?_, fun hp hf => ?_, fun hp hf => ⟨markIsland n ch s, ?_⟩, _, rfl⟩
    · rw [opHandshakeStall_of_paused ch hp]
    · rw [opHandshakeStall_of_not_paused ch hp, islandFault_of_faulted ch hf]
    · refine ⟨markIsland_fault i ch s, markIsland_sameRegsBut n ch s, rfl, ?_, markIsland_touches n ch s, ?_⟩
      · exact ⟨{ s with regs := (markIsland n ch s).regs }, rfl, rfl, markIsland_evt n ch s⟩
      · rw [opHandshakeStall_of_not_paused ch hp, islandFault_of_not_faulted ch hf]
  · intro reg shown low
    simp only [exec_thermalWarning hlive, exec_thermalShutdown hlive, exec_tjBandChange hlive]
    refine ⟨fun hlow h => ⟨_, rfl, ?_⟩, fun hlow h => ⟨_, rfl, ?_⟩, fun h => ?_, fun h => ?_, fun h hs => ⟨_, rfl, ?_⟩, ?_⟩
    · rw [opThermalWarning_of_warm hlow h]
      refine ⟨?_, ?_, (setTherm_showTj_sameRegsBut 1 tj s).raise _ _, raise_of_regsOnly (setTherm_showTj_regsOnly 1 tj s) _ _⟩
      · rw [State.flag, raise_fld]
        exact State.flag_setFld_same _ _ _ 1 (by decide) (by decide)
      · rw [junction, raise_fld]
        exact (junction_setTherm 1 _).trans (junction_showTj tj s)
    · rw [opThermalWarning_of_cool hlow h]
      refine ⟨?_, ?_, setTherm_showTj_sameRegsBut 0 tj s, setTherm_showTj_regsOnly 0 tj s⟩
      · exact State.flag_setFld_same _ _ _ 0 (by decide) (by decide)
      · exact (junction_setTherm 0 _).trans (junction_showTj tj s)
    · rw [opThermalWarning_of_steady h]; rfl
    · rw [opThermalShutdown_of_not_due h]; rfl
    · obtain ⟨a, ha, ht⟩ := opThermalShutdown_of_due h hs
      rw [ht]
      exact ⟨rfl, a, ha, rfl⟩
    · rw [opTjBandChange_eq]; rfl

/-! ### The slack monitor -/

/-- CAPPING stays, or changes with event 465 (R25). -/
theorem settleCapping_cases (s : State) : settleCapping s = s
    ∨ ∃ v ws, settleCapping s = raise 465 ws (s.setFld Reg.glbSlackStatus Fld.glbSlackStatusCapping v) := by
  unfold settleCapping
  dsimp only
  split
  · exact .inl rfl
  · exact .inr ⟨_, _, rfl⟩

theorem settleCapping_sameRegsBut (s : State) : SameRegsBut [Reg.glbSlackStatus] s (settleCapping s) := by
  obtain h | ⟨v, ws, h⟩ := settleCapping_cases s <;> rw [h]
  · exact .refl _ s
  · exact ((SameRegsBut.refl _ s).setFld (List.mem_singleton_self _) _ _).raise _ _

/-- The fields of GLB_SLACK_STATUS below CAPPING keep their values. -/
theorem settleCapping_fld (s : State) {f : Fld} (hf : f.lo ≤ f.hi) (hlow : f.hi < 31) :
    (settleCapping s).fld Reg.glbSlackStatus f = s.fld Reg.glbSlackStatus f := by
  obtain h | ⟨v, ws, h⟩ := settleCapping_cases s <;> rw [h]
  rw [raise_fld]
  exact State.fld_setFld_other s _ _ _ _ (by decide) hf (Nat.lt_succ_of_lt hlow) (.inl hlow)

@[simp] theorem settleCapping_pwr (s : State) : (settleCapping s).pwr = s.pwr := (settleCapping_touches s).keep .pwr (by decide)

theorem showSustain_sameRegsBut (v : Nat) (s : State) : SameRegsBut [Reg.glbSlackStatus] s (showSustain v s) :=
  ((SameRegsBut.refl _ s).setFld (List.mem_singleton_self _) _ _).setFld (List.mem_singleton_self _) _ _

/-- SUSTAIN is the value shown (R24). -/
theorem showSustain_sustain {v : Nat} (h : v ≤ 511) (s : State) :
    (showSustain v s).fld Reg.glbSlackStatus Fld.glbSlackStatusSustain = v := by
  rw [showSustain, State.fld_setFld_other _ _ _ _ _ (by decide) (by decide) (by decide) (by decide),
    State.fld_setFld_same _ _ _ _ (by decide) (by decide)]
  exact Nat.mod_eq_of_lt (Nat.lt_succ_of_le h)

/-- CAP is the value shown, at most 256 (R25). -/
theorem showSustain_cap (v : Nat) (s : State) :
    (showSustain v s).fld Reg.glbSlackStatus Fld.glbSlackStatusCap = min v 256 := by
  rw [showSustain, State.fld_setFld_same _ _ _ _ (by decide) (by decide)]
  exact Nat.mod_eq_of_lt ((Nat.min_le_right v 256).trans_lt (by decide))

theorem sustainFloor_le (mv : Nat) : sustainFloor mv ≤ 256 := by
  unfold sustainFloor
  split
  · decide
  · split <;> decide

/-- The pace that a measurement shows: not below the floor of the voltage in force, at most 511 (R24). -/
def measuredPace (m : Nat) (s : State) : Nat := max (sustainFloor (vddRequest s)) (min 511 m)

theorem measuredPace_le (m : Nat) (s : State) : measuredPace m s ≤ 511 :=
  max_le ((sustainFloor_le _).trans (by decide)) (Nat.min_le_left 511 m)

theorem opSlackMeasurement_of_running {s : State} (m : Nat) (h : s.pwr.state ≤ 1) :
    opSlackMeasurement m s = settleCapping (showSustain (measuredPace m s) { s with pwr := { s.pwr with measured := true } }) := by
  simp only [opSlackMeasurement, h, if_true, measuredPace]

theorem opSlackMeasurement_of_asleep {s : State} (m : Nat) (h : 2 ≤ s.pwr.state) : opSlackMeasurement m s = s :=
  if_neg (Nat.not_le_of_lt h)

/-! ### VDD_CORE -/

theorem takeBand_sameRegsBut (b : Nat × Nat) (s : State) : SameRegsBut [Reg.nvmRdDelay] s (takeBand b s) := by
  unfold takeBand
  split
  · exact .refl _ s
  · exact (SameRegsBut.refl _ s).setFld (List.mem_singleton_self _) _ _

@[simp] theorem takeBand_avsFails (b : Nat × Nat) (s : State) : (takeBand b s).pwr.avsFails = s.pwr.avsFails := by
  unfold takeBand
  split <;> rfl

/-- SUSTAIN stays, or is shown anew with CAPPING after it (R24, R25). -/
theorem settleSustain_cases (s : State) : settleSustain s = s ∨ ∃ w, settleSustain s = settleCapping (showSustain w s) :=
  (ite_eq_or_eq _ s _).imp_right fun h => ⟨_, h⟩

theorem settleSustain_sameRegsBut (s : State) : SameRegsBut [Reg.glbSlackStatus] s (settleSustain s) := by
  obtain h | ⟨w, h⟩ := settleSustain_cases s <;> rw [h]
  · exact .refl _ s
  · exact (showSustain_sameRegsBut w s).trans (settleCapping_sameRegsBut _)

@[simp] theorem settleSustain_pwr (s : State) : (settleSustain s).pwr = s.pwr := (settleSustain_touches s).keep .pwr (by decide)

/-- The request written over AVSBus, with SUSTAIN after it (R24, R27). -/
def writeVdd (mv : Nat) (s : State) : State :=
  settleSustain (emit (.avs mv) (s.setFld Reg.glbPaceTarget Fld.glbPaceTargetVddReqMv mv))

theorem writeVdd_sameRegsBut (mv : Nat) (s : State) : SameRegsBut [Reg.glbPaceTarget, Reg.glbSlackStatus] s (writeVdd mv s) := by
  rw [writeVdd]
  refine SameRegsBut.trans ?_ ((settleSustain_sameRegsBut _).mono (by decide))
  exact ((SameRegsBut.refl _ s).setFld List.mem_cons_self _ _).emit _

/-- The request in force is the one written, as the field holds it (R27). -/
theorem vddRequest_writeVdd (mv : Nat) (s : State) : vddRequest (writeVdd mv s) = mv % 2 ^ Fld.glbPaceTargetVddReqMv.width := by
  rw [vddRequest, writeVdd, (settleSustain_sameRegsBut _).fld (by decide), emit_fld]
  exact State.fld_setFld_same s _ _ mv (by decide) (by decide)

@[simp] theorem writeVdd_pwr (mv : Nat) (s : State) : (writeVdd mv s).pwr = s.pwr := by
  rw [writeVdd, settleSustain_pwr, emit_pwr, State.setFld_pwr]

theorem vddRequest_takeBand (b : Nat × Nat) (s : State) : vddRequest (takeBand b s) = vddRequest s :=
  (takeBand_sameRegsBut b s).fld (by decide) _

/-- While island 21 is well the request is written, and the read strobe of its band taken before it or after (R27, R373). -/
theorem requestVdd_cases {s : State} (mv : Nat) (h : 21 ∉ s.pwr.recovering) :
    ∃ b, requestVdd mv s = writeVdd mv (takeBand b s) ∨ requestVdd mv s = takeBand b (writeVdd mv s) := by
  refine ⟨(if 720 ≤ mv then 0 else if 650 ≤ mv then 1 else 2, s.pwr.band.2), ?_⟩
  simp only [requestVdd, List.contains_iff_mem, h, if_false]
  exact ite_eq_or_eq _ _ _

section Request
variable {s : State} (mv : Nat) (hwell : 21 ∉ s.pwr.recovering)
include hwell

theorem vddRequest_requestVdd : vddRequest (requestVdd mv s) = mv % 2 ^ Fld.glbPaceTargetVddReqMv.width := by
  obtain ⟨b, h | h⟩ := requestVdd_cases mv hwell <;> rw [h]
  · exact vddRequest_writeVdd mv _
  · rw [vddRequest_takeBand, vddRequest_writeVdd]

theorem requestVdd_avsFails : (requestVdd mv s).pwr.avsFails = s.pwr.avsFails := by
  obtain ⟨b, h | h⟩ := requestVdd_cases mv hwell <;> simp [h]

theorem requestVdd_sameRegsBut : SameRegsBut [Reg.glbPaceTarget, Reg.glbSlackStatus, Reg.nvmRdDelay] s (requestVdd mv s) := by
  obtain ⟨b, h | h⟩ := requestVdd_cases mv hwell <;> rw [h]
  · exact ((takeBand_sameRegsBut b s).mono (by decide)).trans ((writeVdd_sameRegsBut mv _).mono (by decide))
  · exact ((writeVdd_sameRegsBut mv s).mono (by decide)).trans ((takeBand_sameRegsBut b _).mono (by decide))

end Request

theorem avsGood_sameRegsBut (s : State) : SameRegsBut [Reg.glbAvsStatus] s (avsGood s) :=
  (SameRegsBut.refl _ s).setFld (List.mem_singleton_self _) _ _

theorem avsGood_regsOnly (s : State) : RegsOnly { s with pwr := { s.pwr with avsFails := 0 } } (avsGood s) := setFld_regsOnly ..

/-- The third bad transaction in a row sets FAULT, with event 474 (R421). -/
theorem avsFailed_of_third {s : State} (h : s.pwr.avsFails = 2) :
    avsFailed s = raise 474 [] ({ s with pwr := { s.pwr with avsFails := 3 } }.setFld Reg.glbAvsStatus Fld.glbAvsStatusFault 1) := by
  simp [avsFailed, h]

/-- Any other bad transaction is only counted (R421). -/
theorem avsFailed_of_not_third {s : State} (h : s.pwr.avsFails ≠ 2) :
    avsFailed s = { s with pwr := { s.pwr with avsFails := s.pwr.avsFails + 1 } } := by
  simp [avsFailed, h]

theorem opAvsEvaluation_of_asleep {s : State} (ack : Bool) (h : 2 ≤ s.pwr.state) : opAvsEvaluation ack s = s := if_pos (.inl h)

section Evaluation
variable {s : State} (hrun : s.pwr.state ≤ 1) (hwell : 21 ∉ s.pwr.recovering)
include hrun hwell

/-- With FAULT clear the evaluation acts on the request that R27 gives, where it changes or a write is to be repeated (R27, R421). -/
theorem opAvsEvaluation_of_running (hfault : s.flag Reg.glbAvsStatus Fld.glbAvsStatusFault = false) (ack : Bool) :
    opAvsEvaluation ack s =
      if evaluatedRequest s = vddRequest s ∧ s.pwr.avsFails = 0 then s
      else if ack then requestVdd (evaluatedRequest s) (avsGood s)
      else avsFailed (emit (.avs (evaluatedRequest s)) s) := by
  simp [opAvsEvaluation, hwell, hfault, Nat.not_le_of_lt (Nat.lt_succ_of_le hrun)]

/-- A read back that is answered ends a run of failures and shows voltage and current (R421). -/
theorem opAvsReadback_some (v : BitVec 10) (c : BitVec 12) :
    opAvsReadback (some (v, c)) s =
      ((avsGood s).setFld Reg.glbAvsStatus Fld.glbAvsStatusVoutMv v.toNat).setFld Reg.glbAvsStatus Fld.glbAvsStatusCurrent c.toNat := by
  simp [opAvsReadback, hwell, (Nat.lt_of_le_of_lt hrun (by decide : 1 < 3)).ne]

theorem opAvsReadback_none : opAvsReadback none s = avsFailed s := by
  simp [opAvsReadback, hwell, (Nat.lt_of_le_of_lt hrun (by decide : 1 < 3)).ne]

end Evaluation

/-- A measurement while the core runs shows SUSTAIN and CAP (R24, R25). -/
theorem slackMeasurement_shows {s : State} (m : Nat) (hrun : s.pwr.state ≤ 1) :
    let t := opSlackMeasurement m s
    t.fld Reg.glbSlackStatus Fld.glbSlackStatusSustain = measuredPace m s
    ∧ t.fld Reg.glbSlackStatus Fld.glbSlackStatusCap = min (measuredPace m s) 256 ∧ t.pwr.measured = true
    ∧ SameRegsBut [Reg.glbSlackStatus] s t ∧ Touches [.regs, .sent, .evt, .pwr] s t := by
  refine ⟨?_, ?_, ?_, ?_, (opSlackMeasurement_touches m s).toTouches⟩ <;> rw [opSlackMeasurement_of_running m hrun]
  · rw [settleCapping_fld _ (by decide) (by decide), showSustain_sustain (measuredPace_le m s)]
  · rw [settleCapping_fld _ (by decide) (by decide), showSustain_cap]
  · rw [settleCapping_pwr]
    rfl
  · exact (showSustain_sameRegsBut _ { s with pwr := _ }).trans (settleCapping_sameRegsBut _)

/-- A good write takes the request that R27 gives and ends a run of failures (R27, R421). -/
theorem avsEvaluation_good {s : State} (hrun : s.pwr.state ≤ 1) (hwell : 21 ∉ s.pwr.recovering)
    (hfault : s.flag Reg.glbAvsStatus Fld.glbAvsStatusFault = false) (hnew : evaluatedRequest s ≠ vddRequest s) :
    let t := opAvsEvaluation true s
    vddRequest t = evaluatedRequest s % 2 ^ Fld.glbPaceTargetVddReqMv.width ∧ t.pwr.avsFails = 0
    ∧ SameRegsBut [Reg.glbPaceTarget, Reg.glbAvsStatus, Reg.glbSlackStatus, Reg.nvmRdDelay] s t
    ∧ Touches [.regs, .sent, .evt, .pwr] s t := by
  have ht : opAvsEvaluation true s = requestVdd (evaluatedRequest s) (avsGood s) := by
    simp [opAvsEvaluation_of_running hrun hwell hfault, hnew]
  have hwell' : 21 ∉ (avsGood s).pwr.recovering := hwell
  refine ⟨?_, ?_, ?_, (opAvsEvaluation_touches true s).toTouches⟩ <;> rw [ht]
  · exact vddRequest_requestVdd _ hwell'
  · exact requestVdd_avsFails _ hwell'
  · exact ((avsGood_sameRegsBut s).mono (by decide)).trans ((requestVdd_sameRegsBut _ hwell').mono (by decide))

/-- The third bad write in a row leaves the request and sets FAULT (R421). -/
theorem avsEvaluation_third_bad {s : State} (hrun : s.pwr.state ≤ 1) (hwell : 21 ∉ s.pwr.recovering)
    (hfault : s.flag Reg.glbAvsStatus Fld.glbAvsStatusFault = false) (hnew : evaluatedRequest s ≠ vddRequest s)
    (hfails : s.pwr.avsFails = 2) :
    let t := opAvsEvaluation false s
    vddRequest t = vddRequest s ∧ t.flag Reg.glbAvsStatus Fld.glbAvsStatusFault = true ∧ t.pwr.avsFails = 3
    ∧ SameRegsBut [Reg.glbAvsStatus] s t ∧ Touches [.regs, .sent, .evt, .pwr] s t := by
  have ht : opAvsEvaluation false s = avsFailed (emit (.avs (evaluatedRequest s)) s) := by
    simp [opAvsEvaluation_of_running hrun hwell hfault, hnew]
  rw [avsFailed_of_third (by exact hfails)] at ht
  have hregs : SameRegsBut [Reg.glbAvsStatus] s (opAvsEvaluation false s) := by
    rw [ht]
    exact ((((SameRegsBut.refl _ s).emit _).withPwr _).setFld (List.mem_singleton_self _) _ _).raise _ _
  refine ⟨hregs.fld (by decide) _, ?_, ?_, hregs, (opAvsEvaluation_touches false s).toTouches⟩ <;> rw [ht]
  · rw [State.flag, raise_fld]
    exact State.flag_setFld_same _ _ _ 1 (by decide) (by decide)
  · rw [raise_pwr]
    rfl

/-- What a read back shows (R421). -/
theorem avsReadback_shows {s : State} (hrun : s.pwr.state ≤ 1) (hwell : 21 ∉ s.pwr.recovering) (v : BitVec 10) (c : BitVec 12) :
    let t := opAvsReadback (some (v, c)) s
    t.fld Reg.glbAvsStatus Fld.glbAvsStatusVoutMv = v.toNat ∧ t.fld Reg.glbAvsStatus Fld.glbAvsStatusCurrent = c.toNat
    ∧ t.flag Reg.glbAvsStatus Fld.glbAvsStatusFault = false ∧ SameRegsBut [Reg.glbAvsStatus] s t
    ∧ t = { s with regs := t.regs, pwr := { s.pwr with avsFails := 0 } } := by
  rw [opAvsReadback_some hrun hwell]
  refine ⟨?_, ?_, ?_, ?_, ((avsGood_regsOnly s).trans (setFld_regsOnly ..)).trans (setFld_regsOnly ..)⟩
  · rw [State.fld_setFld_other _ _ _ _ _ (by decide) (by decide) (by decide) (by decide),
      State.fld_setFld_same _ _ _ _ (by decide) (by decide)]
    exact Nat.mod_eq_of_lt v.isLt
  · rw [State.fld_setFld_same _ _ _ _ (by decide) (by decide)]
    exact Nat.mod_eq_of_lt c.isLt
  · rw [State.flag, State.fld_setFld_other _ _ _ _ _ (by decide) (by decide) (by decide) (by decide),
      State.fld_setFld_other _ _ _ _ _ (by decide) (by decide) (by decide) (by decide)]
    exact State.flag_setFld_same _ _ _ 0 (by decide) (by decide)
  · exact ((avsGood_sameRegsBut s).setFld (List.mem_singleton_self _) _ _).setFld (List.mem_singleton_self _) _ _

/-- Settles O46: each command's operation by its cases, of which `requestVdd` alone reaches beyond one register. -/
theorem paceAndVoltage : Obligations.PaceAndVoltage := by
  intro s m v c ack hlive slack st u
  simp only [exec_slackMeasurement hlive, exec_avsEvaluation hlive, exec_avsReadback hlive]
  refine ⟨fun hrun => ⟨_, rfl, slackMeasurement_shows m hrun⟩, fun hasleep => ?_, fun hrun hwell => ⟨fun hfault => ?_, ?_, ?_⟩⟩
  · rw [opSlackMeasurement_of_asleep m hasleep, opAvsEvaluation_of_asleep ack hasleep]
    exact ⟨rfl, rfl⟩
  · refine ⟨fun hsame hnone => ?_, fun hnew => ⟨_, rfl, avsEvaluation_good hrun hwell hfault hnew⟩,
      fun hnew hfails => ⟨_, rfl, avsEvaluation_third_bad hrun hwell hfault hnew hfails⟩⟩
    rw [opAvsEvaluation_of_running hrun hwell hfault, if_pos ⟨hsame, hnone⟩]
  · exact ⟨_, rfl, avsReadback_shows hrun hwell v c⟩
  · intro hfails
    rw [opAvsReadback_none hrun hwell, avsFailed_of_not_third hfails]

end Sys2Proof.Machine
end

section
/-! The task interface (R29 to R57, R173): how a task's row begins it, what a doorbell and an abort request show, and which items, entries and
reads the tasks give rise to. -/

namespace Sys2Proof.Machine

/-! ### Beginning a task -/

section Beginning
variable {s : State} {n op : Nat} {u : Task} {f : Task → State → State}

theorem beginTask_of_begins (h : Begins s n op u) : beginTask op n f s = f u s := by
  obtain ⟨hstart, hgood⟩ := h
  have hnone : (if u.checked then none else checkRecord s n u) = none := by
    rcases hgood with hc | hc <;> simp [hc]
  simp only [beginTask, hstart, hnone]

/-- A row that is `beginTask` answers what the task does once it may begin (R39, R47). -/
theorem answers_of_begins {c : Instr} {t : State} (hrow : exec c s = run (beginTask op n f) s) (hlive : Live s) (h : Begins s n op u)
    (ht : f u s = t) : exec c s = .next (withdrawTap t) := by
  rw [hrow, run_of_scan_false hlive, beginTask_of_begins h, ht]

end Beginning

theorem unlessRefused_none (n q : Nat) (f : State → State) (s : State) : unlessRefused n q none f s = f s := rfl

/-! ### What answers a window's write -/

theorem State.fld_of_regs {s t : State} (h : t.regs = s.regs) (o : Nat) (f : Fld) : t.fld o f = s.fld o f := by
  rw [State.fld, State.fld, State.reg, State.reg, h]

theorem SameRegsBut.of_regs {l : List Nat} {s a t : State} (h : SameRegsBut l s a) (e : t.regs = a.regs) : SameRegsBut l s t := by
  intro o ho
  rw [State.reg, e]
  exact h o ho

/-- A context changed besides the registers. -/
theorem RegsOnly.onCtx {s a : State} (h : RegsOnly s a) (n : Nat) (f : Context → Context) :
    a.onCtx n f = { s with regs := (a.onCtx n f).regs, ctx := (a.onCtx n f).ctx } := by
  have e : a.onCtx n f = { a with ctx := (a.onCtx n f).ctx } := rfl
  generalize (a.onCtx n f).ctx = c at e
  rw [e, h]

/-- The state after a count is moved on in one field of a register and `v` is shown in another (R34, R53). -/
def countAndShow (r : Nat) (count shown : Fld) (v : Nat) (s : State) : State := (s.incFld r count 1).setFld r shown v

section CountAndShow
variable (r : Nat) (count shown : Fld) (v : Nat) (s : State)

theorem countAndShow_regsOnly : RegsOnly s (countAndShow r count shown v s) := (setFld_regsOnly ..).trans (setFld_regsOnly ..)

theorem countAndShow_touches : Moves [.regs] s (countAndShow r count shown v s) :=
  (State.incFld_touches ..).trans (State.setFld_touches ..)

@[simp] theorem countAndShow_accepted : (countAndShow r count shown v s).accepted = s.accepted := rfl

@[simp] theorem countAndShow_pwr : (countAndShow r count shown v s).pwr = s.pwr := rfl

@[simp] theorem countAndShow_ctxAt (n : Nat) : (countAndShow r count shown v s).ctxAt n = s.ctxAt n := by
  rw [countAndShow, State.ctxAt, State.setFld_ctx, State.incFld_ctx, State.ctxAt]

theorem countAndShow_sameRegsBut : SameRegsBut [r] s (countAndShow r count shown v s) :=
  ((SameRegsBut.refl _ s).setFld (List.mem_singleton_self r) _ _).setFld (List.mem_singleton_self r) _ _

variable {count shown} (hs : shown.lo ≤ shown.hi) (hapart : shown.hi < count.lo) (hc : count.lo ≤ count.hi) (h32 : count.hi < 32)
include hs hapart hc h32

theorem countAndShow_shown : (countAndShow r count shown v s).fld r shown = v % 2 ^ shown.width :=
  State.fld_setFld_same _ r shown v hs (by omega)

theorem countAndShow_count : (countAndShow r count shown v s).fld r count = (s.fld r count + 1) % 2 ^ count.width := by
  rw [countAndShow, State.fld_setFld_other _ _ _ _ _ hs hc h32 (.inr hapart), State.incFld, State.fld_setFld_same _ _ _ _ hc h32]

end CountAndShow

/-! ### Doorbells -/

/-- The context takes no task: it is not enabled, is in reset, or holds its quota (R32, R34). -/
abbrev Shut (s : State) (n : Nat) : Prop :=
  s.flag (Reg.ctxControl n) Fld.ctxControlEnable = false ∨ s.flag (Reg.ctxControl n) Fld.ctxControlReset = true
    ∨ min 32768 (s.fld (Reg.ctxQuota n) Fld.ctxQuotaMaxTasks) ≤ (s.ctxAt n).tasks.length

theorem doorbellOutcome_of_shut {s : State} {n : Nat} (h : Shut s n) : doorbellOutcome s n = 3 := by
  rcases h with h | h | h <;> simp [doorbellOutcome, taskQuota, h]

theorem doorbellOutcome_of_open {s : State} {n : Nat} (h : ¬ Shut s n) :
    doorbellOutcome s n = if 32768 ≤ totalInFlight s then 4 else 2 := by
  obtain ⟨hoff, hreset, hquota⟩ := by simpa only [not_or] using h
  simp [doorbellOutcome, taskQuota, hoff, hreset, hquota]

/-- The state after a doorbell's outcome is shown, before a task is taken (R34). -/
abbrev showOutcome (n o : Nat) (s : State) : State := countAndShow (Reg.tskStatus n) Fld.tskStatusSeq Fld.tskStatusState o s

theorem showOutcome_state (n o : Nat) (s : State) : (showOutcome n o s).fld (Reg.tskStatus n) Fld.tskStatusState = o % 8 :=
  countAndShow_shown _ _ s (by decide) (by decide) (by decide) (by decide)

theorem showOutcome_seq (n o : Nat) (s : State) : (showOutcome n o s).fld (Reg.tskStatus n) Fld.tskStatusSeq
    = (s.fld (Reg.tskStatus n) Fld.tskStatusSeq + 1) % 2 ^ Fld.tskStatusSeq.width :=
  countAndShow_count _ _ s (by decide) (by decide) (by decide) (by decide)

theorem opDoorbell_of_pending {s : State} {n : Nat} (h : s.fld (Reg.tskStatus n) Fld.tskStatusState = 1) :
    opDoorbell n s = raise 338 [word n, word (Reg.tskDoorbell n)] s := if_pos h

theorem opDoorbell_of_refused {s : State} {n : Nat} (h : s.fld (Reg.tskStatus n) Fld.tskStatusState ≠ 1)
    (ho : doorbellOutcome s n ≠ 2) : opDoorbell n s = showOutcome n (doorbellOutcome s n) s := by
  simp only [opDoorbell, windowState, h, ho, if_false, countAndShow]

theorem opDoorbell_of_accepted {s : State} {n : Nat} (h : s.fld (Reg.tskStatus n) Fld.tskStatusState ≠ 1)
    (ho : doorbellOutcome s n = 2) : opDoorbell n s = acceptTask n (showOutcome n 2 s) := by
  simp only [opDoorbell, windowState, h, ho, if_false, if_true, countAndShow]

/-- The task that a doorbell takes from the record area (R33, R35). -/
def takenTask (s : State) (n : Nat) : Task := { seq := s.accepted, bytes := recordBytes s n }

/-- With no entry to DOZE or SLEEP under way and no deferred error pending the task joins its context, and nothing else happens (R35). -/
theorem acceptTask_of_quiet {s : State} {n : Nat} (hentry : s.pwr.entering = none)
    (hdeferred : s.flag (Reg.ctxDeferredStatus n) Fld.ctxDeferredStatusPending = false) :
    acceptTask n s = { s with accepted := s.accepted + 1 }.onCtx n (fun c => { c with tasks := c.tasks ++ [takenTask s n] }) := by
  have hcancel : cancelEntry s = s := by simp only [cancelEntry, hentry]
  simp only [acceptTask, hcancel]
  exact if_neg (Bool.eq_false_iff.1 hdeferred)

theorem acceptTask_takes {s : State} {n : Nat} (hentry : s.pwr.entering = none)
    (hdeferred : s.flag (Reg.ctxDeferredStatus n) Fld.ctxDeferredStatusPending = false) :
    let t := acceptTask n s
    t.ctxAt n = { s.ctxAt n with tasks := (s.ctxAt n).tasks ++ [takenTask s n] } ∧ (∀ m, m ≠ n → t.ctxAt m = s.ctxAt m)
    ∧ t = { s with accepted := s.accepted + 1, ctx := t.ctx } := by
  rw [acceptTask_of_quiet hentry hdeferred]
  exact ⟨State.ctxAt_onCtx_same .., fun m hm => State.ctxAt_putCtx_ne _ _ hm, rfl⟩

/-- Registers shown and then a task taken: nothing else of the state is another (R34, R35). -/
theorem taken_frame {s a t : State} (ha : RegsOnly s a) (ht : t = { a with accepted := a.accepted + 1, ctx := t.ctx }) :
    t = { s with regs := t.regs, accepted := s.accepted + 1, ctx := t.ctx } := by
  have hregs : t.regs = a.regs := by rw [ht]
  rw [ha] at ht
  rw [hregs]
  exact ht

/-- Showing an outcome leaves the record area (R33, R34). -/
theorem recordBytes_showOutcome (n o : Nat) (s : State) : recordBytes (showOutcome n o s) n = recordBytes s n := by
  refine congrArg bytesOf (List.map_congr_left fun k hk => countAndShow_sameRegsBut _ _ _ _ s _ ?_)
  have hk : k < 16 := List.mem_range.1 hk
  simp only [Reg.tskRecord, Reg.tskStatus, List.mem_singleton]
  omega

theorem takenTask_showOutcome (n o : Nat) (s : State) : takenTask (showOutcome n o s) n = takenTask s n := by
  rw [takenTask, recordBytes_showOutcome, countAndShow_accepted, takenTask]

theorem showOutcome_deferred (n o : Nat) (s : State) (f : Fld) :
    (showOutcome n o s).flag (Reg.ctxDeferredStatus n) f = s.flag (Reg.ctxDeferredStatus n) f := by
  have hne : Reg.ctxDeferredStatus n ∉ [Reg.tskStatus n] := by
    simp only [Reg.ctxDeferredStatus, Reg.tskStatus, List.mem_singleton]
    omega
  rw [State.flag, State.flag, (countAndShow_sameRegsBut _ _ _ _ s).fld hne]

/-- Settles O8: the outcome is computed from the state at the doorbell, shown in one register, and 2 alone takes a task. -/
theorem doorbellAcceptsOrRefuses : Obligations.DoorbellAcceptsOrRefuses := by
  intro s n v hlive st off
  have hexec : exec (.doorbell n v) s = .next (withdrawTap (opDoorbell n s)) := run_of_scan_false hlive
  have hframe (o : Nat) : SameRegsBut [st] s (showOutcome n o s) ∧ RegsOnly s (showOutcome n o s) :=
    ⟨countAndShow_sameRegsBut _ _ _ _ s, countAndShow_regsOnly ..⟩
  rw [hexec]
  refine ⟨fun hpend => ?_, fun hfree hoff => ?_, fun hfree hopen hfull => ?_, fun hfree hopen hroom hentry hdeferred => ?_⟩
  · rw [opDoorbell_of_pending hpend]
  · have hout : doorbellOutcome s n = 3 := doorbellOutcome_of_shut hoff
    rw [opDoorbell_of_refused hfree (by omega), hout]
    exact ⟨_, rfl, showOutcome_state .., showOutcome_seq .., hframe 3⟩
  · have hout : doorbellOutcome s n = 4 := (doorbellOutcome_of_open hopen).trans (if_pos hfull)
    rw [opDoorbell_of_refused hfree (by omega), hout]
    exact ⟨_, rfl, showOutcome_state .., hframe 4⟩
  · have hout : doorbellOutcome s n = 2 := (doorbellOutcome_of_open hopen).trans (if_neg (Nat.not_le.2 hroom))
    obtain ⟨hctx, hothers, hrest⟩ := acceptTask_takes (s := showOutcome n 2 s) ((congrArg _ (countAndShow_pwr ..)).trans hentry)
      ((showOutcome_deferred ..).trans hdeferred)
    have hregs : (acceptTask n (showOutcome n 2 s)).regs = (showOutcome n 2 s).regs := by rw [hrest]
    rw [takenTask_showOutcome, countAndShow_ctxAt] at hctx
    rw [opDoorbell_of_accepted hfree hout]
    refine ⟨_, rfl, ?_, ?_, hctx, fun m hm => ?_, (hframe 2).1.of_regs hregs, ?_⟩
    · rw [State.fld_of_regs hregs, showOutcome_state]
    · rw [State.fld_of_regs hregs, showOutcome_seq]
    · rw [hothers m hm, countAndShow_ctxAt]
    · exact taken_frame (hframe 2).2 hrest

/-! ### Record words -/

/-- The record area takes words unless STATE is PENDING (R33, R35). -/
theorem taskRecordWrite_takes {s : State} (n : Fin 4096) (k : Fin 16) (v : Word) (hlive : Live s) :
    (s.fld (Reg.tskStatus n) Fld.tskStatusState ≠ 1 →
      ∃ t, exec (.taskRecordWrite n k v) s = .next (withdrawTap t) ∧ t.reg (Reg.tskRecord n k) = v
        ∧ SameRegsBut [Reg.tskRecord n k] s t ∧ t = { s with regs := t.regs })
    ∧ (s.fld (Reg.tskStatus n) Fld.tskStatusState = 1 →
        exec (.taskRecordWrite n k v) s = .next (withdrawTap (raise 338 [word n, word (Reg.tskRecord n k)] s))) := by
  have hexec : exec (.taskRecordWrite n k v) s = .next (withdrawTap (opTaskRecordWrite n k v s)) := run_of_scan_false hlive
  rw [hexec]
  refine ⟨fun hfree => ⟨s.setReg (Reg.tskRecord n k) v, ?_, State.reg_setReg_same .., fun o ho => ?_, rfl⟩, fun hpend => ?_⟩
  · rw [opTaskRecordWrite, windowState, if_neg hfree]
  · exact State.reg_setReg_ne s v (List.ne_of_not_mem_cons ho)
  · rw [opTaskRecordWrite, windowState, if_pos hpend, refuseConfig]

/-! ### Abort requests -/

/-- The state after an abort request is counted and shown PENDING (R53). -/
abbrev showAbort (n : Nat) (s : State) : State := countAndShow (Reg.tskAbortResult n) Fld.tskAbortResultSeq Fld.tskAbortResultState 1 s

theorem showAbort_state (n : Nat) (s : State) : (showAbort n s).fld (Reg.tskAbortResult n) Fld.tskAbortResultState = 1 :=
  countAndShow_shown _ 1 s (by decide) (by decide) (by decide) (by decide)

theorem showAbort_seq (n : Nat) (s : State) : (showAbort n s).fld (Reg.tskAbortResult n) Fld.tskAbortResultSeq
    = (s.fld (Reg.tskAbortResult n) Fld.tskAbortResultSeq + 1) % 2 ^ Fld.tskAbortResultSeq.width :=
  countAndShow_count _ 1 s (by decide) (by decide) (by decide) (by decide)

/-- The context waits for the completion of task `q`, to be answered CAUGHT or TOO_LATE (R52, R53). -/
abbrev awaitAbort (n q : Nat) (caught : Bool) (s : State) : State :=
  (showAbort n s).onCtx n (fun c => { c with abortWait := some (q, caught) })

section AwaitAbort
variable (n q : Nat) (caught : Bool) (s : State)

theorem awaitAbort_regs : (awaitAbort n q caught s).regs = (showAbort n s).regs := rfl

theorem awaitAbort_ctxAt : (awaitAbort n q caught s).ctxAt n = { s.ctxAt n with abortWait := some (q, caught) } := by
  rw [awaitAbort, State.ctxAt_onCtx_same, countAndShow_ctxAt]

theorem awaitAbort_ctxAt_ne {m : Nat} (h : m ≠ n) : (awaitAbort n q caught s).ctxAt m = s.ctxAt m :=
  (State.ctxAt_putCtx_ne _ _ h).trans (countAndShow_ctxAt ..)

theorem awaitAbort_frame :
    awaitAbort n q caught s = { s with regs := (awaitAbort n q caught s).regs, ctx := (awaitAbort n q caught s).ctx } :=
  (countAndShow_regsOnly ..).onCtx ..

theorem awaitAbort_touches : Moves [.regs, .ctx] s (awaitAbort n q caught s) :=
  ((countAndShow_touches ..).mono (by decide)).trans ((State.onCtx_touches ..).mono (by decide))

end AwaitAbort

theorem Task.unbegun_iff {u : Task} : u.unbegun = true ↔ u.stage = .waiting ∧ u.committed = false := by
  simp [Task.unbegun, Task.waits]

section Abort
variable {s : State} {n : Nat} {tag : Word}

theorem opAbortRequest_of_pending (h : s.fld (Reg.tskAbortResult n) Fld.tskAbortResultState = 1) : opAbortRequest n tag s = s := if_pos h

variable (hfree : s.fld (Reg.tskAbortResult n) Fld.tskAbortResultState ≠ 1)
include hfree

theorem opAbortRequest_of_unknown (h : ∀ u ∈ (s.ctxAt n).tasks, u.tag ≠ tag.toNat) :
    opAbortRequest n tag s = (showAbort n s).setFld (Reg.tskAbortResult n) Fld.tskAbortResultState 4 := by
  have hnone : (s.ctxAt n).tasks.find? (fun u => u.tag == tag.toNat) = none := by simpa using h
  simp only [opAbortRequest, hfree, if_false, hnone, setAbort, countAndShow]

theorem opAbortRequest_of_committed {u : Task} (h : (s.ctxAt n).tasks.find? (fun u => u.tag == tag.toNat) = some u)
    (hc : u.committed = true) : opAbortRequest n tag s = awaitAbort n u.seq false s := by
  simp only [opAbortRequest, hfree, if_false, h, hc, Bool.not_true, Bool.false_and, Bool.false_eq_true, setAbort, awaitAbort, countAndShow]

theorem opAbortRequest_of_unbegun {u : Task} (h : (s.ctxAt n).tasks.find? (fun u => u.tag == tag.toNat) = some u)
    (hu : u.unbegun = true) : opAbortRequest n tag s = catchTask n u (awaitAbort n u.seq true s) := by
  obtain ⟨hwaits, hc⟩ := Task.unbegun_iff.1 hu
  simp [opAbortRequest, hfree, h, hc, hwaits, Task.isDone, setAbort, awaitAbort, countAndShow]

end Abort

/-! ### Catching a task -/

/-- Every task of the context with acceptance number `q` stands at `st`. -/
def Context.StandsAt (c : Context) (q : Nat) (st : Stage) : Prop := ∀ x ∈ c.tasks, x.seq = q → x.stage = st

/-- A change of tasks that leaves numbers and stages. -/
theorem Context.StandsAt.onTask {c : Context} {q k : Nat} {st : Stage} {f : Task → Task} (h : c.StandsAt q st)
    (hseq : ∀ t, (f t).seq = t.seq) (hstage : ∀ t, (f t).stage = t.stage) : (c.onTask k f).StandsAt q st := by
  intro x hx hxq
  obtain ⟨t, ht, rfl⟩ := List.mem_map.1 hx
  split at hxq
  · rw [if_pos ‹_›, hstage]
    exact h t ht (by rw [← hseq, hxq])
  · rw [if_neg ‹_›]
    exact h t ht hxq

theorem Context.standsAt_onTask_self (c : Context) (q : Nat) (st : Stage) : (c.onTask q (fun t => { t with stage := st })).StandsAt q st := by
  intro x hx hxq
  obtain ⟨t, _, rfl⟩ := List.mem_map.1 hx
  split at hxq
  · rw [if_pos ‹_›]
  · exact absurd (beq_iff_eq.2 hxq) ‹_›

/-- The choice of a carrier marks one task at most (R50). -/
theorem chooseCarrier_cases (n : Nat) (s : State) : ∃ f : Context → Context, chooseCarrier n s = s.onCtx n f
    ∧ ((f (s.ctxAt n) = s.ctxAt n) ∨ ∃ k, f (s.ctxAt n) = (s.ctxAt n).onTask k (fun t => { t with carrier := true })) := by
  refine ⟨_, rfl, ?_⟩
  split
  · exact .inl rfl
  · split
    · exact .inr ⟨_, rfl⟩
    · exact .inl rfl

section ChooseCarrier
variable (n : Nat) (s : State)

theorem chooseCarrier_regs : (chooseCarrier n s).regs = s.regs := rfl

theorem chooseCarrier_ctxAt_ne {m : Nat} (h : m ≠ n) : (chooseCarrier n s).ctxAt m = s.ctxAt m := State.ctxAt_putCtx_ne _ _ h

theorem chooseCarrier_abortWait : ((chooseCarrier n s).ctxAt n).abortWait = (s.ctxAt n).abortWait := by
  obtain ⟨f, hf, h | ⟨k, h⟩⟩ := chooseCarrier_cases n s <;> rw [hf, State.ctxAt_onCtx_same, h]
  rfl

theorem Context.StandsAt.chooseCarrier {n : Nat} {s : State} {q : Nat} {st : Stage} (hs : (s.ctxAt n).StandsAt q st) :
    ((chooseCarrier n s).ctxAt n).StandsAt q st := by
  obtain ⟨f, hf, h | ⟨k, h⟩⟩ := chooseCarrier_cases n s <;> rw [hf, State.ctxAt_onCtx_same, h]
  · exact hs
  · exact hs.onTask (fun _ => rfl) (fun _ => rfl)

end ChooseCarrier

/-- The task's reads are dropped, it carries no deferred error, and it is done as ABORTED (R51, R52). -/
def endCaught (n q : Nat) (s : State) : State :=
  finish n q abortedC ((dropReads n q s).onTask n q (fun x => { x with carrier := false }))

theorem endCaught_regs (n q : Nat) (s : State) : (endCaught n q s).regs = s.regs := rfl

theorem endCaught_ctxAt_ne (n q : Nat) (s : State) {m : Nat} (h : m ≠ n) : (endCaught n q s).ctxAt m = s.ctxAt m :=
  (State.ctxAt_putCtx_ne _ _ h).trans (State.ctxAt_putCtx_ne (dropReads n q s) _ h)

theorem endCaught_ctxAt (n q : Nat) (s : State) : (endCaught n q s).ctxAt n
    = ((s.ctxAt n).onTask q (fun x => { x with carrier := false })).onTask q (fun x => { x with stage := .done abortedC }) := by
  rw [endCaught, finish, State.onTask, State.ctxAt_onCtx_same, State.onTask, State.ctxAt_onCtx_same]
  rfl

theorem endCaught_touches (n q : Nat) (s : State) : Moves [.ctx, .lnk] s (endCaught n q s) :=
  (((dropReads_touches n q s).mono (by decide)).trans ((State.onTask_touches ..).mono (by decide))).trans
    ((finish_touches ..).mono (by decide))

section Caught
variable {s : State} {n : Nat} {u : Task} (hu : u.unbegun = true) (hwrite : u.opcode ≠ 1) (hmark : u.opcode ≠ 2)
  (hreader : (s.ctxAt n).reader = none) (hjob : (s.ctxAt n).job = none)
include hu hwrite hmark hreader hjob

/-- A task that has not begun, in a context without a READ or host job at work, leaves nothing to take back (R52). -/
theorem catchTask_of_unbegun : catchTask n u s = if u.carrier then chooseCarrier n (endCaught n u.seq s) else endCaught n u.seq s := by
  have hwaits : u.stage = .waiting := (Task.unbegun_iff.1 hu).1
  have hdone : u.isDone = false := by simp only [Task.isDone, hwaits]
  have hdrop : dropJob n u.seq (dropReads n u.seq s) = dropReads n u.seq s := by
    have h : ((dropReads n u.seq s).ctxAt n).job = none := hjob
    simp only [dropJob, h]
  have hread : ((dropReads n u.seq s).ctxAt n).reader = none := hreader
  simp only [catchTask, hdone, hwrite, hmark, hdrop, hread, decide_false, Bool.or_self, Bool.false_eq_true, if_false, endCaught]

theorem catchTask_catches :
    let t := catchTask n u s
    t.regs = s.regs ∧ (t.ctxAt n).abortWait = (s.ctxAt n).abortWait ∧ (t.ctxAt n).StandsAt u.seq (.done abortedC)
    ∧ (∀ m, m ≠ n → t.ctxAt m = s.ctxAt m) ∧ Touches [.ctx, .lnk] s t := by
  have hwait : ((endCaught n u.seq s).ctxAt n).abortWait = (s.ctxAt n).abortWait := by rw [endCaught_ctxAt]; rfl
  have hstands : ((endCaught n u.seq s).ctxAt n).StandsAt u.seq (.done abortedC) := by
    rw [endCaught_ctxAt]
    exact Context.standsAt_onTask_self _ _ _
  have hothers (m : Nat) (hm : m ≠ n) : (endCaught n u.seq s).ctxAt m = s.ctxAt m := endCaught_ctxAt_ne n u.seq s hm
  have hparts : Touches [.ctx, .lnk] s (endCaught n u.seq s) := (endCaught_touches ..).toTouches
  rw [catchTask_of_unbegun hu hwrite hmark hreader hjob]
  cases u.carrier with
  | false => exact ⟨endCaught_regs .., hwait, hstands, hothers, hparts⟩
  | true =>
    exact ⟨(chooseCarrier_regs ..).trans (endCaught_regs ..), (chooseCarrier_abortWait ..).trans hwait, hstands.chooseCarrier,
      fun m hm => (chooseCarrier_ctxAt_ne n _ hm).trans (hothers m hm),
      hparts.trans ((chooseCarrier_touches ..).toTouches.mono (by decide))⟩

end Caught

/-- Settles O7: a request is decided from the task that it names, and a task not begun leaves nothing behind. -/
theorem recordsAreTakenAndAborted : Obligations.RecordsAreTakenAndAborted := by
  refine ⟨fun s n k v hlive => taskRecordWrite_takes n k v hlive, ?_⟩
  intro s n tag hlive r
  have hexec : exec (.abortRequest n tag) s = .next (withdrawTap (opAbortRequest n tag s)) := run_of_scan_false hlive
  have hframe : SameRegsBut [r] s (showAbort n s) ∧ RegsOnly s (showAbort n s) :=
    ⟨countAndShow_sameRegsBut _ _ _ _ s, countAndShow_regsOnly ..⟩
  rw [hexec]
  refine ⟨fun hpend => ?_, fun hfree hnone => ?_, fun u hfree hfind hc => ?_, fun u hfree hfind hu hwrite hmark hreader hjob => ?_⟩
  · rw [opAbortRequest_of_pending hpend]
  · rw [opAbortRequest_of_unknown hfree hnone]
    refine ⟨_, rfl, State.fld_setFld_same _ _ _ 4 (by decide) (by decide), ?_,
      hframe.1.setFld (List.mem_singleton_self r) _ 4, hframe.2.trans (setFld_regsOnly ..)⟩
    rw [State.fld_setFld_other _ _ _ _ 4 (by decide) (by decide) (by decide) (by decide)]
    exact showAbort_seq n s
  · rw [opAbortRequest_of_committed hfree hfind hc]
    refine ⟨_, rfl, ?_, awaitAbort_ctxAt .., hframe.1.of_regs rfl, ?_⟩
    · rw [State.fld_of_regs (awaitAbort_regs ..), showAbort_state]
    · exact awaitAbort_frame n u.seq false s
  · rw [opAbortRequest_of_unbegun hfree hfind hu]
    obtain ⟨hregs, hwait, hstands, hothers, hparts⟩ := catchTask_catches (s := awaitAbort n u.seq true s) (n := n) hu hwrite hmark
      (by rw [awaitAbort_ctxAt]; exact hreader) (by rw [awaitAbort_ctxAt]; exact hjob)
    have hregs : _ = (showAbort n s).regs := hregs.trans (awaitAbort_regs ..)
    refine ⟨_, rfl, ?_, ?_, hstands, fun m hm => ?_, hframe.1.of_regs hregs, ?_⟩
    · rw [State.fld_of_regs hregs, showAbort_state]
    · rw [hwait, awaitAbort_ctxAt]
    · rw [hothers m hm, awaitAbort_ctxAt_ne _ _ _ _ hm]
    · exact ((awaitAbort_touches ..).toTouches.mono (by decide)).trans (hparts.mono (by decide))

/-! ### POSITION, BARRIER and METER_READ -/

theorem allEarlierDone_iff (s : State) (q : Nat) : allEarlierDone s q = true ↔ ∀ e ∈ s.ctx, ∀ x ∈ e.2.tasks, q ≤ x.seq := by
  simp [allEarlierDone]

theorem commence_ctxAt_ne (n q : Nat) (s : State) {m : Nat} (h : m ≠ n) : (commence n q s).ctxAt m = s.ctxAt m :=
  State.ctxAt_putCtx_ne _ _ h

theorem commence_ctxAt (n q : Nat) (s : State) :
    (commence n q s).ctxAt n = (s.ctxAt n).onTask q (fun t => { t with stage := .running, committed := true }) := State.ctxAt_onCtx_same ..

/-- What a meter entry counts is none of the state of tasks (Table 18-6). -/
theorem meterEntry_commence (n q m phase flags : Nat) (s : State) : meterEntry (commence n q s) m phase flags = meterEntry s m phase flags := by
  by_cases h : m = n
  · subst h
    simp only [meterEntry, commence_ctxAt]
    rfl
  · simp only [meterEntry, commence_ctxAt_ne _ _ _ h]
    rfl

/-- Settles O11: each row is `beginTask` with the effect named. -/
theorem positionBarrierMeterRead : Obligations.PositionBarrierMeterRead := by
  intro s n u hlive
  refine ⟨fun hbegins hbound => ?_, fun hbegins hunbound => ?_, fun hbegins hglobal => ?_, fun hbegins => ?_⟩
  · refine answers_of_begins (c := .position n) rfl hlive hbegins ?_
    rw [bound, hbound]
    rfl
  · refine answers_of_begins (c := .position n) rfl hlive hbegins ?_
    rw [bound, hunbound]
    rfl
  · refine answers_of_begins (c := .barrier n) rfl hlive hbegins (if_neg ?_)
    simpa [← Bool.not_eq_true, allEarlierDone_iff] using hglobal
  · refine ⟨_, answers_of_begins (c := .meterRead n) rfl hlive hbegins rfl, ?_, rfl⟩
    rw [meterEntry_commence]
    rfl

/-! ### Data tasks -/

/-- The first reason is one of those listed whose condition holds. -/
theorem mem_of_firstReason {l : List (Bool × Nat)} {k : Nat} (h : firstReason l = some k) : (true, k) ∈ l := by
  obtain ⟨⟨b, j⟩, hfind, rfl⟩ := Option.map_eq_some_iff.1 h
  have hb : b = true := List.find?_some hfind
  subst hb
  exact List.mem_of_find?_eq_some hfind

/-- Reason 1 is that of a context that is not bound, before all others (Table 02-10). -/
theorem dataReason_eq_one_iff {s : State} {n op k : Nat} (h : dataReason s n op = some k) : bound s n = false ↔ k = 1 := by
  constructor
  · intro hunbound
    simpa [dataReason, firstReason, hunbound, eq_comm] using h
  · rintro rfl
    simpa using mem_of_firstReason h

section Item
variable {s : State} {n op k : Nat} {refusals : State → Option Completion} {item : Nat → InItem} {u : Task}

theorem runItem_of_reason (hsec : s.sec.state ≠ 2) (hreason : dataReason s n op = some k) :
    runItem n op refusals item u s = finish n u.seq (notReady k) s := by
  have htampered : (if op = 2 then tampered s else none) = none := by simp [tampered, hsec]
  rw [runItem, htampered, hreason]
  rfl

theorem runItem_of_ready (hsec : op = 2 → s.sec.state ≠ 2) (hreason : dataReason s n op = none) (hready : (enterTable n s).1 = true)
    (hroom : refusals (enterTable n s).2 = none) : runItem n op refusals item u s =
      pushInput n [item u.seq] (if op = 2 then commenceOpen n u.seq (enterTable n s).2 else commence n u.seq (enterTable n s).2) := by
  have htampered : (if op = 2 then tampered s else none) = none := by
    split
    · exact if_neg (hsec ‹_›)
    · rfl
  rw [runItem, htampered, hreason]
  simp only [orElse, Option.map_none, unlessRefused_none, onTableReady, hready, if_true, hroom]

end Item

/-- The rows of MARK, FLUSH, SYNC and PASS put an item at the Cutter's input (R66, R70, R75). -/
theorem exec_itemTask (n : Fin 4096) : ∀ c ∈ [(Instr.mark n, 2), (.flush n, 3), (.sync n, 4), (.pass n, 9)],
    ∃ (refusals : State → Option Completion) (item : Task → Nat → InItem), ∀ s,
      exec c.1 s = run (beginTask c.2 n (fun u => runItem n c.2 refusals (item u) u)) s := by
  simp only [List.forall_mem_cons, List.not_mem_nil, false_implies, implies_true, and_true]
  exact ⟨⟨_, _, fun _ => rfl⟩, ⟨_, fun _ => _, fun _ => rfl⟩, ⟨_, fun _ => _, fun _ => rfl⟩, ⟨_, _, fun _ => rfl⟩⟩

theorem opRead_of_begins {s : State} {n : Nat} {u : Task} (h : Begins s n 5 u) :
    opRead n s = startFetch n u.seq [(u.field 8 8, 16 * u.field 16 4)] s := by
  rw [opRead, h.1]
  exact beginTask_of_begins h

/-- Settles O12: WRITE and READ fetch, the other four are `runItem`, whose refusal has the first reason of Table 02-10. -/
theorem dataTasksBeginOrAreRefused : Obligations.DataTasksBeginOrAreRefused := by
  refine ⟨fun s n u hlive => ⟨?_, ?_, ?_, ?_, ?_, ?_⟩, fun s n u k hlive hsec c hc hbegins hreason => ⟨?_, dataReason_eq_one_iff hreason⟩⟩
  · intro hbegins hnew
    exact answers_of_begins (c := .write n) rfl hlive hbegins (by simp only [hnew, Bool.false_eq_true, if_false])
  · intro hbegins
    have hexec : exec (.read n) s = .next (withdrawTap (opRead n s)) := run_of_scan_false hlive
    rw [hexec, opRead_of_begins hbegins]
  · intro hbegins hsec hreason hready hroom
    exact answers_of_begins (c := .mark n) rfl hlive hbegins (runItem_of_ready (fun _ => hsec) hreason hready hroom)
  · intro hbegins hreason hready
    exact answers_of_begins (c := .flush n) rfl hlive hbegins (runItem_of_ready nofun hreason hready rfl)
  · intro hbegins hreason hready
    exact answers_of_begins (c := .sync n) rfl hlive hbegins (runItem_of_ready nofun hreason hready rfl)
  · intro hbegins hreason hready
    exact answers_of_begins (c := .pass n) rfl hlive hbegins (runItem_of_ready nofun hreason hready rfl)
  · obtain ⟨refusals, item, hrow⟩ := exec_itemTask n c hc
    exact answers_of_begins (hrow s) hlive hbegins (runItem_of_reason hsec hreason)

/-! ### Deck tasks -/

/-- An administration task that nothing refuses runs on a deck that is quiet (R55, R168, R195). -/
theorem runAdmin_of_quiet {s : State} {n : Nat} {u : Task} {refusal : State → Nat → Task → Option Completion}
    {f : Nat → Task → State → State} (hquiet : groupQuiet s (u.field 8 1) = true) (howes : owesEnd s (u.field 8 1) = false)
    (hfree : refusal s (u.field 8 1) u = none) : runAdmin n refusal f u s = f (u.field 8 1) u s := by
  simp [runAdmin, hfree, unlessRefused_none, hquiet, howes]

theorem noteRefusal_none (op : Nat) (s : State) : noteRefusal op none s = s := rfl

theorem tableAt_writeMedium (td n q : Nat) (c : Completion) (parts : Sparse (Nat × Nat)) (label : List Byte)
    (before : Nat → Nat → State → List (Nat × Word × List Trick)) (s : State) (d p : Nat) :
    (writeMedium td n q c parts label before s).tableAt d p = s.tableAt d p :=
  congrArg (fun t => Sparse.get ({} : Table) t (64 * d + p)) ((writeMedium_touches td n q c parts label before s).keep .tables (by decide))

/-- PART_DELETE forgets the partition's table and writes the medium lead without it (Table 07-7). -/
theorem opPartDelete_of_quiet {s : State} {n : Nat} {u : Task} (hbegins : Begins s n 0x14 u) (hquiet : groupQuiet s (u.field 8 1) = true)
    (howes : owesEnd s (u.field 8 1) = false) (hfree : deleteRefusal n s (u.field 8 1) u = none) :
    ∃ (parts : Sparse (Nat × Nat)) (label : List Byte), opPartDelete n s =
      writeMedium (u.field 8 1) n u.seq (status 0) parts label (fun _ _ _ => []) ((commence n u.seq s).onTable (u.field 8 1) (u.field 9 1)
        (fun x => { x with known := false, directory := [], streams := [], full := false, needsEod := false })) := by
  rw [opPartDelete, beginTask_of_begins hbegins]
  dsimp only
  rw [hfree, noteRefusal_none, runAdmin_of_quiet hquiet howes hfree]
  exact ⟨_, _, rfl⟩

/-- Settles O21: each row is `beginTask` of an administration task, which runs on a quiet deck. -/
theorem deckTasksBegin : Obligations.DeckTasksBegin := by
  intro s n u hlive d a hquiet howes
  refine ⟨fun hbegins hfree => answers_of_begins (c := .unload n) rfl hlive hbegins (runAdmin_of_quiet hquiet howes hfree),
    fun hbegins hfree => answers_of_begins (c := .rewind n) rfl hlive hbegins (runAdmin_of_quiet hquiet howes hfree),
    fun hbegins hfree => answers_of_begins (c := .load n) rfl hlive hbegins (runAdmin_of_quiet hquiet howes hfree),
    fun hbegins hfree => answers_of_begins (c := .partCreate n) rfl hlive hbegins (runAdmin_of_quiet hquiet howes hfree), ?_, ?_⟩
  · intro hbegins hfree
    refine answers_of_begins (c := .mediumFormat n) rfl hlive hbegins ?_
    rw [show formatRefusal n s (u.field 8 1) u = none from hfree, noteRefusal_none]
    exact runAdmin_of_quiet hquiet howes hfree
  · intro hbegins hfree
    obtain ⟨parts, label, hop⟩ := opPartDelete_of_quiet hbegins hquiet howes hfree
    refine ⟨opPartDelete n s, run_of_scan_false hlive, (opPartDelete_touches n s).toTouches, ?_⟩
    rw [hop, tableAt_writeMedium, State.tableAt_onTable_same]
    exact ⟨rfl, rfl⟩

/-! ### A bad record behind which another task already runs -/

/-- A POWER task whose FLAGS are out of range (Table 02-3). -/
def badPower : Task := { seq := 0, bytes := [0x17, 0x80] }

/-- A later POWER task of context 0 enters DOZE while `badPower` still waits before it. No run that keeps the order of R47 comes here, but
the statement asks only that SCAN is not in effect. -/
def enteringAhead : State :=
  { State.reset.putCtx 0 { tasks := [badPower, { seq := 1, bytes := [0x17], stage := .running, committed := true }] } with
    pwr := { entering := some (0, 1, 2) } }

/-- POWER goes on with the task that enters DOZE, and leaves the other waiting (R357). -/
theorem opPower_enteringAhead : opPower 0 enteringAhead = powerRest 0 1 2 enteringAhead := rfl

/-- Refutes O10: the row POWER goes on with the task that enters DOZE before it looks for one that may begin, so that in `enteringAhead` the
task with the bad record is not completed. -/
theorem not_badRecordCompletesFieldRange : ¬ Obligations.BadRecordCompletesFieldRange := by
  unfold Obligations.BadRecordCompletesFieldRange
  intro h
  have hfinish : exec (.power 0) enteringAhead = .next (withdrawTap (finish 0 0 (fieldRange 1 0x80) enteringAhead)) :=
    h enteringAhead 0 badPower 1 0x80 rfl (.power 0, 0x17) (by simp) (by decide +kernel) rfl (by decide +kernel)
  have hrest : exec (.power 0) enteringAhead = .next (withdrawTap (opPower 0 enteringAhead)) := run_of_scan_false rfl
  rw [opPower_enteringAhead] at hrest
  have hctx : (finish 0 0 (fieldRange 1 0x80) enteringAhead).ctx = (powerRest 0 1 2 enteringAhead).ctx := by
    rw [← withdrawTap_ctx, Host.Outcome.next.inj (hfinish.symm.trans hrest), withdrawTap_ctx]
  exact absurd hctx (by decide +kernel)

end Sys2Proof.Machine
end

section
/-! The Dealer, seating and sealing (R62 to R75, R97 to R99, R103 to R122): which item and which seat a table packs next, what a block's
sealing and opening do, how a host job ends, and who goes on once chips are free. -/

namespace Sys2Proof.Machine

/-! ### The Dealer -/

section Packing
variable {s : State} {td p : Nat}

/-- Outside fixed seating the oldest item is packed (R69). -/
theorem opPackItem_of_item {i : Item} {l : List Item} (hpack : mayPack s td p = true) (hmode : (s.tableAt td p).mode ≠ 2)
    (hitems : (s.tableAt td p).items = i :: l) :
    opPackItem td p s = settlePack td p s (packItemOf td p i (s.putTable td p { s.tableAt td p with items := l })) := by
  simp [opPackItem, hpack, hmode, hitems]

section AwaitedSeat
variable (hseat : (s.tableAt td p).turn.1 < (s.tableAt td p).plan.length) (hquota : (s.tableAt td p).turn.2 ≠ 0)
  (hpassed : passed (s.tableAt td p) (s.tableAt td p).turn.1 (s.tableAt td p).nextTrick = false)
include hseat hquota hpassed

/-- A seat with quota left that no PASS covers keeps its turn (R70). -/
theorem nextSeat_of_awaited (fuel : Nat) : nextSeat td p (fuel + 1) s = .ok s := by
  simp [nextSeat, Nat.not_le.2 hseat, hquota, hpassed]

/-- In fixed seating the awaited seat has its turn, and then the next seat is looked for unless packing is held (R70). -/
theorem opFixedSeatTurn_of_awaited (hpack : mayPack s td p = true) (hmode : (s.tableAt td p).mode = 2) (hplan : (s.tableAt td p).plan ≠ [])
    (hturn : (s.tableAt td p).inTurn = true) :
    opFixedSeatTurn td p s = settlePack td p s ((seatTurn td p s).bind fun s2 =>
      if packingHeld s2 td p then .ok (vacate td p s2) else nextSeat td p ((s.tableAt td p).plan.length + 2) (vacate td p s2)) := by
  have hmay : (mayPack s td p && (s.tableAt td p).mode == 2 && !(s.tableAt td p).plan.isEmpty) = true := by simp [hpack, hmode, hplan]
  simp only [opFixedSeatTurn, hmay, hturn, nextSeat_of_awaited hseat hquota hpassed, if_true, ne_eq, not_true_eq_false, if_false]
  cases seatTurn td p s <;> rfl

end AwaitedSeat

end Packing

/-- Settles O19: nothing is to be looked for before the oldest item, or before the seat that has the turn. -/
theorem dealerPacksInOrder : Obligations.DealerPacksInOrder := by
  intro s d p i l hlive hpack
  have hpackItem : exec (.packItem d p) s = .next (withdrawTap (opPackItem d p s)) := run_of_scan_false hlive
  have hfixed : exec (.fixedSeatTurn d p) s = .next (withdrawTap (opFixedSeatTurn d p s)) := run_of_scan_false hlive
  refine ⟨fun hmode hitems => ?_, fun hmode hitems n q hflush => ?_, fun hmode hplan hturn hseat hquota hpassed => ⟨_, rfl, ?_⟩⟩
  · rw [hpackItem, opPackItem_of_item hpack hmode hitems]
  · rw [hpackItem, opPackItem_of_item hpack hmode hitems, hflush]
    rfl
  · rw [hfixed, opFixedSeatTurn_of_awaited hseat hquota hpassed hpack hmode hplan hturn]
    cases seatTurn d p s <;> rfl

/-! ### Seats -/

@[simp] theorem raise_tableAt (ev : Nat) (l : List Word) (s : State) (d p : Nat) : (raise ev l s).tableAt d p = s.tableAt d p := by
  rw [State.tableAt, raise_tables, State.tableAt]

section SeatAlert
variable {s : State} {td p k : Nat} (hwaits : (s.tableAt td p).waiting = some k)
include hwaits

/-- A wait that is alerted already raises nothing more (R70). -/
theorem opSeatAlert_of_alerted (halerted : (s.tableAt td p).alerted = true) : opSeatAlert td p s = s := by
  simp [opSeatAlert, hwaits, halerted]

/-- A wait's first alert is noted in the table and raised as event 340 (R70). -/
theorem opSeatAlert_of_first (hms : s.fld Reg.dlrSeatAlert Fld.dlrSeatAlertAlertMs ≠ 0) (hfirst : (s.tableAt td p).alerted = false) :
    opSeatAlert td p s = raise 340 [word td, word p, word k, word ((s.tableAt td p).plan.getD k (0, 0)).1]
      (s.putTable td p { s.tableAt td p with
        alerted := true, waitMs := word (max (s.fld Reg.dlrSeatAlert Fld.dlrSeatAlertAlertMs) (s.tableAt td p).waitMs.toNat) }) := by
  simp [opSeatAlert, hwaits, hms, hfirst]

end SeatAlert

/-- Settles O20: the alert is one change of the table and one event, and SEAT is `beginTask` of a read or of the seating itself. -/
theorem seatsReadTheirPlanAndWait : Obligations.SeatsReadTheirPlanAndWait := by
  refine ⟨fun s d p k hlive hwaits hms => ?_, fun s n u hlive hbegins => ⟨fun hnew hplan => ?_, fun hready => ?_⟩⟩
  · have hexec : exec (.seatAlert d p) s = .next (withdrawTap (opSeatAlert d p s)) := run_of_scan_false hlive
    rw [hexec]
    refine ⟨fun hfirst => ?_, fun halerted => by rw [opSeatAlert_of_alerted hwaits halerted]⟩
    rw [opSeatAlert_of_first hwaits hms hfirst]
    refine ⟨_, rfl, ?_, ?_, ?_⟩
    · rw [raise_tableAt, State.tableAt_putTable_same]
    · rw [raise_tableAt, State.tableAt_putTable_same]
    · rw [raise_tables]
      rfl
  · exact answers_of_begins (c := .seat n) rfl hlive hbegins (if_neg (by simp [hnew, hplan]))
  · exact answers_of_begins (c := .seat n) rfl hlive hbegins (if_pos (by simpa using hready))

/-! ### Sealing and opening -/

theorem settleHead_of_sound {s : State} {n : Nat} (hsound : failingHead (s.ctxAt n) = none) : settleHead n s = s := by
  simp only [settleHead, hsound]

section Seal
variable {s : State} {n : Nat} {b : Block} {rest : List Block} {code : List Byte} (hsound : failingHead (s.ctxAt n) = none)
  (hblocks : (s.ctxAt n).blocks = b :: rest) (hcoded : b.stage = .coded code) (hlength : code.length ≤ 262176)
include hsound hblocks hcoded hlength

/-- The pool has the chips: the block is sealed into them, and its table waits no longer (R73, R103). -/
theorem sealNextBlock_of_chips {chips : List Nat}
    (hchips : (allocate (chipsFor (code.length + 16)) (sealedPool s (bindDeck s n)) 1 n s).1 = some chips) :
    sealNextBlock n s = sealHead n b code chips ((allocate (chipsFor (code.length + 16)) (sealedPool s (bindDeck s n)) 1 n s).2.onTable
      (bindDeck s n) (bindPart s n) (fun t => { t with sealWait := none })) := by
  simp only [sealNextBlock, settleHead_of_sound hsound, hblocks, hcoded, Nat.not_lt.2 hlength, if_false, hchips]

/-- The pool lacks chips: the block waits for them (R73). -/
theorem sealNextBlock_of_no_chips
    (hchips : (allocate (chipsFor (code.length + 16)) (sealedPool s (bindDeck s n)) 1 n s).1 = none) :
    sealNextBlock n s = waitSealed (bindDeck s n) (bindPart s n) (sealedPool s (bindDeck s n))
      (allocate (chipsFor (code.length + 16)) (sealedPool s (bindDeck s n)) 1 n s).2 := by
  simp only [sealNextBlock, settleHead_of_sound hsound, hblocks, hcoded, Nat.not_lt.2 hlength, if_false, hchips]

end Seal

section Open
variable {s : State} {n k : Nat} {r : Reader} {b : Sealed} {key : List Byte} (hreader : (s.ctxAt n).reader = some r)
  (hblock : r.block = some b) (hkey : r.key = some (k, key)) (hclosed : r.opened = none)
include hreader hblock hkey hclosed

/-- A tag that fails ends the READ (R118). -/
theorem opBlockOpen_of_bad_tag (hopen : gcmOpen key (sealIv b.salt b.ctr) (sealAad (b.bytes.take 32) b.stream b.label)
      (slice b.bytes 32 (b.bytes.length - 48)) (b.bytes.drop (b.bytes.length - 16)) = none) : opBlockOpen n s = authFail n b s := by
  simp [opBlockOpen, hreader, hblock, hkey, hclosed, hopen]

/-- A block with a good tag waits, opened, for an engine (R118, R208). -/
theorem opBlockOpen_of_good_tag {text : List Byte} (hopen : gcmOpen key (sealIv b.salt b.ctr) (sealAad (b.bytes.take 32) b.stream b.label)
      (slice b.bytes 32 (b.bytes.length - 48)) (b.bytes.drop (b.bytes.length - 16)) = some text) :
    opBlockOpen n s = { s with cut := { s.cut with restoreQ := s.cut.restoreQ ++ [EngineWork.restore n] } }.onCtx n
      (fun c => { c with reader := some { r with opened := some (b.bytes.take 32 ++ text) } }) := by
  simp only [opBlockOpen, hreader, hblock, hkey, hclosed, hopen, Option.isSome_none, Bool.false_eq_true, if_false]
  rfl

end Open

/-- Settles O16: a sound coded head is sealed or waits as the pool answers, and a block is opened or refused as its tag is. -/
theorem blocksAreSealedAndOpened : Obligations.BlocksAreSealedAndOpened := by
  constructor
  · intro s n l b rest code hlive hsound hblocks hcoded hlength
    dsimp only
    have hexec : exec (.seal n l) s = .next (withdrawTap (sealNextBlock n s)) := run_of_scan_false hlive
    refine ⟨fun chips hchips => ?_, fun hchips => ?_⟩
    · rw [hexec, sealNextBlock_of_chips hsound hblocks hcoded hlength hchips]
    · rw [hexec, sealNextBlock_of_no_chips hsound hblocks hcoded hlength hchips]
  · intro s n l r b k key hlive hreader hblock hkey hclosed h res
    have hexec : exec (.blockOpen n l) s = .next (withdrawTap (opBlockOpen n s)) := run_of_scan_false hlive
    refine ⟨fun text hopen => ?_, fun hopen => ?_⟩
    · rw [hexec, opBlockOpen_of_good_tag hreader hblock hkey hclosed hopen]
      refine ⟨_, rfl, ?_, rfl, fun m hm => State.ctxAt_putCtx_ne _ _ hm, rfl⟩
      rw [State.ctxAt_onCtx_same]
    · rw [hexec, opBlockOpen_of_bad_tag hreader hblock hkey hclosed hopen, authFail]

/-! ### What is sent stays sent -/

/-- The messages of `s` are in `t`, behind newer ones. -/
def KeepsSent (s t : State) : Prop := s.sent <:+ t.sent

theorem KeepsSent.of_sent_eq {s t : State} (h : t.sent = s.sent) : KeepsSent s t := by
  rw [KeepsSent, h]

theorem KeepsSent.of_sent {s a t : State} (h : KeepsSent a t) (e : a.sent = s.sent) : KeepsSent s t := by
  rwa [KeepsSent, ← e]

theorem KeepsSent.trans {s t u : State} (h : KeepsSent s t) (k : KeepsSent t u) : KeepsSent s u := List.IsSuffix.trans h k

theorem recordEvent_keepsSent {again : Nat → List Word → State → State} (ha : ∀ ev l s, KeepsSent s (again ev l s)) (ev : Nat) (l : List Word)
    (s : State) : KeepsSent s (recordEvent again ev l s).1 := by
  unfold recordEvent
  split
  · exact .of_sent_eq rfl
  · dsimp only
    split
    · split
      · dsimp only
        split
        · exact (ha ..).of_sent rfl
        · exact .of_sent_eq rfl
      · exact .of_sent_eq rfl
    · dsimp only
      split
      · exact .of_sent_eq rfl
      · exact (ha ..).of_sent rfl

theorem ringDoorbell_keepsSent (c n : Nat) (s : State) : KeepsSent s (ringDoorbell c n s) := by
  unfold ringDoorbell
  split
  · exact List.suffix_cons ..
  · exact .of_sent_eq rfl

theorem notifyEvent_keepsSent {again : Nat → List Word → State → State} (ha : ∀ ev l s, KeepsSent s (again ev l s)) (ev : Nat) (l : List Word)
    (q : Option Word) (s : State) : KeepsSent s (notifyEvent again ev l q s) := by
  unfold notifyEvent
  dsimp only
  split
  · exact (ringDoorbell_keepsSent ..).of_sent rfl
  · exact ((ringDoorbell_keepsSent ..).trans (ha ..)).of_sent rfl

theorem markFatal_sent (ev : Nat) (s : State) : (markFatal ev s).sent = s.sent := by
  unfold markFatal
  split <;> rfl

theorem raiseN_keepsSent (fuel : Nat) : ∀ (ev : Nat) (l : List Word) (s : State), KeepsSent s (raiseN fuel ev l s) := by
  induction fuel with
  | zero => exact fun _ _ _ => .of_sent_eq rfl
  | succ fuel ih =>
    intro ev l s
    have hmark : KeepsSent s (markFatal ev s) := .of_sent_eq (markFatal_sent ev s)
    have hrecord : KeepsSent s (if getBits (srcCfg s ev).cfg Fld.evtSrcCfgRecord = 1 && ev != 448
        then recordEvent (raiseN fuel) ev l (markFatal ev s) else (markFatal ev s, none)).1 := by
      split
      · exact hmark.trans (recordEvent_keepsSent ih ..)
      · exact hmark
    rw [raiseN]
    split
    · exact hrecord.trans (notifyEvent_keepsSent ih ..)
    · exact hrecord

theorem raise_keepsSent (ev : Nat) (l : List Word) (s : State) : KeepsSent s (raise ev l s) := raiseN_keepsSent 7 ev l s

theorem refuseFree_keepsSent (kind i pool cls : Nat) (s : State) : KeepsSent s (refuseFree kind i pool cls s) := by
  unfold refuseFree
  exact (raise_keepsSent ..).of_sent (by simp)

theorem lowWater_keepsSent (k : Nat) (s : State) : KeepsSent s (lowWater k s) := by
  unfold lowWater
  dsimp only
  split
  · split <;> exact .of_sent_eq rfl
  · split
    · exact (raise_keepsSent ..).of_sent rfl
    · exact .of_sent_eq rfl

theorem dropRef_keepsSent (i : Nat) (t : ChipTag) (s : State) : KeepsSent s (dropRef i t s) := by
  unfold dropRef
  split
  · exact (lowWater_keepsSent ..).of_sent rfl
  · exact .of_sent_eq rfl

theorem freeChip_keepsSent (cls id i : Nat) (s : State) : KeepsSent s (freeChip cls id i s) := by
  unfold freeChip
  split
  · exact refuseFree_keepsSent ..
  · split
    · exact dropRef_keepsSent ..
    · exact refuseFree_keepsSent ..

theorem freeList_keepsSent (cls id : Nat) (l : List Nat) (s : State) : KeepsSent s (freeList cls id l s) :=
  forEach_inv (KeepsSent s) (fun _ _ h => h.trans (freeChip_keepsSent ..)) l s (.of_sent_eq rfl)

/-! ### Host jobs -/

@[simp] theorem hostWrite_ctxAt (addr : Nat) (bytes : List Byte) (s : State) (n : Nat) : (hostWrite addr bytes s).ctxAt n = s.ctxAt n := rfl

/-- The state in which a finished job's output has been written to the host and counted (R99). -/
def copyOut (n : Nat) (j : Job) (s : State) : State :=
  meterSeal n ((jobTask s n).field 16 4) 0
    (hostWrite ((jobTask s n).field 24 8) j.out (s.onTask n j.task (fun t => { t with committed := true })))

theorem copyOut_sent (n : Nat) (j : Job) (s : State) :
    (copyOut n j s).sent = .hostWrite ((jobTask s n).field 24 8) j.out :: s.sent := rfl

section HostJob
variable {s : State} {n : Nat} {u : Task}

theorem tampered_eq_none (hsec : s.sec.state ≠ 2) : tampered s = none := if_neg hsec

theorem opCut_of_begins (h : Begins s n 0x0B u) : opCut n s = runCut n u s := by
  rw [opCut, h.1]
  exact beginTask_of_begins h

theorem opUncut_of_begins (h : Begins s n 0x0C u) : opUncut n s = runUncut n u s := by
  rw [opUncut, h.1]
  exact beginTask_of_begins h

variable {j : Job} (hjob : (s.ctxAt n).job = some j)
include hjob

/-- The end of a host job: its reads are dropped, its engine work is given up, its staging is freed, and its task is done (R99). -/
theorem endJob_of_job (c : Completion) : endJob n c s =
    finish n j.task c ((haltEngines (.job n) (freeList 5 n j.chips (dropReads n j.task s))).onCtx n (fun x => { x with job := none })) := by
  have hdropped : ((dropReads n j.task s).ctxAt n).job = some j := hjob
  simp only [endJob, hjob, dropJob, hdropped, if_true]

theorem endJob_job (c : Completion) : ((endJob n c s).ctxAt n).job = none := by
  rw [endJob_of_job hjob, finish, State.onTask, State.ctxAt_onCtx_same, State.ctxAt_onCtx_same, Context.onTask]

theorem endJob_keepsSent (c : Completion) : KeepsSent s (endJob n c s) := by
  rw [endJob_of_job hjob]
  exact freeList_keepsSent 5 n j.chips (dropReads n j.task s)

theorem opHostJobCopy_of_ready (hready : j.ready = true) :
    opHostJobCopy n s = endJob n (result2 0 j.out.length j.blocks) (copyOut n j s) := by
  simp only [opHostJobCopy, hjob, hready, if_true, copyOut]

theorem copyOut_job : ((copyOut n j s).ctxAt n).job = some j := by
  rw [copyOut, meterSeal, State.ctxAt_onCtx_same, hostWrite_ctxAt, State.onTask, State.ctxAt_onCtx_same]
  exact hjob

end HostJob

/-! ### Freed chips -/

theorem opFetchResume_of_stopped {s : State} {n : Nat} (hstopped : (s.ctxAt n).fetchStopped = true) (hquota : overChipQuota s n = false) :
    (opFetchResume n s).ctx = (s.onCtx n (fun c => { c with fetchStopped := false })).ctx := by
  simp only [opFetchResume, hstopped, hquota, Bool.not_false, Bool.and_self, if_true]
  exact (forEach_touches (fun (t : Task) a => fetchNext_touches n t.seq a) _ _).keep .ctx (by decide)

/-- A wait for pool `k` as chips of it are freed (R73): over where `s` has more of them free than when the wait began. -/
def endWait (s : State) (k : Nat) (w : Option (Nat × Nat)) : Option (Nat × Nat) := if waitOver s k w then none else w

theorem endWait_none (s : State) (k : Nat) : endWait s k none = none := rfl

/-- The listed tables' waits for pool `k` end where they are over in `s`. -/
def wakeTables (s : State) (k : Nat) (l : List Nat) (a : State) : State :=
  forEach l (fun i a => a.onTable (i / 64) (i % 64) (fun t =>
    { t with poolWait := endWait s k t.poolWait, sealWait := endWait s k t.sealWait })) a

/-- The tables one of whose waits for pool `k` is over. -/
def wokenTables (s : State) (k : Nat) : List Nat :=
  (s.tables.filter (fun e => waitOver s k e.2.poolWait || waitOver s k e.2.sealWait)).map (fun e => e.1)

/-- The host jobs and READs that wait for chips of pool `k` go on (R99, R217). -/
def resumeContexts (k : Nat) (s : State) : State :=
  let ns := s.ctx.map (fun e => e.1)
  let s1 := forEach (ns.filter (fun n => (s.ctxAt n).job.any (fun j => j.pool == k))) retryJob s
  forEach (ns.filter (fun n => bound s1 n && restorePool s1 (bindDeck s1 n) == k)) (fun n a => pumpSeek n (pump n a)) s1

theorem resumeContexts_of_no_contexts {s : State} (k : Nat) (hctx : s.ctx = []) : resumeContexts k s = s := by
  simp only [resumeContexts, hctx, List.map_nil, List.filter_nil, forEach, List.foldl_nil]

/-- A pool with free chips that serves wakes its tables first, and then its contexts (R73). -/
theorem opPoolWaitResume_of_free {s : State} {k : Nat} (hfree : poolFree s k ≠ 0) (hready : (s.poolAt k).ready = true) :
    opPoolWaitResume k s = resumeContexts k (wakeTables s k (wokenTables s k) s) :=
  if_neg (by simp [hfree, hready])

theorem wakeTables_touches (s : State) (k : Nat) (l : List Nat) (a : State) : Moves [.tables] a (wakeTables s k l a) :=
  forEach_touches (fun _ _ => State.onTable_touches ..) l a

/-- Table `d`, `p` has the number 64d + p. -/
theorem State.tableAt_onTable_index (s : State) (f : Table → Table) (i d : Nat) {p : Nat} (hp : p < 64) :
    (s.onTable (i / 64) (i % 64) f).tableAt d p = if i = 64 * d + p then f (s.tableAt d p) else s.tableAt d p := by
  split
  next h =>
    obtain ⟨hd, hp⟩ : i / 64 = d ∧ i % 64 = p := by omega
    rw [hd, hp, State.tableAt_onTable_same]
  next h => exact State.tableAt_putTable_ne s _ (by omega)

/-- A listed table's wait that is over has ended. -/
theorem wakeTables_poolWait {s a : State} {k d p : Nat} {l : List Nat} (hp : p < 64)
    (hover : endWait s k (a.tableAt d p).poolWait = none) (hmem : 64 * d + p ∈ l ∨ (a.tableAt d p).poolWait = none) :
    ((wakeTables s k l a).tableAt d p).poolWait = none := by
  induction l generalizing a with
  | nil => exact hmem.resolve_left List.not_mem_nil
  | cons i l ih =>
    refine ih ?_ ?_ <;> rw [State.tableAt_onTable_index _ _ _ _ hp]
    · split
      · exact (congrArg (endWait s k) hover).trans (endWait_none s k)
      · exact hover
    · split
      next => exact .inr hover
      next h => exact hmem.imp_left (fun hm => (List.mem_cons.1 hm).resolve_left (Ne.symm h))

theorem Sparse.mem_of_find {α : Type} {m : Sparse α} {k : Nat} {v : α} (h : Sparse.find m k = some v) : (k, v) ∈ m := by
  induction m with
  | nil => nomatch h
  | cons e m ih =>
    rw [Sparse.find_cons] at h
    split at h
    next hk => exact List.mem_cons.2 (.inl (by rw [← hk, ← Option.some.inj h]))
    next => exact List.mem_cons_of_mem _ (ih h)

/-- A table that waits is listed. -/
theorem State.mem_tables_of_poolWait {s : State} {d p : Nat} {w : Nat × Nat} (h : (s.tableAt d p).poolWait = some w) :
    (64 * d + p, s.tableAt d p) ∈ s.tables := by
  refine Sparse.mem_of_find ?_
  rw [State.tableAt, Sparse.get] at h ⊢
  cases hfind : Sparse.find s.tables (64 * d + p) with
  | none => simp [hfind] at h
  | some t => rfl

section HostJobRows
variable {s : State} {n : Fin 4096} {u : Task} {j : Job} (hlive : Live s)
include hlive

/-- CUT reserves its staging as the context's host job, under the Cutter section in force (R97, R99). -/
theorem cut_of_begins (hbegins : Begins s n 0x0B u) (hsec : s.sec.state ≠ 2) :
    exec (.cut n) s = .next (withdrawTap (reserve n (chipsFor (min (u.field 32 4)
        (u.field 16 4 + 32 * ((u.field 16 4 + jobLimit u (ctxCutter s n) - 1) / jobLimit u (ctxCutter s n))))) (fetchSource n)
      ((commenceOpen n u.seq s).onCtx n
        (fun c => { c with job := some { task := u.seq, pool := stagePool s, cutter := ctxCutter s n } })))) := by
  have hexec : exec (.cut n) s = .next (withdrawTap (opCut n s)) := run_of_scan_false hlive
  rw [hexec, opCut_of_begins hbegins, runCut, tampered_eq_none hsec, unlessRefused_none]

/-- UNCUT reads its source as the context's host job (R98). -/
theorem uncut_of_begins (hbegins : Begins s n 0x0C u) (hsec : s.sec.state ≠ 2) :
    exec (.uncut n) s = .next (withdrawTap (fetchSource n ((commenceOpen n u.seq s).onCtx n
      (fun c => { c with job := some { task := u.seq, isUncut := true, pool := stagePool s } })))) := by
  have hexec : exec (.uncut n) s = .next (withdrawTap (opUncut n s)) := run_of_scan_false hlive
  rw [hexec, opUncut_of_begins hbegins, runUncut, tampered_eq_none hsec, unlessRefused_none]

/-- A finished job's output is sent to the host, and the job is gone (R99). -/
theorem hostJobCopy_of_ready (hjob : (s.ctxAt n).job = some j) (hready : j.ready = true) :
    ∃ t, exec (.hostJobCopy n) s = .next (withdrawTap t) ∧ .hostWrite ((jobTask s n).field 24 8) j.out ∈ t.sent
      ∧ (t.ctxAt n).job = none ∧ t.decks = s.decks ∧ t.tables = s.tables ∧ t.keys = s.keys := by
  have hparts := (opHostJobCopy_touches n s).toTouches
  refine ⟨opHostJobCopy n s, run_of_scan_false hlive, ?_, ?_, hparts.keep .decks (by decide), hparts.keep .tables (by decide),
    hparts.keep .keys (by decide)⟩
  · rw [opHostJobCopy_of_ready hjob hready]
    exact (endJob_keepsSent (copyOut_job hjob) _).subset (by rw [copyOut_sent]; exact List.mem_cons_self)
  · rw [opHostJobCopy_of_ready hjob hready, endJob_job (copyOut_job hjob)]

end HostJobRows

/-- Settles O18: the tasks begin as their rows say, the output is sent before the job ends, and what waited for chips waits no longer. -/
theorem hostJobsAndFreedChips : Obligations.HostJobsAndFreedChips := by
  refine ⟨?_, fun s hlive => ⟨fun n hstopped hquota => ?_, fun k d p m hp hfree hready hctx hwait => ?_⟩⟩
  · intro s n u j hlive cutter lim
    exact ⟨cut_of_begins hlive, uncut_of_begins hlive, hostJobCopy_of_ready hlive⟩
  · have hctx := opFetchResume_of_stopped hstopped hquota
    refine ⟨opFetchResume n s, run_of_scan_false hlive, ?_, fun m hm => ?_, (opFetchResume_touches n s).toTouches.mono (by decide)⟩
    · rw [State.ctxAt, hctx]
      exact congrArg Context.fetchStopped (State.ctxAt_onCtx_same s n _)
    · rw [State.ctxAt, hctx]
      exact State.ctxAt_putCtx_ne s _ hm
  · have hparts := (wakeTables_touches s k (wokenTables s k) s).toTouches
    have hop : opPoolWaitResume k s = wakeTables s k (wokenTables s k) s := by
      rw [opPoolWaitResume_of_free (Nat.ne_zero_of_lt hfree) hready, resumeContexts_of_no_contexts]
      exact (hparts.keep .ctx (by decide)).trans hctx
    have hover : waitOver s k (s.tableAt d p).poolWait = true := by simpa [hwait, waitOver] using hfree
    have hwoken : 64 * d + p ∈ wokenTables s k :=
      List.mem_map.2 ⟨_, List.mem_filter.2 ⟨State.mem_tables_of_poolWait hwait, by simp [hover]⟩, rfl⟩
    refine ⟨opPoolWaitResume k s, run_of_scan_false hlive, ?_, ?_⟩
    · rw [hop]
      exact wakeTables_poolWait hp (if_pos hover) (.inl hwoken)
    · rw [hop]
      exact hparts

end Sys2Proof.Machine
end

section
/-! The cipher (R104, R118): text cut into pieces, the keystream that masks them and unmasks them again, and for which keys it does. -/

namespace Sys2Proof.Machine

/-! ### Pieces of a list -/

section Pieces
variable {α : Type} {n fuel : Nat} {l : List α}

theorem chunksN_of_nonempty (h : l ≠ []) : chunksN (fuel + 1) n l = l.take n :: chunksN fuel n (l.drop n) := by
  simp [chunksN, h]

theorem chunksN_nil (fuel n : Nat) : chunksN fuel n ([] : List α) = [] := by
  cases fuel <;> rfl

/-- The pieces joined are the list again. -/
theorem chunksN_flatten (hn : 0 < n) (h : l.length ≤ fuel) : (chunksN fuel n l).flatten = l := by
  induction fuel generalizing l with
  | zero => rw [List.length_eq_zero_iff.1 (Nat.le_zero.1 h)]; rfl
  | succ fuel ih =>
    by_cases hl : l = []
    · rw [hl, chunksN_nil]; rfl
    · rw [chunksN_of_nonempty hl, List.flatten_cons, ih (by rw [List.length_drop]; omega), List.take_append_drop]

/-- A list of `m` times `n` elements is cut into `m` pieces of `n`. -/
theorem chunksN_lengths (hn : 0 < n) {m : Nat} (hl : l.length = n * m) (h : m ≤ fuel) :
    (chunksN fuel n l).map List.length = List.replicate m n := by
  induction m generalizing fuel l with
  | zero => rw [List.length_eq_zero_iff.1 hl, chunksN_nil]; rfl
  | succ m ih =>
    obtain ⟨fuel, rfl⟩ : ∃ k, fuel = k + 1 := ⟨fuel - 1, by omega⟩
    rw [Nat.mul_succ] at hl
    have hne : l ≠ [] := List.ne_nil_of_length_pos (by omega)
    have hdrop : (l.drop n).length = n * m := by rw [List.length_drop]; omega
    rw [chunksN_of_nonempty hne, List.map_cons, ih hdrop (by omega), List.replicate_succ, List.length_take,
      Nat.min_eq_left (by omega)]

theorem chunks_lengths (hn : 0 < n) {m : Nat} (hl : l.length = n * m) : (chunks n l).map List.length = List.replicate m n :=
  chunksN_lengths hn hl (hl ▸ Nat.le_mul_of_pos_left m hn)

end Pieces

/-! ### Masks -/

@[simp] theorem xorBytes_length (a b : List Byte) : (xorBytes a b).length = min a.length b.length := List.length_zipWith

@[simp] theorem xorBytes_nil (a : List Byte) : xorBytes a [] = [] := List.zipWith_nil_right

/-- A mask as long as the text comes off by being put on again. -/
theorem xorBytes_xorBytes_cancel {a m : List Byte} (h : a.length ≤ m.length) : xorBytes (xorBytes a m) m = a := by
  refine List.ext_getElem (by simp [h]) fun i _ _ => ?_
  simp [xorBytes]

/-- Each piece masked by the block of the stream of its place. -/
def maskPieces (stream : Nat → List Byte) (pieces : List (List Byte)) : List (List Byte) :=
  pieces.mapIdx (fun i p => xorBytes p (stream i))

theorem maskPieces_cons (stream : Nat → List Byte) (p : List Byte) (pieces : List (List Byte)) :
    maskPieces stream (p :: pieces) = xorBytes p (stream 0) :: maskPieces (fun i => stream (i + 1)) pieces := List.mapIdx_cons

section Mask
variable {n fuel : Nat} {stream : Nat → List Byte} {l : List Byte} (hstream : ∀ i, (stream i).length = n)
include hstream

/-- Masked pieces are the pieces of the masked text, which is as long as the text. -/
theorem chunksN_maskPieces (hn : 0 < n) (h : l.length ≤ fuel) :
    (maskPieces stream (chunksN fuel n l)).flatten.length = l.length
    ∧ chunksN fuel n (maskPieces stream (chunksN fuel n l)).flatten = maskPieces stream (chunksN fuel n l) := by
  induction fuel generalizing l stream with
  | zero => rw [List.length_eq_zero_iff.1 (Nat.le_zero.1 h)]; exact ⟨rfl, rfl⟩
  | succ fuel ih =>
    by_cases hl : l = []
    · rw [hl, chunksN_nil]; exact ⟨rfl, rfl⟩
    obtain ⟨hlen, hpieces⟩ := ih (stream := fun i => stream (i + 1)) (l := l.drop n) (fun i => hstream (i + 1))
      (by have := List.length_pos_iff.2 hl; rw [List.length_drop]; omega)
    rw [chunksN_of_nonempty hl, maskPieces_cons, List.flatten_cons]
    generalize maskPieces (fun i => stream (i + 1)) (chunksN fuel n (l.drop n)) = rest at hlen hpieces
    have hhead : (xorBytes (l.take n) (stream 0)).length = min n l.length := by simp [hstream]
    generalize xorBytes (l.take n) (stream 0) = head at hhead
    have hpos := List.length_pos_iff.2 hl
    rw [List.length_drop] at hlen
    have hcut : (head ++ rest.flatten).take n = head ∧ (head ++ rest.flatten).drop n = rest.flatten := by
      rcases Nat.le_total n l.length with hfull | hlast
      · rw [Nat.min_eq_left hfull] at hhead
        exact ⟨List.take_left' hhead, List.drop_left' hhead⟩
      · have hnone : rest.flatten = [] := List.length_eq_zero_iff.1 (by omega)
        rw [hnone, List.append_nil]
        exact ⟨List.take_of_length_le (by omega), List.drop_of_length_le (by omega)⟩
    refine ⟨by rw [List.length_append]; omega, ?_⟩
    rw [chunksN_of_nonempty (List.ne_nil_of_length_pos (by rw [List.length_append]; omega)), hcut.1, hcut.2, hpieces]

/-- Pieces not longer than the blocks of the stream are unmasked by the mask. -/
theorem maskPieces_maskPieces {pieces : List (List Byte)} (h : ∀ p ∈ pieces, p.length ≤ n) :
    maskPieces stream (maskPieces stream pieces) = pieces := by
  refine List.ext_getElem (by simp [maskPieces]) fun i _ hi => ?_
  simp only [maskPieces, List.getElem_mapIdx]
  exact xorBytes_xorBytes_cancel (by rw [hstream]; exact h _ (List.getElem_mem hi))

end Mask

theorem length_le_of_mem_chunksN {α : Type} {fuel n : Nat} {l p : List α} (hp : p ∈ chunksN fuel n l) : p.length ≤ n := by
  induction fuel generalizing l with
  | zero => nomatch hp
  | succ fuel ih =>
    by_cases hl : l = []
    · rw [hl, chunksN_nil] at hp; nomatch hp
    · rw [chunksN_of_nonempty hl] at hp
      rcases List.mem_cons.1 hp with rfl | hp
      · exact List.length_take_le ..
      · exact ih hp

/-! ### Counter mode -/

/-- Block `i` of the keystream (R104). -/
def keystream (rks : List (List Byte)) (iv : List Byte) (i : Nat) : List Byte := aesBlock rks (iv ++ be 4 (i + 2))

theorem gcmCrypt_eq_maskPieces (rks : List (List Byte)) (iv txt : List Byte) :
    gcmCrypt rks iv txt = (maskPieces (keystream rks iv) (chunks 16 txt)).flatten := by
  rw [gcmCrypt, List.flatMap_def]
  congr 1
  exact List.ext_getElem (by simp [maskPieces]) fun i _ _ => by simp [maskPieces, keystream]

/-- The cipher's output is as long as the last round key, 16 bytes at most. -/
theorem aesBlock_length (rks : List (List Byte)) (b : List Byte) : (aesBlock rks b).length = min 16 (rks.getD 14 []).length := by
  simp [aesBlock, aesShiftRows]

/-- Under a whole last round key the counter mode undoes itself. -/
theorem gcmCrypt_gcmCrypt {rks : List (List Byte)} (hlast : (rks.getD 14 []).length = 16) (iv txt : List Byte) :
    gcmCrypt rks iv (gcmCrypt rks iv txt) = txt := by
  have hstream (i : Nat) : (keystream rks iv i).length = 16 := by rw [keystream, aesBlock_length, hlast]; rfl
  obtain ⟨hlen, hpieces⟩ := chunksN_maskPieces (l := txt) hstream (by decide) le_rfl
  rw [gcmCrypt_eq_maskPieces rks iv (gcmCrypt rks iv txt), gcmCrypt_eq_maskPieces rks iv txt, chunks, chunks, hlen, hpieces,
    maskPieces_maskPieces hstream (fun _ => length_le_of_mem_chunksN), chunksN_flatten (by decide) le_rfl]

/-- What has been sealed has the right tag, so opening it is the counter mode run twice (R104, R118). -/
theorem gcmOpen_gcmSeal (key iv aad txt : List Byte) : gcmOpen key iv aad (gcmSeal key iv aad txt).1 (gcmSeal key iv aad txt).2
    = some (gcmCrypt (aesRoundKeys key) iv (gcmCrypt (aesRoundKeys key) iv txt)) := if_pos rfl

/-! ### The key schedule -/

theorem length_getD_of_lengths {α : Type} {ps : List (List α)} {m n i : Nat} (h : ps.map List.length = List.replicate m n) (hi : i < m) :
    (ps.getD i []).length = n := by
  have hget : (ps.map List.length).getD i 0 = (ps.getD i []).length := List.getD_map ps [] List.length
  rw [← hget, h, List.getD_replicate n hi]

/-- The schedule's words stay words of 4 bytes, one more for each step. -/
theorem aesExpand_lengths (n i : Nat) (rc : Byte) {m : Nat} {w : List (List Byte)} (hw : w.map List.length = List.replicate (8 + m) 4) :
    (aesExpand n i rc w).map List.length = List.replicate (8 + m + n) 4 := by
  induction n generalizing i rc m w with
  | zero => exact hw
  | succ n ih =>
    have hprev : (w.getD 0 []).length = 4 := length_getD_of_lengths hw (by omega)
    have hold : (w.getD 7 []).length = 4 := length_getD_of_lengths hw (by omega)
    have hrotated : (((w.getD 0 []).tail ++ (w.getD 0 []).take 1).map aesSub).length = 4 := by
      rw [List.length_map, List.length_append, List.length_tail, List.length_take, hprev]; rfl
    have hnext {x : List Byte} (hx : x.length = 4) (j : Nat) (r : Byte) :
        (aesExpand n j r (xorBytes (w.getD 7 []) x :: w)).map List.length = List.replicate (8 + m + (n + 1)) 4 := by
      rw [show 8 + m + (n + 1) = 8 + (m + 1) + n by omega]
      refine ih j r ?_
      rw [List.map_cons, hw, xorBytes_length, hold, hx, ← Nat.add_assoc, List.replicate_succ, Nat.min_self]
    rw [aesExpand]
    split
    · exact hnext (by rw [xorBytes_length, hrotated]; rfl) _ _
    · split
      · exact hnext (by rw [List.length_map, hprev]) _ _
      · exact hnext hprev _ _

/-- A key of 32 bytes has fifteen whole round keys. -/
theorem aesRoundKeys_lengths {key : List Byte} (hkey : key.length = 32) :
    (aesRoundKeys key).map List.length = List.replicate 15 16 := by
  have hwords : ((chunks 4 key).reverse).map List.length = List.replicate (8 + 0) 4 := by
    rw [List.map_reverse, chunks_lengths (m := 8) (by decide) hkey, List.reverse_replicate]
  refine chunks_lengths (by decide) ?_
  rw [List.length_flatten, List.map_reverse, aesExpand_lengths 52 8 1 hwords, List.reverse_replicate, List.sum_replicate_nat]

/-- AES-256-GCM opens what it has sealed under every key of 32 bytes (R104, R106, R118). -/
theorem gcmOpen_gcmSeal_of_length {key : List Byte} (hkey : key.length = 32) (iv aad txt : List Byte) :
    gcmOpen key iv aad (gcmSeal key iv aad txt).1 (gcmSeal key iv aad txt).2 = some txt := by
  rw [gcmOpen_gcmSeal, gcmCrypt_gcmCrypt (length_getD_of_lengths (aesRoundKeys_lengths hkey) (by decide))]

/-- Refutes O17: the statement ranges over lists that are no AES-256 key. The empty list, which is what an EMPTY slot holds, has no round keys
and so no keystream: what it makes of a text of one byte is empty, and opens as the empty text. `gcmOpen_gcmSeal_of_length` is the round trip for
the keys that the spec knows (R104). -/
theorem not_sealedTextOpens : ¬ Obligations.SealedTextOpens := by
  intro h
  have hempty : gcmCrypt (aesRoundKeys []) (zeros 12) [0x41] = [] := by decide
  have hopen := h [] (zeros 12) [] [0x41]
  rw [gcmOpen_gcmSeal, hempty] at hopen
  exact absurd hopen (by decide)

end Sys2Proof.Machine
end

section
/-! The key store (R113 to R116): how a key command begins or is refused, the staging registers, and which slots a command changes. -/

namespace Sys2Proof.Machine

/-- A loop that resets the place named by each round: the places named read the reset value, the others are kept. -/
theorem forEach_resets {β : Type} {f : Nat → State → State} (read : State → Nat → β) {z : β} (hsame : ∀ x a, read (f x a) x = z)
    (hne : ∀ x a j, j ≠ x → read (f x a) j = read a j) (l : List Nat) (s : State) (j : Nat) :
    read (forEach l f s) j = if j ∈ l then z else read s j := by
  induction l generalizing s with
  | nil => rfl
  | cons x l ih =>
    refine (ih (f x s)).trans ?_
    by_cases hl : j ∈ l
    · simp [hl]
    · by_cases hx : j = x
      · simp [hx, hsame]
      · simp [hl, hx, hne x s j hx]

/-! ### KEY_STATUS and KEY_COMMAND -/

theorem keyResult_regsOnly (r : Nat) (s : State) : RegsOnly s (keyResult r s) := setFld_regsOnly ..

theorem keyResult_sameRegsBut (r : Nat) (s : State) : SameRegsBut [Reg.keyStatus] s (keyResult r s) :=
  (SameRegsBut.refl _ s).setFld (List.mem_singleton_self _) _ _

/-- RESULT shows the code given (R114). -/
theorem keyResult_result {r : Nat} (hr : r < 16) (s : State) :
    (keyResult r s).fld Reg.keyStatus Fld.keyStatusSeqResult % 16 = r := by
  rw [keyResult, State.fld_setFld_same _ _ _ _ (by decide) (by decide)]
  change _ % 2 ^ 8 % 16 = r
  omega

@[simp] theorem keyBusy_keyResult (r : Nat) (s : State) : keyBusy (keyResult r s) = keyBusy s := by
  rw [keyBusy, State.flag, keyResult, State.fld_setFld_other _ _ _ _ _ (by decide) (by decide) (by decide) (by decide)]
  rfl

/-- BUSY is KEY_STATUS's own. -/
theorem keyBusy_of_reg {s t : State} (h : t.reg Reg.keyStatus = s.reg Reg.keyStatus) : keyBusy t = keyBusy s := by
  rw [keyBusy, State.flag, State.fld, h]
  rfl

/-! ### Refusal -/

theorem keyRefusal_of_tampered {s : State} (h : s.sec.state = 2) : keyRefusal s = some 1 := if_pos h

theorem keyRefusal_of_busy {s : State} (h : s.sec.state ≠ 2) (hbusy : keyBusy s = true) :
    keyRefusal s = some (if s.fld Reg.keyCommand Fld.keyCommandOp = 3 then 2 else 3) := by
  rw [keyRefusal, if_neg h, if_pos hbusy]

theorem keyRefusal_of_free {s : State} (h : s.sec.state ≠ 2) (hfree : keyBusy s = false) : keyRefusal s = none := by
  simp [keyRefusal, h, hfree]

/-- The codes of refusal fit RESULT (R114). -/
theorem keyRefusal_lt {s : State} {r : Nat} (h : keyRefusal s = some r) : r < 16 := by
  unfold keyRefusal at h
  split at h
  · cases h; decide
  · split at h
    · cases h
      split <;> decide
    · nomatch h

theorem keyCommand_of_refused {s : State} {r : Nat} (h : keyRefusal s = some r) (op : Nat) (f : State → State) :
    keyCommand op f s = raise 326 [word r] (keyResult r s) := by
  simp only [keyCommand, h]

/-- A refused command changes KEY_STATUS and raises event 326 (R114). -/
theorem refusal_eq_raise (r : Nat) (s : State) :
    raise 326 [word r] (keyResult r s) = raise 326 [word r] { s with regs := (raise 326 [word r] (keyResult r s)).regs } :=
  raise_of_regsOnly (keyResult_regsOnly r s) _ _

theorem refusal_sameRegsBut (r : Nat) (s : State) : SameRegsBut [Reg.keyStatus] s (raise 326 [word r] (keyResult r s)) :=
  (keyResult_sameRegsBut r s).raise _ _

/-! ### The beginning of a command -/

/-- The state in which a key command that is not refused takes effect: it shows BUSY, its code and RESULT 0 (R114). -/
def beginKeyCommand (op : Nat) (s : State) : State :=
  keyResult 0 ((s.setFld Reg.keyStatus Fld.keyStatusBusy 1).setFld Reg.keyCommand Fld.keyCommandOp op)

theorem keyCommand_of_free {s : State} (h : s.sec.state ≠ 2) (hfree : keyBusy s = false) (op : Nat) (f : State → State) :
    keyCommand op f s = f (beginKeyCommand op s) := by
  simp only [keyCommand, keyRefusal_of_free h hfree, beginKeyCommand]

theorem beginKeyCommand_touches (op : Nat) (s : State) : Moves [.regs] s (beginKeyCommand op s) :=
  ((State.setFld_touches ..).trans (State.setFld_touches ..)).trans (keyResult_touches ..)

theorem beginKeyCommand_keyAt (op : Nat) (s : State) (k : Nat) : (beginKeyCommand op s).keyAt k = s.keyAt k := by
  rw [State.keyAt, (beginKeyCommand_touches op s).keep .keys (by decide), State.keyAt]

/-- Two fields written, one in each of two registers. -/
theorem setFld_setFld_sameRegsBut (s : State) (o p : Nat) (f g : Fld) (v w : Nat) :
    SameRegsBut [o, p] s ((s.setFld o f v).setFld p g w) :=
  ((SameRegsBut.refl _ s).setFld List.mem_cons_self _ _).setFld (List.mem_cons_of_mem _ List.mem_cons_self) _ _

theorem beginKeyCommand_sameRegsBut (op : Nat) (s : State) :
    SameRegsBut [Reg.keyStatus, Reg.keyCommand] s (beginKeyCommand op s) :=
  (setFld_setFld_sameRegsBut s _ _ _ _ _ _).trans ((keyResult_sameRegsBut _ _).mono (List.cons_subset_cons _ (List.nil_subset _)))

theorem keyBusy_beginKeyCommand (op : Nat) (s : State) : keyBusy (beginKeyCommand op s) = true := by
  rw [beginKeyCommand, keyBusy_keyResult, keyBusy_of_reg (State.reg_setFld_ne _ _ _ (by decide))]
  exact State.flag_setFld_same s _ _ 1 (by decide) (by decide)

/-- The command in progress ends: BUSY and OP fall (R114). -/
theorem opKeyCommandDone_of_busy {s : State} (h : keyBusy s = true) :
    opKeyCommandDone s = (s.setFld Reg.keyStatus Fld.keyStatusBusy 0).setFld Reg.keyCommand Fld.keyCommandOp 0 := if_pos h

theorem keyBusy_opKeyCommandDone {s : State} (h : keyBusy s = true) : keyBusy (opKeyCommandDone s) = false := by
  rw [opKeyCommandDone_of_busy h, keyBusy_of_reg (State.reg_setFld_ne _ _ _ (by decide))]
  exact State.flag_setFld_same s _ _ 0 (by decide) (by decide)

/-! ### The staging registers -/

/-- The registers that a LOAD takes the slot from (R114). -/
abbrev stagingRegs : List Nat :=
  (List.range 8).map Reg.keyData ++ [Reg.keySalt, Reg.keyLabelLo, Reg.keyLabelHi, Reg.keyBaseLo, Reg.keyBaseHi]

/-- The staging registers read 0 once cleared, and the others are kept (R114). -/
theorem clearStaging_reg (s : State) (o : Nat) : (clearStaging s).reg o = if o ∈ stagingRegs then 0 else s.reg o :=
  forEach_resets State.reg (fun x a => a.reg_setReg_same x 0) (fun _ a _ h => a.reg_setReg_ne 0 h) stagingRegs s o

theorem clearStaging_zero {o : Nat} (h : o ∈ stagingRegs) (s : State) : (clearStaging s).reg o = 0 := by
  rw [clearStaging_reg, if_pos h]

theorem clearStaging_sameRegsBut (s : State) : SameRegsBut stagingRegs s (clearStaging s) :=
  fun o ho => by rw [clearStaging_reg, if_neg ho]

theorem SameRegsBut.clearStaging {l : List Nat} {s t : State} (h : SameRegsBut l s t) :
    SameRegsBut (stagingRegs ++ l) s (clearStaging t) :=
  (h.mono (List.subset_append_right ..)).trans ((clearStaging_sameRegsBut t).mono (List.subset_append_left ..))

@[simp] theorem clearStaging_keyAt (s : State) (k : Nat) : (clearStaging s).keyAt k = s.keyAt k := by
  rw [State.keyAt, (clearStaging_touches s).keep .keys (by decide), State.keyAt]

theorem clearStaging_keyStatus (s : State) : (clearStaging s).reg Reg.keyStatus = s.reg Reg.keyStatus :=
  clearStaging_sameRegsBut s _ (by decide)

/-- The staged slot depends on the staging registers alone (R114). -/
theorem stagedSlot_congr {s t : State} (h : ∀ o ∈ stagingRegs, t.reg o = s.reg o) : stagedSlot t = stagedSlot s := by
  have hdata : (List.range 8).map (fun i => t.reg (Reg.keyData i)) = (List.range 8).map (fun i => s.reg (Reg.keyData i)) :=
    List.map_congr_left fun i hi => h _ (List.mem_append_left _ (List.mem_map_of_mem hi))
  simp only [stagedSlot, State.pair, hdata, h Reg.keySalt (by decide), h Reg.keyLabelLo (by decide), h Reg.keyLabelHi (by decide),
    h Reg.keyBaseLo (by decide), h Reg.keyBaseHi (by decide)]

/-! ### LOAD -/

/-- The state in which slot `k` holds what the staging registers describe (R114). -/
def loadSlot (k : Nat) (s : State) : State := (keyMid k s).putKey k (stagedSlot s)

theorem keyMid_regs (k : Nat) (s : State) : (keyMid k s).regs = s.regs := (keyMid_touches k s).keep .regs (by decide)

theorem keyMid_keys (k : Nat) (s : State) : (keyMid k s).keys = s.keys := (keyMid_touches k s).keep .keys (by decide)

theorem opKeyLoad_of_refused {s : State} {r : Nat} (h : keyRefusal s = some r) :
    opKeyLoad s = clearStaging (raise 326 [word r] (keyResult r s)) := by
  rw [opKeyLoad, keyCommand_of_refused h]

theorem opKeyLoad_of_free {s : State} (h : s.sec.state ≠ 2) (hfree : keyBusy s = false) :
    opKeyLoad s = clearStaging (loadSlot (s.fld Reg.keySel Fld.keySelSlot) (beginKeyCommand 1 s)) := by
  rw [opKeyLoad, keyCommand_of_free h hfree, loadSlot]

theorem loadSlot_regs (k : Nat) (s : State) : (loadSlot k s).regs = s.regs := keyMid_regs k s

theorem loadSlot_reg (k : Nat) (s : State) (o : Nat) : (loadSlot k s).reg o = s.reg o := by
  rw [State.reg, loadSlot_regs, State.reg]

theorem loadSlot_keyAt_same (k : Nat) (s : State) : (loadSlot k s).keyAt k = stagedSlot s := State.keyAt_putKey_same ..

theorem loadSlot_keyAt_ne {k j : Nat} (s : State) (h : j ≠ k) : (loadSlot k s).keyAt j = s.keyAt j := by
  rw [loadSlot, State.keyAt_putKey_ne _ _ h, State.keyAt, keyMid_keys, State.keyAt]

/-- The key of a loaded slot is one of AES-256: 32 bytes (R104, R113). -/
theorem stagedSlot_key_length (s : State) : (stagedSlot s).key.length = 32 := by
  simp [stagedSlot, bytesOf, List.range_succ]

/-- So what is sealed under a loaded slot opens again (R104, R118). -/
theorem gcmOpen_gcmSeal_stagedSlot (s : State) (iv aad txt : List Byte) :
    gcmOpen (stagedSlot s).key iv aad (gcmSeal (stagedSlot s).key iv aad txt).1 (gcmSeal (stagedSlot s).key iv aad txt).2 = some txt :=
  gcmOpen_gcmSeal_of_length (stagedSlot_key_length s) iv aad txt

/-! ### ZEROISE and CLEAR_ALL -/

/-- A zeroise writes no key store entry but its own (R116). -/
theorem zeroiseSlot_keys (k : Nat) (s : State) : (zeroiseSlot k s).keys = ((keyMid k s).putKey k {}).keys := by
  refine forEach_keeps State.keys (fun n a => ?_) _ _
  rw [(settleHead_touches n _).keep .keys (by decide), (abandonOpen_touches k n _).keep .keys (by decide), State.onCtx_keys]

theorem zeroiseSlot_keyAt_same (k : Nat) (s : State) : (zeroiseSlot k s).keyAt k = {} := by
  rw [State.keyAt, zeroiseSlot_keys]
  exact State.keyAt_putKey_same ..

theorem zeroiseSlot_keyAt_ne {k j : Nat} (s : State) (h : j ≠ k) : (zeroiseSlot k s).keyAt j = s.keyAt j := by
  rw [State.keyAt, zeroiseSlot_keys, State.keyAt, ← keyMid_keys k s]
  exact State.keyAt_putKey_ne _ _ h

@[simp] theorem raise_keyAt (ev : Nat) (ws : List Word) (s : State) (k : Nat) : (raise ev ws s).keyAt k = s.keyAt k := by
  rw [State.keyAt, raise_keys, State.keyAt]

/-- A zeroise raises event 321 where it loses blocks, and has emptied its slot (R116, Table 05-5). -/
theorem opKeyZeroise_of_free {s : State} (h : s.sec.state ≠ 2) (hfree : keyBusy s = false) (j : Nat) :
    (opKeyZeroise s).keyAt j = (zeroiseSlot (s.fld Reg.keySel Fld.keySelSlot) (beginKeyCommand 2 s)).keyAt j := by
  rw [opKeyZeroise, keyCommand_of_free h hfree]
  dsimp only
  split
  · rfl
  · exact raise_keyAt ..

/-- A slot that no clear-all reaches is EMPTY. -/
theorem keyAt_of_not_used {s : State} {j : Nat} (h : j ∉ usedSlots s) : s.keyAt j = {} := by
  have hunlisted : Sparse.find s.keys j = none := by
    cases hfind : Sparse.find s.keys j with
    | none => rfl
    | some v => exact absurd (List.mem_dedup.2 (List.mem_append_left _ (List.mem_map.2 ⟨_, Sparse.mem_of_find hfind, rfl⟩))) h
  rw [State.keyAt, Sparse.get, hunlisted]
  rfl

/-- After a clear-all every slot is EMPTY (R115). -/
theorem clearAll_keyAt (trigger : Nat) (s : State) (j : Nat) : (clearAll trigger s).keyAt j = {} := by
  rw [clearAll, raise_keyAt, forEach_resets State.keyAt zeroiseSlot_keyAt_same (fun _ a _ => zeroiseSlot_keyAt_ne a)]
  split
  · rfl
  next hunused =>
    rw [State.keyAt, (keyMidAll_touches s).keep .keys (by decide)]
    exact keyAt_of_not_used hunused

/-! ### The commands -/

section Commands
variable {s : State} (hlive : Live s)
include hlive

theorem exec_keyLoad : exec .keyLoad s = .next (withdrawTap (opKeyLoad s)) := run_of_scan_false hlive

theorem exec_keyZeroise : exec .keyZeroise s = .next (withdrawTap (opKeyZeroise s)) := run_of_scan_false hlive

theorem exec_keyClearAll : exec .keyClearAll s = .next (withdrawTap (opKeyClearAll s)) := run_of_scan_false hlive

theorem exec_keyCommandDone : exec .keyCommandDone s = .next (withdrawTap (opKeyCommandDone s)) := run_of_scan_false hlive

end Commands

section Effects
variable {s : State}

/-- A LOAD that is not refused: the selected slot holds what was staged, the staging registers are clear, and BUSY is shown (R114). -/
theorem opKeyLoad_loads (hsec : s.sec.state ≠ 2) (hfree : keyBusy s = false) :
    let k := s.fld Reg.keySel Fld.keySelSlot
    let t := opKeyLoad s
    t.keyAt k = stagedSlot s ∧ (∀ j, j ≠ k → t.keyAt j = s.keyAt j) ∧ (∀ o ∈ stagingRegs, t.reg o = 0) ∧ keyBusy t = true
      ∧ SameRegsBut (stagingRegs ++ [Reg.keyStatus, Reg.keyCommand]) s t := by
  intro k t
  have hbegin := beginKeyCommand_sameRegsBut 1 s
  have hstaged : stagedSlot (beginKeyCommand 1 s) = stagedSlot s :=
    stagedSlot_congr fun o ho => hbegin o ((by decide : ∀ o ∈ stagingRegs, o ∉ [Reg.keyStatus, Reg.keyCommand]) o ho)
  have hload : t = clearStaging (loadSlot k (beginKeyCommand 1 s)) := opKeyLoad_of_free hsec hfree
  rw [hload]
  refine ⟨?_, fun j hj => ?_, fun o ho => clearStaging_zero ho _, ?_, (hbegin.of_regs (loadSlot_regs ..)).clearStaging⟩
  · rw [clearStaging_keyAt, loadSlot_keyAt_same, hstaged]
  · rw [clearStaging_keyAt, loadSlot_keyAt_ne _ hj, beginKeyCommand_keyAt]
  · rw [keyBusy_of_reg (clearStaging_keyStatus _), keyBusy_of_reg (loadSlot_reg ..), keyBusy_beginKeyCommand]

/-- A refused LOAD: the staging registers are clear, RESULT shows the refusal's code, and no slot is changed (R114). -/
theorem opKeyLoad_refuses {r : Nat} (h : keyRefusal s = some r) :
    let t := opKeyLoad s
    (∀ o ∈ stagingRegs, t.reg o = 0) ∧ SameRegsBut (stagingRegs ++ [Reg.keyStatus]) s t ∧ Touches [.regs, .sent, .evt] s t
      ∧ t.fld Reg.keyStatus Fld.keyStatusSeqResult % 16 = r := by
  intro t
  have hload : t = clearStaging (raise 326 [word r] (keyResult r s)) := opKeyLoad_of_refused h
  rw [hload]
  refine ⟨fun o ho => clearStaging_zero ho _, (refusal_sameRegsBut r s).clearStaging, ?_, ?_⟩
  · have hresult : Moves [.regs, .sent, .evt] s (keyResult r s) := (keyResult_touches r s).mono (by decide)
    have hraise : Moves [.regs, .sent, .evt] s (raise 326 [word r] (keyResult r s)) := (raise_touches ..).step (by decide) hresult
    exact ((clearStaging_touches _).step (by decide) hraise).toTouches
  · rw [State.fld, clearStaging_keyStatus]
    exact (congrArg (· % 16) (raise_fld ..)).trans (keyResult_result (keyRefusal_lt h) s)

/-- A ZEROISE that is not refused empties the selected slot and no other (R116). -/
theorem opKeyZeroise_zeroises (hsec : s.sec.state ≠ 2) (hfree : keyBusy s = false) :
    let k := s.fld Reg.keySel Fld.keySelSlot
    (opKeyZeroise s).keyAt k = {} ∧ ∀ j, j ≠ k → (opKeyZeroise s).keyAt j = s.keyAt j := by
  refine ⟨?_, fun j hj => ?_⟩
  · rw [opKeyZeroise_of_free hsec hfree, zeroiseSlot_keyAt_same]
  · rw [opKeyZeroise_of_free hsec hfree, zeroiseSlot_keyAt_ne _ hj, beginKeyCommand_keyAt]

theorem opKeyClearAll_keyAt (hsec : s.sec.state ≠ 2) (hfree : keyBusy s = false) (j : Nat) : (opKeyClearAll s).keyAt j = {} := by
  rw [opKeyClearAll, keyCommand_of_free hsec hfree, clearAll_keyAt]

/-- A TAMPERED core refuses a zeroise and a clear-all alike (R115, R116, Table 05-5). -/
theorem exec_of_tampered (hlive : Live s) (htampered : s.sec.state = 2) {c : Instr} (hc : c ∈ [Instr.keyZeroise, .keyClearAll]) :
    exec c s = .next (withdrawTap (raise 326 [1] (keyResult 1 s))) := by
  have hrefused := keyRefusal_of_tampered htampered
  obtain rfl | rfl : c = .keyZeroise ∨ c = .keyClearAll := by simpa using hc
  · rw [exec_keyZeroise hlive, opKeyZeroise, keyCommand_of_refused hrefused]
    rfl
  · rw [exec_keyClearAll hlive, opKeyClearAll, keyCommand_of_refused hrefused]
    rfl

end Effects

/-- Settles O37: each command begins or is refused by `keyRefusal`; what it changes of the slots and of the registers is said above for each. -/
theorem keySlots : Obligations.KeySlots := by
  refine ⟨fun s hlive => ?_, fun s hlive => ?_⟩
  · refine ⟨fun hsec hfree => ?_, fun r hr => ?_, keyRefusal_of_tampered, keyRefusal_of_busy, fun hbusy => ?_⟩
    · obtain ⟨hslot, hothers, hstaging, hbusy, hregs⟩ := opKeyLoad_loads hsec hfree
      exact ⟨_, exec_keyLoad hlive, hslot, hothers, hstaging, hbusy, hregs, (opKeyLoad_touches s).toTouches⟩
    · exact ⟨by rw [exec_keyLoad hlive, opKeyLoad_of_refused hr], _, exec_keyLoad hlive, opKeyLoad_refuses hr⟩
    · refine ⟨_, exec_keyCommandDone hlive, keyBusy_opKeyCommandDone hbusy, ?_, ?_⟩
      · rw [opKeyCommandDone_of_busy hbusy]
        exact setFld_setFld_sameRegsBut s _ _ _ _ _ _
      · rw [opKeyCommandDone_of_busy hbusy]
        exact (setFld_regsOnly ..).trans (setFld_regsOnly ..)
  · refine ⟨fun hsec hfree => ⟨?_, ?_⟩, fun htampered c hc => ?_⟩
    · obtain ⟨hslot, hothers⟩ := opKeyZeroise_zeroises hsec hfree
      exact ⟨_, exec_keyZeroise hlive, hslot, hothers, (opKeyZeroise_touches s).toTouches⟩
    · exact ⟨_, exec_keyClearAll hlive, opKeyClearAll_keyAt hsec hfree, (opKeyClearAll_touches s).toTouches⟩
    · refine ⟨_, exec_of_tampered hlive htampered hc, ?_, refusal_sameRegsBut 1 s, refusal_eq_raise 1 s⟩
      rw [raise_fld, keyResult_result (by decide)]

end Sys2Proof.Machine
end

section
/-! Facets and tricks (R144, R177, R191, R194, R197 to R207): when a facet is graded, which use a reading deck makes of a sync word, and how
reading goes on past a trick or a hand that is lost. -/

namespace Sys2Proof.Machine

/-! ### FACET_GRADE -/

section Grading

/-- The channel bit at which the facet of place `i` of a track begins, in a trick that begins at `first`. -/
def facetStart (f : Fmt) (first i : Nat) : Nat := first + i % f.slots * f.facetBits

/-- The cursor of track n passes its facet `i`. -/
def passCursor (d n i : Nat) (s : State) : State := s.onDeck d (fun k => { k with cursor := Sparse.set 0 k.cursor n (i + 1) })

/-- Each trick that the passage of a facet touches is settled, while no controlled stop has begun (R194). -/
def settleTouched (before : Deck) (d n q : Nat) (t : Trick) (s : State) : State :=
  forEach (touched before (s.deckAt d) t n q) (fun i a => if (a.deckAt d).motion.stopped then a else settleTrick d i a) s

variable {s : State} {d n i first : Nat} {t : Trick} (hcursor : Sparse.get 0 (s.deckAt d).cursor n = i)
  (htape : (s.deckAt d).tape[i / (deckFmt s d).slots]? = some (t, first))
include hcursor htape

/-- Nothing is graded before the facet's expected interval has been received (R177, R180). -/
theorem opFacetGrade_of_waiting
    (hwaits : receivedEnd (Sparse.get {} (s.deckAt d).rx n) < facetStart (deckFmt s d) first i + (deckFmt s d).facetBits + 33) :
    opFacetGrade d n s = s := by
  unfold facetStart at hwaits
  simp only [opFacetGrade, hcursor, htape, hwaits, decide_true, Bool.or_true, if_true]

/-- A facet whose expected interval has been received passes the cursor, ungraded on a retired track and else graded, and the tricks that it
touches are settled (R177, R180, R191). -/
theorem opFacetGrade_of_received (htrack : n < (deckFmt s d).nT)
    (hreceived : facetStart (deckFmt s d) first i + (deckFmt s d).facetBits + 33 ≤ receivedEnd (Sparse.get {} (s.deckAt d).rx n)) :
    opFacetGrade d n s = settleTouched (s.deckAt d) d n (i % (deckFmt s d).slots) t
      (dropReceived d n (facetStart (deckFmt s d) first i + (deckFmt s d).facetBits - 33)
        (if (trackAt (s.deckAt d) n).state = 2 then passRetired d n (i % (deckFmt s d).slots) t (passCursor d n i s)
          else gradeNow d n (i % (deckFmt s d).slots) (facetStart (deckFmt s d) first i) t (passCursor d n i s))) := by
  unfold facetStart at hreceived
  simp only [opFacetGrade, hcursor, htape, Nat.not_le.2 htrack, Nat.not_lt.2 hreceived, decide_false, Bool.or_self, Bool.false_eq_true,
    if_false]
  rfl

end Grading

/-! ### FACET_DECODE -/

/-- The deck has met a sync word: its reading is under way (R197). -/
def meetSync (d : Nat) (s : State) : State :=
  s.onDeck d (fun k => { k with synced := true, motion := { k.motion with pace := if k.motion.pace = 1 then 2 else k.motion.pace } })

/-- Neither the sync word nor the bits dealt with change what the facets read have told of their tricks. -/
@[simp] theorem seen_dropBits_meetSync (d n o : Nat) (s : State) :
    ((dropBits d n o (meetSync d s)).deckAt d).seen = (s.deckAt d).seen := by
  simp only [dropBits, dropReceived, meetSync, State.deckAt_onDeck_same]

section Unheaded
variable {s : State} {d n at' : Nat} {b body : List Byte} {flagged : List Nat}

/-- A facet whose header fails is taken where another facet of the track has told its place (R144). -/
theorem takeUnheaded_of_placed {x : FacetPlace} (h : placeByPosition (fmtOf b) n at' (s.deckAt d).seen = some x) :
    takeUnheaded d n at' b body flagged s = takeFacet d at' b x body flagged s := by
  simp only [takeUnheaded, h]

/-- A facet whose header fails and whose place is not told waits for one that tells it (R144). -/
theorem takeUnheaded_of_unplaced (h : placeByPosition (fmtOf b) n at' (s.deckAt d).seen = none) :
    takeUnheaded d n at' b body flagged s
      = s.onDeck d (fun k => { k with unplaced := k.unplaced ++ [(n, at', b, body, flagged)] }) := by
  simp only [takeUnheaded, h]

end Unheaded

section Decoding
variable {s : State} {d n o : Nat} {b body : List Byte} {flagged : List Nat} (hmode : (s.deckAt d).mode = 2)
  (htarget : (s.deckAt d).motion.target = none) (hpace : (s.deckAt d).motion.pace ≠ 6)
  (hsync : nextSync (loadedFormats s d) n (Sparse.get {} (s.deckAt d).rx n).bits = some (b, o, body, flagged))
include hmode htarget hpace hsync

/-- A facet with a good header is taken by it, and its bits are dealt with whole (R200). -/
theorem opFacetDecode_of_headed (hgood : headerValid body = true) :
    opFacetDecode d n s = goOn d (takeHeaded d n (16 * (Sparse.get {} (s.deckAt d).rx n).base + o) b body flagged
      (dropBits d n (o + (fmtOf b).facetBits) (meetSync d s))) := by
  simp [opFacetDecode, meetSync, hmode, htarget, hpace, hsync, hgood]

/-- Of a facet with a bad header the sync word alone has been dealt with; the bits after it stay (R144, R197). -/
theorem opFacetDecode_of_unheaded (hbad : headerValid body = false) :
    opFacetDecode d n s = goOn d (takeUnheaded d n (16 * (Sparse.get {} (s.deckAt d).rx n).base + o) b body flagged
      (dropBits d n (o + 33) (meetSync d s))) := by
  simp [opFacetDecode, meetSync, hmode, htarget, hpace, hsync, hbad]

end Decoding

/-! ### TRICK_MISSING and RETRY_PASS -/

/-- A trick whose place has passed without enough facets is missing (R202). -/
theorem opTrickMissing_of_past {s : State} {d l : Nat} (hadmin : (s.deckAt d).admin = none) (hmode : (s.deckAt d).mode = 2)
    (hnext : (s.deckAt d).nextDeliver ≤ l)
    (hready : (s.deckAt d).ready (formatOfNext s (tableDeck s d) (s.deckAt d).nextDeliver) l = false)
    (hpast : (s.deckAt d).past (formatOfNext s (tableDeck s d) (s.deckAt d).nextDeliver) l = true) :
    opTrickMissing d l s = goOn d (s.putDeck d ((s.deckAt d).onTrick l (fun t => { t with missing := true }))) := by
  simp [opTrickMissing, hadmin, hmode, hnext, hready, hpast]

section Retry
variable {s : State} {d l p : Nat} (hhand : (s.deckAt d).unrecovered = some l) (hpart : activePart s d = some p)
  (hgoes : (s.deckAt d).gaveUp = false)
include hhand hpart hgoes

/-- While retries are left the round of an unrecovered hand is read again (R206). -/
theorem opRetryPass_of_retry_left (hleft : (s.deckAt d).retry < retryLimit s d) :
    opRetryPass d s = rereadRound d p
      ((forEach (groupOf s d) (fun x a => a.onDeck x (fun y => { y with retry := (s.deckAt d).retry + 1 }))
        (raiseDeck d 34 [word ((s.deckAt d).retry + 1)] (countRestore d 4 1 s))).onDeck d (fun y => { y with unrecovered := none })) := by
  simp only [opRetryPass, hhand, hpart, hgoes, hleft, Bool.false_eq_true, if_false, if_true]

/-- Once the retries are used up the restore ends at the hand (R207). -/
theorem opRetryPass_of_retries_used (hused : retryLimit s d ≤ (s.deckAt d).retry) : opRetryPass d s = endRestore d p l s := by
  simp only [opRetryPass, hhand, hpart, hgoes, Nat.not_lt.2 hused, Bool.false_eq_true, if_false]

end Retry

/-- Settles O23: each command's operation by the cases of its rule; neither the sync word nor the bits dropped change what has been told of the
tricks' places, so a facet with a bad header is placed by what the deck knew before. -/
theorem facetsAreGradedDecodedAndRetried : Obligations.FacetsAreGradedDecodedAndRetried := by
  refine ⟨fun s d n u first hlive => ?grade, fun s d n b o body flagged hlive => ?decode, fun s d l hlive => ?lost⟩
  case grade =>
    intro k f i q start s1 settle htape htrack
    have hexec : exec (.facetGrade d n) s = .next (withdrawTap (opFacetGrade d n s)) := run_of_scan_false hlive
    rw [hexec]
    refine ⟨fun hwaits => by rw [opFacetGrade_of_waiting rfl htape hwaits], fun hreceived => ?_⟩
    rw [opFacetGrade_of_received rfl htape htrack hreceived]
    refine ⟨fun hretired => ?_, fun hkept => ?_⟩
    · rw [if_pos hretired]
      rfl
    · rw [if_neg hkept]
      rfl
  case decode =>
    intro k r f at' s0 hmode htarget hpace hsync
    have hexec : exec (.facetDecode d n) s = .next (withdrawTap (opFacetDecode d n s)) := run_of_scan_false hlive
    rw [hexec]
    refine ⟨fun hgood => by rw [opFacetDecode_of_headed hmode htarget hpace hsync hgood]; rfl, fun hbad => ?_⟩
    rw [opFacetDecode_of_unheaded hmode htarget hpace hsync hbad]
    refine ⟨fun x hplaced => ?_, fun hunplaced => ?_⟩
    · rw [takeUnheaded_of_placed ((congrArg _ (seen_dropBits_meetSync ..)).trans hplaced)]
      rfl
    · rw [takeUnheaded_of_unplaced ((congrArg _ (seen_dropBits_meetSync ..)).trans hunplaced)]
      rfl
  case lost =>
    intro k f
    have hmissing : exec (.trickMissing d l) s = .next (withdrawTap (opTrickMissing d l.toNat s)) := run_of_scan_false hlive
    have hretry : exec (.retryPass d) s = .next (withdrawTap (opRetryPass d s)) := run_of_scan_false hlive
    rw [hmissing, hretry]
    refine ⟨fun hadmin hmode hnext hready hpast => ?_, fun u p hhand hpart hgoes hleft => ?_, fun u p hhand hpart hgoes hused => ?_⟩
    · rw [opTrickMissing_of_past hadmin hmode hnext hready hpast]
    · rw [opRetryPass_of_retry_left hhand hpart hgoes hleft]
    · rw [opRetryPass_of_retries_used hhand hpart hgoes hused]

end Sys2Proof.Machine
end

section
/-! Repositioning and seeking (R206, R214 to R216, R248): what a deck does when its tape has come to its target, and how LOCATE and SPACE begin,
end, or ask for tape. -/

namespace Sys2Proof.Machine

/-! ### The wrap under the head changes -/

/-- What the end of a wrap leaves of the deck (R192). -/
def Deck.wrapEnded (k : Deck) : Deck :=
  { k with tracks := Sparse.remap (fun _ => ({} : Track)) (fun _ t => ({ sq := t.sq, samples := t.samples, sqRun := t.sqRun } : Track)) k.tracks
           retired := [], wrote := false }

theorem State.deckAt_of_decks {s t : State} (h : t.decks = s.decks) (e : Nat) : t.deckAt e = s.deckAt e :=
  congrArg (fun l => Sparse.get ({} : Deck) l e) h

/-- The end of a wrap is reported and its counts restart; of the decks it changes deck d alone (R172, R192). -/
theorem endWrap_eq (d : Nat) (s : State) : ∃ a, Moves [.regs, .sent, .evt] s a ∧ endWrap d s = a.onDeck d Deck.wrapEnded := by
  have hkept : ∀ ev l, Moves [.regs, .sent, .evt] s (raiseKept ev l s) := fun ev l => (raiseKept_touches ev l s).mono (by decide)
  have hcounts : ∀ x a, Moves [.regs, .sent, .evt] a (a.setReg (Reg.dkLoupeWrap d x) 0) := fun x a =>
    (State.setReg_touches ..).mono (by decide)
  exact ⟨_, forEach_step hcounts (.ite (hkept _ _) (.refl _ s)), rfl⟩

section GotoWrap
variable (d w : Nat) (s : State)

theorem gotoWrap_deckAt_ne {e : Nat} (h : e ≠ d) : (gotoWrap d w s).deckAt e = s.deckAt e := by
  unfold gotoWrap
  split
  · rfl
  · obtain ⟨a, ha, hend⟩ := endWrap_eq d s
    rw [State.onMotion, State.deckAt_onDeck_ne _ _ h, hend, State.deckAt_onDeck_ne _ _ h, State.deckAt_of_decks (ha.keep .decks (by decide))]

@[simp] theorem gotoWrap_wrap : ((gotoWrap d w s).deckAt d).motion.wrap = w := by
  unfold gotoWrap
  split
  · assumption
  · simp only [State.onMotion, State.deckAt_onDeck_same]

@[simp] theorem gotoWrap_admin : ((gotoWrap d w s).deckAt d).admin = (s.deckAt d).admin := by
  unfold gotoWrap
  split
  · rfl
  · obtain ⟨a, ha, hend⟩ := endWrap_eq d s
    rw [State.onMotion, State.deckAt_onDeck_same, hend, State.deckAt_onDeck_same, ← State.deckAt_of_decks (ha.keep .decks (by decide)) d]
    rfl

end GotoWrap

/-! ### A read stream is opened where the tape stands -/

/-- From `s` to `t` no deck but d changes, and deck d keeps its motion and what its facets have told of their tricks. -/
structure KeepsPlace (d : Nat) (s t : State) : Prop where
  /-- wrap, pace and target are the same -/
  motion : (t.deckAt d).motion = (s.deckAt d).motion
  /-- the facets seen are the same -/
  seen : (t.deckAt d).seen = (s.deckAt d).seen
  /-- the other decks are the same -/
  others : ∀ e, e ≠ d → t.deckAt e = s.deckAt e

section KeepsPlace
variable {d : Nat} {s t : State}

theorem KeepsPlace.refl (d : Nat) (s : State) : KeepsPlace d s s := ⟨rfl, rfl, fun _ _ => rfl⟩

/-- After a change of deck d that keeps its place. -/
theorem KeepsPlace.after_putDeck {k : Deck} (h : KeepsPlace d (s.putDeck d k) t) (hmotion : k.motion = (s.deckAt d).motion)
    (hseen : k.seen = (s.deckAt d).seen) : KeepsPlace d s t := by
  obtain ⟨hm, hs, ho⟩ := h
  rw [State.deckAt_putDeck_same] at hm hs
  exact ⟨hm.trans hmotion, hs.trans hseen, fun e he => (ho e he).trans (State.deckAt_putDeck_ne s k he)⟩

theorem sendRecord_keepsPlace (d : Nat) (bytes : List Byte) (s : State) : KeepsPlace d s (sendRecord d bytes s) :=
  ⟨rfl, rfl, fun _ _ => rfl⟩

theorem sendMode_keepsPlace (d mode profile : Nat) (base start : Word) (s : State) : KeepsPlace d s (sendMode d mode profile base start s) := by
  refine (sendRecord_keepsPlace ..).after_putDeck ?_ ?_ <;> dsimp only <;> split <;> rfl

theorem sendRegister_keepsPlace (d : Nat) (write : Bool) (addr : BitVec 16) (v : Word) (host : Bool) (s : State) :
    KeepsPlace d s (sendRegister d write addr v host s) :=
  (sendRecord_keepsPlace ..).after_putDeck rfl rfl

theorem nextRegister_keepsPlace (d : Nat) (s : State) : KeepsPlace d s (nextRegister d s) := by
  unfold nextRegister
  dsimp only
  split
  · exact .refl d s
  · split
    · exact (sendRegister_keepsPlace ..).after_putDeck rfl rfl
    · split
      · exact (sendMode_keepsPlace ..).after_putDeck rfl rfl
      · exact .refl d s

theorem selectMode_keepsPlace (d mode profile : Nat) (base start : Word) (s : State) :
    KeepsPlace d s (selectMode d mode profile base start s) := by
  unfold selectMode
  dsimp only
  split
  · exact sendMode_keepsPlace ..
  · exact (nextRegister_keepsPlace ..).after_putDeck rfl rfl

end KeepsPlace

/-! ### REPOSITION_COMPLETE -/

/-- Deck d has come to rest with the head on wrap 0 (Table 11-5). -/
def restAtStart (d : Nat) (s : State) : State := (gotoWrap d 0 s).onMotion d (fun m => { m with pace := 0, target := none })

/-- Deck d runs on wrap w from the place reached, at lateral offset `off`, and nothing has been read yet (R202, R206). -/
def readFrom (d w : Nat) (off : Int) (s : State) : State :=
  ((gotoWrap d w s).onMotion d (fun m => { m with pace := 1, target := none, offset := off })).onDeck d Deck.rewound

/-- Deck d has come to rest and its REWIND has ended (R248). -/
def restRewound (d : Nat) (s : State) : State := (restAtStart d s).onDeck d (fun k => { k with admin := none })

/-- A REWIND under task q of context n has ended on deck d, and completes with the last deck of the group (R248). -/
def rewindEnded (d n q : Nat) (s : State) : State :=
  if (groupOf s d).all (fun x => ((restRewound d s).deckAt x).admin.isNone) then finish n q (status 0) (restRewound d s) else restRewound d s

section Arrival
variable {s : State} {d : Nat} (htarget : (s.deckAt d).motion.target.isSome = true)
  (hpace : (s.deckAt d).motion.pace = 1 ∨ (s.deckAt d).motion.pace = 5)

theorem restAtStart_touches (d : Nat) (s : State) : Moves [.regs, .sent, .evt, .decks] s (restAtStart d s) :=
  (gotoWrap_touches d 0 s).trans ((State.onMotion_touches ..).mono (by decide))

theorem readFrom_touches (d w : Nat) (off : Int) (s : State) : Moves [.regs, .sent, .evt, .decks] s (readFrom d w off s) :=
  ((gotoWrap_touches d w s).trans ((State.onMotion_touches ..).mono (by decide))).trans ((State.onDeck_touches ..).mono (by decide))

theorem restAtStart_motion (d : Nat) (s : State) : ((restAtStart d s).deckAt d).motion.pace = 0
    ∧ ((restAtStart d s).deckAt d).motion.target = none ∧ ((restAtStart d s).deckAt d).motion.wrap = 0 := by
  simp [restAtStart, State.onMotion]

theorem restAtStart_deckAt_ne {e : Nat} (h : e ≠ d) : (restAtStart d s).deckAt e = s.deckAt e := by
  rw [restAtStart, State.onMotion, State.deckAt_onDeck_ne _ _ h, gotoWrap_deckAt_ne d 0 s h]

theorem restRewound_deckAt_same (d : Nat) (s : State) :
    (restRewound d s).deckAt d = { (restAtStart d s).deckAt d with admin := none } := State.deckAt_onDeck_same ..

theorem restRewound_deckAt_ne {e : Nat} (h : e ≠ d) : (restRewound d s).deckAt e = s.deckAt e := by
  rw [restRewound, State.deckAt_onDeck_ne _ _ h, restAtStart_deckAt_ne h]

theorem readFrom_deckAt_ne {e w : Nat} {off : Int} (h : e ≠ d) : (readFrom d w off s).deckAt e = s.deckAt e := by
  rw [readFrom, State.onMotion, State.deckAt_onDeck_ne _ _ h, State.deckAt_onDeck_ne _ _ h, gotoWrap_deckAt_ne d w s h]

/-- A REWIND leaves the decks alike, whether other decks of its group still run or not. -/
theorem rewindEnded_decks (d n q : Nat) (s : State) : (rewindEnded d n q s).decks = (restRewound d s).decks := by
  unfold rewindEnded
  split <;> rfl

/-- With the deck alone in its group the REWIND completes GOOD (R45, R248). -/
theorem rewindEnded_ctx_of_alone {n q : Nat} (halone : groupOf s d = [d]) :
    (rewindEnded d n q s).ctx = (finish n q { status := 0 } s).ctx := by
  have hended : (groupOf s d).all (fun x => ((restRewound d s).deckAt x).admin.isNone) = true := by
    simp [halone, restRewound_deckAt_same]
  have hctx : (restRewound d s).ctx = s.ctx := (restAtStart_touches d s).keep .ctx (by decide)
  rw [rewindEnded, if_pos hended]
  simp only [finish, State.onTask, State.onCtx, State.putCtx, State.ctxAt, hctx]
  rfl

include htarget hpace

/-- The condition of Table 11-5: the tape stands at the target it was sent to. -/
theorem arrived : (!((s.deckAt d).motion.target.isSome && ((s.deckAt d).motion.pace == 1 || (s.deckAt d).motion.pace == 5))) = false := by
  rcases hpace with h | h <;> simp [htarget, h]

theorem opRepositionComplete_of_wanted {w : Nat × Word} (hwanted : (s.deckAt d).wanted = some w) :
    opRepositionComplete d s = selectMode d 2 (retrySettings (s.deckAt d).retry).2.2 0 w.2
      (readFrom d w.1 (retrySettings (s.deckAt d).retry).2.1 s) := by
  simp only [opRepositionComplete, arrived htarget hpace, hwanted, Bool.false_eq_true, if_false]
  rfl

theorem opRepositionComplete_of_rewind (hwanted : (s.deckAt d).wanted = none) {n q : Nat} (hadmin : (s.deckAt d).admin = some (.rewind n q)) :
    opRepositionComplete d s = rewindEnded d n q s := by
  simp only [opRepositionComplete, arrived htarget hpace, hwanted, hadmin, Bool.false_eq_true, if_false]
  rfl

theorem opRepositionComplete_of_no_rewind (hwanted : (s.deckAt d).wanted = none)
    (hadmin : ∀ n q, (s.deckAt d).admin ≠ some (.rewind n q)) : opRepositionComplete d s = restAtStart d s := by
  simp only [opRepositionComplete, arrived htarget hpace, hwanted, Bool.false_eq_true, if_false]
  rfl

end Arrival

/-- Settles O24: the deck comes to rest, ends its REWIND, or opens a read stream, which keeps the place to which the deck has gone. -/
theorem repositionEndsInIdleOrReading : Obligations.RepositionEndsInIdleOrReading := by
  intro s d hlive htarget hpace
  have hexec : exec (.repositionComplete d) s = .next (withdrawTap (opRepositionComplete d s)) := run_of_scan_false hlive
  refine ⟨fun hwanted => ⟨_, hexec, ?unwanted⟩, fun w hwanted => ⟨_, hexec, ?wanted⟩⟩
  case unwanted =>
    have hparts := (opRepositionComplete_touches d s).toTouches
    obtain ⟨hpace0, htarget0, hwrap0⟩ := restAtStart_motion d s
    by_cases hrewind : ∃ n q, (s.deckAt d).admin = some (.rewind n q)
    · obtain ⟨n, q, hadmin⟩ := hrewind
      rw [opRepositionComplete_of_rewind htarget hpace hwanted hadmin] at hparts ⊢
      simp only [State.deckAt_of_decks (rewindEnded_decks d n q s)]
      rw [restRewound_deckAt_same]
      refine ⟨hpace0, htarget0, hwrap0, fun hnone => ?_, fun n' q' hsame => ⟨rfl, ?_⟩, fun e he => restRewound_deckAt_ne he, hparts⟩
      · exact absurd (hadmin.symm.trans hnone) nofun
      · obtain ⟨rfl, rfl⟩ : n = n' ∧ q = q' := by simpa [hadmin] using hsame
        exact rewindEnded_ctx_of_alone
    · have hadmin : ∀ n q, (s.deckAt d).admin ≠ some (.rewind n q) := fun n q h => hrewind ⟨n, q, h⟩
      rw [opRepositionComplete_of_no_rewind htarget hpace hwanted hadmin] at hparts ⊢
      exact ⟨hpace0, htarget0, hwrap0, fun _ => (restAtStart_touches d s).toTouches, fun n q h => absurd h (hadmin n q),
        fun e he => restAtStart_deckAt_ne he, hparts⟩
  case wanted =>
    rw [opRepositionComplete_of_wanted htarget hpace hwanted]
    have hplace := selectMode_keepsPlace d 2 (retrySettings (s.deckAt d).retry).2.2 0 w.2 (readFrom d w.1 (retrySettings (s.deckAt d).retry).2.1 s)
    rw [hplace.motion, hplace.seen]
    refine ⟨?_, ?_, ?_, ?_, fun e he => (hplace.others e he).trans (readFrom_deckAt_ne he),
      ((readFrom_touches ..).trans ((selectMode_touches ..).mono (by decide))).toTouches⟩
    all_goals simp [readFrom, State.onMotion, Deck.rewound]

/-! ### What answers a LOCATE or SPACE -/

/-- Objects of the stream that context n is on, in the table to which it is bound: where its data end (R214). -/
abbrev streamEnd (s : State) (n : Nat) : Nat := ((s.tableAt (bindDeck s n) (bindPart s n)).stream (streamId s n)).objects

section FindTarget
variable {s : State} {n : Nat} {t : Task} (hknown : (s.tableAt (bindDeck s n) (bindPart s n)).known = true)
include hknown

/-- LOCATE by object finds an object that the stream has, or the place after its last one (R215). -/
theorem findTarget_locate_within (hop : t.opcode = 6) (hunit : t.field 8 1 = 0) (hwithin : t.field 16 8 ≤ streamEnd s n) :
    findTarget s n t = some (result2 0 (t.field 16 8) 0, t.field 16 8) := by
  simp [findTarget, hknown, hop, hunit, Nat.not_lt.2 hwithin]

/-- LOCATE by object stops at the end of the data before an object that the stream does not have (R215); that INFO0 is then 0 is the
model's reading (log entry 43). -/
theorem findTarget_locate_beyond (hop : t.opcode = 6) (hunit : t.field 8 1 = 0) (hbeyond : streamEnd s n < t.field 16 8) :
    findTarget s n t = some (result2 3 0 (streamEnd s n), streamEnd s n) := by
  simp [findTarget, hknown, hop, hunit, hbeyond]

/-- SPACE to the end finds the end of the data (R216) and is GOOD there (log entry 43). -/
theorem findTarget_space_to_end (hop : t.opcode = 7) (hunit : t.field 8 1 = 2) :
    findTarget s n t = some (result2 0 (streamEnd s n) 0, streamEnd s n) := by
  simp [findTarget, hknown, hop, hunit]

end FindTarget

section PumpSeek
variable {s : State} {n : Nat} {t : Task}
  (hseeks : (s.ctxAt n).tasks.find? (fun x => decide (x.stage = .running) && (x.opcode == 6 || x.opcode == 7)) = some t)
include hseeks

/-- A seek whose answer is known ends with it, and its context stands there (R214). -/
theorem pumpSeek_of_found {c : Completion} {pos : Nat} (hfound : findTarget s n t = some (c, pos)) :
    pumpSeek n s = finish n t.seq c (setPosition n pos s) := by
  simp only [pumpSeek, hseeks, hfound]

/-- A seek whose answer is not known needs tape (R199, R214). -/
theorem pumpSeek_of_not_found (hunknown : findTarget s n t = none) :
    pumpSeek n s = needTape (bindDeck s n) (bindPart s n) false s := by
  simp only [pumpSeek, hseeks, hunknown]

end PumpSeek

/-! ### LOCATE and SPACE begin -/

/-- Only a SPACE is refused for where it would go (R216). -/
theorem spaceRefusal_of_locate {s : State} {n : Nat} {u : Task} (hop : u.opcode = 6) : spaceRefusal s n u = none := by
  simp [spaceRefusal, hop]

/-- A SPACE back over more records than lie before the position names COUNT (Table 09-3). -/
theorem spaceRefusal_of_before_start {s : State} {n : Nat} {u : Task} (hop : u.opcode = 7) (hunit : u.field 8 1 = 0)
    (hback : signed 64 (u.field 16 8) < 0) (hbefore : (position s n : Int) < - signed 64 (u.field 16 8)) :
    spaceRefusal s n u = some (fieldRange 16 (u.field 16 8 % 2 ^ 32)) := by
  simp only [spaceRefusal, hop, hunit, hback, hbefore, decide_true, Bool.and_self, if_true]

section RunSeek
variable {s : State} {n : Nat} {u : Task} (hreason : restoreReason s n = none)
include hreason

/-- A seek that nothing refuses makes its table active and is under way (R198, R214). -/
theorem runSeek_of_free (hfree : spaceRefusal s n u = none) :
    runSeek n u s = pumpSeek n (commence n u.seq (makeActive (bindDeck s n) (bindPart s n) s)) := by
  simp only [runSeek, hreason, Option.map_none, orElse, hfree, unlessRefused_none]

theorem runSeek_of_refused {c : Completion} (hrefused : spaceRefusal s n u = some c) : runSeek n u s = finish n u.seq c s := by
  simp only [runSeek, hreason, Option.map_none, orElse, hrefused, unlessRefused]

end RunSeek

/-! ### The rows of LOCATE and SPACE -/

/-- What the row of opcode `op`, LOCATE or SPACE, does in context n: a task begins, or the one under way goes on (R214). -/
def seekRow (op n : Nat) (s : State) : State := if (startable s n op).isSome then beginTask op n (runSeek n) s else pumpSeek n s

theorem opLocate_eq_seekRow (n : Nat) (s : State) : opLocate n s = seekRow 6 n s := by
  unfold opLocate seekRow
  cases startable s n 6 <;> rfl

theorem opSpace_eq_seekRow (n : Nat) (s : State) : opSpace n s = seekRow 7 n s := by
  unfold opSpace seekRow
  cases startable s n 7 <;> rfl

section Rows
variable {s : State} {n op : Nat}

theorem seekRow_of_begins {u : Task} (hbegins : Begins s n op u) : seekRow op n s = runSeek n u s := by
  rw [seekRow, hbegins.1, Option.isSome_some, if_pos rfl, beginTask_of_begins hbegins]

theorem seekRow_of_under_way (hnone : startable s n op = none) : seekRow op n s = pumpSeek n s := by
  simp only [seekRow, hnone, Option.isSome_none, Bool.false_eq_true, if_false]

end Rows

/-- Settles O25: a row begins its task or goes on with the one under way, and what that one does is said by `findTarget`. -/
theorem seeksFindTheirTarget : Obligations.SeeksFindTheirTarget := by
  intro s n u t hlive d p o target ends
  have hlocate : exec (.locate n) s = .next (withdrawTap (seekRow 6 n s)) :=
    (run_of_scan_false hlive).trans (by rw [opLocate_eq_seekRow])
  have hspace : exec (.space n) s = .next (withdrawTap (seekRow 7 n s)) :=
    (run_of_scan_false hlive).trans (by rw [opSpace_eq_seekRow])
  rw [hlocate, hspace]
  refine ⟨⟨fun hbegins hreason hop => ?_, fun hbegins hreason hop => ⟨fun hfree => ?_, fun hunit hback hbefore => ?_⟩⟩,
    fun hnone6 hnone7 hseeks hknown => ?_⟩
  · rw [seekRow_of_begins hbegins, runSeek_of_free hreason (spaceRefusal_of_locate hop)]
  · rw [seekRow_of_begins hbegins, runSeek_of_free hreason hfree]
  · rw [seekRow_of_begins hbegins, runSeek_of_refused hreason (spaceRefusal_of_before_start hop hunit hback hbefore)]
  · rw [seekRow_of_under_way hnone6, seekRow_of_under_way hnone7]
    refine ⟨fun hop hunit hwithin => ?_, fun hop hunit hbeyond => ?_, fun hop hunit => ?_, fun hunknown => ?_⟩
    · rw [pumpSeek_of_found hseeks (findTarget_locate_within hknown hop hunit hwithin)]
    · rw [pumpSeek_of_found hseeks (findTarget_locate_beyond hknown hop hunit hbeyond)]
    · rw [pumpSeek_of_found hseeks (findTarget_space_to_end hknown hop hunit)]
    · rw [pumpSeek_of_not_found hseeks hunknown]
      exact ⟨rfl, rfl⟩

end Sys2Proof.Machine
end

section
/-! Canonical memories (R265, R370), and the stacks and their regions (R262 to R267). -/

namespace Sys2Proof.Machine

/-! ### What a command leaves -/

/-- Where an outcome is a next state, the two addressed memories of that state are in canonical form (R265, R370). -/
def LeavesCanonical (o : Host.Outcome State Fault Refusal) : Prop := ∀ t, o = .next t → Memory.wf t = true

theorem leavesCanonical_next {t : State} (h : Memory.wf t = true) : LeavesCanonical (.next t) := by
  rintro u ⟨⟩
  exact h

/-- A table put in order is in canonical form. -/
theorem Sparse.canonical_canon {α : Type} [DecidableEq α] (d : α) (m : Sparse α) : Sparse.Canonical (fun _ => d) (Sparse.canon d m) := by
  induction m with
  | nil => exact ⟨List.Pairwise.nil, by simp [Sparse.canon]⟩
  | cons e m ih => exact ih.set e.1 e.2

/-- The core's undefined state under SCAN has its memories in canonical form (R413). -/
theorem undefinedCore_wf (s : State) : Memory.wf (undefinedCore s) = true :=
  (memory_wf_iff _).2 ⟨Sparse.canonical_canon .., Sparse.canonical_canon ..⟩

section Running
variable {l : List Part} {f : State → State} {s : State}

theorem Moves.run_canonical (k : Moves l s (f s)) (hs : Memory.wf s = true) : LeavesCanonical (run f s) := by
  refine leavesCanonical_next ?_
  split
  · exact undefinedCore_wf s
  · exact (withdrawTap_touches _).canonical (k.canonical hs)

theorem Moves.runTap_canonical (k : Moves l s (f s)) (hs : Memory.wf s = true) : LeavesCanonical (runTap f s) := by
  refine leavesCanonical_next ?_
  split
  · exact Memory.wf_congr rfl rfl (undefinedCore_wf s)
  · exact (withdrawTap_touches _).canonical (k.canonical hs)

/-- A reset that ends SCAN works on a state with the same memories. -/
theorem Moves.runReset_canonical (k : Moves l { s with tap := { s.tap with scan := false } } (f { s with tap := { s.tap with scan := false } }))
    (hs : Memory.wf s = true) : LeavesCanonical (runReset f s) :=
  leavesCanonical_next ((withdrawTap_touches _).canonical (k.canonical (Memory.wf_congr rfl rfl hs)))

end Running

theorem execColdReset_canonical (sideband : Bool) (boot : BootInput) {s : State} (hs : Memory.wf s = true) :
    LeavesCanonical (execColdReset sideband boot s) := by
  unfold execColdReset
  split
  · exact (resetCold_touches ..).runReset_canonical hs
  · exact (Moves.refl [] s).run_canonical hs

/-- Every command leaves canonical memories where it meets them: its operation moves the state in that way, and so does the TAP check. -/
theorem exec_canonical {s : State} (hs : Memory.wf s = true) : ∀ c : Instr, LeavesCanonical (exec c s)
  | .registerWrite .. => (opRegisterWrite_touches ..).run_canonical hs
  | .unassignedAccess .. => (opUnassignedAccess_touches ..).run_canonical hs
  | .handshakeStall .. => (opHandshakeStall_touches ..).run_canonical hs
  | .slackMeasurement .. => (opSlackMeasurement_touches ..).run_canonical hs
  | .avsEvaluation .. => (opAvsEvaluation_touches ..).run_canonical hs
  | .avsReadback .. => (opAvsReadback_touches ..).run_canonical hs
  | .taskRecordWrite .. => (opTaskRecordWrite_touches ..).run_canonical hs
  | .doorbell .. => (opDoorbell_touches ..).run_canonical hs
  | .abortRequest .. => (opAbortRequest_touches ..).run_canonical hs
  | .ctxConfigWrite .. => (opCtxConfigWrite_touches ..).run_canonical hs
  | .ctxReset .. => (opCtxReset_touches ..).run_canonical hs
  | .ctxResetComplete .. => (opCtxResetComplete_touches ..).run_canonical hs
  | .write .. => (opWrite_touches ..).run_canonical hs
  | .mark .. => (opMark_touches ..).run_canonical hs
  | .flush .. => (opFlush_touches ..).run_canonical hs
  | .sync .. => (opSync_touches ..).run_canonical hs
  | .read .. => (opRead_touches ..).run_canonical hs
  | .locate .. => (opLocate_touches ..).run_canonical hs
  | .space .. => (opSpace_touches ..).run_canonical hs
  | .position .. => (opPosition_touches ..).run_canonical hs
  | .pass .. => (opPass_touches ..).run_canonical hs
  | .barrier .. => (opBarrier_touches ..).run_canonical hs
  | .cut .. => (opCut_touches ..).run_canonical hs
  | .uncut .. => (opUncut_touches ..).run_canonical hs
  | .hostJobCopy .. => (opHostJobCopy_touches ..).run_canonical hs
  | .meterRead .. => (opMeterRead_touches ..).run_canonical hs
  | .load .. => (opLoad_touches ..).run_canonical hs
  | .unload .. => (opUnload_touches ..).run_canonical hs
  | .rewind .. => (opRewind_touches ..).run_canonical hs
  | .partCreate .. => (opPartCreate_touches ..).run_canonical hs
  | .partDelete .. => (opPartDelete_touches ..).run_canonical hs
  | .mediumFormat .. => (opMediumFormat_touches ..).run_canonical hs
  | .seat .. => (opSeat_touches ..).run_canonical hs
  | .power .. => (opPower_touches ..).run_canonical hs
  | .store .. => (opStore_touches ..).run_canonical hs
  | .imageActivate .. => (opImageActivate_touches ..).run_canonical hs
  | .completionWrite .. => (opCompletionWrite_touches ..).run_canonical hs
  | .deferredErrorDelivery .. => (opDeferredErrorDelivery_touches ..).run_canonical hs
  | .packItem .. => (opPackItem_touches ..).run_canonical hs
  | .fixedSeatTurn .. => (opFixedSeatTurn_touches ..).run_canonical hs
  | .seatAlert .. => (opSeatAlert_touches ..).run_canonical hs
  | .poolWaitResume .. => (opPoolWaitResume_touches ..).run_canonical hs
  | .fetchResume .. => (opFetchResume_touches ..).run_canonical hs
  | .blockClose .. => (closeBlock_touches ..).run_canonical hs
  | .engineDispatch .. => (opEngineDispatch_touches ..).run_canonical hs
  | .blockCoded .. => (opBlockCoded_touches ..).run_canonical hs
  | .blockDecode .. => (opBlockDecode_touches ..).run_canonical hs
  | .engineOffWrite .. => (opEngineOffWrite_touches ..).run_canonical hs
  | .seal .. => (sealNextBlock_touches ..).run_canonical hs
  | .blockOpen .. => (opBlockOpen_touches ..).run_canonical hs
  | .keyLoad => (opKeyLoad_touches ..).run_canonical hs
  | .keyZeroise => (opKeyZeroise_touches ..).run_canonical hs
  | .keyClearAll => (opKeyClearAll_touches ..).run_canonical hs
  | .keyCommandDone => (opKeyCommandDone_touches ..).run_canonical hs
  | .roundWriteStart .. => (opRoundWriteStart_touches ..).run_canonical hs
  | .trickBegin .. => (opTrickBegin_touches ..).run_canonical hs
  | .endOfDataWrite .. => (opEndOfDataWrite_touches ..).run_canonical hs
  | .facetGrade .. => (opFacetGrade_touches ..).run_canonical hs
  | .wrapTurn .. => (opWrapTurn_touches ..).run_canonical hs
  | .facetDecode .. => (opFacetDecode_touches ..).run_canonical hs
  | .trickMissing .. => (opTrickMissing_touches ..).run_canonical hs
  | .retryPass .. => (opRetryPass_touches ..).run_canonical hs
  | .repositionComplete .. => (opRepositionComplete_touches ..).run_canonical hs
  | .paceSample .. => (opPaceSample_touches ..).run_canonical hs
  | .servoRecord .. => (opServoRecord_touches ..).run_canonical hs
  | .lateralLock .. => (opLateralLock_touches ..).run_canonical hs
  | .reelRecord .. => (opReelRecord_touches ..).run_canonical hs
  | .telemetryDiscardLimit .. => (opTelemetryDiscardLimit_touches ..).run_canonical hs
  | .reversalTensionMet .. => (opReversalTensionMet_touches ..).run_canonical hs
  | .reversalTimeout .. => (opReversalTimeout_touches ..).run_canonical hs
  | .coefCommit .. => (opCoefCommit_touches ..).run_canonical hs
  | .holdWrite .. => (opHoldWrite_touches ..).run_canonical hs
  | .jasStopRequest .. => (opJasStopRequest_touches ..).run_canonical hs
  | .stopComplete .. => (opStopComplete_touches ..).run_canonical hs
  | .deckEstop .. => (opDeckEstop_touches ..).run_canonical hs
  | .traceArm .. => (opTraceArm_touches ..).run_canonical hs
  | .traceFire .. => (opTraceFire_touches ..).run_canonical hs
  | .traceTrigger .. => (opTraceTrigger_touches ..).run_canonical hs
  | .traceDone .. => (opTraceDone_touches ..).run_canonical hs
  | .traceRead .. => (opTraceRead_touches ..).run_canonical hs
  | .hbmCattrip .. => (opHbmCattrip_touches ..).run_canonical hs
  | .hbmEccPoll .. => (opHbmEccPoll_touches ..).run_canonical hs
  | .regionCfgWrite .. => (opRegionCfgWrite_touches ..).run_canonical hs
  | .micFill .. => (opMicFill_touches ..).run_canonical hs
  | .micFillComplete => (opMicFillComplete_touches ..).run_canonical hs
  | .poolCfgWrite .. => (opPoolCfgWrite_touches ..).run_canonical hs
  | .poolReady .. => (opPoolReady_touches ..).run_canonical hs
  | .hostChipAllocate => (opHostChipAllocate_touches ..).run_canonical hs
  | .hostChipFree .. => (opHostChipFree_touches ..).run_canonical hs
  | .shoeWindowAccess .. => (opShoeWindowAccess_touches ..).run_canonical hs
  | .polisherAccess .. => (opPolisherAccess_touches ..).run_canonical hs
  | .writeSlot => (opWriteSlot_touches ..).run_canonical hs
  | .slotWriteDone .. => (opSlotWriteDone_touches ..).run_canonical hs
  | .verify => (opVerify_touches ..).run_canonical hs
  | .revoke => (opRevoke_touches ..).run_canonical hs
  | .formatEpoch .. => (opFormatEpoch_touches ..).run_canonical hs
  | .cutterEpoch .. => (opCutterEpoch_touches ..).run_canonical hs
  | .linkTraining .. => (opLinkTraining_touches ..).run_canonical hs
  | .trainingStepTimeout .. => (opTrainingStepTimeout_touches ..).run_canonical hs
  | .frameReceive .. => (opFrameReceive_touches ..).run_canonical hs
  | .laneFrameLock .. => (opLaneFrameLock_touches ..).run_canonical hs
  | .laneLockLoss .. => (opLaneLockLoss_touches ..).run_canonical hs
  | .columnSend .. => (opColumnSend_touches ..).run_canonical hs
  | .credit .. => (opCredit_touches ..).run_canonical hs
  | .column .. => (opColumn_touches ..).run_canonical hs
  | .sq .. => (opSq_touches ..).run_canonical hs
  | .head .. => (opHead_touches ..).run_canonical hs
  | .status .. => (opStatus_touches ..).run_canonical hs
  | .regResp .. => (opRegResp_touches ..).run_canonical hs
  | .unknownRecord .. => (opUnknownRecord_touches ..).run_canonical hs
  | .laneLockTimeout .. => (opLaneLockTimeout_touches ..).run_canonical hs
  | .linkAlert .. => (opLinkAlert_touches ..).run_canonical hs
  | .creditTimeout .. => (opCreditTimeout_touches ..).run_canonical hs
  | .statusTimeout .. => (opStatusTimeout_touches ..).run_canonical hs
  | .regRespTimeout .. => (opRegRespTimeout_touches ..).run_canonical hs
  | .deckPresenceChange .. => (opDeckPresenceChange_touches ..).run_canonical hs
  | .deckFault .. => (opDeckFault_touches ..).run_canonical hs
  | .linkEnableWrite .. => (opLinkEnableWrite_touches ..).run_canonical hs
  | .linkRetrain .. => (opLinkRetrain_touches ..).run_canonical hs
  | .feRegisterRead .. => (hostAccess_touches ..).run_canonical hs
  | .feRegisterWrite .. => (hostAccess_touches ..).run_canonical hs
  | .flitReceive .. => (opFlitReceive_touches ..).run_canonical hs
  | .replayTimeout .. => (opReplayTimeout_touches ..).run_canonical hs
  | .ackDue .. => (opAckDue_touches ..).run_canonical hs
  | .dmaCompletionReceive .. => (opDmaCompletionReceive_touches ..).run_canonical hs
  | .dmaReadTimeout .. => (opDmaReadTimeout_touches ..).run_canonical hs
  | .creditWaitAlert .. => (opCreditWaitAlert_touches ..).run_canonical hs
  | .portActive .. => (opPortActive_touches ..).run_canonical hs
  | .portRetrain .. => (opPortRetrain_touches ..).run_canonical hs
  | .portEnableWrite .. => (opPortEnableWrite_touches ..).run_canonical hs
  | .linkLoss => (opLinkLoss_touches ..).run_canonical hs
  | .sbReset .. => (opSbReset_touches ..).run_canonical hs
  | .sbWake .. => (opSbWake_touches ..).run_canonical hs
  | .presenceAction => (opPresenceAction_touches ..).run_canonical hs
  | .buttonStuck => (opButtonStuck_touches ..).run_canonical hs
  | .jumperRemoved => (opJumperRemoved_touches ..).run_canonical hs
  | .presenceWindowExpiry => (opPresenceWindowExpiry_touches ..).run_canonical hs
  | .closeWindow => (opCloseWindow_touches ..).run_canonical hs
  | .enterService => (opEnterService_touches ..).run_canonical hs
  | .leaveService => (opLeaveService_touches ..).run_canonical hs
  | .openArm .. => (opOpenArm_touches ..).run_canonical hs
  | .openDisarm => (opOpenDisarm_touches ..).run_canonical hs
  | .debugLevelWrite .. => (opDebugLevelWrite_touches ..).run_canonical hs
  | .sealEnableWrite .. => (opSealEnableWrite_touches ..).run_canonical hs
  | .sealBit .. => (opSealBit_touches ..).run_canonical hs
  | .tamperedEntry => (opTamperedEntry_touches ..).run_canonical hs
  | .sealRestored => (opSealRestored_touches ..).run_canonical hs
  | .dozeExit .. => (opDozeExit_touches ..).run_canonical hs
  | .sleepExit .. => (opSleepExit_touches ..).run_canonical hs
  | .sleepExitRailTimeout => (opSleepExitRailTimeout_touches ..).run_canonical hs
  | .powerFail => (opPowerFail_touches ..).run_canonical hs
  | .pfailMotorTimeout => (opPfailMotorTimeout_touches ..).run_canonical hs
  | .supplyMonitorTrip .. => (opSupplyMonitorTrip_touches ..).run_canonical hs
  | .por .. => (opPor_touches ..).runReset_canonical hs
  | .coldReset sideband boot => execColdReset_canonical sideband boot hs
  | .warmReset => (opWarmReset_touches ..).run_canonical hs
  | .deckReset .. => (opDeckReset_touches ..).run_canonical hs
  | .nvmProgram => (opNvmProgram_touches ..).run_canonical hs
  | .nvmErase => (opNvmErase_touches ..).run_canonical hs
  | .nvmSuspend => (opNvmSuspend_touches ..).run_canonical hs
  | .nvmResume => (opNvmResume_touches ..).run_canonical hs
  | .nvmMarginPv => (opNvmMarginPv_touches ..).run_canonical hs
  | .nvmMarginEv => (opNvmMarginEv_touches ..).run_canonical hs
  | .nvmOperationComplete .. => (opNvmOperationComplete_touches ..).run_canonical hs
  | .parkRequest => (opParkRequest_touches ..).run_canonical hs
  | .stewardParked => (opStewardParked_touches ..).run_canonical hs
  | .parkRelease => (opParkRelease_touches ..).run_canonical hs
  | .parkTimeout => (opParkTimeout_touches ..).run_canonical hs
  | .rdDelayWrite .. => (opRdDelayWrite_touches ..).run_canonical hs
  | .wpSet .. => (opWpSet_touches ..).run_canonical hs
  | .wpClr .. => (opWpClr_touches ..).run_canonical hs
  | .nvmWinRead .. => (opNvmWinRead_touches ..).run_canonical hs
  | .nvmCalRead .. => (opNvmCalRead_touches ..).run_canonical hs
  | .scorepadPersist => (opScorepadPersist_touches ..).run_canonical hs
  | .freezeWrite .. => (opFreezeWrite_touches ..).run_canonical hs
  | .freezeTimeout => (opFreezeTimeout_touches ..).run_canonical hs
  | .scorepadClear => (opScorepadClear_touches ..).run_canonical hs
  | .noticePop => (opNoticePop_touches ..).run_canonical hs
  | .wallWrite .. => (opWallWrite_touches ..).run_canonical hs
  | .hoursTick => (opHoursTick_touches ..).run_canonical hs
  | .hoursCheckpoint .. => (opHoursCheckpoint_touches ..).run_canonical hs
  | .meterSnapshot => (opMeterSnapshot_touches ..).run_canonical hs
  | .activeSecondTick => (opActiveSecondTick_touches ..).run_canonical hs
  | .tapReset => (opTapReset_touches ..).runTap_canonical hs
  | .tapUpdateIr => (opTapUpdateIr_touches ..).runTap_canonical hs
  | .tapUpdateDr => (opTapUpdateDr_touches ..).runTap_canonical hs
  | .thermalWarning .. => (opThermalWarning_touches ..).run_canonical hs
  | .thermalShutdown .. => (opThermalShutdown_touches ..).run_canonical hs
  | .xtalStartTimeout => (opXtalStartTimeout_touches ..).run_canonical hs
  | .buttonPressed => (opButtonPressed_touches ..).run_canonical hs
  | .buttonReleased => (opButtonReleased_touches ..).run_canonical hs
  | .jumperFitted => (opJumperFitted_touches ..).run_canonical hs
  | .deckEstopReleased .. => (opDeckEstopReleased_touches ..).run_canonical hs
  | .clockDataLock .. => (opClockDataLock_touches ..).run_canonical hs
  | .tckEdge .. => (opTckEdge_touches ..).runTap_canonical hs
  | .dmaTagRelease .. => (opDmaTagRelease_touches ..).run_canonical hs
  | .tjBandChange .. => (opTjBandChange_touches ..).run_canonical hs
  | .serviceConsoleInput .. => (opServiceConsoleInput_touches ..).run_canonical hs
  | .imageDefinedCondition .. => (opImageDefinedCondition_touches ..).run_canonical hs

/-- Settles O58: the command taken from the queue runs on a state with the same memories, and an empty queue changes nothing. -/
theorem stepsKeepTheMemoriesCanonical : Obligations.StepsKeepTheMemoriesCanonical := by
  intro s t hs hstep
  unfold step at hstep
  split at hstep
  · cases hstep
    exact hs
  next c rest _ =>
    have hrest : Memory.wf { s with pending := rest } = true := Memory.wf_congr rfl rfl hs
    exact exec_canonical hrest c t hstep

/-! ### The stacks' own reports -/

/-- The first trip of a stack: CATTRIP shows, event 378 is raised, and every deck stops with cause 4 (R262). -/
theorem opHbmCattrip_of_first {s : State} {k : Nat} (h : k ∉ s.shoe.tripped) :
    opHbmCattrip k s = stopAll 6 4 (raise 378 []
      ({ s with shoe := { s.shoe with tripped := k :: s.shoe.tripped } }.setFld (Reg.micHbmStatus k) Fld.micHbmStatusCattrip 1)) := by
  simp [opHbmCattrip, h]

theorem satAt_eq_min (m n : Nat) : satAt m n = min m n := by
  unfold satAt
  split <;> omega

/-- What a poll stores: `n` more corrections, the temperature, and HOT (R262, R263). -/
def storePoll (k n temp : Nat) (s : State) : State :=
  let reg := Reg.micHbmStatus k
  ((s.addFld reg Fld.micHbmStatusEcc n).setFld reg Fld.micHbmStatusTemp temp).setFld reg Fld.micHbmStatusHot (bit (decide (85 < temp)))

section Poll
variable (k n temp : Nat) (s : State)

theorem storePoll_regsOnly : RegsOnly s (storePoll k n temp s) :=
  ((addFld_regsOnly ..).trans (setFld_regsOnly ..)).trans (setFld_regsOnly ..)

theorem storePoll_sameRegsBut : SameRegsBut [Reg.micHbmStatus k] s (storePoll k n temp s) :=
  have hreg : Reg.micHbmStatus k ∈ [Reg.micHbmStatus k] := List.mem_singleton_self _
  (((SameRegsBut.refl _ s).setFld hreg _ _).setFld hreg _ _).setFld hreg _ _

theorem storePoll_hot : (storePoll k n temp s).fld (Reg.micHbmStatus k) Fld.micHbmStatusHot = bit (decide (85 < temp)) := by
  rw [storePoll, State.fld_setFld_same _ _ _ _ (by decide) (by decide)]
  exact Nat.mod_eq_of_lt (by unfold bit; split <;> decide)

theorem storePoll_temp (h : temp < 256) : (storePoll k n temp s).fld (Reg.micHbmStatus k) Fld.micHbmStatusTemp = temp := by
  rw [storePoll, State.fld_setFld_other _ _ _ _ _ (by decide) (by decide) (by decide) (by decide),
    State.fld_setFld_same _ _ _ _ (by decide) (by decide)]
  exact Nat.mod_eq_of_lt h

/-- The count of corrections saturates (R262). -/
theorem storePoll_ecc : (storePoll k n temp s).fld (Reg.micHbmStatus k) Fld.micHbmStatusEcc
    = min (2 ^ Fld.micHbmStatusEcc.width - 1) (s.fld (Reg.micHbmStatus k) Fld.micHbmStatusEcc + n) := by
  rw [storePoll, State.fld_setFld_other _ _ _ _ _ (by decide) (by decide) (by decide) (by decide),
    State.fld_setFld_other _ _ _ _ _ (by decide) (by decide) (by decide) (by decide), State.addFld,
    State.fld_setFld_same _ _ _ _ (by decide) (by decide), satAt_eq_min]
  exact Nat.mod_eq_of_lt ((Nat.min_le_left ..).trans_lt (by decide))

end Poll

/-- The events of a poll on its stored figures: 376 where it found corrections, 381 where HOT changes (R262, R263). -/
def pollEvents (corrected hotStays : Bool) (s : State) : State :=
  let a := if corrected then raise 376 [] s else s
  if hotStays then a else raise 381 [] a

theorem pollEvents_evtOnly (corrected hotStays : Bool) (s : State) : EvtOnly s (pollEvents corrected hotStays s) :=
  have hcorrected : EvtOnly s (if corrected then raise 376 [] s else s) := evtOnly_ite _ (raise_evtOnly ..) (.refl s)
  evtOnly_ite _ hcorrected (hcorrected.trans (raise_evtOnly ..))

/-- A trained stack that has power, has not tripped and is not under HBMs_1500 is read (R262, R263, R410). -/
theorem opHbmEccPoll_of_read {k n temp : Nat} {s : State} (htrained : s.flag (Reg.micHbmStatus k) Fld.micHbmStatusTrained = true)
    (hpower : s.pwr.state < 3) (htrip : k ∉ s.shoe.tripped) (htap : s.tap.ir.toNat ≠ 0x10 + k) :
    opHbmEccPoll k n temp s
      = pollEvents (n != 0) (s.fld (Reg.micHbmStatus k) Fld.micHbmStatusHot == bit (decide (85 < temp))) (storePoll k n temp s) := by
  simp [opHbmEccPoll, pollEvents, storePoll, htrained, hpower, htrip, htap]

/-! ### Regions -/

theorem Sparse.find_keep {α : Type} (p : Nat → Bool) (m : Sparse α) (k : Nat) :
    Sparse.find (Sparse.keep p m) k = if p k then Sparse.find m k else none := by
  induction m with
  | nil => simp [Sparse.keep, Sparse.find_nil]
  | cons e m ih =>
    obtain ⟨i, v⟩ := e
    by_cases hp : p i = true
    · have hkept : Sparse.keep p ((i, v) :: m) = (i, v) :: Sparse.keep p m := List.filter_cons_of_pos hp
      rw [hkept, Sparse.find_cons, Sparse.find_cons, ih]
      by_cases hik : i = k
      · rw [if_pos hik, if_pos hik, if_pos (hik ▸ hp)]
      · rw [if_neg hik, if_neg hik]
    · have hdropped : Sparse.keep p ((i, v) :: m) = Sparse.keep p m := List.filter_cons_of_neg hp
      rw [hdropped, Sparse.find_cons, ih]
      by_cases hik : i = k
      · rw [if_pos hik, if_neg (hik ▸ hp), if_neg (hik ▸ hp)]
      · rw [if_neg hik]

theorem Sparse.get_keep {α : Type} (d : α) (p : Nat → Bool) (m : Sparse α) (k : Nat) :
    Sparse.get d (Sparse.keep p m) k = if p k then Sparse.get d m k else d := by
  rw [Sparse.get, Sparse.find_keep]
  split <;> rfl

section Unwrite
variable (g : Nat) (s : State)

theorem mem_unwriteStack_written (x : Nat) : x ∈ (unwriteStack g s).shoe.written ↔ x ∈ s.shoe.written ∧ x / 2 ^ 30 ≠ g := by
  simp [unwriteStack]

/-- A stack never written reads 0, and the bytes of the other one stay (R265, R267). -/
theorem unwriteStack_get (a : Nat) :
    Sparse.get 0 (unwriteStack g s).shoe.mem a = if a / 2 ^ 35 = g then 0 else Sparse.get 0 s.shoe.mem a := by
  have hkeep : (unwriteStack g s).shoe.mem = Sparse.keep (fun i => i / 2 ^ 35 != g) s.shoe.mem := rfl
  rw [hkeep, Sparse.get_keep]
  simp only [bne_iff_ne, ne_eq, ite_not]

end Unwrite

/-- The state with `w` as the selected region's configuration (R264). -/
def setRegion (w : Word) (s : State) : State :=
  { s with shoe := { s.shoe with regions := Sparse.set 0 s.shoe.regions (16 * (selRegion s).1 + (selRegion s).2) w } }

section RegionWrite
variable {s : State} {v : Word}

theorem opRegionCfgWrite_of_fits (hpool : poolOnStack s (selRegion s).1 = false)
    (hfits : regionFits s (selRegion s).1 (selRegion s).2 (regionBits v) = true) :
    opRegionCfgWrite v s = unwriteStack (selRegion s).1 (setRegion (regionBits v) s) := by
  simp [opRegionCfgWrite, setRegion, hpool, hfits]

theorem opRegionCfgWrite_of_refused
    (h : poolOnStack s (selRegion s).1 = true ∨ regionFits s (selRegion s).1 (selRegion s).2 (regionBits v) = false) :
    opRegionCfgWrite v s = raise 356 [] s := by
  obtain h | h := h <;> simp [opRegionCfgWrite, h]

end RegionWrite

/-- Settles O30: a trip and a region write by the cases of their operations, a poll as events on the figures that `storePoll` stores. -/
theorem stacksAndRegions : Obligations.StacksAndRegions := by
  intro s k n temp v hlive st g w
  have htripped : exec (.hbmCattrip k) s = .next (withdrawTap (opHbmCattrip k s)) := run_of_scan_false hlive
  have hpolled : exec (.hbmEccPoll k n temp) s = .next (withdrawTap (opHbmEccPoll k n temp.toNat s)) := run_of_scan_false hlive
  have hwritten : exec (.regionCfgWrite v) s = .next (withdrawTap (opRegionCfgWrite v s)) := run_of_scan_false hlive
  rw [htripped, hpolled, hwritten]
  refine ⟨fun hfirst => ?_, fun htrained hpower htrip htap => ?_, fun hpool hfits => ?_, fun hrefused => ?_⟩
  · rw [opHbmCattrip_of_first hfirst]
  · have hread := opHbmEccPoll_of_read (n := n) (temp := temp.toNat) htrained hpower htrip htap
    have hregs : (opHbmEccPoll k n temp.toNat s).regs = (storePoll k n temp.toNat s).regs := by
      rw [hread, pollEvents_evtOnly]
    have hhot : (opHbmEccPoll k n temp.toNat s).fld st Fld.micHbmStatusHot = bit (decide (85 < temp.toNat)) :=
      (State.fld_of_regs hregs ..).trans (storePoll_hot ..)
    refine ⟨_, rfl, ?_, hhot.trans (by simp [bit]), ?_, (storePoll_sameRegsBut k n _ s).of_regs hregs, ?_, fun hnone hstays => ?_⟩
    · exact (State.fld_of_regs hregs ..).trans (storePoll_temp _ _ _ s temp.isLt)
    · exact (State.fld_of_regs hregs ..).trans (storePoll_ecc ..)
    · exact (opHbmEccPoll_touches ..).toTouches.mono (by decide)
    · have hquiet : opHbmEccPoll k n temp.toNat s = storePoll k n temp.toNat s := by
        rw [hread, ← hhot.symm.trans hstays]
        simp [pollEvents, hnone]
      rw [hquiet]
      exact storePoll_regsOnly ..
  · rw [opRegionCfgWrite_of_fits hpool hfits]
    refine ⟨_, rfl, rfl, fun x => mem_unwriteStack_written .., fun a ha => ?_, fun a ha => ?_, ?_⟩
    · rw [unwriteStack_get, if_pos ha]
    · rw [unwriteStack_get, if_neg ha]; rfl
    · have hset : Moves [.shoe, .mem] s (setRegion w s) := Moves.upd_shoe (by decide) rfl (.refl _ s)
      exact (hset.trans (unwriteStack_touches ..)).toTouches
  · rw [opRegionCfgWrite_of_refused hrefused]

end Sys2Proof.Machine
end

section
/-! Image slots and epochs (R288 to R290, R293, R294): what CFG_RESULT holds at a slot command's end, which approvals a command ends or makes,
how a slot write ends, and when an activation or an epoch takes effect. -/

namespace Sys2Proof.Machine

/-! ### CFG_RESULT -/

section Result
variable (code : Nat) (fault : Nat × Nat) (mismatch : Bool) (s : State)

theorem cfgResult_regsOnly : RegsOnly s (cfgResult code fault mismatch s) := setReg_regsOnly ..

@[simp] theorem cfgResult_img : (cfgResult code fault mismatch s).img = s.img := (cfgResult_touches ..).keep .img (by decide)

@[simp] theorem cfgResult_nvm : (cfgResult code fault mismatch s).nvm = s.nvm := by rw [cfgResult, State.setReg_nvm]

theorem cfgResult_sameRegsBut : SameRegsBut [Reg.cfgResult] s (cfgResult code fault mismatch s) :=
  fun _ ho => State.reg_setReg_ne s _ (List.ne_of_not_mem_cons ho)

theorem cfgResult_result {code : Nat} (hcode : code < 16) :
    (cfgResult code fault mismatch s).fld Reg.cfgResult Fld.cfgResultResult = code := by
  rw [cfgResult, State.fld, State.reg_setReg_same, getBits_putBits_other _ _ _ _ (by decide) (by decide) (by decide) (by decide),
    getBits_putBits_other _ _ _ _ (by decide) (by decide) (by decide) (by decide),
    getBits_putBits_other _ _ _ _ (by decide) (by decide) (by decide) (by decide), getBits_putBits_same _ _ _ (by decide) (by decide)]
  exact Nat.mod_eq_of_lt hcode

/-- SEQ tells the commands apart, so the end of one leaves it (R290). -/
theorem cfgResult_seq : (cfgResult code fault mismatch s).fld Reg.cfgResult Fld.cfgResultSeq = s.fld Reg.cfgResult Fld.cfgResultSeq := by
  rw [cfgResult, State.fld, State.reg_setReg_same, getBits_putBits_other _ _ _ _ (by decide) (by decide) (by decide) (by decide),
    getBits_putBits_other _ _ _ _ (by decide) (by decide) (by decide) (by decide),
    getBits_putBits_other _ _ _ _ (by decide) (by decide) (by decide) (by decide),
    getBits_putBits_other _ _ _ _ (by decide) (by decide) (by decide) (by decide)]
  rfl

end Result

theorem SameRegsBut.cfgResult {s t : State} (h : SameRegsBut [Reg.cfgResult] s t) {code : Nat} {fault : Nat × Nat} {mismatch : Bool} :
    SameRegsBut [Reg.cfgResult] s (cfgResult code fault mismatch t) :=
  h.trans (cfgResult_sameRegsBut code fault mismatch t)

/-! ### A slot command begins -/

/-- The state in which a slot command does its work: SEQ has moved on (R290). -/
abbrev slotCommandBegun (s : State) : State := s.incFld Reg.cfgResult Fld.cfgResultSeq 1

theorem slotCommandBegun_regsOnly (s : State) : RegsOnly s (slotCommandBegun s) := setFld_regsOnly ..

theorem slotCommandBegun_sameRegsBut (s : State) : SameRegsBut [Reg.cfgResult] s (slotCommandBegun s) :=
  (SameRegsBut.refl _ s).setFld (List.mem_singleton_self _) _ _

theorem slotCommandBegun_window (s : State) : (slotCommandBegun s).window = s.window := by
  rw [State.window, State.incFld_sec, State.window]

theorem slotCommand_of_busy {f : Nat → State → State} {s : State} (h : s.img.cmd ≠ none) :
    slotCommand f s = s.setFld Reg.cfgResult Fld.cfgResultResult 5 :=
  if_pos (Option.isSome_iff_ne_none.2 h)

theorem slotCommand_of_free {f : Nat → State → State} {s : State} (h : s.img.cmd = none) :
    slotCommand f s = f (s.fld Reg.cfgSlotSel Fld.cfgSlotSelSlot) (slotCommandBegun s) := by
  simp [slotCommand, h]

/-- Each slot command is discarded with RESULT 5 while another runs (R290). -/
theorem exec_slotCommand_of_busy {s : State} (hlive : Live s) (hbusy : s.img.cmd ≠ none) {c : Instr}
    (hc : c ∈ [Instr.writeSlot, .verify, .revoke]) : exec c s = .next (withdrawTap (s.setFld Reg.cfgResult Fld.cfgResultResult 5)) := by
  have hrow : ∃ f, exec c s = run (slotCommand f) s := by
    obtain rfl | rfl | rfl : c = .writeSlot ∨ c = .verify ∨ c = .revoke := by simpa using hc
    · exact ⟨_, rfl⟩
    · exact ⟨_, rfl⟩
    · exact ⟨_, rfl⟩
  obtain ⟨f, hf⟩ := hrow
  rw [hf, run_of_scan_false hlive, slotCommand_of_busy hbusy]

/-! ### WRITE_SLOT -/

section WriteSlot
variable {s : State} (hfree : s.img.cmd = none)
include hfree

theorem opWriteSlot_of_window_closed (hwindow : s.window = false) :
    opWriteSlot s = refuseWrite Reg.cfgCommand (cfgResult 2 (0, 0) false (slotCommandBegun s)) := by
  have hbegun := (slotCommandBegun_window s).trans hwindow
  rw [opWriteSlot, slotCommand_of_free hfree]
  simp only [hbegun, Bool.not_false, if_true]

/-- The command reads the image: its address and length are those written before it (R289). -/
theorem opWriteSlot_of_window_open (hwindow : s.window = true) (hlen : s.fld Reg.cfgSrcLen Fld.cfgSrcLenLen ≠ 0) :
    opWriteSlot s = fetchImage (cfgResult 1 (0, 0) false { slotCommandBegun s with
      img := { s.img with cmd := some (1, s.fld Reg.cfgSlotSel Fld.cfgSlotSelSlot,
        (s.pair Reg.cfgSrcLo Reg.cfgSrcHi % 2 ^ 52, s.fld Reg.cfgSrcLen Fld.cfgSrcLenLen), []) } }) := by
  have hbegun := (slotCommandBegun_window s).trans hwindow
  have hsame := slotCommandBegun_sameRegsBut s
  have haddr : (slotCommandBegun s).pair Reg.cfgSrcLo Reg.cfgSrcHi = s.pair Reg.cfgSrcLo Reg.cfgSrcHi := by
    rw [State.pair, State.pair, hsame _ (by decide), hsame _ (by decide)]
  have hsize := hsame.fld (o := Reg.cfgSrcLen) (by decide) Fld.cfgSrcLenLen
  rw [opWriteSlot, slotCommand_of_free hfree]
  simp only [hbegun, Bool.not_true, Bool.false_eq_true, if_false, haddr, hsize, hlen]
  rfl

end WriteSlot

/-- A refusal changes beside CFG_RESULT only the count and the offset of refused writes (R289, R344). -/
theorem refuseWrite_cfgResult_sameRegsBut {s t : State} (h : SameRegsBut [Reg.cfgResult] s t) (off : Nat) :
    SameRegsBut [Reg.cfgResult, Reg.secRefused, Reg.secRefusedAddr] s (refuseWrite off t) := by
  intro o ho
  simp only [List.mem_cons, List.not_mem_nil, or_false, not_or] at ho
  obtain ⟨hresult, hcount, haddr⟩ := ho
  rw [reg_refuseWrite_ne _ hcount haddr, h o (by simpa using hresult)]

theorem fld_refuseWrite_ne {off o : Nat} (s : State) (f : Fld) (h : o ≠ Reg.secRefused) (ha : o ≠ Reg.secRefusedAddr) :
    (refuseWrite off s).fld o f = s.fld o f := by
  rw [State.fld, reg_refuseWrite_ne s h ha, State.fld]

theorem refuseWrite_img (off : Nat) (s : State) : (refuseWrite off s).img = s.img := (refuseWrite_touches off s).keep .img (by decide)

/-- Without a presence window RESULT is 2, and the refusal is counted and reported (R289, R344). -/
theorem opWriteSlot_refuses {s : State} (hfree : s.img.cmd = none) (hwindow : s.window = false) :
    let t := opWriteSlot s
    t.fld Reg.cfgResult Fld.cfgResultResult = 2 ∧ t.img = s.img ∧ SameRegsBut [Reg.cfgResult, Reg.secRefused, Reg.secRefusedAddr] s t
      ∧ t = raise 418 [word Reg.cfgCommand] { s with regs := t.regs } := by
  dsimp only
  rw [opWriteSlot_of_window_closed hfree hwindow]
  refine ⟨?_, ?_, refuseWrite_cfgResult_sameRegsBut ((slotCommandBegun_sameRegsBut s).cfgResult) _,
    refuseWrite_eq_raise ((slotCommandBegun_regsOnly s).trans (cfgResult_regsOnly ..)) _⟩
  · rw [fld_refuseWrite_ne _ _ (by decide) (by decide), cfgResult_result _ _ _ (by decide)]
  · rw [refuseWrite_img, cfgResult_img, State.incFld_img]

/-! ### VERIFY -/

/-- The bytes of the flash do not depend on the registers (R370, R371). -/
theorem flashByte_of_regsOnly {s t : State} (h : RegsOnly s t) : flashByte t = flashByte s := by rw [h]; rfl

theorem slotBytes_of_regsOnly {s t : State} (h : RegsOnly s t) (k : Nat) : slotBytes t k = slotBytes s k := by
  unfold slotBytes
  rw [flashByte_of_regsOnly h]

/-- Nor does the image of a slot. -/
theorem slotImage_of_regsOnly {s t : State} (h : RegsOnly s t) (k : Nat) : slotImage t k = slotImage s k := by
  have hbytes := slotBytes_of_regsOnly h k
  have hshipped : slotShipped t k = slotShipped s k := by rw [h]; rfl
  have happroval : approval t k = approval s k := by rw [h]; rfl
  unfold slotImage
  rw [hbytes, hshipped, happroval]

/-- VERIFY ends with a RESULT for the slot's contents: 0 where they pass the checks and 3 where they fail one (R290). -/
theorem opVerify_of_free {s : State} (hfree : s.img.cmd = none) :
    ∃ (code : Nat) (fault : Nat × Nat) (mismatch : Bool), opVerify s = cfgResult code fault mismatch (slotCommandBegun s) ∧ code < 16
      ∧ ((∃ i, slotImage s (s.fld Reg.cfgSlotSel Fld.cfgSlotSelSlot) = .ok i) → code = 0)
      ∧ ((∃ f, slotImage s (s.fld Reg.cfgSlotSel Fld.cfgSlotSelSlot) = .error f) → code = 3) := by
  rw [opVerify, slotCommand_of_free hfree, slotImage_of_regsOnly (slotCommandBegun_regsOnly s)]
  cases slotImage s (s.fld Reg.cfgSlotSel Fld.cfgSlotSelSlot) with
  | error f => exact ⟨3, f, _, rfl, by decide, nofun, fun _ => rfl⟩
  | ok i => exact ⟨0, (0, 0), _, rfl, by decide, fun _ => rfl, nofun⟩

/-- VERIFY changes CFG_RESULT alone: SEQ moves on and RESULT is the verdict (R290). -/
theorem opVerify_reports {s : State} (hfree : s.img.cmd = none) :
    let k := s.fld Reg.cfgSlotSel Fld.cfgSlotSelSlot
    let t := opVerify s
    SameRegsBut [Reg.cfgResult] s t ∧ RegsOnly s t
      ∧ t.fld Reg.cfgResult Fld.cfgResultSeq = (s.fld Reg.cfgResult Fld.cfgResultSeq + 1) % 2 ^ Fld.cfgResultSeq.width
      ∧ ((∃ i, slotImage s k = .ok i) → t.fld Reg.cfgResult Fld.cfgResultResult = 0)
      ∧ ((∃ f, slotImage s k = .error f) → t.fld Reg.cfgResult Fld.cfgResultResult = 3) := by
  obtain ⟨code, fault, mismatch, hop, hcode, hpasses, hfails⟩ := opVerify_of_free hfree
  dsimp only
  rw [hop, cfgResult_seq, cfgResult_result _ _ _ hcode]
  exact ⟨(slotCommandBegun_sameRegsBut s).cfgResult, (slotCommandBegun_regsOnly s).trans (cfgResult_regsOnly ..),
    State.fld_setFld_same _ _ _ _ (by decide) (by decide), hpasses, hfails⟩

/-! ### Journal entries and approvals -/

/-- What does not read the journal is left alone by a new entry of it (R379). -/
theorem journalAdd_keeps {α : Type} (P : State → α)
    (h : ∀ (a : State) (l : List JEntry) (q : Word), P { a with nvm := { a.nvm with journal := l, jseq := q } } = P a) (e : JEntry)
    (s : State) : P (journalAdd e s) = P s := by
  have happend (x : JEntry) (a : State) : P (appendEntry x a) = P a := h a _ _
  unfold journalAdd
  dsimp only
  split
  · exact happend e s
  · rw [forEach_keeps P fun x a => happend _ a]
    exact h s _ _

theorem journalAdd_running (e : JEntry) (s : State) : (journalAdd e s).nvm.running = s.nvm.running :=
  journalAdd_keeps (fun a => a.nvm.running) (fun _ _ _ => rfl) e s

theorem journalAdd_storing (e : JEntry) (s : State) : (journalAdd e s).nvm.storing = s.nvm.storing :=
  journalAdd_keeps (fun a => a.nvm.storing) (fun _ _ _ => rfl) e s

theorem journalAdd_img (e : JEntry) (s : State) : (journalAdd e s).img = s.img := (journalAdd_touches e s).keep .img (by decide)

theorem approvedEntry_of_img {s t : State} (h : t.img = s.img) (k : Nat) : approvedEntry t k = approvedEntry s k := by
  rw [approvedEntry, approvedEntry, h]

/-- The approval entry of the slot is gone, that of the shipped image too (R289, R290). -/
theorem approvedEntry_removeApproval (k : Nat) (s : State) : approvedEntry (removeApproval k s) k = false := by
  unfold removeApproval
  split
  · rw [approvedEntry_of_img (journalAdd_img ..)]
    simpa [approvedEntry] using fun h _ => h
  · exact Bool.eq_false_of_not_eq_true ‹_›

/-! ### REVOKE -/

/-- The state with the slot's approval ended, and event 441 where it had one (R290). -/
def endApproval (k : Nat) (s : State) : State := if approvedEntry s k then raise 441 [] (removeApproval k s) else s

theorem endApproval_approvedEntry (k : Nat) (s : State) : approvedEntry (endApproval k s) k = false := by
  unfold endApproval
  split
  · rw [approvedEntry_of_img (raise_img ..), approvedEntry_removeApproval]
  · exact Bool.eq_false_of_not_eq_true ‹_›

theorem endApproval_regs (k : Nat) (s : State) : (endApproval k s).regs = s.regs := by
  unfold endApproval
  split
  · rw [raise_regs]
    exact (removeApproval_touches k s).keep .regs (by decide)
  · rfl

theorem opRevoke_of_free {s : State} (hfree : s.img.cmd = none) :
    opRevoke s = cfgResult 0 (0, 0) false (endApproval (s.fld Reg.cfgSlotSel Fld.cfgSlotSelSlot) (slotCommandBegun s)) := by
  rw [opRevoke, slotCommand_of_free hfree]
  rfl

/-- REVOKE ends with RESULT 0 and a slot without approval, and changes no register but CFG_RESULT (R290). -/
theorem opRevoke_revokes {s : State} (hfree : s.img.cmd = none) :
    let t := opRevoke s
    approvedEntry t (s.fld Reg.cfgSlotSel Fld.cfgSlotSelSlot) = false ∧ t.fld Reg.cfgResult Fld.cfgResultResult = 0
      ∧ SameRegsBut [Reg.cfgResult] s t := by
  dsimp only
  rw [opRevoke_of_free hfree, approvedEntry_of_img (cfgResult_img ..), cfgResult_result _ _ _ (by decide)]
  exact ⟨endApproval_approvedEntry .., rfl, ((slotCommandBegun_sameRegsBut s).of_regs (endApproval_regs ..)).cfgResult⟩

/-! ### The end of a slot write -/

/-- The state once the programmed slot has been read: no command runs, its bank is free, and its sectors are protected again (R289). -/
def slotProgrammed (k : Nat) (s : State) : State :=
  { s with img := { s.img with cmd := none }
           nvm := { s.nvm with running := Sparse.erase s.nvm.running (slotSectors k).1 } }.setReg
    (Reg.nvmWp (4 * (slotSectors k).1 + (slotSectors k).2 / 32)) 0xFFFFFFFF

/-- The slot gets an approval entry for `len` bytes with CHECK `check` (R289). -/
def approveSlot (k len : Nat) (check : Word) (s : State) : State :=
  raise 438 [] (cfgResult 0 (0, 0) false (journalAdd { type := 3, slot := k, len := len, check := check }
    { s with img := { s.img with approved := (k, len, check) :: s.img.approved } }))

/-- The slot is BAD (R289). -/
def rejectSlot (k : Nat) (s : State) : State :=
  raise 439 [] (cfgResult 4 (0, 0) false { s with img := { s.img with bad := k :: s.img.bad } })

/-- What the margin verify makes of a programmed slot (R289). -/
def settleSlot (ok : Bool) (k len : Nat) (check : Word) (s : State) : State := if ok then approveSlot k len check s else rejectSlot k s

theorem settleStore_of_not_storing {s : State} (h : s.nvm.storing = none) : settleStore s = s := by
  simp [settleStore, h]

section SlotWrite
variable (ok : Bool) (k len : Nat) (check : Word) (s : State)

theorem slotProgrammed_touches : Moves [.regs, .img, .nvm] s (slotProgrammed k s) :=
  (State.setReg_touches ..).step (by decide) (Moves.upd (h := .refl _ s))

theorem slotProgrammed_img : (slotProgrammed k s).img = { s.img with cmd := none } := State.setReg_img ..

theorem slotProgrammed_nvm :
    (slotProgrammed k s).nvm = { s.nvm with running := Sparse.erase s.nvm.running (slotSectors k).1 } := State.setReg_nvm ..

theorem approveSlot_img : (approveSlot k len check s).img = { s.img with approved := (k, len, check) :: s.img.approved } := by
  rw [approveSlot, raise_img, cfgResult_img, journalAdd_img]

theorem rejectSlot_img : (rejectSlot k s).img = { s.img with bad := k :: s.img.bad } := by
  rw [rejectSlot, raise_img, cfgResult_img]

@[simp] theorem settleSlot_true : settleSlot true k len check s = approveSlot k len check s := rfl

@[simp] theorem settleSlot_false : settleSlot false k len check s = rejectSlot k s := rfl

theorem settleSlot_cmd : (settleSlot ok k len check s).img.cmd = s.img.cmd := by
  cases ok
  · rw [settleSlot_false, rejectSlot_img]
  · rw [settleSlot_true, approveSlot_img]

theorem settleSlot_result : (settleSlot ok k len check s).fld Reg.cfgResult Fld.cfgResultResult = if ok then 0 else 4 := by
  cases ok
  · exact (raise_fld ..).trans (cfgResult_result _ _ _ (by decide))
  · exact (raise_fld ..).trans (cfgResult_result _ _ _ (by decide))

theorem approveSlot_approvedEntry : approvedEntry (approveSlot k len check s) k = true := by
  simp [approvedEntry, approveSlot_img]

/-- The flash keeps its operations: an approval is an entry of the journal, a rejection none (R289, R379). -/
theorem settleSlot_nvm : (settleSlot ok k len check s).nvm.running = s.nvm.running
    ∧ (settleSlot ok k len check s).nvm.storing = s.nvm.storing := by
  cases ok
  · rw [settleSlot_false, rejectSlot, raise_nvm, cfgResult_nvm]
    exact ⟨rfl, rfl⟩
  · rw [settleSlot_true, approveSlot, raise_nvm, cfgResult_nvm, journalAdd_running, journalAdd_storing]
    exact ⟨rfl, rfl⟩

theorem settleSlot_touches : Moves [.regs, .img, .nvm, .evt, .sent] s (settleSlot ok k len check s) := by
  cases ok
  · exact (raise_touches ..).step (by decide) ((cfgResult_touches ..).step (by decide) (Moves.upd_img (by decide) (.refl _ s)))
  · exact (raise_touches ..).step (by decide) ((cfgResult_touches ..).step (by decide)
      ((journalAdd_touches ..).step (by decide) (Moves.upd_img (by decide) (.refl _ s))))

end SlotWrite

/-- With no STORE that waits for the bank, the end of a slot write is the verdict on the slot (R289). -/
theorem opSlotWriteDone_of_programmed {s : State} {k addr len : Nat} {got : List Byte} (ok : Bool)
    (hcmd : s.img.cmd = some (2, k, (addr, len), got)) (hstoring : s.nvm.storing = none) :
    opSlotWriteDone ok s = settleSlot ok k len (word (leAt got (len - 4) 4)) (slotProgrammed k s) := by
  have hsettle : opSlotWriteDone ok s = settleStore (settleSlot ok k len (word (leAt got (len - 4) 4)) (slotProgrammed k s)) := by
    rw [opSlotWriteDone, hcmd]
    rfl
  have hnone : (slotProgrammed k s).nvm.storing = none := by rw [slotProgrammed_nvm, hstoring]
  rw [hsettle, settleStore_of_not_storing ((settleSlot_nvm ..).2.trans hnone)]

/-- A verified slot is approved and a slot that fails its verify is BAD; the command and the bank's operation are over (R289). -/
theorem settleSlot_slotProgrammed (ok : Bool) (k len : Nat) (check : Word) (s : State) :
    let t := settleSlot ok k len check (slotProgrammed k s)
    t.img.cmd = none ∧ t.fld Reg.cfgResult Fld.cfgResultResult = (if ok then 0 else 4)
      ∧ (ok = true → approvedEntry t k = true ∧ t.img.bad = s.img.bad)
      ∧ (ok = false → k ∈ t.img.bad ∧ t.img.approved = s.img.approved)
      ∧ Sparse.find t.nvm.running (slotSectors k).1 = none ∧ Touches [.regs, .img, .nvm, .evt, .sent] s t := by
  dsimp only
  refine ⟨?_, settleSlot_result .., ?_, ?_, ?_, ?_⟩
  · rw [settleSlot_cmd, slotProgrammed_img]
  · rintro rfl
    refine ⟨approveSlot_approvedEntry .., ?_⟩
    rw [settleSlot_true, approveSlot_img, slotProgrammed_img]
  · rintro rfl
    rw [settleSlot_false, rejectSlot_img, slotProgrammed_img]
    exact ⟨List.mem_cons_self, rfl⟩
  · rw [(settleSlot_nvm ..).1, slotProgrammed_nvm, Sparse.find_erase_same]
  · exact (((slotProgrammed_touches k s).mono (by decide)).trans (settleSlot_touches ..)).toTouches

/-! ### Epochs -/

section Epochs
variable {s : State}

/-- A deck without an active table is at a round boundary (R294). -/
theorem opFormatEpoch_of_due {d : Nat} (hdeck : tableDeck s d = d) (hpending : d ∈ s.img.deckPending) (hidle : (s.deckAt d).active = none)
    (hrestore : restoreUnderWay s d = false) : opFormatEpoch d s = takeFormatEpoch d s := by
  simp [opFormatEpoch, hdeck, hpending, hidle, hrestore]

theorem opFormatEpoch_of_not_pending {d : Nat} (h : d ∉ s.img.deckPending) : opFormatEpoch d s = s := by
  simp [opFormatEpoch, h]

theorem opCutterEpoch_of_due {n : Nat} (h : (s.ctxAt n).epochDue = true) : opCutterEpoch n s = takeCutterEpoch n s := if_pos h

theorem opCutterEpoch_of_not_due {n : Nat} (h : (s.ctxAt n).epochDue = false) : opCutterEpoch n s = s := if_neg (Bool.eq_false_iff.1 h)

end Epochs

/-! ### The commands -/

section Commands
variable {s : State} (hlive : Live s)
include hlive

theorem exec_writeSlot : exec .writeSlot s = .next (withdrawTap (opWriteSlot s)) := run_of_scan_false hlive

theorem exec_verify : exec .verify s = .next (withdrawTap (opVerify s)) := run_of_scan_false hlive

theorem exec_revoke : exec .revoke s = .next (withdrawTap (opRevoke s)) := run_of_scan_false hlive

theorem exec_slotWriteDone (ok : Bool) : exec (.slotWriteDone ok) s = .next (withdrawTap (opSlotWriteDone ok s)) := run_of_scan_false hlive

theorem exec_formatEpoch (d : Fin 4) : exec (.formatEpoch d) s = .next (withdrawTap (opFormatEpoch d s)) := run_of_scan_false hlive

theorem exec_cutterEpoch (n : Fin 4096) : exec (.cutterEpoch n) s = .next (withdrawTap (opCutterEpoch n s)) := run_of_scan_false hlive

/-- An activation that nothing refuses reads its slot: an image that fails a check ends the task with event 440, another comes into force
(R293, R294). -/
theorem exec_imageActivate_of_begins {n : Fin 4096} {u : Task} (hbegins : Begins s n 0x19 u)
    (hfree : activationRefusal s (u.field 8 1) = none) :
    (∀ f, slotImage s (u.field 8 1) = .error f →
      exec (.imageActivate n) s = .next (withdrawTap (finish n u.seq (notReady 13) (raise 440 [word f.1] s))))
    ∧ (∀ i, slotImage s (u.field 8 1) = .ok i → exec (.imageActivate n) s = .next (withdrawTap (activate n u.seq (u.field 8 1) i s))) := by
  refine ⟨fun f hf => answers_of_begins (c := .imageActivate n) rfl hlive hbegins ?_,
    fun i hi => answers_of_begins (c := .imageActivate n) rfl hlive hbegins ?_⟩
  · simp only [hfree, unlessRefused_none, hf]
  · simp only [hfree, unlessRefused_none, hi]

end Commands

/-- Settles O36: what each slot command makes of CFG_RESULT and of the approvals is said above, and an activation or an epoch is its own
operation once it is due. -/
theorem slotsAndEpochs : Obligations.SlotsAndEpochs := by
  refine ⟨fun s hlive => ⟨fun hbusy c hc => exec_slotCommand_of_busy hlive hbusy hc, fun hfree => ⟨fun hwindow => ?_,
    fun hwindow hlen => ?_, ?_, ?_⟩, fun j a l got ok hcmd hstoring => ?_⟩, fun s n u d hlive => ⟨?_, ?_, ?_, ?_, ?_⟩⟩
  · exact ⟨_, exec_writeSlot hlive, opWriteSlot_refuses hfree hwindow⟩
  · rw [exec_writeSlot hlive, opWriteSlot_of_window_open hfree hwindow hlen]
  · exact ⟨_, exec_verify hlive, opVerify_reports hfree⟩
  · obtain ⟨hended, hresult, hregs⟩ := opRevoke_revokes hfree
    exact ⟨_, exec_revoke hlive, hended, hresult, hregs, (opRevoke_touches s).toTouches.mono (by decide)⟩
  · refine ⟨_, exec_slotWriteDone hlive ok, ?_⟩
    rw [opSlotWriteDone_of_programmed ok hcmd hstoring]
    exact settleSlot_slotProgrammed ..
  · exact exec_imageActivate_of_begins hlive
  · intro hdeck hpending hidle hrestore
    rw [exec_formatEpoch hlive, opFormatEpoch_of_due hdeck hpending hidle hrestore]
  · intro hpending
    rw [exec_formatEpoch hlive, opFormatEpoch_of_not_pending hpending]
  · intro hdue
    rw [exec_cutterEpoch hlive, opCutterEpoch_of_due hdue]
  · intro hdue
    rw [exec_cutterEpoch hlive, opCutterEpoch_of_not_due hdue]

end Sys2Proof.Machine
end

section
/-! The records of the deck link's control lane and its columns (R305 to R313, R317): what each record makes of a deck whose lane carries it,
which registers a STATUS record and an answer to a host's register access write, and when a column leaves. -/

namespace Sys2Proof.Machine

/-! ### Changes of one deck -/

/-- From `s` to `t` nothing but deck d changes. -/
def OnlyDeck (d : Nat) (s t : State) : Prop := t = { s with decks := t.decks } ∧ ∀ j, j ≠ d → t.deckAt j = s.deckAt j

theorem OnlyDeck.refl (d : Nat) (s : State) : OnlyDeck d s s := ⟨rfl, fun _ _ => rfl⟩

theorem OnlyDeck.onDeck {d : Nat} {s a : State} (h : OnlyDeck d s a) (f : Deck → Deck) : OnlyDeck d s (a.onDeck d f) := by
  obtain ⟨hparts, hothers⟩ := h
  refine ⟨?_, fun j hj => (State.deckAt_onDeck_ne a f hj).trans (hothers j hj)⟩
  exact congrArg (fun b : State => { b with decks := (a.onDeck d f).decks }) hparts

theorem OnlyDeck.regs {d : Nat} {s t : State} (h : OnlyDeck d s t) : t.regs = s.regs := by rw [h.1]

theorem takeRecord_onlyDeck (d type : Nat) (s : State) : OnlyDeck d s (takeRecord d type s) := (OnlyDeck.refl d s).onDeck _

theorem takeRecord_admin (d type : Nat) (s : State) : ((takeRecord d type s).deckAt d).admin = (s.deckAt d).admin := by
  rw [takeRecord, State.deckAt_onDeck_same]
  split
  · rfl
  · rfl

/-! ### Records with one effect -/

section Records
variable {d : Nat} {s : State}

theorem opCredit_of_open (hc : laneCarries s d = true) (hopen : (s.deckAt d).streamOpen = true) (lim con : Word) :
    opCredit d lim con s = (takeRecord d 6 s).onDeck d (fun k => { k with limit := lim, consumed := con }) := by
  simp only [opCredit, hc, hopen, Bool.and_self, if_true]

theorem opCredit_of_silent (hc : laneCarries s d = false) (lim con : Word) : opCredit d lim con s = s := by
  simp only [opCredit, hc, Bool.false_and, Bool.false_eq_true, if_false]

theorem opSq_of_carries (hc : laneCarries s d = true) (first : Nat) (l : List Byte) :
    opSq d first l s = forEach (List.zip (List.range 8) l)
      (fun e a => if first + e.1 < (deckFmt a d).nT then sampleTrack d (first + e.1) e.2.toNat a else a) (takeRecord d 3 s) :=
  if_pos hc

theorem opHead_of_carries (hc : laneCarries s d = true) (x : BitVec 16) :
    opHead d x s = takeTelemetry d 6 (signed 16 x.toNat) (takeRecord d 4 s) := if_pos hc

theorem opHead_of_silent (hc : laneCarries s d = false) (x : BitVec 16) : opHead d x s = s := if_neg (Bool.eq_false_iff.1 hc)

/-- The types that Table 14-3 does not name are 0 and those above 8 (R313). -/
theorem opUnknownRecord_of_carries (hc : laneCarries s d = true) {q : Byte} (hq : 8 < q.toNat ∨ q = 0) :
    opUnknownRecord d q s = raiseDeck d 8 [] ((takeRecord d q.toNat s).onDeck d (fun k => { k with unknown := k.unknown + 1 })) := by
  have hunknown : (q == 0 || decide (8 < q.toNat)) = true := by
    rw [Bool.or_eq_true, beq_iff_eq, decide_eq_true_iff]
    exact hq.symm
  rw [opUnknownRecord, hc, hunknown]
  rfl

theorem opUnknownRecord_of_silent (hc : laneCarries s d = false) (q : Byte) : opUnknownRecord d q s = s := by
  simp only [opUnknownRecord, hc, Bool.false_and, Bool.false_eq_true, if_false]

end Records

/-! ### STATUS -/

/-- The deck as a STATUS record without a fault reports it (Table 14-3). -/
def Deck.reported (cartridge threaded : Bool) (k : Deck) : Deck := { k with cartridge := cartridge, threaded := threaded, feFault := false }

/-- A STATUS record without a fault is taken down: cartridge, threading, wraps, and the bad frames that the front-end counted (Table 14-3). -/
def statusTaken (d : Nat) (cartridge threaded : Bool) (wraps crcErr : Nat) (s : State) : State :=
  (((takeRecord d 5 s).onDeck d (Deck.reported cartridge threaded)).setFld (Reg.dkLnkFeInfo d) Fld.dkLnkFeInfoWraps wraps).addFld
    (Reg.dkLnkErrs d) Fld.dkLnkErrsTxBad crcErr

section Status
variable (d : Nat) (car thr : Bool) (wraps crcErr : Nat) (s : State)

theorem statusTaken_deckAt : (statusTaken d car thr wraps crcErr s).deckAt d = Deck.reported car thr ((takeRecord d 5 s).deckAt d) := by
  rw [statusTaken, State.deckAt_of_decks (State.addFld_decks ..), State.deckAt_of_decks (State.setFld_decks ..), State.deckAt_onDeck_same]

theorem statusTaken_sameRegsBut :
    SameRegsBut [Reg.dkLnkFeInfo d, Reg.dkLnkErrs d] s (statusTaken d car thr wraps crcErr s) :=
  have hdeck := (SameRegsBut.refl [Reg.dkLnkFeInfo d, Reg.dkLnkErrs d] s).of_regs ((takeRecord_onlyDeck d 5 s).onDeck _).regs
  (hdeck.setFld (by simp) _ _).setFld (by simp) _ _

theorem statusTaken_touches : Touches [.regs, .decks] s (statusTaken d car thr wraps crcErr s) :=
  have hdeck := ((takeRecord_touches d 5 s).trans (State.onDeck_touches ..)).toTouches.mono (m := [.regs, .decks]) (by decide)
  (hdeck.trans ((State.setFld_touches ..).toTouches.mono (by decide))).trans ((State.addFld_touches ..).toTouches.mono (by decide))

theorem feInfo_ne_errs : Reg.dkLnkFeInfo d ≠ Reg.dkLnkErrs d := by simp [Reg.dkLnkFeInfo, Reg.dkLnkErrs]

theorem statusTaken_wraps : (statusTaken d car thr wraps crcErr s).fld (Reg.dkLnkFeInfo d) Fld.dkLnkFeInfoWraps
    = wraps % 2 ^ Fld.dkLnkFeInfoWraps.width := by
  rw [statusTaken, State.addFld, State.fld_setFld_ne _ _ _ _ (feInfo_ne_errs d), State.fld_setFld_same _ _ _ _ (by decide) (by decide)]

/-- The count of frames that the front-end found bad saturates. -/
theorem statusTaken_txBad : (statusTaken d car thr wraps crcErr s).fld (Reg.dkLnkErrs d) Fld.dkLnkErrsTxBad
    = min (2 ^ Fld.dkLnkErrsTxBad.width - 1) (s.fld (Reg.dkLnkErrs d) Fld.dkLnkErrsTxBad + crcErr) := by
  rw [statusTaken, State.addFld, State.fld_setFld_same _ _ _ _ (by decide) (by decide), State.fld_setFld_ne _ _ _ _ (feInfo_ne_errs d).symm,
    State.fld_of_regs ((takeRecord_onlyDeck d 5 s).onDeck _).regs, satAt_eq_min]
  exact Nat.mod_eq_of_lt ((Nat.min_le_left ..).trans_lt (by decide))

theorem statusTaken_linkState : linkState (statusTaken d car thr wraps crcErr s) d = linkState s d :=
  (statusTaken_sameRegsBut d car thr wraps crcErr s).fld (by simp [Reg.dkLnkState, Reg.dkLnkFeInfo, Reg.dkLnkErrs]) _

end Status

/-- A cartridge that went is forgotten by its deck, if it has no LOAD or UNLOAD; otherwise the deck stays as the record says. -/
theorem noteCartridge_deckAt (d : Nat) (was : Bool) (s : State) :
    (noteCartridge d was s).deckAt d = s.deckAt d ∨ (noteCartridge d was s).deckAt d = (s.deckAt d).eject := by
  unfold noteCartridge
  dsimp only
  split
  · exact .inl rfl
  · rw [raiseDeck, raise_deckAt]
    split
    · exact .inl rfl
    · split
      · have hfreed := (freeOwned_touches (fun t => t.cls == 4 && t.id == d) (s.onDeck d Deck.eject)).keep .decks (by decide)
        exact .inr ((State.deckAt_of_decks hfreed d).trans (State.deckAt_onDeck_same ..))
      · exact .inl rfl

theorem noteCartridge_regs (d : Nat) (was : Bool) (s : State) : (noteCartridge d was s).regs = s.regs :=
  (noteCartridge_touches d was s).keep .regs (by decide)

/-- What a forgotten cartridge leaves of its deck: what STATUS says, and the task at work. -/
theorem noteCartridge_keeps (d : Nat) (was : Bool) (s : State) :
    ((noteCartridge d was s).deckAt d).cartridge = (s.deckAt d).cartridge ∧ ((noteCartridge d was s).deckAt d).threaded = (s.deckAt d).threaded
      ∧ ((noteCartridge d was s).deckAt d).feFault = (s.deckAt d).feFault ∧ ((noteCartridge d was s).deckAt d).admin = (s.deckAt d).admin := by
  obtain h | h := noteCartridge_deckAt d was s
  · rw [h]
    exact ⟨rfl, rfl, rfl, rfl⟩
  · rw [h]
    exact ⟨rfl, rfl, rfl, rfl⟩

theorem frontEndReady_of_not_training {s : State} {d : Nat} (h : linkState s d ≠ 1) : frontEndReady s d = false := by
  simp [frontEndReady, h]

theorem threadedNow_of_no_admin {s : State} {d : Nat} (h : (s.deckAt d).admin = none) : threadedNow d s = s := by
  rw [threadedNow, h]

/-- A STATUS record that reports no fault, ends no training and meets no LOAD or UNLOAD is taken down, and a cartridge that came or went is
noted (R318, Table 14-3). -/
theorem opStatus_of_quiet {s : State} {d : Nat} {lost : Bool} (hc : laneCarries s d = true) (hadmin : (s.deckAt d).admin = none)
    (hlink : linkState s d ≠ 1 ∨ lost = true) (car thr : Bool) (wraps crcErr : Nat) :
    opStatus d car thr false lost wraps crcErr s = noteCartridge d (s.deckAt d).cartridge (statusTaken d car thr wraps crcErr s) := by
  generalize hnoted : noteCartridge d (s.deckAt d).cartridge (statusTaken d car thr wraps crcErr s) = a
  have hstate : linkState a d = linkState s d := by
    rw [← hnoted, linkState, State.fld_of_regs (noteCartridge_regs ..)]
    exact statusTaken_linkState ..
  have hnot_ready : (frontEndReady a d && !lost) = false := by
    obtain h | h := hlink
    · rw [frontEndReady_of_not_training (hstate ▸ h), Bool.false_and]
    · rw [h, Bool.not_true, Bool.and_false]
  have hstill : (a.deckAt d).admin = none := by
    obtain ⟨-, -, -, hkept⟩ := noteCartridge_keeps d (s.deckAt d).cartridge (statusTaken d car thr wraps crcErr s)
    rw [← hnoted, hkept, statusTaken_deckAt]
    exact (takeRecord_admin d 5 s).trans hadmin
  have hrow : opStatus d car thr false lost wraps crcErr s = threadedNow d (if frontEndReady a d && !lost then linkActive d a else a) := by
    rw [opStatus, if_pos hc, ← hnoted]
    rfl
  rw [hrow, hnot_ready]
  exact threadedNow_of_no_admin hstill

/-! ### REG_RESP -/

section EndHostAccess
variable (d result : Nat) (s : State)

theorem endHostAccess_sameRegsBut : SameRegsBut [Reg.dkLnkFeCmd d] s (endHostAccess d result s) :=
  have hreg : Reg.dkLnkFeCmd d ∈ [Reg.dkLnkFeCmd d] := List.mem_singleton_self _
  ((SameRegsBut.refl _ s).setFld hreg _ _).setFld hreg _ _

theorem endHostAccess_busy : (endHostAccess d result s).fld (Reg.dkLnkFeCmd d) Fld.dkLnkFeCmdBusy = 0 := by
  rw [endHostAccess, State.fld_setFld_other _ _ _ _ _ (by decide) (by decide) (by decide) (by decide),
    State.fld_setFld_same _ _ _ _ (by decide) (by decide), Nat.zero_mod]

theorem endHostAccess_result : (endHostAccess d result s).fld (Reg.dkLnkFeCmd d) Fld.dkLnkFeCmdResult = result % 2 ^ Fld.dkLnkFeCmdResult.width :=
  State.fld_setFld_same _ _ _ _ (by decide) (by decide)

end EndHostAccess

/-- A host's read of a front-end register is answered: the access is over, and the host's registers show the result and the word (R317). -/
def hostReadAnswered (d : Nat) (w : Word) (s : State) : State :=
  (endHostAccess d 0 ((takeRecord d 8 s).onDeck d (fun k => { k with feAccess := none }))).setReg (Reg.dkLnkFeData d) w

section HostRead
variable (d : Nat) (w : Word) (s : State)

theorem feCmd_ne_feData : Reg.dkLnkFeCmd d ≠ Reg.dkLnkFeData d := by simp [Reg.dkLnkFeCmd, Reg.dkLnkFeData]

theorem hostReadAnswered_data : (hostReadAnswered d w s).reg (Reg.dkLnkFeData d) = w := State.reg_setReg_same ..

theorem hostReadAnswered_busy : (hostReadAnswered d w s).fld (Reg.dkLnkFeCmd d) Fld.dkLnkFeCmdBusy = 0 :=
  (State.fld_setReg_ne _ _ _ (feCmd_ne_feData d)).trans (endHostAccess_busy ..)

theorem hostReadAnswered_result : (hostReadAnswered d w s).fld (Reg.dkLnkFeCmd d) Fld.dkLnkFeCmdResult = 0 :=
  (State.fld_setReg_ne _ _ _ (feCmd_ne_feData d)).trans (endHostAccess_result ..)

theorem hostReadAnswered_sameRegsBut : SameRegsBut [Reg.dkLnkFeCmd d, Reg.dkLnkFeData d] s (hostReadAnswered d w s) := by
  intro o ho
  simp only [List.mem_cons, List.not_mem_nil, or_false, not_or] at ho
  obtain ⟨hcmd, hdata⟩ := ho
  rw [hostReadAnswered, State.reg_setReg_ne _ _ hdata, endHostAccess_sameRegsBut d _ _ o (by simpa using hcmd), State.reg,
    ((takeRecord_onlyDeck d 8 s).onDeck _).regs, State.reg]

end HostRead

theorem opRegResp_of_host_read {s : State} {d : Nat} {tag : Byte} {addr : BitVec 16} {v : Word} {m : Nat} (hc : laneCarries s d = true)
    (hacc : (s.deckAt d).feAccess = some (tag, false, addr, v, m, true)) (w : Word) :
    opRegResp d tag 0 w s = nextRegister d (hostReadAnswered d w s) := by
  simp [opRegResp, hostReadAnswered, hc, hacc]

/-! ### Columns -/

theorem opColumn_onlyDeck (d seq : Nat) (index : Word) (s : State) : OnlyDeck d s (opColumn d seq index s) := by
  unfold opColumn
  dsimp only
  split
  · exact (takeRecord_onlyDeck ..).onDeck _
  · exact .refl d s

/-- A column that is delivered leaves none of the frames that carried it (R307). -/
theorem opColumn_rxFrames {s : State} {d seq : Nat} (hc : laneCarries s d = true)
    (hcarried : carriesColumn ((takeRecord d 7 s).deckAt d) seq = true) (index : Word) :
    ((opColumn d seq index s).deckAt d).rxFrames = Sparse.keep (fun i => i % 256 != seq) ((takeRecord d 7 s).deckAt d).rxFrames := by
  simp only [opColumn, hc, hcarried, Bool.and_self, if_true, State.deckAt_onDeck_same]

/-- Deck d whose next column CONSUMED has not overtaken: any underrun is over (R310). -/
def underrunOver (d : Nat) (s : State) : State := s.onDeck d (fun k => { k with underrun := false })

/-- The deck after its next column has left; `last` where that column was filled up after the last trick (R305, R308). -/
def Deck.columnLeft (last : Bool) (k : Deck) : Deck := { k with nextCol := k.nextCol + 1, txSeq := k.txSeq + 1, padded := last }

theorem underrunOver_keeps (d : Nat) (s : State) :
    ((underrunOver d s).deckAt d).nextCol = (s.deckAt d).nextCol ∧ ((underrunOver d s).deckAt d).limit = (s.deckAt d).limit
      ∧ ∀ c, columnTrick ((underrunOver d s).deckAt d) c = columnTrick (s.deckAt d) c := by
  rw [underrunOver, State.deckAt_onDeck_same]
  exact ⟨rfl, rfl, fun _ => rfl⟩

theorem skipColumns_of_ahead {s : State} {d : Nat} (h : precedes (s.deckAt d).consumed (s.deckAt d).nextCol = true) :
    skipColumns d s = underrunOver d s := if_pos h

section ColumnSend
variable {s : State} {d : Nat} (hlink : linkState s d = 2) (hopen : (s.deckAt d).streamOpen = true)
  (hahead : precedes (s.deckAt d).consumed (s.deckAt d).nextCol = true) {a : Trick} {b : Option Trick} {o : Nat}
  (htrick : columnTrick (s.deckAt d) (s.deckAt d).nextCol = some (a, b, o))
include hlink hopen hahead htrick

/-- The next column leaves where its index precedes LIMIT, and waits otherwise (R309). -/
theorem opColumnSend_of_trick : ∃ frames last, opColumnSend d s
    = if precedes (s.deckAt d).nextCol (s.deckAt d).limit then
        emit (.column d (s.deckAt d).nextCol frames) ((underrunOver d s).onDeck d (Deck.columnLeft last))
      else underrunOver d s := by
  obtain ⟨hnext, hlimit, hsame⟩ := underrunOver_keeps d s
  have htrick' := (hsame _).trans htrick
  rw [← hnext] at htrick'
  rw [opColumnSend, if_pos ⟨hlink, hopen⟩]
  simp only [skipColumns_of_ahead hahead, htrick']
  rw [← hnext, ← hlimit]
  exact ⟨_, _, rfl⟩

end ColumnSend

/-! ### What each command answers -/

section Commands
variable {s : State} (hlive : Live s) (d : Fin 4)
include hlive

theorem exec_credit (lim con : Word) : exec (.credit d lim con) s = .next (withdrawTap (opCredit d lim con s)) := run_of_scan_false hlive

theorem exec_sq (first : BitVec 16) (l : List Byte) : exec (.sq d first l) s = .next (withdrawTap (opSq d first.toNat l s)) :=
  run_of_scan_false hlive

theorem exec_head (x y : BitVec 16) : exec (.head d x y) s = .next (withdrawTap (opHead d x s)) := run_of_scan_false hlive

theorem exec_status (q : Byte) (car thr fault lost : Bool) (x y u f : BitVec 16) :
    exec (.status d q car thr fault lost x y u f) s = .next (withdrawTap (opStatus d car thr fault lost x.toNat y.toNat s)) :=
  run_of_scan_false hlive

theorem exec_regResp (tag result : Byte) (addr : BitVec 16) (w : Word) :
    exec (.regResp d tag result addr w) s = .next (withdrawTap (opRegResp d tag result w s)) := run_of_scan_false hlive

theorem exec_unknownRecord (q : Byte) : exec (.unknownRecord d q) s = .next (withdrawTap (opUnknownRecord d q s)) :=
  run_of_scan_false hlive

theorem exec_column (q : Byte) (w : Word) : exec (.column d q w) s = .next (withdrawTap (opColumn d q.toNat w s)) := run_of_scan_false hlive

theorem exec_columnSend : exec (.columnSend d) s = .next (withdrawTap (opColumnSend d s)) := run_of_scan_false hlive

end Commands

/-- Settles O39: each record by what its operation makes of a lane that carries it, a column by its credit. -/
theorem linkRecordsAreTaken : Obligations.LinkRecordsAreTaken := by
  intro s d lim con w q first x y u f hlive
  refine ⟨fun hc => ⟨fun hopen => ?credit, fun l => ?sq, ?head, fun hadmin car thr lost hlink => ?status,
    fun tag addr v m hacc => ?regResp, fun hq => ?unknownRecord, fun hcarried => ?column⟩,
    fun hsilent => ⟨?silentCredit, ?silentUnknown, ?silentHead⟩,
    fun hlink hopen hahead a b o htrick => ⟨fun hcredit => ?sends, fun hcredit => ?waits⟩⟩
  case credit =>
    obtain ⟨hparts, hothers⟩ := (takeRecord_onlyDeck d 6 s).onDeck (fun k => { k with limit := lim, consumed := con })
    rw [exec_credit hlive, opCredit_of_open hc hopen]
    exact ⟨_, rfl, State.deckAt_onDeck_same .., hothers, hparts⟩
  case sq => rw [exec_sq hlive, opSq_of_carries hc]
  case head => rw [exec_head hlive, opHead_of_carries hc]
  case status =>
    rw [exec_status hlive, opStatus_of_quiet hc hadmin hlink]
    have hregs := noteCartridge_regs d (s.deckAt d).cartridge (statusTaken d car thr x.toNat y.toNat s)
    obtain ⟨hcar, hthr, hfault, -⟩ := noteCartridge_keeps d (s.deckAt d).cartridge (statusTaken d car thr x.toNat y.toNat s)
    rw [statusTaken_deckAt] at hcar hthr hfault
    refine ⟨_, rfl, hcar, hthr, hfault, ?_, ?_, (statusTaken_sameRegsBut d car thr _ _ s).of_regs hregs, ?_⟩
    · rw [State.fld_of_regs hregs, statusTaken_wraps]
    · rw [State.fld_of_regs hregs, statusTaken_txBad]
    · exact ((statusTaken_touches ..).mono (by decide)).trans ((noteCartridge_touches ..).toTouches.mono (by decide))
  case regResp =>
    have hregs : (nextRegister d (hostReadAnswered d w s)).regs = (hostReadAnswered d w s).regs :=
      (nextRegister_touches ..).keep .regs (by decide)
    have htouches := (opRegResp_touches d tag 0 w s).toTouches
    rw [opRegResp_of_host_read hc hacc] at htouches
    rw [exec_regResp hlive, opRegResp_of_host_read hc hacc]
    refine ⟨_, rfl, ?_, ?_, ?_, ?_, htouches⟩
    · rw [State.reg, hregs]
      exact hostReadAnswered_data ..
    · rw [State.fld_of_regs hregs, hostReadAnswered_busy]
    · rw [State.fld_of_regs hregs, hostReadAnswered_result]
    · exact (hostReadAnswered_sameRegsBut d w s).of_regs hregs
  case unknownRecord => rw [exec_unknownRecord hlive, opUnknownRecord_of_carries hc hq]
  case column =>
    obtain ⟨hparts, hothers⟩ := opColumn_onlyDeck d q.toNat w s
    refine ⟨_, exec_column hlive d q w, hparts, hothers, fun i hi => ?_⟩
    rw [opColumn_rxFrames hc hcarried, Sparse.find_keep, hi, bne_self_eq_false, if_neg Bool.false_ne_true]
  case silentCredit => rw [exec_credit hlive, opCredit_of_silent hsilent]
  case silentUnknown => rw [exec_unknownRecord hlive, opUnknownRecord_of_silent hsilent]
  case silentHead => rw [exec_head hlive, opHead_of_silent hsilent]
  case sends =>
    obtain ⟨frames, last, hsent⟩ := opColumnSend_of_trick hlink hopen hahead htrick
    rw [if_pos hcredit] at hsent
    have hdeck : (opColumnSend d s).deckAt d = Deck.columnLeft last ((underrunOver d s).deckAt d) := by
      rw [hsent]
      exact State.deckAt_onDeck_same ..
    obtain ⟨hnext, -, -⟩ := underrunOver_keeps d s
    refine ⟨_, exec_columnSend hlive d, ?_, ?_, ⟨frames, by rw [hsent]; rfl⟩, fun j hj => ?_, by rw [hsent]; rfl⟩
    · rw [hdeck, ← hnext]
      rfl
    · rw [hdeck, underrunOver, State.deckAt_onDeck_same]
      rfl
    · rw [hsent]
      exact (((OnlyDeck.refl d s).onDeck _).onDeck _).2 j hj
  case waits =>
    obtain ⟨frames, last, hsent⟩ := opColumnSend_of_trick hlink hopen hahead htrick
    rw [if_neg (Bool.eq_false_iff.1 hcredit)] at hsent
    rw [exec_columnSend hlive, hsent]
    exact ⟨_, rfl, rfl, (underrunOver_keeps d s).1⟩

end Sys2Proof.Machine
end

section
/-! The TAP check that ends every command (R354, R407, R410): what ends an instruction and what substituting BYPASS each leave, and how the
controller moves on an edge of TCK, whether SCAN is in effect or not (R404, R413). -/

namespace Sys2Proof.Machine

/-- A counter of a register reads the sum, up to its greatest value. -/
theorem State.fld_addFld_same (s : State) (o : Nat) (f : Fld) (n : Nat) (h : f.lo ≤ f.hi) (h32 : f.hi < 32) :
    (s.addFld o f n).fld o f = min (2 ^ f.width - 1) (s.fld o f + n) := by
  rw [State.addFld, State.fld_setFld_same _ _ _ _ h h32, satAt_eq_min]
  exact Nat.mod_eq_of_lt ((Nat.min_le_left ..).trans_lt (Nat.sub_lt (Nat.two_pow_pos _) Nat.one_pos))

theorem SameRegsBut.addFld {l : List Nat} {s t : State} (h : SameRegsBut l s t) {o : Nat} (ho : o ∈ l) (f : Fld) (n : Nat) :
    SameRegsBut l s (t.addFld o f n) := h.setFld ho f _

/-! ### The end of an instruction -/

section EndTapInstruction
variable (ir : Nat) (s : State)

@[simp] theorem endTapInstruction_tap : (endTapInstruction ir s).tap = s.tap := (endTapInstruction_touches ir s).keep .tap (by decide)

@[simp] theorem endTapInstruction_regs : (endTapInstruction ir s).regs = s.regs := (endTapInstruction_touches ir s).keep .regs (by decide)

variable {ir}

theorem endTapInstruction_of_other (h0 : ir ≠ 0x10) (h1 : ir ≠ 0x11) : endTapInstruction ir s = s := if_neg (not_or.2 ⟨h0, h1⟩)

/-- After HBMs_1500 no word of the stack has been written (R410). -/
theorem endTapInstruction_unwrites {k : Nat} (hk : k < 2) (hir : ir = 0x10 + k) :
    ∀ w ∈ (endTapInstruction ir s).shoe.written, w / 2 ^ 30 ≠ k := by
  have hstack : endTapInstruction ir s = unwriteStack k s := by
    rw [endTapInstruction, if_pos (by omega), hir, Nat.add_sub_cancel_left]
  rw [hstack]
  exact fun w hw => ((mem_unwriteStack_written k s w).1 hw).2

end EndTapInstruction

/-! ### BYPASS substituted -/

section SubstituteBypass
variable (s : State)

theorem substituteBypass_tap : (substituteBypass s).tap = { s.tap with ir := 0xFF, substituted := true } := by
  rw [substituteBypass, raise_tap, State.addFld_tap]

theorem substituteBypass_shoe : (substituteBypass s).shoe = s.shoe := by
  rw [substituteBypass, raise_shoe, State.addFld_shoe]

theorem substituteBypass_refusedTap : (substituteBypass s).fld Reg.secRefused Fld.secRefusedTap
    = min (2 ^ Fld.secRefusedTap.width - 1) (s.fld Reg.secRefused Fld.secRefusedTap + 1) := by
  rw [substituteBypass, raise_fld, State.fld_addFld_same _ _ _ _ (by decide) (by decide)]
  rfl

theorem substituteBypass_sameRegsBut : SameRegsBut [Reg.secRefused] s (substituteBypass s) := by
  have htap : SameRegsBut [Reg.secRefused] s { s with tap := { s.tap with ir := 0xFF, substituted := true } } := fun _ _ => rfl
  exact (htap.addFld (List.mem_singleton_self _) Fld.secRefusedTap 1).raise 425 []

end SubstituteBypass

theorem withdrawTap_of_not_honoured {s : State} (h : tapHonoured s s.tap.ir.toNat = false) :
    withdrawTap s = substituteBypass (endTapInstruction s.tap.ir.toNat s) := if_neg (Bool.eq_false_iff.1 h)

/-! ### An edge of TCK -/

theorem tapFall_fsm (tick : Nat) (t : TapUnit) : (tapFall tick t).fsm = t.fsm := by
  unfold tapFall
  split <;> rfl

/-- A rising edge moves the controller as IEEE 1149.1 says, to Test-Logic-Reset as to any other state; a falling one leaves it (R404). -/
theorem opTckEdge_fsm (rising tms tdi : Bool) (pins : BitVec 382) (s : State) :
    (opTckEdge rising tms tdi pins s).tap.fsm = if rising then tapNext s.tap.fsm tms else s.tap.fsm := by
  cases rising with
  | false => exact tapFall_fsm ..
  | true =>
    by_cases hreset : tapNext s.tap.fsm tms = 0
    · have hop : opTckEdge true tms tdi pins s
          = resetTap { s with tap := tapRise tms tdi pins { s.tap with trstLow := false } } := if_pos hreset
      rw [hop, resetTap, endTapInstruction_tap]
      exact hreset.symm
    · have hop : opTckEdge true tms tdi pins s = { s with tap := tapRise tms tdi pins { s.tap with trstLow := false } } := if_neg hreset
      rw [hop]
      rfl

/-- While SCAN is in effect a command of the TAP does to the TAP what it always does, and SCAN stays (R413). -/
theorem runTap_of_scan {f : State → State} {s : State} (h : s.tap.scan = true) :
    runTap f s = .next { undefinedCore s with tap := { (f s).tap with scan := true } } := by
  rw [runTap, h, if_pos rfl]

/-- Settles O54: the check does nothing, or is what ends the instruction and then substitutes BYPASS for it. -/
theorem tapCheckAfterEveryCommand : Obligations.TapCheckAfterEveryCommand := by
  intro s
  refine ⟨withdrawTap_of_honoured, fun hdue => ?_, fun rising tms tdi pins hscan => ?_⟩
  · have htouches : Touches [.regs, .sent, .evt, .tap, .shoe, .mem] s (withdrawTap s) := (withdrawTap_touches s).toTouches.mono (by decide)
    rw [withdrawTap_of_not_honoured hdue] at htouches ⊢
    have hregs := endTapInstruction_regs s.tap.ir.toNat s
    refine ⟨?_, ?_, fun o ho => ?_, htouches, fun h0 h1 => ?_, fun k hk hir => ?_⟩
    · rw [substituteBypass_tap, endTapInstruction_tap]
    · rw [substituteBypass_refusedTap, State.fld_of_regs hregs]
    · exact (SameRegsBut.of_regs (.refl _ s) hregs).trans (substituteBypass_sameRegsBut _) o ho
    · rw [substituteBypass_shoe, endTapInstruction_of_other]
      · exact fun h => h0 (BitVec.eq_of_toNat_eq h)
      · exact fun h => h1 (BitVec.eq_of_toNat_eq h)
    · rw [substituteBypass_shoe]
      exact endTapInstruction_unwrites s hk hir
  · exact ⟨_, runTap_of_scan hscan, rfl, opTckEdge_fsm ..⟩

end Sys2Proof.Machine
end

section
/-! Presence, the security states, the debug levels and the seal loop (R342 to R354): what each command's operation answers in each of its
cases, and what a refusal under the presence rule counts and records (R344). -/

namespace Sys2Proof.Machine

/-- A command whose row runs `f` completes with what `f` makes of the state. -/
theorem answers_of_run {c : Instr} {f : State → State} {s t : State} (hrow : exec c s = run f s) (hlive : Live s) (ht : f s = t) :
    exec c s = .next (withdrawTap t) := by
  rw [hrow, run_of_scan_false hlive, ht]

/-! ### The window, the state and the level -/

theorem shutWindow_of_open {s : State} (h : s.sec.window = true) (reason : Nat) :
    shutWindow reason s = raise 417 [word reason] (s.onSec (fun c => { c with window := false, remain := 0 })) := if_pos h

theorem shutWindow_of_shut {s : State} (h : s.sec.window = false) (reason : Nat) : shutWindow reason s = s := if_neg (Bool.eq_false_iff.1 h)

theorem enterSecurity_of_ne {s : State} {v : Nat} (h : s.sec.state ≠ v) :
    enterSecurity v s = raise 422 [] (s.onSec (fun c => { c with state := v })) := if_neg h

theorem enterDebug_of_ne {s : State} {v : Nat} (h : s.sec.debug ≠ v) :
    enterDebug v s = raise 423 [] (s.onSec (fun c => { c with debug := v })) := if_neg h

/-! ### The pins -/

section Pins
variable {s : State}

theorem opButtonPressed_of_up (h : s.sec.button = false) :
    opButtonPressed s = s.onSec (fun c => { c with button := true, void := false }) := if_neg (Bool.eq_false_iff.1 h)

/-- A stuck button is reported once (R345). -/
theorem opButtonStuck_of_first (hdown : s.sec.button = true) (hfirst : s.sec.stuck = false) :
    opButtonStuck s = raise 426 [] (s.onSec (fun c => { c with stuck := true, armed := false })) := by
  simp [opButtonStuck, hdown, hfirst]

/-- The state with the jumper off: a press under way is void (R342). -/
def jumperOff (s : State) : State := s.onSec (fun c => { c with jumper := false, void := c.button && c.armed })

theorem opJumperRemoved_of_fitted (h : s.sec.jumper = true) : opJumperRemoved s = shutWindow 3 (jumperOff s) := if_pos h

end Pins

/-- Settles O1: each pin changes its own part of the security state, and the jumper shuts the window where it is open. -/
theorem presencePinsSetTheirState : Obligations.PresencePinsSetTheirState := by
  intro s hlive
  refine ⟨fun hup => ?_, ?_, fun hdown hfirst => ?_, ?_, fun hfitted hshut => ?_, fun hfitted hopen => ?_⟩
  · exact answers_of_run rfl hlive (opButtonPressed_of_up hup)
  · exact answers_of_run rfl hlive rfl
  · exact answers_of_run rfl hlive (opButtonStuck_of_first hdown hfirst)
  · exact answers_of_run rfl hlive rfl
  · exact answers_of_run rfl hlive ((opJumperRemoved_of_fitted hfitted).trans (shutWindow_of_shut (s := jumperOff s) hshut 3))
  · exact answers_of_run rfl hlive ((opJumperRemoved_of_fitted hfitted).trans (shutWindow_of_open (s := jumperOff s) hopen 3))

/-! ### Refusals under the presence rule -/

theorem RegsOnly.refl (s : State) : RegsOnly s s := rfl

section RefuseWrite
variable (off : Nat) (s : State)

theorem refuseWrite_count : (refuseWrite off s).fld Reg.secRefused Fld.secRefusedWrites
    = min (2 ^ Fld.secRefusedWrites.width - 1) (s.fld Reg.secRefused Fld.secRefusedWrites + 1) := by
  rw [refuseWrite, raise_fld, State.fld_setFld_ne _ _ _ _ (by decide), State.fld_addFld_same _ _ _ _ (by decide) (by decide)]

theorem refuseWrite_offset : (refuseWrite off s).fld Reg.secRefusedAddr Fld.secRefusedAddrOffset
    = off % 2 ^ Fld.secRefusedAddrOffset.width := by
  rw [refuseWrite, raise_fld, State.fld_setFld_same _ _ _ _ (by decide) (by decide)]

theorem refuseWrite_sameRegsBut : SameRegsBut [Reg.secRefused, Reg.secRefusedAddr] s (refuseWrite off s) :=
  (((SameRegsBut.refl _ s).addFld (by decide) _ _).setFld (by decide) _ _).raise _ _

end RefuseWrite

/-! ### Requests -/

section Requests
variable {s : State}

theorem opEnterService_of_sealed (hwindow : s.sec.window = true) (hsealed : s.sec.state = 0) : opEnterService s = enterSecurity 1 s := by
  simp [opEnterService, State.window, hwindow, hsealed]

theorem opOpenArm_of_confirmed (hwindow : s.sec.window = true) (hsealed : s.sec.state = 0) :
    opOpenArm 0x5EC0 s = raise 427 [] (s.onSec (fun c => { c with openPending := true })) := by
  simp [opOpenArm, State.window, hwindow, hsealed]

/-- SERVICE is left for SEALED (R351). -/
theorem leaveService_of_service (hservice : s.sec.state = 1) (hlevel : s.sec.debug ≠ 2) : leaveService s = enterSecurity 0 s := by
  have hsealed : enterSecurity 0 s = raise 422 [] (s.onSec (fun c => { c with state := 0 })) := enterSecurity_of_ne (by omega)
  rw [leaveService, if_pos hservice]
  simp [hsealed, hlevel]

/-- D2 does not outlast SERVICE (R351, Table 16-2). -/
theorem leaveService_of_service_d2 (hservice : s.sec.state = 1) (hlevel : s.sec.debug = 2) :
    leaveService s = raise 423 [] { raise 422 [] { s with sec := { s.sec with state := 0 } } with
      sec := { s.sec with state := 0, debug := 1 } } := by
  have hsealed : enterSecurity 0 s = raise 422 [] { s with sec := { s.sec with state := 0 } } := enterSecurity_of_ne (by omega)
  have hsec : (enterSecurity 0 s).sec = { s.sec with state := 0 } := by rw [hsealed, raise_sec]
  have hlevel' : (enterSecurity 0 s).sec.debug = 2 := by rw [hsec, hlevel]
  rw [leaveService, if_pos hservice]
  dsimp only
  rw [if_pos hlevel', enterDebug_of_ne (by omega), State.onSec, hsec, hsealed]

/-- Without a presence window a request that needs one is refused at its register (R344). -/
theorem exec_request_of_no_window (hlive : Live s) (hwindow : s.sec.window = false) (conf : BitVec 16) :
    ∀ c ∈ [(Instr.enterService, Reg.secControl), (.openArm conf, Reg.secControl), (.scorepadClear, Reg.evtSpCtrl)],
      exec c.1 s = .next (withdrawTap (refuseWrite c.2 s)) := by
  have hshut : (!s.window) = true := by rw [State.window, hwindow, Bool.not_false]
  intro c hc
  simp only [List.mem_cons, List.not_mem_nil, or_false] at hc
  rcases hc with rfl | rfl | rfl
  · exact answers_of_run (f := opEnterService) rfl hlive (if_pos hshut)
  · exact answers_of_run (f := opOpenArm conf.toNat) rfl hlive (if_pos hshut)
  · exact answers_of_run (f := opScorepadClear) rfl hlive (if_pos hshut)

end Requests

/-- Settles O3: the requests by the cases of their operations, a refused one by what a refusal counts and records. -/
theorem securityStateRequestsNeedPresence : Obligations.SecurityStateRequestsNeedPresence := by
  refine ⟨fun s hlive => ⟨fun hwindow hsealed => ⟨?_, ?_⟩, fun hservice hlevel => ?_, fun hservice hlevel => ?_, ?_⟩,
    fun s conf hlive hwindow c hc => ?_⟩
  · exact answers_of_run rfl hlive ((opEnterService_of_sealed hwindow hsealed).trans (enterSecurity_of_ne (by omega)))
  · exact answers_of_run rfl hlive (opOpenArm_of_confirmed hwindow hsealed)
  · exact answers_of_run rfl hlive ((leaveService_of_service hservice hlevel).trans (enterSecurity_of_ne (by omega)))
  · refine ⟨_, answers_of_run (f := opLeaveService) rfl hlive (leaveService_of_service_d2 hservice hlevel), raise_sec .., ?_⟩
    rw [raise_sec]
  · exact answers_of_run rfl hlive rfl
  · exact ⟨_, exec_request_of_no_window hlive hwindow conf c hc, refuseWrite_count .., refuseWrite_offset .., refuseWrite_sameRegsBut c.2 s,
      refuseWrite_eq_raise (RegsOnly.refl s) c.2⟩

/-! ### Debug levels -/

section DebugLevels
variable {s : State} {l : Nat}

theorem opDebugLevelWrite_of_lower (hlower : l < s.sec.debug) (hlevel : s.sec.debug < 3) : opDebugLevelWrite l s = enterDebug l s := by
  simp only [opDebugLevelWrite, if_neg hlower.ne, if_pos hlower, if_neg hlevel.ne]

/-- D3 is left by a reset alone (R354). -/
theorem opDebugLevelWrite_of_d3 (hlevel : s.sec.debug = 3) (hlower : l < 3) : opDebugLevelWrite l s = raise 424 [] s := by
  rw [← hlevel] at hlower
  simp only [opDebugLevelWrite, if_neg hlower.ne, if_pos hlower, if_pos hlevel]

variable (hraise : s.sec.debug < l) (hwindow : s.sec.window = true)
include hraise hwindow

theorem opDebugLevelWrite_of_allowed (hl : l ≠ 3) (hallowed : levelAllowed s.sec.state l = true) :
    opDebugLevelWrite l s = enterDebug l s := by
  simp [opDebugLevelWrite, State.window, hraise.ne', hraise.not_gt, hwindow, hl, hallowed]

theorem opDebugLevelWrite_of_forbidden (hforbidden : levelAllowed s.sec.state l = false) : opDebugLevelWrite l s = raise 424 [] s := by
  simp [opDebugLevelWrite, State.window, hraise.ne', hraise.not_gt, hwindow, hforbidden]

end DebugLevels

/-- Settles O4: a level is lowered below D3, and raised as Table 16-2 allows it in the security state. -/
theorem debugLevelRequests : Obligations.DebugLevelRequests := by
  intro s l hlive _
  refine ⟨fun hlower hlevel => ?_, fun hlevel hl => ?_, fun hraise hwindow => ⟨fun hallowed => ?_, fun hforbidden => ?_⟩⟩
  · exact answers_of_run rfl hlive ((opDebugLevelWrite_of_lower hlower hlevel).trans (enterDebug_of_ne hlower.ne'))
  · have hlower : l.toNat < 3 := by
      have hne : l.toNat ≠ 3 := fun h => hl (BitVec.eq_of_toNat_eq h)
      omega
    exact answers_of_run rfl hlive (opDebugLevelWrite_of_d3 hlevel hlower)
  · have hop : opDebugLevelWrite l.toNat s = enterDebug l.toNat s := by
      rcases hallowed with ⟨rfl, hstate⟩ | ⟨rfl, hstate⟩
      · exact opDebugLevelWrite_of_allowed hraise hwindow (by decide) (by simpa [levelAllowed] using hstate)
      · exact opDebugLevelWrite_of_allowed hraise hwindow (by decide) (by simpa [levelAllowed] using hstate)
    exact answers_of_run rfl hlive (hop.trans (enterDebug_of_ne hraise.ne))
  · have hlevel : levelAllowed s.sec.state l.toNat = false := by
      rcases hforbidden with ⟨rfl, hstate⟩ | ⟨rfl, hstate⟩ | ⟨rfl, hstate⟩ <;> simpa [levelAllowed] using hstate
    exact answers_of_run rfl hlive (opDebugLevelWrite_of_forbidden hraise hwindow hlevel)

/-! ### The seal loop -/

/-- The bit driven is the low bit of the register (R346). -/
theorem sealNext_bit (r : BitVec 16) : (sealNext r).1 = r.getLsbD 0 := (Nat.testBit_zero r.toNat).symm

theorem mod_two_eq_bit (n : Nat) : n % 2 = bit (n.testBit 0) := by
  rw [Nat.testBit_zero]
  rcases Nat.mod_two_eq_zero_or_one n with h | h <;> simp [bit, h]

/-- The feedback of x¹⁶ + x¹⁴ + x¹³ + x¹¹ + 1 is the parity of bits 0, 2, 3 and 5 (R346). -/
theorem sealFeedback_eq (r : BitVec 16) : (r.toNat ^^^ (r.toNat >>> 2) ^^^ (r.toNat >>> 3) ^^^ (r.toNat >>> 5)) % 2
    = bit (r.getLsbD 0 ^^ r.getLsbD 2 ^^ r.getLsbD 3 ^^ r.getLsbD 5) := by
  rw [mod_two_eq_bit]
  simp only [Nat.testBit_xor, Nat.testBit_shiftRight, BitVec.getLsbD, Nat.add_zero]

/-- The register steps by one bit, its feedback coming in at the top (R346). -/
theorem sealNext_register (r : BitVec 16) : (sealNext r).2
    = (r >>> 1) ||| (if r.getLsbD 0 ^^ r.getLsbD 2 ^^ r.getLsbD 3 ^^ r.getLsbD 5 then 0x8000 else 0) := by
  have hhalf : r.toNat / 2 < 2 ^ 15 := by have := r.isLt; omega
  apply BitVec.eq_of_toNat_eq
  rw [sealNext, sealFeedback_eq]
  cases r.getLsbD 0 ^^ r.getLsbD 2 ^^ r.getLsbD 3 ^^ r.getLsbD 5 with
  | false =>
    simp [bit, Nat.shiftRight_eq_div_pow]
    omega
  | true =>
    have htop : 32768 ||| r.toNat / 2 = 32768 + r.toNat / 2 := (Nat.two_pow_add_eq_or_of_lt hhalf 1).symm
    simp [bit, Nat.shiftRight_eq_div_pow]
    rw [Nat.or_comm, htop]
    omega

/-- The state after the next bit of the register and its complement are driven (R346). -/
def driveSeal (s : State) : State := emit (.sealBit (sealNext s.sec.lfsr).1) (s.onSec (fun c => { c with lfsr := (sealNext c.lfsr).2 }))

section SealLoop
variable {s : State} (hon : s.flag Reg.secSeal Fld.secSealEnable = true)
include hon

theorem opSealBit_of_match : opSealBit (sealNext s.sec.lfsr).1 (!(sealNext s.sec.lfsr).1) s
    = (driveSeal s).onSec (fun c => { c with mismatch := 0, matching := min 1000 (c.matching + 1) }) := by
  simp only [opSealBit, sealEnabled, hon, driveSeal, satAt_eq_min, Bool.not_true, Bool.false_eq_true, if_false, and_self, if_true]
  rfl

theorem opSealBit_of_mismatch {x y : Bool} (h : ¬(x = (sealNext s.sec.lfsr).1 ∧ y = !(sealNext s.sec.lfsr).1)) : opSealBit x y s
    = raise 419 [] ((driveSeal s).onSec (fun c => { c with mismatch := min 3 (c.mismatch + 1), matching := 0, restored := false })) := by
  simp only [opSealBit, sealEnabled, hon, driveSeal, satAt_eq_min, if_neg h]
  rfl

end SealLoop

theorem opSealEnableWrite_of_window {s : State} (hoff : s.flag Reg.secSeal Fld.secSealEnable = false) (hwindow : s.sec.window = true) :
    opSealEnableWrite true s = s.setFld Reg.secSeal Fld.secSealEnable 1 := by
  simp [opSealEnableWrite, sealEnabled, State.window, hoff, hwindow, bit]

/-- Settles O5: the bit driven and the register's step are those of the polynomial, and the samples match or do not. -/
theorem sealLoopBit : Obligations.SealLoopBit := by
  intro s hlive b nx drv
  have hbit : (sealNext s.sec.lfsr).1 = b := sealNext_bit _
  have hnext : (sealNext s.sec.lfsr).2 = nx := sealNext_register _
  have hdrive : driveSeal s = { drv with sec := { s.sec with lfsr := nx } } := by
    rw [driveSeal, hbit, ← hnext]
    rfl
  refine ⟨fun hon => ⟨?_, fun x y hxy => ?_⟩, fun hrun => ?_, fun hoff hwindow => ?_⟩
  · have hop := opSealBit_of_match hon
    rw [hbit, hdrive] at hop
    exact answers_of_run rfl hlive hop
  · have hop := opSealBit_of_mismatch hon (by rwa [hbit])
    rw [hdrive] at hop
    exact answers_of_run rfl hlive hop
  · exact answers_of_run rfl hlive (if_pos hrun)
  · exact answers_of_run rfl hlive (opSealEnableWrite_of_window hoff hwindow)

end Sys2Proof.Machine
end

section
/-! Settings flash (R373, R374, R377, R378, R382): where a STORE's record goes, how parking begins and ends, what the protection bits and the
read delay become, and which bytes a port's word holds. -/

namespace Sys2Proof.Machine

/-! ### The bytes of a word -/

/-- Bit `j` of byte `i` of a little-endian number (R7). -/
theorem testBit_leVal (l : List Byte) (i : Nat) {j : Nat} (hj : j < 8) : (leVal l).testBit (8 * i + j) = (l.getD i 0).getLsbD j := by
  induction l generalizing i with
  | nil => simp [leVal]
  | cons b l ih =>
    have hsplit : leVal (b :: l) = 2 ^ 8 * leVal l + b.toNat := by rw [leVal]; omega
    rw [hsplit, Nat.testBit_two_pow_mul_add _ b.isLt]
    cases i with
    | zero => simp [hj, BitVec.getLsbD]
    | succ i =>
      have hplace : 8 * (i + 1) + j - 8 = 8 * i + j := by omega
      rw [if_neg (by omega), hplace, ih, List.getD_cons_succ]

/-- A word of four bytes holds each in its place; one that is not given is 0 (R7). -/
theorem word_leVal_byte (l : List Byte) {i : Nat} (hi : i < 4) : (word (leVal l)).extractLsb' (8 * i) 8 = l.getD i 0 := by
  apply BitVec.eq_of_getLsbD_eq
  intro j hj
  rw [BitVec.getLsbD_extractLsb', BitVec.getLsbD, word_toNat, Nat.testBit_mod_two_pow, testBit_leVal l i hj]
  simp [hj, show 8 * i + j < 32 by omega]

theorem getD_slice {α : Type} (l : List α) (a : Nat) {n i : Nat} (hi : i < n) (d : α) : (slice l a n).getD i d = l.getD (a + i) d := by
  simp [slice, List.getD_eq_getElem?_getD, hi]

/-! ### STORE -/

/-- A STORE goes on at once where nothing runs on its record's bank (R382). -/
theorem settleStore_of_free {s : State} {n q : Nat} {r : Settings} {second : Bool} (hstoring : s.nvm.storing = some (n, q, r, second))
    (hwaits : s.nvm.storeWaits = true) (hrunning : Sparse.find s.nvm.running r.copy = none)
    (hsuspended : Sparse.find s.nvm.suspended r.copy = none) : settleStore s = beginRecord n q r second s := by
  simp [settleStore, hstoring, hwaits, hrunning, hsuspended]

/-- The record of a STORE whose newest one is `r` in copy A: of the settings as they are, in copy B, with the next SEQ (R382). -/
def nextRecordB (r : Settings) (s : State) : Settings :=
  { shadow s with copy := 1, sector := nextPlace s.nvm.settings 1, seq := r.seq + 1 }

/-- Copy B needs no bank that the parked steward has left (R377, R382). -/
theorem opStore_of_newest_a {s : State} {n : Nat} {u : Task} {r : Settings} (hbegins : Begins s n 0x18 u) (hfree : s.nvm.storing = none)
    (hnewest : newestSettings s.nvm.settings = some r) (hcopy : r.copy = 0) :
    opStore n s = settleStore { commence n u.seq s with
      nvm := { (commence n u.seq s).nvm with storing := some (n, u.seq, nextRecordB r s, false), storeWaits := true } } := by
  rw [opStore, beginTask_of_begins hbegins]
  simp [hfree, hnewest, hcopy, nextRecordB]

/-! ### Parking -/

section Parking
variable {s : State}

theorem parked_setRequest (v : Nat) (s : State) : parked (s.setFld Reg.nvmPark Fld.nvmParkRequest v) = parked s := by
  rw [parked, parked, State.flag, State.flag, State.fld_setFld_other _ _ _ _ _ (by decide) (by decide) (by decide) (by decide)]

theorem parked_setParked (v : Nat) (s : State) : parked (s.setFld Reg.nvmPark Fld.nvmParkParked v) = decide (v % 2 = 1) :=
  State.flag_setFld_same _ _ _ _ (by decide) (by decide)

@[simp] theorem parked_raise (ev : Nat) (ws : List Word) (s : State) : parked (raise ev ws s) = parked s := by
  rw [parked, parked, State.flag, State.flag, raise_fld]

theorem opParkRequest_of_not_parked (h : parked s = false) : opParkRequest s = s.setFld Reg.nvmPark Fld.nvmParkRequest 1 :=
  if_neg (Bool.eq_false_iff.1 h)

/-- The steward parks once nothing of its own runs on bank A (R377). -/
theorem opStewardParked_of_free (hrequest : s.flag Reg.nvmPark Fld.nvmParkRequest = true) (hrunning : Sparse.find s.nvm.running 0 = none)
    (hstoring : s.nvm.storing = none) : opStewardParked s
      = raise 409 [] ((s.setFld Reg.nvmPark Fld.nvmParkRequest 0).setFld Reg.nvmPark Fld.nvmParkParked 1) := by
  simp [opStewardParked, hrequest, hrunning, hstoring]

theorem unpark_of_parked (h : parked s = true) : unpark s = raise 409 [] (s.setFld Reg.nvmPark Fld.nvmParkParked 0) := if_pos h

/-- Unparking clears PARKED and raises event 409; no other register changes (R377). -/
theorem unpark_unparks (h : parked s = true) :
    parked (unpark s) = false ∧ SameRegsBut [Reg.nvmPark] s (unpark s) ∧ unpark s = raise 409 [] { s with regs := (unpark s).regs } := by
  rw [unpark_of_parked h]
  refine ⟨?_, ((SameRegsBut.refl _ s).setFld (List.mem_singleton_self _) _ _).raise _ _, raise_of_regsOnly (setFld_regsOnly ..) _ _⟩
  rw [parked_raise, parked_setParked]
  rfl

theorem opParkTimeout_of_free (hrunning : Sparse.find s.nvm.running 0 = none) (hsuspended : Sparse.find s.nvm.suspended 0 = none) :
    opParkTimeout s = unpark s := by
  simp [opParkTimeout, hrunning, hsuspended]

end Parking

/-! ### Protection, the read delay and the ports -/

section Ports
variable {s : State} {k : Nat} {v : Word}

theorem setReg_sameRegsBut (s : State) (o : Nat) (v : Word) : SameRegsBut [o] s (s.setReg o v) :=
  fun _ ho => State.reg_setReg_ne s v (fun e => ho (List.mem_singleton.2 e))

theorem opWpClr_of_window (h : s.window = true) : opWpClr k v s = s.setReg (Reg.nvmWp k) (s.reg (Reg.nvmWp k) &&& ~~~v) := if_pos h

theorem opWpClr_of_no_window (h : s.window = false) (hv : v ≠ 0) : opWpClr k v s = refuseWrite (Reg.nvmWpClr k) s := by
  rw [opWpClr, h, if_neg Bool.false_ne_true, if_neg hv]

/-- The delay written takes effect, whether it is safe or not (R373). -/
theorem opRdDelayWrite_regs (d : Nat) (s : State) : (opRdDelayWrite d s).regs = (s.setFld Reg.nvmRdDelay Fld.nvmRdDelayDelay d).regs := by
  unfold opRdDelayWrite
  dsimp only
  split
  · exact raise_regs ..
  · rfl

theorem opRdDelayWrite_of_safe {d : Nat} (h : minDelay s.pwr.band ≤ d) :
    opRdDelayWrite d s = s.setFld Reg.nvmRdDelay Fld.nvmRdDelayDelay d := if_neg h.not_gt

theorem opRdDelayWrite_of_short {d : Nat} (h : d < minDelay s.pwr.band) :
    opRdDelayWrite d s = raise 411 [] (s.setFld Reg.nvmRdDelay Fld.nvmRdDelayDelay d) := if_pos h

/-- The word that NVM_WIN shows at place `k` (R370, R374). -/
def winWord (s : State) (k : Nat) : Word :=
  word (leVal ((List.range 4).map (fun i => flashByte s (s.fld Reg.nvmWinSel Fld.nvmWinSelBank) (s.fld Reg.nvmWinSel Fld.nvmWinSelSector)
    (4096 * s.fld Reg.nvmWinSel Fld.nvmWinSelPart + 4 * k + i))))

theorem winWord_byte (s : State) (k : Nat) {i : Nat} (hi : i < 4) : (winWord s k).extractLsb' (8 * i) 8
    = flashByte s (s.fld Reg.nvmWinSel Fld.nvmWinSelBank) (s.fld Reg.nvmWinSel Fld.nvmWinSelSector)
        (4096 * s.fld Reg.nvmWinSel Fld.nvmWinSelPart + 4 * k + i) := by
  rw [winWord, word_leVal_byte _ hi]
  simp [List.getD_eq_getElem?_getD, hi]

theorem opNvmWinRead_of_fault
    (h : busFault s (s.fld Reg.nvmWinSel Fld.nvmWinSelBank) (s.fld Reg.nvmWinSel Fld.nvmWinSelSector) = true) (e : Nat) :
    opNvmWinRead k e s = refuseRead (Reg.nvmWin k) s := if_pos h

theorem opNvmWinRead_of_good
    (h : busFault s (s.fld Reg.nvmWinSel Fld.nvmWinSelBank) (s.fld Reg.nvmWinSel Fld.nvmWinSelSector) = false) {e : Nat} (he : e ≤ 4) :
    opNvmWinRead k e s = emit (.read (Reg.nvmWin k) (winWord s k)) s.ticked :=
  (if_neg (Bool.eq_false_iff.1 h)).trans (if_pos he)

/-- The word that NVM_CAL shows at place `k` (R372). -/
def calWord (k : Nat) : Word := word (leVal (slice calibrationRow (4 * k) 4))

theorem calWord_byte (k : Nat) {i : Nat} (hi : i < 4) : (calWord k).extractLsb' (8 * i) 8 = calibrationRow.getD (4 * k + i) 0 := by
  rw [calWord, word_leVal_byte _ hi, getD_slice _ _ hi]

theorem opNvmCalRead_of_busy (h : bankBusy s 0 = true) : opNvmCalRead k s = refuseRead (Reg.nvmCal k) s := if_pos h

theorem opNvmCalRead_of_free (h : bankBusy s 0 = false) : opNvmCalRead k s = emit (.read (Reg.nvmCal k) (calWord k)) s :=
  if_neg (Bool.eq_false_iff.1 h)

end Ports

/-- Settles O35: a STORE of copy B begins its record, parking is what its two fields say, each port and register goes by its cases. -/
theorem storeParkingAndProtection : Obligations.StoreParkingAndProtection := by
  have hpark : Reg.nvmPark ∈ [Reg.nvmPark] := List.mem_singleton_self _
  refine ⟨fun s n u hlive => ⟨?store, fun hnot => ?request, fun hrequest hrunning hstoring => ?parks, fun hparked => ?release,
    fun hparked hrunning hsuspended => ?timeout⟩, ?ports⟩
  case store =>
    intro hbegins hfree r hnewest hcopy hrunning hsuspended x b
    exact answers_of_run rfl hlive ((opStore_of_newest_a hbegins hfree hnewest hcopy).trans
      (settleStore_of_free rfl rfl hrunning hsuspended))
  case request =>
    exact ⟨_, answers_of_run rfl hlive (opParkRequest_of_not_parked hnot), State.fld_setFld_same _ _ _ _ (by decide) (by decide),
      (parked_setRequest 1 s).trans hnot, (SameRegsBut.refl _ s).setFld hpark _ _, rfl⟩
  case parks =>
    refine ⟨_, answers_of_run rfl hlive (opStewardParked_of_free hrequest hrunning hstoring), ?_, ?_,
      (((SameRegsBut.refl _ s).setFld hpark _ _).setFld hpark _ _).raise _ _,
      raise_of_regsOnly ((setFld_regsOnly ..).trans (setFld_regsOnly ..)) _ _⟩
    · rw [parked_raise, parked_setParked]
      rfl
    · rw [raise_fld, State.fld_setFld_other _ _ _ _ _ (by decide) (by decide) (by decide) (by decide),
        State.fld_setFld_same _ _ _ _ (by decide) (by decide), Nat.zero_mod]
  case release => exact ⟨_, answers_of_run (f := opParkRelease) rfl hlive rfl, unpark_unparks hparked⟩
  case timeout => exact ⟨_, answers_of_run rfl hlive (opParkTimeout_of_free hrunning hsuspended), unpark_unparks hparked⟩
  case ports =>
    intro s k v d off e hlive wp bank sec x
    refine ⟨?set, fun hwindow => ?clear, fun hwindow hv => ?clearRefused, ?delay, fun hfault => ?winFault, fun hgood he => ?winRead,
      fun hbusy => ?calFault, fun hfree => ?calRead⟩
    case set => exact ⟨_, answers_of_run (f := opWpSet k v) rfl hlive rfl, State.reg_setReg_same .., setReg_sameRegsBut s wp _, rfl⟩
    case clear => exact ⟨_, answers_of_run rfl hlive (opWpClr_of_window hwindow), State.reg_setReg_same .., setReg_sameRegsBut s wp _, rfl⟩
    case clearRefused => exact answers_of_run rfl hlive (opWpClr_of_no_window hwindow hv)
    case delay =>
      have hregs := opRdDelayWrite_regs d.toNat s
      refine ⟨_, answers_of_run (f := opRdDelayWrite d.toNat) rfl hlive rfl, ?_, ?_, fun hsafe => ?_, fun hshort => ?_⟩
      · rw [State.fld_of_regs hregs, State.fld_setFld_same _ _ _ _ (by decide) (by decide)]
        exact Nat.mod_eq_of_lt d.isLt
      · exact ((SameRegsBut.refl _ s).setFld (List.mem_singleton_self _) _ _).of_regs hregs
      · rw [opRdDelayWrite_of_safe hsafe]
        rfl
      · rw [hregs, opRdDelayWrite_of_short hshort]
        rfl
    case winFault => exact answers_of_run rfl hlive (opNvmWinRead_of_fault hfault e)
    case winRead =>
      exact ⟨_, answers_of_run rfl hlive (opNvmWinRead_of_good hgood he), rfl, _, rfl, fun i hi => winWord_byte s off.toNat hi⟩
    case calFault => exact answers_of_run rfl hlive (opNvmCalRead_of_busy hbusy)
    case calRead =>
      exact ⟨calWord off.toNat, answers_of_run rfl hlive (opNvmCalRead_of_free hfree), fun i hi => calWord_byte off.toNat hi⟩

end Sys2Proof.Machine
end

section
/-! The state after reset and a block with no command waiting (R350, R353, R404). -/

namespace Sys2Proof.Machine

/-- IDCODE has no condition to meet (Table 19-1). -/
theorem tapHonoured_idcode (s : State) : tapHonoured s 1 = true := by simp [tapHonoured, pinDriving]

theorem step_of_idle {s : State} (h : s.pending = []) : step s = .next s := by simp only [step, h]

/-- Settles O53: nothing is listed after reset and IDCODE is in effect, and an empty queue gives no command to run. -/
theorem resetIsLegalAndIdles : Obligations.ResetIsLegalAndIdles :=
  ⟨⟨rfl, reset_memory_wf, .inr (tapHonoured_idcode State.reset), rfl, rfl, rfl, rfl, rfl, rfl, rfl, rfl, rfl, rfl⟩,
    fun _ => step_of_idle⟩

end Sys2Proof.Machine
end

section
/-! How the block answers a command (R407, R413): a command's operation runs as a row of the core, as a row of the TAP or as a reset, and none
of them takes another command from the queue. -/

namespace Sys2Proof.Machine

/-- The ways in which a row runs its operation, each of which leaves the commands that wait. -/
inductive Ran (s : State) : Host.Outcome State Fault Refusal → Prop
  | core {f : State → State} (h : (f s).pending = s.pending) : Ran s (run f s)
  | tap {f : State → State} (h : (f s).pending = s.pending) : Ran s (runTap f s)
  | reset {f : State → State} (h : (f { s with tap := { s.tap with scan := false } }).pending = s.pending) : Ran s (runReset f s)

section Rows
variable {l : List Part} {f : State → State} {s : State}

theorem Moves.run_ran (k : Moves l s (f s)) (h : .pending ∉ l := by decide) : Ran s (run f s) := .core (k.keep .pending h)

theorem Moves.runTap_ran (k : Moves l s (f s)) (h : .pending ∉ l := by decide) : Ran s (runTap f s) := .tap (k.keep .pending h)

theorem Moves.runReset_ran (k : Moves l { s with tap := { s.tap with scan := false } } (f { s with tap := { s.tap with scan := false } }))
    (h : .pending ∉ l := by decide) : Ran s (runReset f s) := .reset (k.keep .pending h)

end Rows

/-- A COLD_RESET that is accepted is a reset; another does nothing. -/
theorem execColdReset_ran (sideband : Bool) (boot : BootInput) (s : State) : Ran s (execColdReset sideband boot s) := by
  unfold execColdReset
  split
  · exact (resetCold_touches ..).runReset_ran
  · exact (Moves.refl [] s).run_ran

/-- Every command runs in one of these ways. -/
theorem exec_ran (s : State) : ∀ c : Instr, Ran s (exec c s)
  | .registerWrite .. => (opRegisterWrite_touches ..).run_ran
  | .unassignedAccess .. => (opUnassignedAccess_touches ..).run_ran
  | .handshakeStall .. => (opHandshakeStall_touches ..).run_ran
  | .slackMeasurement .. => (opSlackMeasurement_touches ..).run_ran
  | .avsEvaluation .. => (opAvsEvaluation_touches ..).run_ran
  | .avsReadback .. => (opAvsReadback_touches ..).run_ran
  | .taskRecordWrite .. => (opTaskRecordWrite_touches ..).run_ran
  | .doorbell .. => (opDoorbell_touches ..).run_ran
  | .abortRequest .. => (opAbortRequest_touches ..).run_ran
  | .ctxConfigWrite .. => (opCtxConfigWrite_touches ..).run_ran
  | .ctxReset .. => (opCtxReset_touches ..).run_ran
  | .ctxResetComplete .. => (opCtxResetComplete_touches ..).run_ran
  | .write .. => (opWrite_touches ..).run_ran
  | .mark .. => (opMark_touches ..).run_ran
  | .flush .. => (opFlush_touches ..).run_ran
  | .sync .. => (opSync_touches ..).run_ran
  | .read .. => (opRead_touches ..).run_ran
  | .locate .. => (opLocate_touches ..).run_ran
  | .space .. => (opSpace_touches ..).run_ran
  | .position .. => (opPosition_touches ..).run_ran
  | .pass .. => (opPass_touches ..).run_ran
  | .barrier .. => (opBarrier_touches ..).run_ran
  | .cut .. => (opCut_touches ..).run_ran
  | .uncut .. => (opUncut_touches ..).run_ran
  | .hostJobCopy .. => (opHostJobCopy_touches ..).run_ran
  | .meterRead .. => (opMeterRead_touches ..).run_ran
  | .load .. => (opLoad_touches ..).run_ran
  | .unload .. => (opUnload_touches ..).run_ran
  | .rewind .. => (opRewind_touches ..).run_ran
  | .partCreate .. => (opPartCreate_touches ..).run_ran
  | .partDelete .. => (opPartDelete_touches ..).run_ran
  | .mediumFormat .. => (opMediumFormat_touches ..).run_ran
  | .seat .. => (opSeat_touches ..).run_ran
  | .power .. => (opPower_touches ..).run_ran
  | .store .. => (opStore_touches ..).run_ran
  | .imageActivate .. => (opImageActivate_touches ..).run_ran
  | .completionWrite .. => (opCompletionWrite_touches ..).run_ran
  | .deferredErrorDelivery .. => (opDeferredErrorDelivery_touches ..).run_ran
  | .packItem .. => (opPackItem_touches ..).run_ran
  | .fixedSeatTurn .. => (opFixedSeatTurn_touches ..).run_ran
  | .seatAlert .. => (opSeatAlert_touches ..).run_ran
  | .poolWaitResume .. => (opPoolWaitResume_touches ..).run_ran
  | .fetchResume .. => (opFetchResume_touches ..).run_ran
  | .blockClose .. => (closeBlock_touches ..).run_ran
  | .engineDispatch .. => (opEngineDispatch_touches ..).run_ran
  | .blockCoded .. => (opBlockCoded_touches ..).run_ran
  | .blockDecode .. => (opBlockDecode_touches ..).run_ran
  | .engineOffWrite .. => (opEngineOffWrite_touches ..).run_ran
  | .seal .. => (sealNextBlock_touches ..).run_ran
  | .blockOpen .. => (opBlockOpen_touches ..).run_ran
  | .keyLoad => (opKeyLoad_touches ..).run_ran
  | .keyZeroise => (opKeyZeroise_touches ..).run_ran
  | .keyClearAll => (opKeyClearAll_touches ..).run_ran
  | .keyCommandDone => (opKeyCommandDone_touches ..).run_ran
  | .roundWriteStart .. => (opRoundWriteStart_touches ..).run_ran
  | .trickBegin .. => (opTrickBegin_touches ..).run_ran
  | .endOfDataWrite .. => (opEndOfDataWrite_touches ..).run_ran
  | .facetGrade .. => (opFacetGrade_touches ..).run_ran
  | .wrapTurn .. => (opWrapTurn_touches ..).run_ran
  | .facetDecode .. => (opFacetDecode_touches ..).run_ran
  | .trickMissing .. => (opTrickMissing_touches ..).run_ran
  | .retryPass .. => (opRetryPass_touches ..).run_ran
  | .repositionComplete .. => (opRepositionComplete_touches ..).run_ran
  | .paceSample .. => (opPaceSample_touches ..).run_ran
  | .servoRecord .. => (opServoRecord_touches ..).run_ran
  | .lateralLock .. => (opLateralLock_touches ..).run_ran
  | .reelRecord .. => (opReelRecord_touches ..).run_ran
  | .telemetryDiscardLimit .. => (opTelemetryDiscardLimit_touches ..).run_ran
  | .reversalTensionMet .. => (opReversalTensionMet_touches ..).run_ran
  | .reversalTimeout .. => (opReversalTimeout_touches ..).run_ran
  | .coefCommit .. => (opCoefCommit_touches ..).run_ran
  | .holdWrite .. => (opHoldWrite_touches ..).run_ran
  | .jasStopRequest .. => (opJasStopRequest_touches ..).run_ran
  | .stopComplete .. => (opStopComplete_touches ..).run_ran
  | .deckEstop .. => (opDeckEstop_touches ..).run_ran
  | .traceArm .. => (opTraceArm_touches ..).run_ran
  | .traceFire .. => (opTraceFire_touches ..).run_ran
  | .traceTrigger .. => (opTraceTrigger_touches ..).run_ran
  | .traceDone .. => (opTraceDone_touches ..).run_ran
  | .traceRead .. => (opTraceRead_touches ..).run_ran
  | .hbmCattrip .. => (opHbmCattrip_touches ..).run_ran
  | .hbmEccPoll .. => (opHbmEccPoll_touches ..).run_ran
  | .regionCfgWrite .. => (opRegionCfgWrite_touches ..).run_ran
  | .micFill .. => (opMicFill_touches ..).run_ran
  | .micFillComplete => (opMicFillComplete_touches ..).run_ran
  | .poolCfgWrite .. => (opPoolCfgWrite_touches ..).run_ran
  | .poolReady .. => (opPoolReady_touches ..).run_ran
  | .hostChipAllocate => (opHostChipAllocate_touches ..).run_ran
  | .hostChipFree .. => (opHostChipFree_touches ..).run_ran
  | .shoeWindowAccess .. => (opShoeWindowAccess_touches ..).run_ran
  | .polisherAccess .. => (opPolisherAccess_touches ..).run_ran
  | .writeSlot => (opWriteSlot_touches ..).run_ran
  | .slotWriteDone .. => (opSlotWriteDone_touches ..).run_ran
  | .verify => (opVerify_touches ..).run_ran
  | .revoke => (opRevoke_touches ..).run_ran
  | .formatEpoch .. => (opFormatEpoch_touches ..).run_ran
  | .cutterEpoch .. => (opCutterEpoch_touches ..).run_ran
  | .linkTraining .. => (opLinkTraining_touches ..).run_ran
  | .trainingStepTimeout .. => (opTrainingStepTimeout_touches ..).run_ran
  | .frameReceive .. => (opFrameReceive_touches ..).run_ran
  | .laneFrameLock .. => (opLaneFrameLock_touches ..).run_ran
  | .laneLockLoss .. => (opLaneLockLoss_touches ..).run_ran
  | .columnSend .. => (opColumnSend_touches ..).run_ran
  | .credit .. => (opCredit_touches ..).run_ran
  | .column .. => (opColumn_touches ..).run_ran
  | .sq .. => (opSq_touches ..).run_ran
  | .head .. => (opHead_touches ..).run_ran
  | .status .. => (opStatus_touches ..).run_ran
  | .regResp .. => (opRegResp_touches ..).run_ran
  | .unknownRecord .. => (opUnknownRecord_touches ..).run_ran
  | .laneLockTimeout .. => (opLaneLockTimeout_touches ..).run_ran
  | .linkAlert .. => (opLinkAlert_touches ..).run_ran
  | .creditTimeout .. => (opCreditTimeout_touches ..).run_ran
  | .statusTimeout .. => (opStatusTimeout_touches ..).run_ran
  | .regRespTimeout .. => (opRegRespTimeout_touches ..).run_ran
  | .deckPresenceChange .. => (opDeckPresenceChange_touches ..).run_ran
  | .deckFault .. => (opDeckFault_touches ..).run_ran
  | .linkEnableWrite .. => (opLinkEnableWrite_touches ..).run_ran
  | .linkRetrain .. => (opLinkRetrain_touches ..).run_ran
  | .feRegisterRead .. => (hostAccess_touches ..).run_ran
  | .feRegisterWrite .. => (hostAccess_touches ..).run_ran
  | .flitReceive .. => (opFlitReceive_touches ..).run_ran
  | .replayTimeout .. => (opReplayTimeout_touches ..).run_ran
  | .ackDue .. => (opAckDue_touches ..).run_ran
  | .dmaCompletionReceive .. => (opDmaCompletionReceive_touches ..).run_ran
  | .dmaReadTimeout .. => (opDmaReadTimeout_touches ..).run_ran
  | .creditWaitAlert .. => (opCreditWaitAlert_touches ..).run_ran
  | .portActive .. => (opPortActive_touches ..).run_ran
  | .portRetrain .. => (opPortRetrain_touches ..).run_ran
  | .portEnableWrite .. => (opPortEnableWrite_touches ..).run_ran
  | .linkLoss => (opLinkLoss_touches ..).run_ran
  | .sbReset .. => (opSbReset_touches ..).run_ran
  | .sbWake .. => (opSbWake_touches ..).run_ran
  | .presenceAction => (opPresenceAction_touches ..).run_ran
  | .buttonStuck => (opButtonStuck_touches ..).run_ran
  | .jumperRemoved => (opJumperRemoved_touches ..).run_ran
  | .presenceWindowExpiry => (opPresenceWindowExpiry_touches ..).run_ran
  | .closeWindow => (opCloseWindow_touches ..).run_ran
  | .enterService => (opEnterService_touches ..).run_ran
  | .leaveService => (opLeaveService_touches ..).run_ran
  | .openArm .. => (opOpenArm_touches ..).run_ran
  | .openDisarm => (opOpenDisarm_touches ..).run_ran
  | .debugLevelWrite .. => (opDebugLevelWrite_touches ..).run_ran
  | .sealEnableWrite .. => (opSealEnableWrite_touches ..).run_ran
  | .sealBit .. => (opSealBit_touches ..).run_ran
  | .tamperedEntry => (opTamperedEntry_touches ..).run_ran
  | .sealRestored => (opSealRestored_touches ..).run_ran
  | .dozeExit .. => (opDozeExit_touches ..).run_ran
  | .sleepExit .. => (opSleepExit_touches ..).run_ran
  | .sleepExitRailTimeout => (opSleepExitRailTimeout_touches ..).run_ran
  | .powerFail => (opPowerFail_touches ..).run_ran
  | .pfailMotorTimeout => (opPfailMotorTimeout_touches ..).run_ran
  | .supplyMonitorTrip .. => (opSupplyMonitorTrip_touches ..).run_ran
  | .por .. => (opPor_touches ..).runReset_ran
  | .coldReset sideband boot => execColdReset_ran sideband boot s
  | .warmReset => (opWarmReset_touches ..).run_ran
  | .deckReset .. => (opDeckReset_touches ..).run_ran
  | .nvmProgram => (opNvmProgram_touches ..).run_ran
  | .nvmErase => (opNvmErase_touches ..).run_ran
  | .nvmSuspend => (opNvmSuspend_touches ..).run_ran
  | .nvmResume => (opNvmResume_touches ..).run_ran
  | .nvmMarginPv => (opNvmMarginPv_touches ..).run_ran
  | .nvmMarginEv => (opNvmMarginEv_touches ..).run_ran
  | .nvmOperationComplete .. => (opNvmOperationComplete_touches ..).run_ran
  | .parkRequest => (opParkRequest_touches ..).run_ran
  | .stewardParked => (opStewardParked_touches ..).run_ran
  | .parkRelease => (opParkRelease_touches ..).run_ran
  | .parkTimeout => (opParkTimeout_touches ..).run_ran
  | .rdDelayWrite .. => (opRdDelayWrite_touches ..).run_ran
  | .wpSet .. => (opWpSet_touches ..).run_ran
  | .wpClr .. => (opWpClr_touches ..).run_ran
  | .nvmWinRead .. => (opNvmWinRead_touches ..).run_ran
  | .nvmCalRead .. => (opNvmCalRead_touches ..).run_ran
  | .scorepadPersist => (opScorepadPersist_touches ..).run_ran
  | .freezeWrite .. => (opFreezeWrite_touches ..).run_ran
  | .freezeTimeout => (opFreezeTimeout_touches ..).run_ran
  | .scorepadClear => (opScorepadClear_touches ..).run_ran
  | .noticePop => (opNoticePop_touches ..).run_ran
  | .wallWrite .. => (opWallWrite_touches ..).run_ran
  | .hoursTick => (opHoursTick_touches ..).run_ran
  | .hoursCheckpoint .. => (opHoursCheckpoint_touches ..).run_ran
  | .meterSnapshot => (opMeterSnapshot_touches ..).run_ran
  | .activeSecondTick => (opActiveSecondTick_touches ..).run_ran
  | .tapReset => (opTapReset_touches ..).runTap_ran
  | .tapUpdateIr => (opTapUpdateIr_touches ..).runTap_ran
  | .tapUpdateDr => (opTapUpdateDr_touches ..).runTap_ran
  | .thermalWarning .. => (opThermalWarning_touches ..).run_ran
  | .thermalShutdown .. => (opThermalShutdown_touches ..).run_ran
  | .xtalStartTimeout => (opXtalStartTimeout_touches ..).run_ran
  | .buttonPressed => (opButtonPressed_touches ..).run_ran
  | .buttonReleased => (opButtonReleased_touches ..).run_ran
  | .jumperFitted => (opJumperFitted_touches ..).run_ran
  | .deckEstopReleased .. => (opDeckEstopReleased_touches ..).run_ran
  | .clockDataLock .. => (opClockDataLock_touches ..).run_ran
  | .tckEdge .. => (opTckEdge_touches ..).runTap_ran
  | .dmaTagRelease .. => (opDmaTagRelease_touches ..).run_ran
  | .tjBandChange .. => (opTjBandChange_touches ..).run_ran
  | .serviceConsoleInput .. => (opServiceConsoleInput_touches ..).run_ran
  | .imageDefinedCondition .. => (opImageDefinedCondition_touches ..).run_ran

theorem withdrawTap_legal (s : State) : tapLegal (withdrawTap s) := .inr (withdrawTap_honoured s)

/-- A row answers a next state with the same commands waiting and a legal TAP: SCAN stays in effect, or the check ends the command (R407,
R413). -/
theorem Ran.answers {s : State} {o : Host.Outcome State Fault Refusal} (h : Ran s o) :
    ∃ t, o = .next t ∧ t.pending = s.pending ∧ tapLegal t := by
  cases h with
  | core h =>
    refine ⟨_, rfl, ?_⟩
    split
    case isTrue hscan => exact ⟨rfl, .inl hscan⟩
    case isFalse => exact ⟨(withdrawTap_pending _).trans h, withdrawTap_legal _⟩
  | tap h =>
    refine ⟨_, rfl, ?_⟩
    split
    case isTrue => exact ⟨rfl, .inl rfl⟩
    case isFalse => exact ⟨(withdrawTap_pending _).trans h, withdrawTap_legal _⟩
  | reset h => exact ⟨_, rfl, (withdrawTap_pending _).trans h, withdrawTap_legal _⟩

/-- Settles O55: every command runs under `run`, `runTap` or `runReset`, each of which answers a next state. -/
theorem everyCommandAnswers : Obligations.EveryCommandAnswers := by
  intro s c
  obtain ⟨t, hnext, hqueue, -⟩ := (exec_ran s c).answers
  exact ⟨t, hnext, hqueue⟩

theorem step_of_pending {s : State} {c : Instr} {l : List Instr} (h : s.pending = c :: l) : step s = exec c { s with pending := l } := by
  simp only [step, h]

/-- Settles O52: the queue's front is the command that runs. -/
theorem stepRunsTheFrontCommand : Obligations.StepRunsTheFrontCommand := fun _ _ _ => step_of_pending rfl

/-- Settles O57: a command that runs ends with a legal TAP whatever it began with, and an idle block keeps its own. -/
theorem stepsKeepTheTapLegal : Obligations.StepsKeepTheTapLegal := by
  intro s t hlegal hstep
  cases hqueue : s.pending with
  | nil =>
    rw [step_of_idle hqueue] at hstep
    exact Host.Outcome.next.inj hstep ▸ hlegal
  | cons c l =>
    obtain ⟨u, hnext, -, hu⟩ := (exec_ran { s with pending := l } c).answers
    rw [step_of_pending hqueue, hnext] at hstep
    exact Host.Outcome.next.inj hstep ▸ hu

end Sys2Proof.Machine
end

section
/-! The TAP's clock and instructions (R404 to R409): what each edge of TCK, TRST_N and the two update states do to the controller and its
registers, and that the conditions of Table 19-1 decide which instruction takes effect. -/

namespace Sys2Proof.Machine

/-! ### The controller -/

/-- From Update-IR a rising edge with TMS high goes to Select-DR-Scan (R404). -/
theorem tapNext_high_of_updateIr {st : Nat} (h : 15 ≤ st) : tapNext st true = 2 := by
  simp only [tapNext, if_true]
  split
  case h_16 => rfl
  all_goals omega

/-- Five rising edges with TMS high reach Test-Logic-Reset from every state (R404). -/
theorem tapNext_five_high (st : Nat) : tapNext (tapNext (tapNext (tapNext (tapNext st true) true) true) true) true = 0 := by
  have hlow : ∀ n < 15, tapNext (tapNext (tapNext (tapNext (tapNext n true) true) true) true) true = 0 := by decide
  rcases Nat.lt_or_ge st 15 with h | h
  · exact hlow st h
  · rw [tapNext_high_of_updateIr h]
    rfl

section Rise
variable (tms tdi : Bool) (pins : BitVec 382) (t : TapUnit)

/-- No rising edge changes the instruction in effect but through Test-Logic-Reset (R404, R405). -/
theorem tapRise_ir : (tapRise tms tdi pins t).ir = t.ir := by
  unfold tapRise
  dsimp only
  split
  case h_2 => split <;> rfl
  all_goals rfl

variable {t}

/-- Shift-IR takes TDI at the far end of the instruction register (R405, R408). -/
theorem tapRise_irShift_of_shiftIr (h : t.fsm = 11) :
    (tapRise tms tdi pins t).irShift = BitVec.ofNat 8 (t.irShift.toNat / 2 + 128 * bit tdi) := by
  simp only [tapRise, h]

/-- Capture-DR loads the data register of the instruction in effect (R405, R408). -/
theorem tapRise_drShift_of_captureDr (h : t.fsm = 3) : (tapRise tms tdi pins t).drShift = captureDr t.ir.toNat pins := by
  simp only [tapRise, h]

end Rise

section Fall
variable (tick : Nat) (t : TapUnit)

/-- A falling edge changes TDO alone (R408). -/
theorem tapFall_eq : tapFall tick t = { t with tdo := (tapFall tick t).tdo } := by
  unfold tapFall
  split <;> rfl

variable {t}

theorem tapFall_tdo_of_shiftIr (h : t.fsm = 11) : (tapFall tick t).tdo = t.irShift.getLsbD 0 := by
  simp only [tapFall, h]
  rfl

theorem tapFall_tdo_of_shiftDr (h : t.fsm = 4) (hown : foreignInstr t.ir.toNat = false) : (tapFall tick t).tdo = t.drShift.headD false := by
  simp [tapFall, h, hown]

end Fall

/-! ### Test-Logic-Reset -/

/-- Test-Logic-Reset selects IDCODE and clears the shift registers (R404). -/
theorem resetTap_tap (s : State) :
    (resetTap s).tap = { s.tap with fsm := 0, ir := 1, substituted := false, irShift := 0, drShift := [] } := by
  rw [resetTap, endTapInstruction_tap]

/-- A reset of the TAP, whatever its unit was before, touches the unit and the words of a stack (R404, R410). -/
theorem resetTap_with_tap_touches (s : State) (x : TapUnit) : Touches [.shoe, .mem, .tap] s (resetTap { s with tap := x }) :=
  (((Moves.refl _ s).upd_tap (v := x) (by decide)).trans (resetTap_touches _)).toTouches

/-! ### An edge of TCK and TRST_N -/

/-- An edge that the TAP takes finds TRST_N high again (R404). -/
def edgeUnit (s : State) : TapUnit := { s.tap with trstLow := false }

section Edge
variable {s : State} {tms : Bool} (tdi : Bool) (pins : BitVec 382)

theorem opTckEdge_of_rise_to_reset (h : tapNext s.tap.fsm tms = 0) :
    opTckEdge true tms tdi pins s = resetTap { s with tap := tapRise tms tdi pins (edgeUnit s) } := if_pos h

theorem opTckEdge_of_rise (h : tapNext s.tap.fsm tms ≠ 0) :
    opTckEdge true tms tdi pins s = { s with tap := tapRise tms tdi pins (edgeUnit s) } := if_neg h

theorem opTckEdge_of_fall (tms : Bool) :
    opTckEdge false tms tdi pins s = { s.ticked with tap := tapFall s.tick (edgeUnit s) } := rfl

end Edge

/-! ### Update-IR and Update-DR -/

/-- Beside the TAP and the count a substitution is event 425 (R354, R407). -/
theorem substituteBypass_eq_raise (s : State) :
    substituteBypass s = raise 425 [] { s with regs := (substituteBypass s).regs, tap := (substituteBypass s).tap } := by
  rw [substituteBypass, raise_regs, raise_tap]
  rfl

section UpdateIr
variable {s : State}

/-- The state in which the instruction shifted in takes effect; SCAN takes the core with it (R405, R413). -/
def withNewInstruction (s : State) : State :=
  { s with tap := { s.tap with ir := s.tap.irShift, substituted := false, scan := s.tap.irShift == 0x30 } }

/-- Where the instruction in effect is not HBMs_1500, Update-IR ends nothing and goes by the conditions of Table 19-1 alone (R405, R409). -/
theorem opTapUpdateIr_of_updateIr (hfsm : s.tap.fsm = 15) (h0 : s.tap.ir ≠ 0x10) (h1 : s.tap.ir ≠ 0x11) :
    opTapUpdateIr s =
      if tapHonoured s s.tap.irShift.toNat then
        if pinDriving.contains s.tap.irShift.toNat then forEach (List.range 4) disableLink (withNewInstruction s) else withNewInstruction s
      else substituteBypass s := by
  have hend : endTapInstruction s.tap.ir.toNat s = s :=
    endTapInstruction_of_other s (fun h => h0 (BitVec.eq_of_toNat_eq h)) (fun h => h1 (BitVec.eq_of_toNat_eq h))
  rw [opTapUpdateIr, if_pos hfsm]
  dsimp only
  rw [hend, ite_self]
  rfl

theorem opTapUpdateIr_of_other (h : s.tap.fsm ≠ 15) : opTapUpdateIr s = s := if_neg h

end UpdateIr

/-- Of bits read from the last to the first, the least significant is the first. -/
theorem testBit_natOfBits_reverse (l : List Bool) (i : Nat) : (natOfBits l.reverse).testBit i = l.getD i false := by
  induction l generalizing i with
  | nil => simp [natOfBits]
  | cons b l ih =>
    have hcons : natOfBits (b :: l).reverse = 2 * natOfBits l.reverse + bit b := by
      simp only [natOfBits, List.reverse_cons, List.foldl_append, List.foldl_cons, List.foldl_nil, Nat.mul_comm]
    have hbit : bit b < 2 := by cases b <;> decide
    cases i with
    | zero =>
      rw [hcons, Nat.testBit_zero]
      cases b <;> simp [bit]
    | succ i =>
      rw [hcons, Nat.testBit_succ, show (2 * natOfBits l.reverse + bit b) / 2 = natOfBits l.reverse by omega, ih]
      rfl

section UpdateDr
variable {s : State}

/-- The boundary register that Update-DR latches (R408). -/
def latchedBoundary (s : State) : BitVec 382 := BitVec.ofNat 382 (natOfBits s.tap.drShift.reverse)

/-- Cell i latches bit i of the shift register, counted from TDO (R408). -/
theorem latchedBoundary_getLsbD (s : State) {i : Nat} (h : i < 382) : (latchedBoundary s).getLsbD i = s.tap.drShift.getD i false := by
  simp only [latchedBoundary, BitVec.getLsbD_ofNat, h, decide_true, Bool.true_and, testBit_natOfBits_reverse]

theorem opTapUpdateDr_of_boundary (hfsm : s.tap.fsm = 8) (hir : boundaryInstr s.tap.ir.toNat = true) :
    opTapUpdateDr s = { s with tap := { s.tap with boundary := latchedBoundary s } } := if_pos ⟨hfsm, hir⟩

theorem opTapUpdateDr_of_other (h : s.tap.fsm ≠ 8 ∨ boundaryInstr s.tap.ir.toNat = false) : opTapUpdateDr s = s :=
  if_neg (fun ⟨hfsm, hir⟩ => h.elim (absurd hfsm) (fun hother => Bool.false_ne_true (hother.symm.trans hir)))

end UpdateDr

/-! ### The commands -/

/-- A command of the TAP whose operation is `f` completes with what `f` makes of the state. -/
theorem answers_of_runTap {c : Instr} {f : State → State} {s t : State} (hrow : exec c s = runTap f s) (hlive : Live s) (ht : f s = t) :
    exec c s = .next (withdrawTap t) := by
  rw [hrow, runTap_of_scan_false hlive, ht]

/-- Settles O51: each edge moves the controller and one register, the conditions of Table 19-1 decide at Update-IR, and Update-DR latches bit
by bit. -/
theorem tapClockAndInstructions : Obligations.TapClockAndInstructions := by
  refine ⟨fun s tms tdi pins hlive => ?clock, fun s hlive => ?updates⟩
  case clock =>
    refine ⟨fun hmoves => ?_, fun hreset => ?_, ?_, ?_, tapNext_five_high⟩
    · exact ⟨_, answers_of_runTap rfl hlive (opTckEdge_of_rise tdi pins hmoves), rfl, tapRise_ir ..,
        tapRise_irShift_of_shiftIr (t := edgeUnit s) tms tdi pins, tapRise_drShift_of_captureDr (t := edgeUnit s) tms tdi pins, rfl⟩
    · refine ⟨_, answers_of_runTap rfl hlive (opTckEdge_of_rise_to_reset tdi pins hreset), ?_, ?_, resetTap_with_tap_touches ..⟩ <;>
        rw [resetTap_tap]
    · refine ⟨_, answers_of_runTap rfl hlive (opTckEdge_of_fall tdi pins tms), tapFall_tdo_of_shiftIr (t := edgeUnit s) _,
        tapFall_tdo_of_shiftDr (t := edgeUnit s) _, ?_⟩
      exact congrArg (fun x => { s.ticked with tap := x }) (tapFall_eq ..)
    · exact ⟨_, answers_of_runTap (f := opTapReset) rfl hlive rfl, resetTap_tap _, resetTap_with_tap_touches ..⟩
  case updates =>
    refine ⟨fun hfsm h0 h1 => ?_, fun hother => ?_, fun hfsm hir => ?_, fun hother => ?_⟩
    · have hop := opTapUpdateIr_of_updateIr hfsm h0 h1
      refine ⟨fun hmet hquiet => ?_, fun hmet hdrives => ?_, fun hunmet => ?_⟩
      · rw [if_pos hmet, if_neg (fun h => hquiet (List.contains_iff_mem.1 h))] at hop
        exact answers_of_runTap rfl hlive hop
      · rw [if_pos hmet, if_pos (List.contains_iff_mem.2 hdrives)] at hop
        exact answers_of_runTap rfl hlive hop
      · rw [if_neg (Bool.eq_false_iff.1 hunmet)] at hop
        exact ⟨_, answers_of_runTap rfl hlive hop, substituteBypass_tap s, substituteBypass_refusedTap s, substituteBypass_sameRegsBut s,
          substituteBypass_eq_raise s⟩
    · exact answers_of_runTap rfl hlive (opTapUpdateIr_of_other hother)
    · exact ⟨_, answers_of_runTap rfl hlive (opTapUpdateDr_of_boundary hfsm hir), fun i hi _ => latchedBoundary_getLsbD s hi, rfl⟩
    · exact answers_of_runTap rfl hlive (opTapUpdateDr_of_other hother)

end Sys2Proof.Machine
end
